-- ==== Sys2Proof/Word.lean ====
section
/-!
DEFINITION. The word types of the TKW world stack and their plainest arithmetic: bytes, 32-bit register words,
64-bit general registers, 128-bit vectors; a bit field of a number and its replacement.
-/

namespace Sys2Proof

abbrev Byte := BitVec 8
/-- A device register, an instruction (R6, R62). -/
abbrev Word32 := BitVec 32
/-- A general register, a deadline, a directory entry (R61, R102). -/
abbrev Word64 := BitVec 64
/-- A vector register: four FP32 lanes (R61). -/
abbrev Vec128 := BitVec 128

/-- Bits `[lo+w-1 : lo]` of `v`. -/
def bitsOf (v lo w : Nat) : Nat := v / 2 ^ lo % 2 ^ w

/-- `v` with bits `[lo+w-1 : lo]` replaced by the low `w` bits of `x`. -/
def putBits (v lo w x : Nat) : Nat :=
  v % 2 ^ lo + (x % 2 ^ w) * 2 ^ lo + v / 2 ^ (lo + w) * 2 ^ (lo + w)

/-- Bit `i` of `v`. -/
def bitOf (v i : Nat) : Bool := v / 2 ^ i % 2 == 1

/-- 1 for true, 0 for false. -/
def b2n (b : Bool) : Nat := if b then 1 else 0

/-- The sum, held at `2^w - 1` (a saturating counter). -/
def satAdd (w a b : Nat) : Nat := min (a + b) (2 ^ w - 1)

/-- `x` held between `lo` and `hi`. -/
def clampNat (lo hi x : Nat) : Nat := max lo (min hi x)

/-- The low `w` bits of `x` read as a signed number. -/
def toSigned (w x : Nat) : Int :=
  if x % 2 ^ w < 2 ^ (w - 1) then (x % 2 ^ w : Nat) else (x % 2 ^ w : Nat) - (2 ^ w : Nat)

/-- A signed number as `w` bits of two's complement. -/
def ofSigned (w : Nat) (x : Int) : Nat := (x % (2 ^ w : Nat)).toNat

/-- `x` sign-extended from `w` bits to `v` bits. -/
def signExt (w v x : Nat) : Nat := ofSigned v (toSigned w x)

end Sys2Proof
end

