-- ==== Sys2Proof/Syntax.lean ====
section
/-!
DEFINITION. The commands of the TKW world stack: one constructor for each row of spec/opcode_table.json, with the
row's operands, and the operand types. The Sillar instructions (spec/03) name the strand that issues them and carry
the raw fields of their format (R63); the management commands (spec/07) carry the frame as received (R188); every
other row is a register write of its own, a response, or an event of the stack.
-/

namespace Sys2Proof

/-- What the SECDED check of an SRAM finds in a word that is read: of an instruction SRAM at a fetch (R33), of the ED or the ST at a
request (R22, R105). -/
inductive Secded where
  | clean | single | double
  deriving DecidableEq, Repr

/-- Who issues a Sillar instruction: engine `e` (0 to 33 are CE00 to CE33, 34 is the SV), strand `t`; the outcome of the fetch
check; and, of an operation on the ED or the ST, that of the check of the entry or context it reads there. -/
structure Iss where
  e : Fin 35
  t : Fin 16
  ecc : Secded
  sram : Secded := .clean
  deriving DecidableEq, Repr

/-- Format A (R63): register operations. The function code is the row. -/
structure FmtA where
  neg : Bool
  pred : BitVec 3
  rs2 : BitVec 5
  rs1 : BitVec 5
  rd : BitVec 5
  deriving DecidableEq, Repr

/-- Format I (R63): immediate operations. -/
structure FmtI where
  imm : BitVec 12
  pred : BitVec 3
  rs1 : BitVec 5
  rd : BitVec 5
  deriving DecidableEq, Repr

/-- Format L (R63): loads and stores. -/
structure FmtL where
  imm : BitVec 10
  size : BitVec 2
  dl : BitVec 3
  rs1 : BitVec 5
  rt : BitVec 5
  deriving DecidableEq, Repr

/-- Format B (R63): branches. -/
structure FmtB where
  imm : BitVec 16
  rs1 : BitVec 5
  neg : Bool
  pred : BitVec 3
  deriving DecidableEq, Repr

/-- Format E (R63): memory, entity, session and tick operations. The function code is the row. -/
structure FmtE where
  dl : BitVec 3
  rs2 : BitVec 5
  rs1 : BitVec 5
  rd : BitVec 5
  deriving DecidableEq, Repr

/-- Format X (R63): system operations. -/
structure FmtX where
  imm : BitVec 12
  rs1 : BitVec 5
  rd : BitVec 5
  deriving DecidableEq, Repr

/-- The path a register access comes by: the management port, a strand of the SV, a supervisor strand of a channel engine. Each
path has its own holding copy of a 64-bit pair (R7, R202). -/
inductive Path where
  | mgmt
  | sv (t : Fin 16)
  | ce (e : Fin 34) (t : Fin 16)
  deriving DecidableEq, Repr

/-- The transport a management frame arrives by (R187). -/
inductive Transport where
  | ether
  | udp (ip : BitVec 32) (port : BitVec 16)
  deriving DecidableEq, Repr

/-- A frame on LNM (R187) and its management body (R188), the body's fields as received. `transport` is the sender's; `dstMac` (unless
`broadcast`), `etherType`, `dstIp` and `dstPort` are where it is sent: a tagged frame has EtherType 0x8100. `len` is the number of bytes
the frame holds for the body; `a` is the argument length it states; `arg` is the bytes after the header up to the check fields. The
command code is the row, but for BAD_COMMAND_FRAME and MGMT_QUEUE_FULL, which take it from `code`. -/
structure Frame where
  transport : Transport
  srcMac : BitVec 48
  broadcast : Bool
  dstMac : BitVec 48
  etherType : BitVec 16
  dstIp : BitVec 32
  dstPort : BitVec 16
  len : Nat
  version : Byte
  flags : Byte
  code : Byte
  status : Byte
  a : BitVec 16
  rsvd : BitVec 16
  seq : Word64
  nonce : Word64
  arg : List Byte
  crc : Word32
  hmac : BitVec 256
  deriving DecidableEq, Repr

/-- A symbol of a stored granule that has changed (R287): its position 0 to 71 and the bits that flipped. -/
structure SymErr where
  sym : Nat
  flip : Byte
  deriving DecidableEq, Repr

/-- What a training sweep finds on one line (R309, R310): the centre and the width of the passing windows, read and
write, widths in 1/256 UI; `line` 0 to 43 is a data, check or spare line, 48 + n is CA line n, 62 and above a timing
signal; `dead` counts the dead TSVs of a timing signal. -/
structure EyeMeas where
  pc : Bool
  line : BitVec 6
  readEye : BitVec 16
  writeEye : BitVec 16
  readCentre : BitVec 7
  writeCentre : BitVec 7
  dead : BitVec 2
  deriving DecidableEq, Repr

/-- One response of a BIST slice (R317, R318): the word folded into the signature, and where it failed if it did. -/
structure BistResp where
  word : Word32
  fail : Bool
  pc : Bool
  line : BitVec 7
  granule : BitVec 25
  verifyFail : Bool
  deriving DecidableEq, Repr

/-- A measured trim of a power-up calibration (R334 to R336): item, instance, the measured value. -/
structure TrimResult where
  item : Byte
  inst : Byte
  value : Byte
  deriving DecidableEq, Repr

/-- One temperature sensor reading (R338), in quarters of a degree Celsius. -/
structure SensorReading where
  die : Fin 18
  sensor : Fin 16
  quarters : Int
  deriving DecidableEq, Repr

/-- The reference clocks (R410), in the order of the sources of fault group 57 (R360). -/
inductive Refclk where
  | tb | a | b | m
  deriving DecidableEq, Repr

/-- What brings HALT about (R215, R378): a fault reaction, a die above 105 °C, MODE_SET HALT. -/
inductive HaltCause where
  | fault | overheat | modeSet
  deriving DecidableEq, Repr

/-- The sources of a cold reset (R235, R407). -/
inductive ResetSource where
  | powerOn | resetN | pwrgood | command | trip
  deriving DecidableEq, Repr

/-- The four latches of a fault source (R359). -/
inductive LatchKind where
  | real | forced | severe | conseq
  deriving DecidableEq, Repr

/-- The commands: one constructor for each row of spec/opcode_table.json. -/
inductive Instr where
  /-- ADD (R67): Integer add of two g registers, wrapping modulo 2^64. -/
  | add (i : Iss) (f : FmtA)
  /-- SUB (R67): Integer subtract of two g registers, wrapping. -/
  | sub (i : Iss) (f : FmtA)
  /-- AND (R67): Bitwise and of two g registers. -/
  | and (i : Iss) (f : FmtA)
  /-- OR (R67): Bitwise or of two g registers. -/
  | or (i : Iss) (f : FmtA)
  /-- XOR (R67): Bitwise xor of two g registers. -/
  | xor (i : Iss) (f : FmtA)
  /-- ANDN (R67): rs1 and not rs2. -/
  | andn (i : Iss) (f : FmtA)
  /-- SLL (R67): Shift left by rs2[5:0]. -/
  | sll (i : Iss) (f : FmtA)
  /-- SRL (R67): Logical shift right by rs2[5:0]. -/
  | srl (i : Iss) (f : FmtA)
  /-- SRA (R67): Arithmetic shift right by rs2[5:0]. -/
  | sra (i : Iss) (f : FmtA)
  /-- MIN (R67): Signed minimum. -/
  | min (i : Iss) (f : FmtA)
  /-- MAX (R67): Signed maximum. -/
  | max (i : Iss) (f : FmtA)
  /-- MINU (R67): Unsigned minimum. -/
  | minu (i : Iss) (f : FmtA)
  /-- MAXU (R67): Unsigned maximum. -/
  | maxu (i : Iss) (f : FmtA)
  /-- SEL (R67): Selects rs1 or rs2 by the predicate; always executes. -/
  | sel (i : Iss) (f : FmtA)
  /-- CLZ (R67): Leading zero count of rs1. -/
  | clz (i : Iss) (f : FmtA)
  /-- POPC (R67): Population count of rs1. -/
  | popc (i : Iss) (f : FmtA)
  /-- MUL (R67): Low 64 bits of the product, usable after 3 tokens. -/
  | mul (i : Iss) (f : FmtA)
  /-- MULH (R67): High 64 bits of the signed product. -/
  | mulh (i : Iss) (f : FmtA)
  /-- MULHU (R67): High 64 bits of the unsigned product. -/
  | mulhu (i : Iss) (f : FmtA)
  /-- DIV (R67): Signed quotient, 18 tokens, one divide at a time per strand. -/
  | div (i : Iss) (f : FmtA)
  /-- DIVU (R67): Unsigned quotient. -/
  | divu (i : Iss) (f : FmtA)
  /-- REM (R67): Signed remainder with the sign of rs1. -/
  | rem (i : Iss) (f : FmtA)
  /-- REMU (R67): Unsigned remainder. -/
  | remu (i : Iss) (f : FmtA)
  /-- ZEXT32 (R67): Zero-extends rs1[31:0]. -/
  | zext32 (i : Iss) (f : FmtA)
  /-- SEXT32 (R67): Sign-extends rs1[31:0]. -/
  | sext32 (i : Iss) (f : FmtA)
  /-- ADDI (R68): Adds a sign-extended 12-bit immediate. -/
  | addi (i : Iss) (f : FmtI)
  /-- ANDI (R68): Ands with a sign-extended immediate. -/
  | andi (i : Iss) (f : FmtI)
  /-- ORI (R68): Ors with a sign-extended immediate. -/
  | ori (i : Iss) (f : FmtI)
  /-- XORI (R68): Xors with a sign-extended immediate. -/
  | xori (i : Iss) (f : FmtI)
  /-- SHI (R68): Shifts rs1 by an immediate count of a selected kind. -/
  | shi (i : Iss) (f : FmtI)
  /-- SHOR (R68): Shifts rs1 left 12 and inserts the zero-extended immediate. -/
  | shor (i : Iss) (f : FmtI)
  /-- CMP_EQ (R69): Writes a predicate with rs1 = rs2. -/
  | cmpEq (i : Iss) (f : FmtA)
  /-- CMP_NE (R69): Writes a predicate with rs1 != rs2. -/
  | cmpNe (i : Iss) (f : FmtA)
  /-- CMP_LT (R69): Writes a predicate with signed rs1 < rs2. -/
  | cmpLt (i : Iss) (f : FmtA)
  /-- CMP_GE (R69): Writes a predicate with signed rs1 >= rs2. -/
  | cmpGe (i : Iss) (f : FmtA)
  /-- CMP_LTU (R69): Writes a predicate with unsigned rs1 < rs2. -/
  | cmpLtu (i : Iss) (f : FmtA)
  /-- CMP_GEU (R69): Writes a predicate with unsigned rs1 >= rs2. -/
  | cmpGeu (i : Iss) (f : FmtA)
  /-- CMP_BITS (R69): Writes a predicate with (rs1 and rs2) != 0. -/
  | cmpBits (i : Iss) (f : FmtA)
  /-- PAND (R69): Predicate and. -/
  | pand (i : Iss) (f : FmtA)
  /-- POR (R69): Predicate or. -/
  | por (i : Iss) (f : FmtA)
  /-- PXOR (R69): Predicate xor. -/
  | pxor (i : Iss) (f : FmtA)
  /-- PANDN (R69): Predicate and-not. -/
  | pandn (i : Iss) (f : FmtA)
  /-- PSET (R69): Sets a predicate to 1. -/
  | pset (i : Iss) (f : FmtA)
  /-- PCLR (R69): Clears a predicate to 0. -/
  | pclr (i : Iss) (f : FmtA)
  /-- PNZ (R69): Sets a predicate when a g register is non-zero. -/
  | pnz (i : Iss) (f : FmtA)
  /-- FADD (R70): FP32 add with the flags and rounding of the FP rules. -/
  | fadd (i : Iss) (f : FmtA)
  /-- FSUB (R70): FP32 subtract. -/
  | fsub (i : Iss) (f : FmtA)
  /-- FMUL (R70): FP32 multiply. -/
  | fmul (i : Iss) (f : FmtA)
  /-- FMADD (R70): FP32 fused multiply-add into rd. -/
  | fmadd (i : Iss) (f : FmtA)
  /-- FMSUB (R70): FP32 fused multiply-subtract from rd. -/
  | fmsub (i : Iss) (f : FmtA)
  /-- FDIV (R70): FP32 divide, 12 tokens. -/
  | fdiv (i : Iss) (f : FmtA)
  /-- FSQRT (R70): FP32 square root. -/
  | fsqrt (i : Iss) (f : FmtA)
  /-- FMIN (R70): FP32 minimum with NaN and signed-zero rules. -/
  | fmin (i : Iss) (f : FmtA)
  /-- FMAX (R70): FP32 maximum with NaN and signed-zero rules. -/
  | fmax (i : Iss) (f : FmtA)
  /-- FABS (R70): Clears the sign, no flags. -/
  | fabs (i : Iss) (f : FmtA)
  /-- FNEG (R70): Inverts the sign, no flags. -/
  | fneg (i : Iss) (f : FmtA)
  /-- FCVT_S_W (R70): Converts a signed 32-bit integer to FP32. -/
  | fcvtSW (i : Iss) (f : FmtA)
  /-- FCVT_W_S (R70): Converts FP32 to a saturated signed 32-bit integer. -/
  | fcvtWS (i : Iss) (f : FmtA)
  /-- FEQ (R70): Writes a predicate with FP32 equality. -/
  | feq (i : Iss) (f : FmtA)
  /-- FLT (R70): Writes a predicate with FP32 less-than. -/
  | flt (i : Iss) (f : FmtA)
  /-- FLE (R70): Writes a predicate with FP32 less-or-equal. -/
  | fle (i : Iss) (f : FmtA)
  /-- VADD (R71): Lane-wise FP32 vector add. -/
  | vadd (i : Iss) (f : FmtA)
  /-- VSUB (R71): Lane-wise FP32 vector subtract. -/
  | vsub (i : Iss) (f : FmtA)
  /-- VMUL (R71): Lane-wise FP32 vector multiply. -/
  | vmul (i : Iss) (f : FmtA)
  /-- VFMA (R71): Lane-wise fused multiply-add into v[rd]. -/
  | vfma (i : Iss) (f : FmtA)
  /-- VMIN (R71): Lane-wise minimum. -/
  | vmin (i : Iss) (f : FmtA)
  /-- VMAX (R71): Lane-wise maximum. -/
  | vmax (i : Iss) (f : FmtA)
  /-- VDOT (R71): Dot product of two vectors into a g register. -/
  | vdot (i : Iss) (f : FmtA)
  /-- VSPLAT (R71): Copies a scalar into every lane. -/
  | vsplat (i : Iss) (f : FmtA)
  /-- VEXT (R71): Extracts one lane into a g register. -/
  | vext (i : Iss) (f : FmtA)
  /-- VINS (R71): Inserts a scalar into one lane. -/
  | vins (i : Iss) (f : FmtA)
  /-- VMOV (R71): Copies a vector register. -/
  | vmov (i : Iss) (f : FmtA)
  /-- LD (R73): Issues a sign-extending world load after alignment and range checks. -/
  | ld (i : Iss) (f : FmtL)
  /-- LDU (R73): Issues a zero-extending world load. -/
  | ldu (i : Iss) (f : FmtL)
  /-- ST (R73): Issues a world store, performed as a read-modify-write. -/
  | st (i : Iss) (f : FmtL)
  /-- VLD (R73): Issues a 16-byte world vector load. -/
  | vld (i : Iss) (f : FmtL)
  /-- VST (R73): Issues a 16-byte world vector store. -/
  | vst (i : Iss) (f : FmtL)
  /-- SLD (R74): Sign-extending scratch load. -/
  | sld (i : Iss) (f : FmtL)
  /-- SLDU (R74): Zero-extending scratch load. -/
  | sldu (i : Iss) (f : FmtL)
  /-- SST (R74): Scratch store. -/
  | sst (i : Iss) (f : FmtL)
  /-- SVLD (R74): Scratch vector load. -/
  | svld (i : Iss) (f : FmtL)
  /-- SVST (R74): Scratch vector store. -/
  | svst (i : Iss) (f : FmtL)
  /-- FILL (R75): Issues a C4 fill of a span with a 64-bit value through the fill engine. -/
  | fill (i : Iss) (f : FmtE)
  /-- SDMA_IN (R76): Starts a DMA copy from world memory into scratch, taking DMA buffers. -/
  | sdmaIn (i : Iss) (f : FmtE)
  /-- SDMA_OUT (R76): Starts a DMA copy from scratch into world memory in whole granules. -/
  | sdmaOut (i : Iss) (f : FmtE)
  /-- AMO_ADD (R77): Near-memory atomic add returning the old value. -/
  | amoAdd (i : Iss) (d : Bool) (f : FmtE)
  /-- AMO_AND (R77): Near-memory atomic and. -/
  | amoAnd (i : Iss) (d : Bool) (f : FmtE)
  /-- AMO_OR (R77): Near-memory atomic or. -/
  | amoOr (i : Iss) (d : Bool) (f : FmtE)
  /-- AMO_XOR (R77): Near-memory atomic xor. -/
  | amoXor (i : Iss) (d : Bool) (f : FmtE)
  /-- AMO_SMIN (R77): Near-memory atomic signed minimum. -/
  | amoSmin (i : Iss) (d : Bool) (f : FmtE)
  /-- AMO_SMAX (R77): Near-memory atomic signed maximum. -/
  | amoSmax (i : Iss) (d : Bool) (f : FmtE)
  /-- AMO_UMIN (R77): Near-memory atomic unsigned minimum. -/
  | amoUmin (i : Iss) (d : Bool) (f : FmtE)
  /-- AMO_UMAX (R77): Near-memory atomic unsigned maximum. -/
  | amoUmax (i : Iss) (d : Bool) (f : FmtE)
  /-- AMO_SWAP (R77): Near-memory atomic swap. -/
  | amoSwap (i : Iss) (d : Bool) (f : FmtE)
  /-- AMO_CAS (R77): Near-memory compare-and-swap against g[rd] at issue. -/
  | amoCas (i : Iss) (d : Bool) (f : FmtE)
  /-- FENCE (R78): Holds later operations of the named kinds until earlier ones complete. -/
  | fence (i : Iss) (f : FmtX)
  /-- BR (R79): Conditional branch by a signed offset. -/
  | br (i : Iss) (f : FmtB)
  /-- CALL (R79): Conditional branch that writes the link register. -/
  | call (i : Iss) (f : FmtB)
  /-- JR (R79): Conditional jump to a register target. -/
  | jr (i : Iss) (f : FmtB)
  /-- ENT_GET_L (R81): Returns the live slot address of an entity. -/
  | entGetL (i : Iss) (f : FmtE)
  /-- ENT_GET_N (R81): Returns the next slot address of an entity. -/
  | entGetN (i : Iss) (f : FmtE)
  /-- ENT_GET_E (R81): Returns the 64-bit directory entry. -/
  | entGetE (i : Iss) (f : FmtE)
  /-- ENT_LOCK (R82): Requests an entity lock as a rank-1 acquisition, waiting if held. -/
  | entLock (i : Iss) (f : FmtE)
  /-- ENT_UNLOCK (R82): Releases an entity lock held by the strand. -/
  | entUnlock (i : Iss) (f : FmtE)
  /-- ENT_PUB (R83): Publishes an entity with a changed-field mask for the commit. -/
  | entPub (i : Iss) (f : FmtE)
  /-- ENT_NEW (R84): Creates an entity from the free list and returns its handle. -/
  | entNew (i : Iss) (f : FmtE)
  /-- ENT_FREE (R85): Marks a locked entity for freeing at commit and releases its lock. -/
  | entFree (i : Iss) (f : FmtE)
  /-- ENT_MOVE (R85): Records a pending move of a locked entity to a cell. -/
  | entMove (i : Iss) (f : FmtE)
  /-- ENTITY_LOCK_GRANT (R82): A queued lock request is granted when the lock is released to it. -/
  | entityLockGrant (index : BitVec 21)
  /-- SES_RECV (R88): Copies the oldest eligible input record of a session into scratch. -/
  | sesRecv (i : Iss) (f : FmtE)
  /-- SES_SEND (R89): Places a title message part on a session's title queue. -/
  | sesSend (i : Iss) (f : FmtE)
  /-- SES_INFO (R90): Returns a selected session context field. -/
  | sesInfo (i : Iss) (f : FmtE)
  /-- SES_INFO_SET (R90): Writes the view or class filter of a session for the next commit. -/
  | sesInfoSet (i : Iss) (f : FmtE)
  /-- SESSION_SLOT_GRANT (R131): A waiting first part acquires a queue slot and title buffer when one frees. -/
  | sessionSlotGrant (home : Fin 32)
  /-- TICK_WAIT (R91): Waits for the strand's next tick and opens its SIMULATE window. -/
  | tickWait (i : Iss) (f : FmtE)
  /-- TICK_DONE (R92): Closes the strand's SIMULATE window and reports it done. -/
  | tickDone (i : Iss) (f : FmtE)
  /-- CSR_GET (R94): Reads a CSR. -/
  | csrGet (i : Iss) (f : FmtX)
  /-- CSR_PUT (R94): Writes a CSR. -/
  | csrPut (i : Iss) (f : FmtX)
  /-- CSR_MERGE (R94): Indivisibly merges masked bits into a CSR. -/
  | csrMerge (i : Iss) (f : FmtX)
  /-- DLREL (R94): Sets a deadline register to timebase now plus a value. -/
  | dlrel (i : Iss) (f : FmtX)
  /-- SYSCALL (R95): Traps precisely to the SV with a code. -/
  | syscall (i : Iss) (f : FmtX)
  /-- YIELD (R97): Ends the strand's turn in round-robin selection. -/
  | yield (i : Iss) (f : FmtX)
  /-- TRET (R96): Returns from a title trap handler to tepc. -/
  | tret (i : Iss) (f : FmtX)
  /-- REGRD (R98): Supervisor read of a device register. -/
  | regrd (i : Iss) (f : FmtX)
  /-- REGWR (R98): Supervisor write of a device register. -/
  | regwr (i : Iss) (f : FmtX)
  /-- XCSRR (R98): Reads a CSR of any strand of any engine. -/
  | xcsrr (i : Iss) (f : FmtX)
  /-- XCSRW (R98): Writes a CSR of a TRAPPED or DISABLED strand. -/
  | xcsrw (i : Iss) (f : FmtX)
  /-- EVWAIT (R98): SV strand waits for trap, fault, management or deadline events. -/
  | evwait (i : Iss) (f : FmtX)
  /-- EVWAIT_WAKE (R98): A waiting EVWAIT returns with every present reason bit. -/
  | evwaitWake (t : Fin 16)
  /-- WORLD_LOAD_COMPLETE (R37): Load data arrive and the destination register is written. -/
  | worldLoadComplete (id : Nat)
  /-- STORE_ACKNOWLEDGE (R36): A store is accepted into the write queue and acknowledged to its master. -/
  | storeAcknowledge (id : Nat)
  /-- ATOMIC_COMPLETE (R266): An atomic's write enters the write queue and the old value returns. -/
  | atomicComplete (id : Nat)
  /-- FILL_COMPLETE (R75): The last fill granule is accepted and the FILL is acknowledged. -/
  | fillComplete (id : Nat)
  /-- SDMA_COMPLETE (R76): The last DMA granule completes and the buffers are released. -/
  | sdmaComplete (id : Nat)
  /-- DIRECTORY_RESPONSE (R112): An ED, ST or tick-unit operation's response arrives at the engine. -/
  | directoryResponse (id : Nat)
  /-- COMPLETION_TRAP (R46): A completion-time fault report stops the strand and is delivered. -/
  | completionTrap (e : Fin 35) (t : Fin 16)
  /-- WAIT_BREAKER_CHECK (R52): A tracked wait older than CE_BREAK_TIME is examined and may revoke or preempt. -/
  | waitBreakerCheck (e : Fin 35) (t : Fin 16)
  /-- CE_CTRL_WRITE (R43): Writes engine control with the run and imem_lock interlock. -/
  | ceCtrlWrite (e : Fin 34) (v : Word32)
  /-- CE_STRAND_EN_WRITE (R49): Enables or disables strands, draining and reclaiming on clear. -/
  | ceStrandEnWrite (e : Fin 34) (v : Word32)
  /-- STRAND_RESUME (R48): Continues a TRAPPED strand at its pc CSR. -/
  | strandResume (e : Fin 34) (t : Fin 16)
  /-- STRAND_REDIRECT (R48): Continues a TRAPPED strand at its start address. -/
  | strandRedirect (e : Fin 34) (t : Fin 16)
  /-- STRAND_FORWARD (R48): Forwards a TRAPPED title strand's trap to its title vector. -/
  | strandForward (e : Fin 34) (t : Fin 16)
  /-- STRAND_STOP (R48): Clears the strand's enable bit. -/
  | strandStop (e : Fin 34) (t : Fin 16)
  /-- CE_IMEM_DATA_WRITE (R43): Writes an instruction at the window index unless locked. -/
  | ceImemDataWrite (e : Fin 34) (v : Word32)
  /-- CE_IMEM_DATA_READ (R43): Reads an instruction and increments the window index. -/
  | ceImemDataRead (path : Path) (e : Fin 34)
  /-- CE_RANGE_COMMIT (R42): Applies the shadow set of 64 title ranges between tokens. -/
  | ceRangeCommit (e : Fin 34)
  /-- MIGRATION_START (R55): Starts migration of a logical engine to a target engine. -/
  | migrationStart (p : Fin 34) (q : Fin 34)
  /-- MIGRATION_QUIET (R55): The source engine reaches a quiet moment and copies its context. -/
  | migrationQuiet (p : Fin 34)
  /-- MIGRATION_WAIT_EXPIRED (R56): No quiet moment within CE_MIG_WAIT ticks: force or fail. -/
  | migrationWaitExpired (p : Fin 34)
  /-- MIGRATION_COPY_COMPLETE (R57): The target engine takes the logical engine and counted tick state and resumes strands. -/
  | migrationCopyComplete (p : Fin 34)
  /-- SV_WDOG_KICK (R59): Reloads the firmware watchdog count. -/
  | svWdogKick
  /-- WATCHDOG_EXPIRE (R59): The SV watchdog runs out and raises a fault on the SV group. -/
  | watchdogExpire
  /-- ENGINE_HANG_DETECT (R360): A READY strand with no token issued for 100 us raises a hang event. -/
  | engineHangDetect (e : Fin 34)
  /-- TICK_START (R108): Tick N starts at S(N) and INGEST opens. -/
  | tickStart
  /-- SIMULATE_OPEN (R108): INGEST closes and SIMULATE opens, releasing strands in TICK.WAIT. -/
  | simulateOpen
  /-- COMMIT_DEADLINE_MISS (R118): At S(N)+D with conditions unmet, a held frame is issued and the schedule slips. -/
  | commitDeadlineMiss
  /-- HELD_FRAME_REPEAT (R118): Each further period without commit issues another held frame. -/
  | heldFrameRepeat
  /-- COMMIT_CONDITIONS_MET (R111): Every counted engine is DRAINED; slack is recorded and the build barrier starts. -/
  | commitConditionsMet
  /-- COMMIT_OPEN (R114): The build barrier ends, the open marker is written and the entry pass runs. -/
  | commitOpen
  /-- COMMIT_CLOSE (R114): The entry pass ends; the commit record is written last and REPLICATE opens. -/
  | commitClose
  /-- TK_SCHED_COMMIT (R107): Applies the shadow schedule if valid from the next tick. -/
  | tkSchedCommit
  /-- TK_RUN_CLEAR (R109): Pauses the schedule at its next tick start. -/
  | tkRunClear
  /-- TK_RUN_SET (R109): Resumes the schedule, taking the postponed start. -/
  | tkRunSet
  /-- TK_WARM_START (R125): Starts a warm restart from the newest whole commit record. -/
  | tkWarmStart
  /-- WARM_RESTART_COMPLETE (R125): The warm restart ends and reports its result. -/
  | warmRestartComplete
  /-- ED_RESOLVE_KEEP (R124): Clears torn and the lock of an entity. -/
  | edResolveKeep (handle : Word32)
  /-- ED_RESOLVE_FREE (R124): Clears torn and marks an entity for freeing. -/
  | edResolveFree (handle : Word32)
  /-- ED_TORN_CURSOR_WRITE (R124): Sets the torn search cursor and finds the next torn index. -/
  | edTornCursorWrite (v : Word32)
  /-- ED_GRID_WRITE (R122): Sets the interest grid size in READY. -/
  | edGridWrite (v : Word32)
  /-- SNAPSHOT_START (R127): Starts round 0 of a snapshot export. -/
  | snapshotStart
  /-- SNAPSHOT_ABORT (R127): Stops an export with no commit record sent. -/
  | snapshotAbort
  /-- SNAPSHOT_ROUND_END (R127): A round ends, the dirty bitmaps swap and the next round starts. -/
  | snapshotRoundEnd
  /-- SNAPSHOT_HOLD_EXPIRE (R127): The final round exceeds SNAP_HOLD_MAX and is abandoned. -/
  | snapshotHoldExpire
  /-- SNAPSHOT_COMPLETE (R127): The final round and snapshot commit record are exported and the hold released. -/
  | snapshotComplete
  /-- SNAPSHOT_RESTORE_START (R239): Starts restore of a staged snapshot. -/
  | snapshotRestoreStart
  /-- SNAPSHOT_RESTORE_COMPLETE (R240): Restore ends and reports its result. -/
  | snapshotRestoreComplete
  /-- ST_CTX_READ (R134): Reads a session context into the context words. -/
  | stCtxRead
  /-- ST_CTX_CREATE (R134): Creates a JOINING session and wraps its key. -/
  | stCtxCreate
  /-- ST_CTX_CLOSE (R136): Puts a session into CLOSING with a reason. -/
  | stCtxClose (reason : BitVec 4)
  /-- ST_CTX_KEYFRAME (R148): Sets keyframe pending for a session. -/
  | stCtxKeyframe
  /-- ST_CTX_MOVE (R159): Moves a session to another port. -/
  | stCtxMove (port : Fin 8)
  /-- ST_FW_EVENT_POP (R136): Reading the firmware event FIFO pops an entry. -/
  | stFwEventPop (path : Path)
  /-- AGE_SWEEP (R133): Each age period sweeps every context, moving sessions to QUIET or CLOSING. -/
  | ageSweep
  /-- SESSION_FREED (R136): A CLOSING session drains and becomes FREE with event FREED. -/
  | sessionFreed (session : BitVec 18)
  /-- WORLD_DATAGRAM_RECEIVE (R138): A world datagram is checked, authenticated and its records processed. -/
  | worldDatagramReceive (port : Fin 8) (src : BitVec 128) (srcPort : BitVec 16) (payload : List Byte)
  /-- ROUND_BUILD_START (R145): The DU starts building a session's round at open minus DU_LEAD. -/
  | roundBuildStart (session : BitVec 18)
  /-- ROUND_BUILD_COMPLETE (R153): The round's reads return and its datagrams are sealed and queued. -/
  | roundBuildComplete (session : BitVec 18)
  /-- EGRESS_TRANSMIT (R156): A queued packet leaves under the Shutter's queue order and window. -/
  | egressTransmit (lane : Fin 8)
  /-- WINDOW_CLOSE (R157): A window closes and its still-queued round is dropped as a miss. -/
  | windowClose (session : BitVec 18)
  /-- DU_PANIC_RAISE (R158): A DU raises panic on a channel with a read near its deadline. -/
  | duPanicRaise (du : Fin 16) (ch : Fin 34)
  /-- DU_PANIC_DROP (R158): A DU drops panic when no near-deadline read remains. -/
  | duPanicDrop (du : Fin 16) (ch : Fin 34)
  /-- DU_BUILD_OVERRUN (R360): A build open longer than a tick period raises a DU fault. -/
  | duBuildOverrun (session : BitVec 18)
  /-- DU_ENC_COMMIT (R154): Applies the shadow encoder table between rounds. -/
  | duEncCommit
  /-- PT_CFG_WRITE (R161): Sets the port configuration while every lane is disabled. -/
  | ptCfgWrite (v : Word32)
  /-- LANE_LINK_UP (R167): Negotiation, training and deskew complete and the lane is up. -/
  | laneLinkUp (lane : Fin 8)
  /-- LANE_LINK_DOWN (R168): Loss beyond the link-fail timer takes the lane down and restarts training. -/
  | laneLinkDown (lane : Fin 8)
  /-- PT_DIST_WRITE (R174): Firmware sets or clears a port's distribution bit. -/
  | ptDistWrite (port : Fin 8) (dist : Bool)
  /-- TRAIN_FREEZE (R169): Freezes receive adaptation. -/
  | trainFreeze (lane : Fin 8)
  /-- TRAIN_RELEASE (R169): Releases receive adaptation. -/
  | trainRelease (lane : Fin 8)
  /-- TRAIN_ADAPT_PASS (R169): Runs one adaptation pass, then freezes. -/
  | trainAdaptPass (lane : Fin 8)
  /-- TRAIN_APPLY_TXFIR (R169): Applies the transmit FIR coefficients. -/
  | trainApplyTxfir (lane : Fin 8)
  /-- TRAIN_PRESET (R169): Asks the partner for a preset. -/
  | trainPreset (lane : Fin 8) (preset : BitVec 4)
  /-- TRAIN_RESTART (R169): Restarts auto-negotiation and training. -/
  | trainRestart (lane : Fin 8)
  /-- TRAIN_COMMAND_COMPLETE (R169): An expert lane training command ends done or partner timeout. -/
  | trainCommandComplete (lane : Fin 8) (timeout : Bool)
  /-- PMA_RESET (R362): Resets a lane's PMA and PCS and retrains. -/
  | pmaReset (lane : Fin 8)
  /-- BIT_SLIP (R170): Queues receive word-boundary slips in manual alignment. -/
  | bitSlip (lane : Fin 8) (count : BitVec 4)
  /-- PATTERN_MODE_SET (R171): Switches a lane to or from pattern generation and checking. -/
  | patternModeSet (lane : Fin 8) (on : Bool)
  /-- ERROR_INJECT (R172): Flips one transmitted bit. -/
  | errorInject (lane : Fin 8)
  /-- PERIODIC_ERROR_INJECT (R172): Flips one bit in each 2^p-bit period. -/
  | periodicErrorInject (lane : Fin 8) (p : BitVec 6)
  /-- FRAME_RECEIVE (R176): A received frame is checked by MAC and parser and delivered or dropped. -/
  | frameReceive (lane : Fin 8) (frame : List Byte)
  /-- FWRX_POP (R178): Discards the loaded firmware frame and loads the next. -/
  | fwrxPop (lane : Fin 8)
  /-- FWTX_SEND (R184): Queues a firmware frame in queue 0, with timestamping options. -/
  | fwtxSend (v : Word32)
  /-- TXTS_POP (R184): Reading the high word pops a transmit timestamp entry. -/
  | txtsPop (path : Path)
  /-- PT_PORT_CLR (R180): Clears a port's MAC counter block. -/
  | ptPortClr (port : Fin 8)
  /-- TB_INCR_WRITE (R181): Sets the timebase rate, clamped to plus or minus 1000 ppm. -/
  | tbIncrWrite (v : Word32)
  /-- TB_STEP (R181): Adds a signed step to the timebase, refused if out of range or negative in SERVE. -/
  | tbStep (v : Word64)
  /-- TB_SLEW (R181): Adds a signed slew to the remainder. -/
  | tbSlew (v : Word32)
  /-- REFCLK_LOSS (R411): A reference clock with no edge for 200 ns is lost. -/
  | refclkLoss (clk : Refclk)
  /-- REFCLK_TB_RETURN (R183): REFCLK_TB returns and the timebase changes back without a step. -/
  | refclkTbReturn
  /-- PPS_OUT (R185): PPS_OUT rises at each whole second of the count. -/
  | ppsOut
  /-- PPS_IN (R185): A PPS_IN edge is timestamped unless within 500 ms of the last. -/
  | ppsIn
  /-- LNM_LINK_DOWN (R186): The management link drops and retrains, reporting on group 42. -/
  | lnmLinkDown
  /-- MGMT_QUEUE_FULL (R197): A frame arriving with 8 held is answered BUSY. -/
  | mgmtQueueFull (f : Frame)
  /-- IDENTIFY (R201): Returns identity, mode, key slot, nonce and sequence. -/
  | identify (f : Frame)
  /-- PROVISION_KEY (R193): Writes key slot 0 while no slot is committed. -/
  | provisionKey (f : Frame)
  /-- ROTATE_KEY (R193): Writes a wrapped key into the next free slot. -/
  | rotateKey (f : Frame)
  /-- KEY_SLOT_COMMIT (R192): A key slot write completes with its commit bit. -/
  | keySlotCommit
  /-- REG_READ (R202): Reads consecutive device register words. -/
  | regRead (f : Frame)
  /-- REG_WRITE (R202): Writes consecutive device register words. -/
  | regWrite (f : Frame)
  /-- REG_MODIFY (R202): Read-modify-writes one register under a mask. -/
  | regModify (f : Frame)
  /-- MODE_SET (R216): Requests a mode transition as a long command. -/
  | modeSet (f : Frame)
  /-- RESET (R206): Begins a cold or warm reset 100 us after the response. -/
  | reset (f : Frame)
  /-- IMAGE_BEGIN (R207): Opens a firmware or title image transfer. -/
  | imageBegin (f : Frame)
  /-- IMAGE_DATA (R207): Delivers the next in-order bytes of an image. -/
  | imageData (f : Frame)
  /-- IMAGE_END (R209): Ends an image transfer and starts verification. -/
  | imageEnd (f : Frame)
  /-- IMAGE_VERIFY_COMPLETE (R209): Verification ends and the image is applied or refused. -/
  | imageVerifyComplete
  /-- IMAGE_TRANSFER_TIMEOUT (R207): A transfer with no IMAGE_DATA for 10 s is abandoned. -/
  | imageTransferTimeout
  /-- TITLE_KEY_SET (R207): Sets the operator ECDSA public key. -/
  | titleKeySet (f : Frame)
  /-- MEM_READ (R203): Reads world memory as master 61. -/
  | memRead (f : Frame)
  /-- MEM_WRITE (R203): Writes world memory as master 61. -/
  | memWrite (f : Frame)
  /-- SES_CREATE (R204): Creates a session from a host context and wrapped key. -/
  | sesCreate (f : Frame)
  /-- SES_CLOSE (R204): Closes a session. -/
  | sesClose (f : Frame)
  /-- SES_MOVE (R204): Moves a session to a port. -/
  | sesMove (f : Frame)
  /-- SES_KEYFRAME (R204): Requests a keyframe for a session. -/
  | sesKeyframe (f : Frame)
  /-- SES_READ (R204): Returns a session context. -/
  | sesRead (f : Frame)
  /-- SNAP_KEY (R204): Unwraps the snapshot key into SNAP_KEY0-7. -/
  | snapKey (f : Frame)
  /-- DUMP_INFO (R210): Reports whether the Negative is whole. -/
  | dumpInfo (f : Frame)
  /-- DUMP_READ (R210): Reads bytes of the Negative. -/
  | dumpRead (f : Frame)
  /-- DUMP_CLEAR (R210): Marks the Negative absent. -/
  | dumpClear (f : Frame)
  /-- EVENT_READ (R211): Removes host event records oldest first. -/
  | eventRead (f : Frame)
  /-- CH_RATE (R205): Changes or records the rate point of logical channels. -/
  | chRate (f : Frame)
  /-- POLL (R199): Reports the status of an accepted sequence. -/
  | poll (f : Frame)
  /-- GLOBAL_MODE_SET (R214): Firmware requests a mode change checked against the transition table. -/
  | globalModeSet (target : BitVec 3)
  /-- DRAIN_SESSION_CLOSE (R229): At S(T)+D+2P every non-FREE session is closed. -/
  | drainSessionClose
  /-- DRAIN_COMPLETE (R229): Sessions free, queues empty and no export: the stack enters READY. -/
  | drainComplete
  /-- DRAIN_TIMEOUT (R230): The drain limit expires and remaining sessions are forced FREE. -/
  | drainTimeout
  /-- FOCUS_COMPLETE (R223): FOCUS steps end and the stack enters READY or HALT. -/
  | focusComplete
  /-- HALT_ENTRY (R233): The stack enters HALT, quiescing and writing the Negative. -/
  | haltEntry (cause : HaltCause)
  /-- COLD_RESET (R235): A cold reset from power-on, RESET_N, PWRGOOD or command. -/
  | coldReset (src : ResetSource)
  /-- WARM_RESET (R236): A warm reset quiesces, self-refreshes and restarts keeping DRAM and ED. -/
  | warmReset
  /-- REQUEST_ADMIT (R248): The arbiter grants an input and admits a request with its deadline and class. -/
  | requestAdmit (ch : Fin 34)
  /-- REQUEST_OVERDUE (R248): A queued request's remaining count reaches 0 and it becomes overdue. -/
  | requestOverdue (id : Nat)
  /-- SEQUENCER_SLOT (R254): The sequencer chooses the command of a slot by its fixed order. -/
  | sequencerSlot (ch : Fin 34) (ready : BitVec 32)
  /-- DRAM_READ_DECODE (R289): A granule read from DRAM is decoded and reported by outcome. -/
  | dramReadDecode (id : Nat) (upsets : List SymErr)
  /-- MERGE_READ_DECODE (R296): A partial write's merge read is decoded and the merge stored. -/
  | mergeReadDecode (ch : Fin 34) (granule : BitVec 25) (upsets : List SymErr)
  /-- CHMAP_COMMIT (R242): Applies the shadow CH_MAP set. -/
  | chmapCommit
  /-- CHMAP_DRAIN_COMPLETE (R242): Old routing drains and busy clears. -/
  | chmapDrainComplete
  /-- CHANNEL_COPY_GRANULE (R244): A migration copy write is acknowledged and the cursor advances. -/
  | channelCopyGranule (l : Fin 32) (upsets : List SymErr)
  /-- COPY_SOURCE_FAIL (R244): The old channel stops reading and the copy stops. -/
  | copySourceFail (l : Fin 32)
  /-- RG_COMMIT (R246): Applies the shadow class ranges and striped regions. -/
  | rgCommit
  /-- CH_ARB_COMMIT (R252): Applies the shadow arbiter priorities, burst and park. -/
  | chArbCommit (ch : Fin 34)
  /-- CH_SCHED_WRITE (R253): Sets the write-drain thresholds, refused if inconsistent. -/
  | chSchedWrite (ch : Fin 34) (v : Word32)
  /-- CH_SLOTCOMMIT (R260): Requests a slot table commit for the next frame boundary. -/
  | chSlotcommit (ch : Fin 34)
  /-- FRAME_BOUNDARY (R261): At a frame boundary, rate and width changes, commit checks and revocations apply. -/
  | frameBoundary (ch : Fin 34)
  /-- CHANNEL_PANIC_LIMIT (R264): Continuous panic beyond limit_us raises one event. -/
  | channelPanicLimit (ch : Fin 34)
  /-- RG_CNT_CLR (R265): Clears every class counter. -/
  | rgCntClr
  /-- REFRESH_DUE_POINT (R269): A bank's due point raises its refresh debt. -/
  | refreshDuePoint (ch : Fin 34) (bank : Fin 32)
  /-- MANUAL_REFRESH (R272): Issues one REFpb to a named bank at the claimed level. -/
  | manualRefresh (ch : Fin 34) (bank : Fin 32)
  /-- CH_RP_CTRL_WRITE (R280): Sets row protection, enable clear accepted only in MAINT. -/
  | chRpCtrlWrite (ch : Fin 34) (v : Word32)
  /-- SELF_REFRESH_ENTRY (R281): An idle channel enters self-refresh after idle_us. -/
  | selfRefreshEntry (ch : Fin 34)
  /-- SELF_REFRESH_EXIT (R283): A channel leaves self-refresh on a request or cause. -/
  | selfRefreshExit (ch : Fin 34)
  /-- FIXER_WAKE (R284): 4,096 owed Fixer reads wake a sleeping channel. -/
  | fixerWake (ch : Fin 34)
  /-- CANARY_CHECK (R343): Every 128 ms canary rows are read and rewritten. -/
  | canaryCheck (die : Fin 18) (lost : BitVec 16)
  /-- FIXER_READ (R300): The Fixer issues its next scrub read. -/
  | fixerRead (ch : Fin 34)
  /-- FIXER_READ_COMPLETE (R302): A scrub read outcome is acted on by write-back or poisoning. -/
  | fixerReadComplete (ch : Fin 34) (upsets : List SymErr)
  /-- CH_UE_CLR (R304): Empties the UE list. -/
  | chUeClr (ch : Fin 34)
  /-- CH_ECC_CLR (R306): Clears the ECC counts. -/
  | chEccClr (ch : Fin 34)
  /-- CA_PARITY_ERROR (R323): A command parity error survives its retry. -/
  | caParityError (ch : Fin 34) (line : BitVec 4) (granule : BitVec 25) (master : BitVec 6)
  /-- HALF_WIDTH_CONVERSION_STEP (R325): The fill engine converts the next row of a PC to half width. -/
  | halfWidthConversionStep (ch : Fin 34) (upsets : List (BitVec 9 × SymErr))
  /-- TRN_RUN_STEP (R313): Runs one basic training step over the channel. -/
  | trnRunStep (ch : Fin 34) (step : BitVec 3) (meas : List EyeMeas)
  /-- TRN_MEASURE_EYE (R313): Measures one line's eyes. -/
  | trnMeasureEye (ch : Fin 34) (m : EyeMeas)
  /-- TRN_CENTRE (R313): Centres one line's deskews. -/
  | trnCentre (ch : Fin 34) (pc : Bool) (line : BitVec 6)
  /-- TRN_BIT_SLIP (R313): Shifts one line's read capture by one beat. -/
  | trnBitSlip (ch : Fin 34) (pc : Bool) (line : BitVec 6) (earlier : Bool)
  /-- TRN_RETRAIN_LINE (R313): Retrains one line with steps 4 to 6. -/
  | trnRetrainLine (ch : Fin 34) (m : EyeMeas)
  /-- TRN_FULL (R313): Runs full channel training. -/
  | trnFull (ch : Fin 34)
  /-- CHANNEL_TRAINING_COMPLETE (R311): Training of a channel ends, applying any held rate change. -/
  | channelTrainingComplete (ch : Fin 34) (meas : List EyeMeas)
  /-- MAINTENANCE_STALL (R314): A maintenance stall takes the channel's TSVs for up to 2 us. -/
  | maintenanceStall (ch : Fin 34)
  /-- BIST_START (R316): Starts a BIST run. -/
  | bistStart
  /-- BIST_ABORT (R318): Ends a BIST run at the next slice boundary. -/
  | bistAbort
  /-- BIST_SLICE (R317): Runs one BIST slice, saving and restoring for kind 2. -/
  | bistSlice (responses : List BistResp)
  /-- SOFT_REPAIR_APPLY (R321): A committed soft repair record is applied. -/
  | softRepairApply (ch : Fin 34) (n : Fin 16)
  /-- FUSE_PROGRAM (R322): Starts programming a fuse repair record in MAINT. -/
  | fuseProgram (ch : Fin 34)
  /-- FUSE_PROGRAM_COMPLETE (R322): Fuse programming and verify end with a result. -/
  | fuseProgramComplete (ok : Bool)
  /-- CALIBRATION_DUE (R329): A channel becomes due for recalibration by age or drift. -/
  | calibrationDue (ch : Fin 34)
  /-- TRIM_EVALUATION (R335): Every 10 ms temperature-following trims are re-evaluated. -/
  | trimEvaluation
  /-- CALIBRATION_RERUN (R334): Reruns power-up calibration items not bound to a serving channel. -/
  | calibrationRerun (rrefOk : Bool) (results : List TrimResult)
  /-- CAL_TRIM_WRITE (R337): Writes a trim directly at level 1. -/
  | calTrimWrite (v : Word32)
  /-- THERMAL_LADDER_EVALUATION (R345): Every 100 us die temperatures are compared with the ladder. -/
  | thermalLadderEvaluation (readings : List SensorReading)
  /-- THERMAL_TRIP (R346): A sensor above 110 C trips hardware shutdown and HALT. -/
  | thermalTrip (die : Fin 18)
  /-- THERMAL_MODEL_UPDATE (R342): Every 1 ms the model estimates advance and suspect dies are judged. -/
  | thermalModelUpdate (amps : List Nat)
  /-- DELAY_LINE_MEASURE (R340): Every 10 us delay-line monitors give token rates and idle slots. -/
  | delayLineMeasure (e : Fin 35) (rate : BitVec 16) (idle : List Nat)
  /-- LDO_MONITOR (R341): An LDO output below 95 % for 2 us raises an event. -/
  | ldoMonitor (domain : Fin 104)
  /-- RAIL_MONITOR (R341): A rail out of its window for 100 us raises an event. -/
  | railMonitor (rail : Fin 8) (mv : BitVec 16)
  /-- CAP_ENFORCE (R347): While over the cap, one domain is dodged one step every 200 us. -/
  | capEnforce (avg : BitVec 16)
  /-- GOVERNOR_EVALUATE (R350): After each commit the governor burns, dodges or holds each CE domain. -/
  | governorEvaluate
  /-- VOLTAGE_STEP_COMPLETE (R354): A 10 mV domain step completes and the next may start. -/
  | voltageStepComplete (e : Fin 35)
  /-- PWR_DOM_WRITE (R356): Requests switching a power domain on or off. -/
  | pwrDomWrite (domain : Fin 104) (on : Bool)
  /-- DOMAIN_TRANSITION_COMPLETE (R355): A domain finishes its on or off transition. -/
  | domainTransitionComplete (domain : Fin 104)
  /-- FAULT_EVENT_ACCEPT (R358): The collector accepts an event, counts, captures and reacts. -/
  | faultEventAccept
  /-- FENCE_COMPLETE (R369): No request of the fenced party remains and reclaim runs. -/
  | fenceComplete (master : BitVec 6)
  /-- SHADOW_EXPIRE (R365): A reaction shadow ends. -/
  | shadowExpire (group : Fin 58) (inst : BitVec 8)
  /-- FAULT_LATCH_CLEAR (R359): Firmware clears group latches, releasing FAULT_N if none remain. -/
  | faultLatchClear (group : Fin 58) (kind : LatchKind) (mask : BitVec 8)
  /-- FAULT_CAPTURE_RELEASE (R364): Releases a group's first-error capture. -/
  | faultCaptureRelease (group : Fin 58)
  /-- FC_INJECT (R368): Raises a forced fault event. -/
  | fcInject (v : Word32)
  /-- FC_ENG_REASSIGN (R371): Gives a fenced engine's logical channel to an idle engine. -/
  | fcEngReassign (v : Word32)
  /-- ED_FIX_RETIRE (R373): Retires a quarantined ED index. -/
  | edFixRetire (index : BitVec 21)
  /-- ED_FIX_WRITE (R373): Writes a quarantined ED entry with fresh SECDED. -/
  | edFixWrite (index : BitVec 21)
  /-- SCRATCH_DUMP (R377): Starts scratch copies of stopped engines into the Negative. -/
  | scratchDump
  /-- SCRATCH_DUMP_COMPLETE (R377): All scratch copies are done and busy clears. -/
  | scratchDumpComplete
  /-- MESH_CRC_ERROR (R22): A mesh header or descriptor CRC error fails its retries. -/
  | meshCrcError (half : Fin 2) (descriptor : Bool) (master : BitVec 6)
  /-- PM_COMMIT (R383): Applies shadow counter selections and filters at an interval boundary. -/
  | pmCommit
  /-- PM_COUNTER_WRITE (R383): Writes a counter value, effective at the next interval. -/
  | pmCounterWrite (n : Fin 16) (v : Word64)
  /-- CONTACT_SHEET_DUE (R388): A contact sheet falls due and capture starts, or is skipped. -/
  | contactSheetDue
  /-- CONTACT_SHEET_COMPLETE (R389): The sheet copy ends with the commit word written last. -/
  | contactSheetComplete
  /-- LOUPE_CTRL_WRITE (R392): Starts, stops or configures the Loupe. -/
  | loupeCtrlWrite (v : Word32)
  /-- LOUPE_DATA_READ (R392): Reads a Loupe word; the eighth removes the record. -/
  | loupeDataRead (path : Path)
  /-- PAIR_LOW_READ (R7): Reading a 64-bit pair's low word captures the high word. -/
  | pairLowRead (path : Path) (addr : Word32)
  /-- REGISTER_WRITE (R8): Writes a register that has no behaviour of its own. -/
  | registerWrite (path : Path) (addr : Word32) (v : Word32)
  /-- TAP_RESET (R419): TRST_N or five TMS-high cycles reset the TAP to IDCODE. -/
  | tapReset
  /-- IDCODE (R419): Selects the 32-bit IDCODE register. -/
  | idcode
  /-- SAMPLE_PRELOAD (R420): Samples or preloads the boundary register. -/
  | samplePreload (preload : BitVec 12)
  /-- EXTEST (R421): Drives sideband outputs from the boundary register. -/
  | extest
  /-- HIGHZ (R421): Releases outputs and selects bypass. -/
  | highz
  /-- CLAMP (R421): Holds outputs from the boundary register and selects bypass. -/
  | clamp
  /-- BYPASS (R419): Selects the bypass register. -/
  | bypass
  /-- RESET_N_RISE (R220): RESET_N and PWRGOOD both high ends a cold reset and starts the secure boot, sampling BOOT_SEL and TEST_EN. -/
  | resetNRise (bootSel : BitVec 2) (testEn : Bool)
  /-- LNM_LINK_UP (R186): The management lane completes Clause 72 training and comes up. -/
  | lnmLinkUp
  /-- CHECKER_LOCK (R171): A lane's pattern checker reports lock after 64 consecutive error-free bits, and its counts start. -/
  | checkerLock (lane : Fin 8)
  /-- CHECKER_LOCK_LOSS (R171): A lane's pattern checker loses lock after 64 errors within 1,024 bits and re-seeds. -/
  | checkerLockLoss (lane : Fin 8)
  /-- JOIN_PASS_END (R135): A paced join stream pass finishes with its last datagram carrying flag L and a JOIN_END record. -/
  | joinPassEnd (session : BitVec 18)
  /-- TB_SLEW_COMPLETE (R181): The slew remainder reaches zero and TB_STATUS.slewing clears. -/
  | tbSlewComplete
  /-- LANE_ENABLE (R167): A write of LNn_CTRL.enable powers a lane and starts negotiation and training, or stops it. -/
  | laneEnable (lane : Fin 8) (on : Bool)
  /-- PM_TAG_WRITE (R393): A write of PM_TAG starts or stops random tagging and seeds the LFSR on the TKW-3209. -/
  | pmTagWrite (v : Word32)
  /-- PWR_CE_SET_CODE_WRITE (R353): A write of PWR_CEee or PWR_SV manual or set_code moves that domain to a fixed voltage. -/
  | pwrCeSetCodeWrite (e : Fin 35) (v : Word32)
  /-- BAD_COMMAND_FRAME (R197): A management frame with an undefined version or command code, or failing length or CRC before its code is known, is refused. -/
  | badCommandFrame (f : Frame)
  deriving DecidableEq, Repr

end Sys2Proof
end

