-- ==== Sys2Proof/WellFormed.lean ====
section
/-!
DEFINITION. Well-formed commands: a Sillar instruction whose unused fields are 0, whose vector fields name v0 to v15 and whose
predicate destination is p1 to p7 (R62, R63); a management frame that states the length it has (R188). Every other command
is well-formed by its type.
-/

namespace Sys2Proof

/-- A vector register field (R62). -/
def vField (n : BitVec 5) : Bool := decide (n.toNat < 16)
/-- A predicate destination: bits [11:10] are 0 and it is not p0 (R62, R63). -/
def pdField (n : BitVec 5) : Bool := decide (0 < n.toNat) && decide (n.toNat < 8)
/-- A predicate source: bits [4:3] are 0 (R69). -/
def psField (n : BitVec 5) : Bool := decide (n.toNat < 8)

/-- A frame holds as many argument bytes as it states. -/
def Frame.wf (f : Frame) : Bool := f.arg.length == f.a.toNat

def Instr.wf : Instr → Bool
  | .add _ _ => true
  | .sub _ _ => true
  | .and _ _ => true
  | .or _ _ => true
  | .xor _ _ => true
  | .andn _ _ => true
  | .sll _ _ => true
  | .srl _ _ => true
  | .sra _ _ => true
  | .min _ _ => true
  | .max _ _ => true
  | .minu _ _ => true
  | .maxu _ _ => true
  | .sel _ _ => true
  | .clz _ f => f.rs2 == 0
  | .popc _ f => f.rs2 == 0
  | .mul _ _ => true
  | .mulh _ _ => true
  | .mulhu _ _ => true
  | .div _ _ => true
  | .divu _ _ => true
  | .rem _ _ => true
  | .remu _ _ => true
  | .zext32 _ f => f.rs2 == 0
  | .sext32 _ f => f.rs2 == 0
  | .addi _ _ => true
  | .andi _ _ => true
  | .ori _ _ => true
  | .xori _ _ => true
  | .shi _ f => decide (f.imm.toNat < 192)
  | .shor _ _ => true
  | .cmpEq _ f => pdField f.rd
  | .cmpNe _ f => pdField f.rd
  | .cmpLt _ f => pdField f.rd
  | .cmpGe _ f => pdField f.rd
  | .cmpLtu _ f => pdField f.rd
  | .cmpGeu _ f => pdField f.rd
  | .cmpBits _ f => pdField f.rd
  | .pand _ f => pdField f.rd && psField f.rs1 && psField f.rs2
  | .por _ f => pdField f.rd && psField f.rs1 && psField f.rs2
  | .pxor _ f => pdField f.rd && psField f.rs1 && psField f.rs2
  | .pandn _ f => pdField f.rd && psField f.rs1 && psField f.rs2
  | .pset _ f => pdField f.rd && f.rs1 == 0 && f.rs2 == 0
  | .pclr _ f => pdField f.rd && f.rs1 == 0 && f.rs2 == 0
  | .pnz _ f => pdField f.rd && f.rs2 == 0
  | .fadd _ _ => true
  | .fsub _ _ => true
  | .fmul _ _ => true
  | .fmadd _ _ => true
  | .fmsub _ _ => true
  | .fdiv _ _ => true
  | .fsqrt _ f => f.rs2 == 0
  | .fmin _ _ => true
  | .fmax _ _ => true
  | .fabs _ f => f.rs2 == 0
  | .fneg _ f => f.rs2 == 0
  | .fcvtSW _ f => f.rs2 == 0
  | .fcvtWS _ f => f.rs2 == 0
  | .feq _ f => pdField f.rd
  | .flt _ f => pdField f.rd
  | .fle _ f => pdField f.rd
  | .vadd _ f => vField f.rd && vField f.rs1 && vField f.rs2
  | .vsub _ f => vField f.rd && vField f.rs1 && vField f.rs2
  | .vmul _ f => vField f.rd && vField f.rs1 && vField f.rs2
  | .vfma _ f => vField f.rd && vField f.rs1 && vField f.rs2
  | .vmin _ f => vField f.rd && vField f.rs1 && vField f.rs2
  | .vmax _ f => vField f.rd && vField f.rs1 && vField f.rs2
  | .vdot _ f => vField f.rs1 && vField f.rs2
  | .vsplat _ f => vField f.rd && f.rs2 == 0
  | .vext _ f => vField f.rs1 && decide (f.rs2.toNat < 4)
  | .vins _ f => vField f.rd && decide (f.rs2.toNat < 4)
  | .vmov _ f => vField f.rd && vField f.rs1 && f.rs2 == 0
  | .ld _ _ => true
  | .ldu _ _ => true
  | .st _ _ => true
  | .vld _ f => f.size == 0 && vField f.rt
  | .vst _ f => f.size == 0 && vField f.rt
  | .sld _ f => f.dl == 0
  | .sldu _ f => f.dl == 0
  | .sst _ f => f.dl == 0
  | .svld _ f => f.dl == 0 && f.size == 0 && vField f.rt
  | .svst _ f => f.dl == 0 && f.size == 0 && vField f.rt
  | .fill _ _ => true
  | .sdmaIn _ _ => true
  | .sdmaOut _ _ => true
  | .amoAdd _ _ _ => true
  | .amoAnd _ _ _ => true
  | .amoOr _ _ _ => true
  | .amoXor _ _ _ => true
  | .amoSmin _ _ _ => true
  | .amoSmax _ _ _ => true
  | .amoUmin _ _ _ => true
  | .amoUmax _ _ _ => true
  | .amoSwap _ _ _ => true
  | .amoCas _ _ _ => true
  | .fence _ f => f.rs1 == 0 && f.rd == 0 && decide (f.imm.toNat < 128)
  | .br _ f => f.rs1 == 0
  | .call _ f => f.rs1 == 0
  | .jr _ f => f.imm == 0
  | .entGetL _ f => f.dl == 0 && f.rs2 == 0
  | .entGetN _ f => f.dl == 0 && f.rs2 == 0
  | .entGetE _ f => f.dl == 0 && f.rs2 == 0
  | .entLock _ f => f.dl == 0 && f.rs2 == 0
  | .entUnlock _ f => f.dl == 0 && f.rs2 == 0 && f.rd == 0
  | .entPub _ f => f.dl == 0 && f.rd == 0
  | .entNew _ f => f.dl == 0
  | .entFree _ f => f.dl == 0 && f.rs2 == 0 && f.rd == 0
  | .entMove _ f => f.dl == 0 && f.rd == 0
  | .entityLockGrant _ => true
  | .sesRecv _ _ => true
  | .sesSend _ _ => true
  | .sesInfo _ f => f.dl == 0
  | .sesInfoSet _ f => f.dl == 0
  | .sessionSlotGrant _ => true
  | .tickWait _ f => f.rs1 == 0 && f.rs2 == 0
  | .tickDone _ f => f.rs1 == 0 && f.rs2 == 0 && f.rd == 0 && f.dl == 0
  | .csrGet _ f => f.rs1 == 0
  | .csrPut _ f => f.rd == 0
  | .csrMerge _ _ => true
  | .dlrel _ f => f.imm == 0 && psField f.rd
  | .syscall _ f => f.rd == 0
  | .yield _ f => f.imm == 0 && f.rs1 == 0 && f.rd == 0
  | .tret _ f => f.imm == 1 && f.rs1 == 0 && f.rd == 0
  | .regrd _ f => f.imm == 0
  | .regwr _ f => f.imm == 0
  | .xcsrr _ _ => true
  | .xcsrw _ _ => true
  | .evwait _ f => decide (f.imm.toNat < 8) && f.rs1 == 0
  | .evwaitWake _ => true
  | .worldLoadComplete _ => true
  | .storeAcknowledge _ => true
  | .atomicComplete _ => true
  | .fillComplete _ => true
  | .sdmaComplete _ => true
  | .directoryResponse _ => true
  | .completionTrap _ _ => true
  | .waitBreakerCheck _ _ => true
  | .ceCtrlWrite _ _ => true
  | .ceStrandEnWrite _ _ => true
  | .strandResume _ _ => true
  | .strandRedirect _ _ => true
  | .strandForward _ _ => true
  | .strandStop _ _ => true
  | .ceImemDataWrite _ _ => true
  | .ceImemDataRead _ _ => true
  | .ceRangeCommit _ => true
  | .migrationStart _ _ => true
  | .migrationQuiet _ => true
  | .migrationWaitExpired _ => true
  | .migrationCopyComplete _ => true
  | .svWdogKick => true
  | .watchdogExpire => true
  | .engineHangDetect _ => true
  | .tickStart => true
  | .simulateOpen => true
  | .commitDeadlineMiss => true
  | .heldFrameRepeat => true
  | .commitConditionsMet => true
  | .commitOpen => true
  | .commitClose => true
  | .tkSchedCommit => true
  | .tkRunClear => true
  | .tkRunSet => true
  | .tkWarmStart => true
  | .warmRestartComplete => true
  | .edResolveKeep _ => true
  | .edResolveFree _ => true
  | .edTornCursorWrite _ => true
  | .edGridWrite _ => true
  | .snapshotStart => true
  | .snapshotAbort => true
  | .snapshotRoundEnd => true
  | .snapshotHoldExpire => true
  | .snapshotComplete => true
  | .snapshotRestoreStart => true
  | .snapshotRestoreComplete => true
  | .stCtxRead => true
  | .stCtxCreate => true
  | .stCtxClose _ => true
  | .stCtxKeyframe => true
  | .stCtxMove _ => true
  | .stFwEventPop _ => true
  | .ageSweep => true
  | .sessionFreed _ => true
  | .worldDatagramReceive _ _ _ _ => true
  | .roundBuildStart _ => true
  | .roundBuildComplete _ => true
  | .egressTransmit _ => true
  | .windowClose _ => true
  | .duPanicRaise _ _ => true
  | .duPanicDrop _ _ => true
  | .duBuildOverrun _ => true
  | .duEncCommit => true
  | .ptCfgWrite _ => true
  | .laneLinkUp _ => true
  | .laneLinkDown _ => true
  | .ptDistWrite _ _ => true
  | .trainFreeze _ => true
  | .trainRelease _ => true
  | .trainAdaptPass _ => true
  | .trainApplyTxfir _ => true
  | .trainPreset _ _ => true
  | .trainRestart _ => true
  | .trainCommandComplete _ _ => true
  | .pmaReset _ => true
  | .bitSlip _ _ => true
  | .patternModeSet _ _ => true
  | .errorInject _ => true
  | .periodicErrorInject _ _ => true
  | .frameReceive _ _ => true
  | .fwrxPop _ => true
  | .fwtxSend _ => true
  | .txtsPop _ => true
  | .ptPortClr _ => true
  | .tbIncrWrite _ => true
  | .tbStep _ => true
  | .tbSlew _ => true
  | .refclkLoss _ => true
  | .refclkTbReturn => true
  | .ppsOut => true
  | .ppsIn => true
  | .lnmLinkDown => true
  | .mgmtQueueFull f => f.wf
  | .identify f => f.wf
  | .provisionKey f => f.wf
  | .rotateKey f => f.wf
  | .keySlotCommit => true
  | .regRead f => f.wf
  | .regWrite f => f.wf
  | .regModify f => f.wf
  | .modeSet f => f.wf
  | .reset f => f.wf
  | .imageBegin f => f.wf
  | .imageData f => f.wf
  | .imageEnd f => f.wf
  | .imageVerifyComplete => true
  | .imageTransferTimeout => true
  | .titleKeySet f => f.wf
  | .memRead f => f.wf
  | .memWrite f => f.wf
  | .sesCreate f => f.wf
  | .sesClose f => f.wf
  | .sesMove f => f.wf
  | .sesKeyframe f => f.wf
  | .sesRead f => f.wf
  | .snapKey f => f.wf
  | .dumpInfo f => f.wf
  | .dumpRead f => f.wf
  | .dumpClear f => f.wf
  | .eventRead f => f.wf
  | .chRate f => f.wf
  | .poll f => f.wf
  | .globalModeSet _ => true
  | .drainSessionClose => true
  | .drainComplete => true
  | .drainTimeout => true
  | .focusComplete => true
  | .haltEntry _ => true
  | .coldReset _ => true
  | .warmReset => true
  | .requestAdmit _ => true
  | .requestOverdue _ => true
  | .sequencerSlot _ _ => true
  | .dramReadDecode _ _ => true
  | .mergeReadDecode _ _ _ => true
  | .chmapCommit => true
  | .chmapDrainComplete => true
  | .channelCopyGranule _ _ => true
  | .copySourceFail _ => true
  | .rgCommit => true
  | .chArbCommit _ => true
  | .chSchedWrite _ _ => true
  | .chSlotcommit _ => true
  | .frameBoundary _ => true
  | .channelPanicLimit _ => true
  | .rgCntClr => true
  | .refreshDuePoint _ _ => true
  | .manualRefresh _ _ => true
  | .chRpCtrlWrite _ _ => true
  | .selfRefreshEntry _ => true
  | .selfRefreshExit _ => true
  | .fixerWake _ => true
  | .canaryCheck _ _ => true
  | .fixerRead _ => true
  | .fixerReadComplete _ _ => true
  | .chUeClr _ => true
  | .chEccClr _ => true
  | .caParityError _ _ _ _ => true
  | .halfWidthConversionStep _ _ => true
  | .trnRunStep _ _ _ => true
  | .trnMeasureEye _ _ => true
  | .trnCentre _ _ _ => true
  | .trnBitSlip _ _ _ _ => true
  | .trnRetrainLine _ _ => true
  | .trnFull _ => true
  | .channelTrainingComplete _ _ => true
  | .maintenanceStall _ => true
  | .bistStart => true
  | .bistAbort => true
  | .bistSlice _ => true
  | .softRepairApply _ _ => true
  | .fuseProgram _ => true
  | .fuseProgramComplete _ => true
  | .calibrationDue _ => true
  | .trimEvaluation => true
  | .calibrationRerun _ _ => true
  | .calTrimWrite _ => true
  | .thermalLadderEvaluation _ => true
  | .thermalTrip _ => true
  | .thermalModelUpdate _ => true
  | .delayLineMeasure _ _ _ => true
  | .ldoMonitor _ => true
  | .railMonitor _ _ => true
  | .capEnforce _ => true
  | .governorEvaluate => true
  | .voltageStepComplete _ => true
  | .pwrDomWrite _ _ => true
  | .domainTransitionComplete _ => true
  | .faultEventAccept => true
  | .fenceComplete _ => true
  | .shadowExpire _ _ => true
  | .faultLatchClear _ _ _ => true
  | .faultCaptureRelease _ => true
  | .fcInject _ => true
  | .fcEngReassign _ => true
  | .edFixRetire _ => true
  | .edFixWrite _ => true
  | .scratchDump => true
  | .scratchDumpComplete => true
  | .meshCrcError _ _ _ => true
  | .pmCommit => true
  | .pmCounterWrite _ _ => true
  | .contactSheetDue => true
  | .contactSheetComplete => true
  | .loupeCtrlWrite _ => true
  | .loupeDataRead _ => true
  | .pairLowRead _ _ => true
  | .registerWrite _ _ _ => true
  | .tapReset => true
  | .idcode => true
  | .samplePreload _ => true
  | .extest => true
  | .highz => true
  | .clamp => true
  | .bypass => true
  | .resetNRise _ _ => true
  | .lnmLinkUp => true
  | .checkerLock _ => true
  | .checkerLockLoss _ => true
  | .joinPassEnd _ => true
  | .tbSlewComplete => true
  | .laneEnable _ _ => true
  | .pmTagWrite _ => true
  | .pwrCeSetCodeWrite _ _ => true
  | .badCommandFrame f => f.wf

end Sys2Proof
end

