-- ==== Sys2Proof/Decode.lean ====
section
/-!
DEFINITION. What spells a command: `decodeTableWord` over the rows of the opcode table that give bits (none does), and the
encodings of the Sillar instructions (R63, R65 and the function tables of spec/03) as an encoder and a decoder of 32-bit
words.
-/

namespace Sys2Proof

/-- The command a word of `nbits` bits spells: no row of the opcode table gives bits, so no word spells one. -/
def decodeTableWord (_nbits _w : Nat) : Option Instr := none

/-! ## The six formats (R63) -/

def FmtA.word (f : FmtA) (op : BitVec 7) (fn : BitVec 6) : Word32 :=
  fn ++ BitVec.ofBool f.neg ++ f.pred ++ f.rs2 ++ f.rs1 ++ f.rd ++ op
def FmtI.word (f : FmtI) (op : BitVec 7) : Word32 := f.imm ++ f.pred ++ f.rs1 ++ f.rd ++ op
def FmtL.word (f : FmtL) (op : BitVec 7) : Word32 := f.imm ++ f.size ++ f.dl ++ f.rs1 ++ f.rt ++ op
def FmtB.word (f : FmtB) (op : BitVec 7) : Word32 := f.imm ++ f.rs1 ++ BitVec.ofBool f.neg ++ f.pred ++ op
def FmtE.word (f : FmtE) (op fn : BitVec 7) : Word32 := fn ++ f.dl ++ f.rs2 ++ f.rs1 ++ f.rd ++ op
def FmtX.word (f : FmtX) (op : BitVec 7) (fn : BitVec 3) : Word32 := f.imm ++ fn ++ f.rs1 ++ f.rd ++ op

def wordA (w : Word32) : FmtA :=
  { neg := w.getLsbD 25, pred := w.extractLsb' 22 3, rs2 := w.extractLsb' 17 5, rs1 := w.extractLsb' 12 5,
    rd := w.extractLsb' 7 5 }
def wordI (w : Word32) : FmtI :=
  { imm := w.extractLsb' 20 12, pred := w.extractLsb' 17 3, rs1 := w.extractLsb' 12 5, rd := w.extractLsb' 7 5 }
def wordL (w : Word32) : FmtL :=
  { imm := w.extractLsb' 22 10, size := w.extractLsb' 20 2, dl := w.extractLsb' 17 3, rs1 := w.extractLsb' 12 5,
    rt := w.extractLsb' 7 5 }
def wordB (w : Word32) : FmtB :=
  { imm := w.extractLsb' 16 16, rs1 := w.extractLsb' 11 5, neg := w.getLsbD 10, pred := w.extractLsb' 7 3 }
def wordE (w : Word32) : FmtE :=
  { dl := w.extractLsb' 22 3, rs2 := w.extractLsb' 17 5, rs1 := w.extractLsb' 12 5, rd := w.extractLsb' 7 5 }
def wordX (w : Word32) : FmtX := { imm := w.extractLsb' 20 12, rs1 := w.extractLsb' 12 5, rd := w.extractLsb' 7 5 }

def opcodeOf (w : Word32) : Nat := (w.extractLsb' 0 7).toNat
/-- The function code of formats A, E and X. -/
def functA (w : Word32) : Nat := (w.extractLsb' 26 6).toNat
def functE (w : Word32) : Nat := (w.extractLsb' 25 7).toNat
def functX (w : Word32) : Nat := (w.extractLsb' 17 3).toNat

/-! ## Encoding -/

/-- The word of a Sillar instruction; none for any other command. -/
def encodeSillar : Instr → Option Word32
  | .add _ f => some (f.word 0x01 0x00)
  | .sub _ f => some (f.word 0x01 0x01)
  | .and _ f => some (f.word 0x01 0x02)
  | .or _ f => some (f.word 0x01 0x03)
  | .xor _ f => some (f.word 0x01 0x04)
  | .andn _ f => some (f.word 0x01 0x05)
  | .sll _ f => some (f.word 0x01 0x06)
  | .srl _ f => some (f.word 0x01 0x07)
  | .sra _ f => some (f.word 0x01 0x08)
  | .min _ f => some (f.word 0x01 0x09)
  | .max _ f => some (f.word 0x01 0x0a)
  | .minu _ f => some (f.word 0x01 0x0b)
  | .maxu _ f => some (f.word 0x01 0x0c)
  | .sel _ f => some (f.word 0x01 0x0d)
  | .clz _ f => some (f.word 0x01 0x0e)
  | .popc _ f => some (f.word 0x01 0x0f)
  | .mul _ f => some (f.word 0x01 0x10)
  | .mulh _ f => some (f.word 0x01 0x11)
  | .mulhu _ f => some (f.word 0x01 0x12)
  | .div _ f => some (f.word 0x01 0x14)
  | .divu _ f => some (f.word 0x01 0x15)
  | .rem _ f => some (f.word 0x01 0x16)
  | .remu _ f => some (f.word 0x01 0x17)
  | .zext32 _ f => some (f.word 0x01 0x18)
  | .sext32 _ f => some (f.word 0x01 0x19)
  | .addi _ f => some (f.word 0x08)
  | .andi _ f => some (f.word 0x09)
  | .ori _ f => some (f.word 0x0a)
  | .xori _ f => some (f.word 0x0b)
  | .shi _ f => some (f.word 0x0c)
  | .shor _ f => some (f.word 0x0d)
  | .cmpEq _ f => some (f.word 0x02 0x00)
  | .cmpNe _ f => some (f.word 0x02 0x01)
  | .cmpLt _ f => some (f.word 0x02 0x02)
  | .cmpGe _ f => some (f.word 0x02 0x03)
  | .cmpLtu _ f => some (f.word 0x02 0x04)
  | .cmpGeu _ f => some (f.word 0x02 0x05)
  | .cmpBits _ f => some (f.word 0x02 0x06)
  | .pand _ f => some (f.word 0x03 0x00)
  | .por _ f => some (f.word 0x03 0x01)
  | .pxor _ f => some (f.word 0x03 0x02)
  | .pandn _ f => some (f.word 0x03 0x03)
  | .pset _ f => some (f.word 0x03 0x04)
  | .pclr _ f => some (f.word 0x03 0x05)
  | .pnz _ f => some (f.word 0x03 0x06)
  | .fadd _ f => some (f.word 0x04 0x00)
  | .fsub _ f => some (f.word 0x04 0x01)
  | .fmul _ f => some (f.word 0x04 0x02)
  | .fmadd _ f => some (f.word 0x04 0x03)
  | .fmsub _ f => some (f.word 0x04 0x04)
  | .fdiv _ f => some (f.word 0x04 0x05)
  | .fsqrt _ f => some (f.word 0x04 0x06)
  | .fmin _ f => some (f.word 0x04 0x07)
  | .fmax _ f => some (f.word 0x04 0x08)
  | .fabs _ f => some (f.word 0x04 0x09)
  | .fneg _ f => some (f.word 0x04 0x0a)
  | .fcvtSW _ f => some (f.word 0x04 0x0b)
  | .fcvtWS _ f => some (f.word 0x04 0x0c)
  | .feq _ f => some (f.word 0x04 0x10)
  | .flt _ f => some (f.word 0x04 0x11)
  | .fle _ f => some (f.word 0x04 0x12)
  | .vadd _ f => some (f.word 0x05 0x00)
  | .vsub _ f => some (f.word 0x05 0x01)
  | .vmul _ f => some (f.word 0x05 0x02)
  | .vfma _ f => some (f.word 0x05 0x03)
  | .vmin _ f => some (f.word 0x05 0x04)
  | .vmax _ f => some (f.word 0x05 0x05)
  | .vdot _ f => some (f.word 0x05 0x06)
  | .vsplat _ f => some (f.word 0x05 0x07)
  | .vext _ f => some (f.word 0x05 0x08)
  | .vins _ f => some (f.word 0x05 0x09)
  | .vmov _ f => some (f.word 0x05 0x0a)
  | .ld _ f => some (f.word 0x10)
  | .ldu _ f => some (f.word 0x11)
  | .st _ f => some (f.word 0x12)
  | .vld _ f => some (f.word 0x13)
  | .vst _ f => some (f.word 0x14)
  | .sld _ f => some (f.word 0x15)
  | .sldu _ f => some (f.word 0x16)
  | .sst _ f => some (f.word 0x17)
  | .svld _ f => some (f.word 0x18)
  | .svst _ f => some (f.word 0x19)
  | .fill _ f => some (f.word 0x20 0x00)
  | .sdmaIn _ f => some (f.word 0x20 0x01)
  | .sdmaOut _ f => some (f.word 0x20 0x02)
  | .amoAdd _ d f => some (f.word 0x20 (if d then 0x30 else 0x10))
  | .amoAnd _ d f => some (f.word 0x20 (if d then 0x31 else 0x11))
  | .amoOr _ d f => some (f.word 0x20 (if d then 0x32 else 0x12))
  | .amoXor _ d f => some (f.word 0x20 (if d then 0x33 else 0x13))
  | .amoSmin _ d f => some (f.word 0x20 (if d then 0x34 else 0x14))
  | .amoSmax _ d f => some (f.word 0x20 (if d then 0x35 else 0x15))
  | .amoUmin _ d f => some (f.word 0x20 (if d then 0x36 else 0x16))
  | .amoUmax _ d f => some (f.word 0x20 (if d then 0x37 else 0x17))
  | .amoSwap _ d f => some (f.word 0x20 (if d then 0x38 else 0x18))
  | .amoCas _ d f => some (f.word 0x20 (if d then 0x39 else 0x19))
  | .fence _ f => some (f.word 0x38 4)
  | .br _ f => some (f.word 0x28)
  | .call _ f => some (f.word 0x29)
  | .jr _ f => some (f.word 0x2a)
  | .entGetL _ f => some (f.word 0x30 0x00)
  | .entGetN _ f => some (f.word 0x30 0x01)
  | .entGetE _ f => some (f.word 0x30 0x02)
  | .entLock _ f => some (f.word 0x30 0x08)
  | .entUnlock _ f => some (f.word 0x30 0x09)
  | .entPub _ f => some (f.word 0x30 0x10)
  | .entNew _ f => some (f.word 0x30 0x18)
  | .entFree _ f => some (f.word 0x30 0x19)
  | .entMove _ f => some (f.word 0x30 0x1a)
  | .entityLockGrant _ => none
  | .sesRecv _ f => some (f.word 0x31 0x00)
  | .sesSend _ f => some (f.word 0x31 0x08)
  | .sesInfo _ f => some (f.word 0x31 0x10)
  | .sesInfoSet _ f => some (f.word 0x31 0x11)
  | .sessionSlotGrant _ => none
  | .tickWait _ f => some (f.word 0x32 0x00)
  | .tickDone _ f => some (f.word 0x32 0x01)
  | .csrGet _ f => some (f.word 0x38 0)
  | .csrPut _ f => some (f.word 0x38 1)
  | .csrMerge _ f => some (f.word 0x38 2)
  | .dlrel _ f => some (f.word 0x38 5)
  | .syscall _ f => some (f.word 0x38 6)
  | .yield _ f => some (f.word 0x38 7)
  | .tret _ f => some (f.word 0x38 7)
  | .regrd _ f => some (f.word 0x39 0)
  | .regwr _ f => some (f.word 0x39 1)
  | .xcsrr _ f => some (f.word 0x39 2)
  | .xcsrw _ f => some (f.word 0x39 3)
  | .evwait _ f => some (f.word 0x39 4)
  | .evwaitWake _ => none
  | .worldLoadComplete _ => none
  | .storeAcknowledge _ => none
  | .atomicComplete _ => none
  | .fillComplete _ => none
  | .sdmaComplete _ => none
  | .directoryResponse _ => none
  | .completionTrap _ _ => none
  | .waitBreakerCheck _ _ => none
  | .ceCtrlWrite _ _ => none
  | .ceStrandEnWrite _ _ => none
  | .strandResume _ _ => none
  | .strandRedirect _ _ => none
  | .strandForward _ _ => none
  | .strandStop _ _ => none
  | .ceImemDataWrite _ _ => none
  | .ceImemDataRead _ _ => none
  | .ceRangeCommit _ => none
  | .migrationStart _ _ => none
  | .migrationQuiet _ => none
  | .migrationWaitExpired _ => none
  | .migrationCopyComplete _ => none
  | .svWdogKick => none
  | .watchdogExpire => none
  | .engineHangDetect _ => none
  | .tickStart => none
  | .simulateOpen => none
  | .commitDeadlineMiss => none
  | .heldFrameRepeat => none
  | .commitConditionsMet => none
  | .commitOpen => none
  | .commitClose => none
  | .tkSchedCommit => none
  | .tkRunClear => none
  | .tkRunSet => none
  | .tkWarmStart => none
  | .warmRestartComplete => none
  | .edResolveKeep _ => none
  | .edResolveFree _ => none
  | .edTornCursorWrite _ => none
  | .edGridWrite _ => none
  | .snapshotStart => none
  | .snapshotAbort => none
  | .snapshotRoundEnd => none
  | .snapshotHoldExpire => none
  | .snapshotComplete => none
  | .snapshotRestoreStart => none
  | .snapshotRestoreComplete => none
  | .stCtxRead => none
  | .stCtxCreate => none
  | .stCtxClose _ => none
  | .stCtxKeyframe => none
  | .stCtxMove _ => none
  | .stFwEventPop _ => none
  | .ageSweep => none
  | .sessionFreed _ => none
  | .worldDatagramReceive _ _ _ _ => none
  | .roundBuildStart _ => none
  | .roundBuildComplete _ => none
  | .egressTransmit _ => none
  | .windowClose _ => none
  | .duPanicRaise _ _ => none
  | .duPanicDrop _ _ => none
  | .duBuildOverrun _ => none
  | .duEncCommit => none
  | .ptCfgWrite _ => none
  | .laneLinkUp _ => none
  | .laneLinkDown _ => none
  | .ptDistWrite _ _ => none
  | .trainFreeze _ => none
  | .trainRelease _ => none
  | .trainAdaptPass _ => none
  | .trainApplyTxfir _ => none
  | .trainPreset _ _ => none
  | .trainRestart _ => none
  | .trainCommandComplete _ _ => none
  | .pmaReset _ => none
  | .bitSlip _ _ => none
  | .patternModeSet _ _ => none
  | .errorInject _ => none
  | .periodicErrorInject _ _ => none
  | .frameReceive _ _ => none
  | .fwrxPop _ => none
  | .fwtxSend _ => none
  | .txtsPop _ => none
  | .ptPortClr _ => none
  | .tbIncrWrite _ => none
  | .tbStep _ => none
  | .tbSlew _ => none
  | .refclkLoss _ => none
  | .refclkTbReturn => none
  | .ppsOut => none
  | .ppsIn => none
  | .lnmLinkDown => none
  | .mgmtQueueFull _ => none
  | .identify _ => none
  | .provisionKey _ => none
  | .rotateKey _ => none
  | .keySlotCommit => none
  | .regRead _ => none
  | .regWrite _ => none
  | .regModify _ => none
  | .modeSet _ => none
  | .reset _ => none
  | .imageBegin _ => none
  | .imageData _ => none
  | .imageEnd _ => none
  | .imageVerifyComplete => none
  | .imageTransferTimeout => none
  | .titleKeySet _ => none
  | .memRead _ => none
  | .memWrite _ => none
  | .sesCreate _ => none
  | .sesClose _ => none
  | .sesMove _ => none
  | .sesKeyframe _ => none
  | .sesRead _ => none
  | .snapKey _ => none
  | .dumpInfo _ => none
  | .dumpRead _ => none
  | .dumpClear _ => none
  | .eventRead _ => none
  | .chRate _ => none
  | .poll _ => none
  | .globalModeSet _ => none
  | .drainSessionClose => none
  | .drainComplete => none
  | .drainTimeout => none
  | .focusComplete => none
  | .haltEntry _ => none
  | .coldReset _ => none
  | .warmReset => none
  | .requestAdmit _ => none
  | .requestOverdue _ => none
  | .sequencerSlot _ _ => none
  | .dramReadDecode _ _ => none
  | .mergeReadDecode _ _ _ => none
  | .chmapCommit => none
  | .chmapDrainComplete => none
  | .channelCopyGranule _ _ => none
  | .copySourceFail _ => none
  | .rgCommit => none
  | .chArbCommit _ => none
  | .chSchedWrite _ _ => none
  | .chSlotcommit _ => none
  | .frameBoundary _ => none
  | .channelPanicLimit _ => none
  | .rgCntClr => none
  | .refreshDuePoint _ _ => none
  | .manualRefresh _ _ => none
  | .chRpCtrlWrite _ _ => none
  | .selfRefreshEntry _ => none
  | .selfRefreshExit _ => none
  | .fixerWake _ => none
  | .canaryCheck _ _ => none
  | .fixerRead _ => none
  | .fixerReadComplete _ _ => none
  | .chUeClr _ => none
  | .chEccClr _ => none
  | .caParityError _ _ _ _ => none
  | .halfWidthConversionStep _ _ => none
  | .trnRunStep _ _ _ => none
  | .trnMeasureEye _ _ => none
  | .trnCentre _ _ _ => none
  | .trnBitSlip _ _ _ _ => none
  | .trnRetrainLine _ _ => none
  | .trnFull _ => none
  | .channelTrainingComplete _ _ => none
  | .maintenanceStall _ => none
  | .bistStart => none
  | .bistAbort => none
  | .bistSlice _ => none
  | .softRepairApply _ _ => none
  | .fuseProgram _ => none
  | .fuseProgramComplete _ => none
  | .calibrationDue _ => none
  | .trimEvaluation => none
  | .calibrationRerun _ _ => none
  | .calTrimWrite _ => none
  | .thermalLadderEvaluation _ => none
  | .thermalTrip _ => none
  | .thermalModelUpdate _ => none
  | .delayLineMeasure _ _ _ => none
  | .ldoMonitor _ => none
  | .railMonitor _ _ => none
  | .capEnforce _ => none
  | .governorEvaluate => none
  | .voltageStepComplete _ => none
  | .pwrDomWrite _ _ => none
  | .domainTransitionComplete _ => none
  | .faultEventAccept => none
  | .fenceComplete _ => none
  | .shadowExpire _ _ => none
  | .faultLatchClear _ _ _ => none
  | .faultCaptureRelease _ => none
  | .fcInject _ => none
  | .fcEngReassign _ => none
  | .edFixRetire _ => none
  | .edFixWrite _ => none
  | .scratchDump => none
  | .scratchDumpComplete => none
  | .meshCrcError _ _ _ => none
  | .pmCommit => none
  | .pmCounterWrite _ _ => none
  | .contactSheetDue => none
  | .contactSheetComplete => none
  | .loupeCtrlWrite _ => none
  | .loupeDataRead _ => none
  | .pairLowRead _ _ => none
  | .registerWrite _ _ _ => none
  | .tapReset => none
  | .idcode => none
  | .samplePreload _ => none
  | .extest => none
  | .highz => none
  | .clamp => none
  | .bypass => none
  | .resetNRise _ _ => none
  | .lnmLinkUp => none
  | .checkerLock _ => none
  | .checkerLockLoss _ => none
  | .joinPassEnd _ => none
  | .tbSlewComplete => none
  | .laneEnable _ _ => none
  | .pmTagWrite _ => none
  | .pwrCeSetCodeWrite _ _ => none
  | .badCommandFrame _ => none

/-! ## Decoding -/

/-- The INT group (R67). -/
def decodeInt (i : Iss) (w : Word32) : Option Instr :=
  match functA w with
  | 0x00 => some (.add i (wordA w))
  | 0x01 => some (.sub i (wordA w))
  | 0x02 => some (.and i (wordA w))
  | 0x03 => some (.or i (wordA w))
  | 0x04 => some (.xor i (wordA w))
  | 0x05 => some (.andn i (wordA w))
  | 0x06 => some (.sll i (wordA w))
  | 0x07 => some (.srl i (wordA w))
  | 0x08 => some (.sra i (wordA w))
  | 0x09 => some (.min i (wordA w))
  | 0x0a => some (.max i (wordA w))
  | 0x0b => some (.minu i (wordA w))
  | 0x0c => some (.maxu i (wordA w))
  | 0x0d => some (.sel i (wordA w))
  | 0x0e => some (.clz i (wordA w))
  | 0x0f => some (.popc i (wordA w))
  | 0x10 => some (.mul i (wordA w))
  | 0x11 => some (.mulh i (wordA w))
  | 0x12 => some (.mulhu i (wordA w))
  | 0x14 => some (.div i (wordA w))
  | 0x15 => some (.divu i (wordA w))
  | 0x16 => some (.rem i (wordA w))
  | 0x17 => some (.remu i (wordA w))
  | 0x18 => some (.zext32 i (wordA w))
  | 0x19 => some (.sext32 i (wordA w))
  | _ => none

/-- The CMP group (R69). -/
def decodeCmp (i : Iss) (w : Word32) : Option Instr :=
  match functA w with
  | 0x00 => some (.cmpEq i (wordA w))
  | 0x01 => some (.cmpNe i (wordA w))
  | 0x02 => some (.cmpLt i (wordA w))
  | 0x03 => some (.cmpGe i (wordA w))
  | 0x04 => some (.cmpLtu i (wordA w))
  | 0x05 => some (.cmpGeu i (wordA w))
  | 0x06 => some (.cmpBits i (wordA w))
  | _ => none

/-- The PLOG group (R69). -/
def decodePlog (i : Iss) (w : Word32) : Option Instr :=
  match functA w with
  | 0x00 => some (.pand i (wordA w))
  | 0x01 => some (.por i (wordA w))
  | 0x02 => some (.pxor i (wordA w))
  | 0x03 => some (.pandn i (wordA w))
  | 0x04 => some (.pset i (wordA w))
  | 0x05 => some (.pclr i (wordA w))
  | 0x06 => some (.pnz i (wordA w))
  | _ => none

/-- The FP group (R70). -/
def decodeFp (i : Iss) (w : Word32) : Option Instr :=
  match functA w with
  | 0x00 => some (.fadd i (wordA w))
  | 0x01 => some (.fsub i (wordA w))
  | 0x02 => some (.fmul i (wordA w))
  | 0x03 => some (.fmadd i (wordA w))
  | 0x04 => some (.fmsub i (wordA w))
  | 0x05 => some (.fdiv i (wordA w))
  | 0x06 => some (.fsqrt i (wordA w))
  | 0x07 => some (.fmin i (wordA w))
  | 0x08 => some (.fmax i (wordA w))
  | 0x09 => some (.fabs i (wordA w))
  | 0x0a => some (.fneg i (wordA w))
  | 0x0b => some (.fcvtSW i (wordA w))
  | 0x0c => some (.fcvtWS i (wordA w))
  | 0x10 => some (.feq i (wordA w))
  | 0x11 => some (.flt i (wordA w))
  | 0x12 => some (.fle i (wordA w))
  | _ => none

/-- The VEC group (R71). -/
def decodeVec (i : Iss) (w : Word32) : Option Instr :=
  match functA w with
  | 0x00 => some (.vadd i (wordA w))
  | 0x01 => some (.vsub i (wordA w))
  | 0x02 => some (.vmul i (wordA w))
  | 0x03 => some (.vfma i (wordA w))
  | 0x04 => some (.vmin i (wordA w))
  | 0x05 => some (.vmax i (wordA w))
  | 0x06 => some (.vdot i (wordA w))
  | 0x07 => some (.vsplat i (wordA w))
  | 0x08 => some (.vext i (wordA w))
  | 0x09 => some (.vins i (wordA w))
  | 0x0a => some (.vmov i (wordA w))
  | _ => none

/-- The MEM group (R75 to R77). -/
def decodeMem (i : Iss) (w : Word32) : Option Instr :=
  match functE w with
  | 0x00 => some (.fill i (wordE w))
  | 0x01 => some (.sdmaIn i (wordE w))
  | 0x02 => some (.sdmaOut i (wordE w))
  | 0x10 => some (.amoAdd i false (wordE w))
  | 0x30 => some (.amoAdd i true (wordE w))
  | 0x11 => some (.amoAnd i false (wordE w))
  | 0x31 => some (.amoAnd i true (wordE w))
  | 0x12 => some (.amoOr i false (wordE w))
  | 0x32 => some (.amoOr i true (wordE w))
  | 0x13 => some (.amoXor i false (wordE w))
  | 0x33 => some (.amoXor i true (wordE w))
  | 0x14 => some (.amoSmin i false (wordE w))
  | 0x34 => some (.amoSmin i true (wordE w))
  | 0x15 => some (.amoSmax i false (wordE w))
  | 0x35 => some (.amoSmax i true (wordE w))
  | 0x16 => some (.amoUmin i false (wordE w))
  | 0x36 => some (.amoUmin i true (wordE w))
  | 0x17 => some (.amoUmax i false (wordE w))
  | 0x37 => some (.amoUmax i true (wordE w))
  | 0x18 => some (.amoSwap i false (wordE w))
  | 0x38 => some (.amoSwap i true (wordE w))
  | 0x19 => some (.amoCas i false (wordE w))
  | 0x39 => some (.amoCas i true (wordE w))
  | _ => none

/-- The ENT group (R81). -/
def decodeEnt (i : Iss) (w : Word32) : Option Instr :=
  match functE w with
  | 0x00 => some (.entGetL i (wordE w))
  | 0x01 => some (.entGetN i (wordE w))
  | 0x02 => some (.entGetE i (wordE w))
  | 0x08 => some (.entLock i (wordE w))
  | 0x09 => some (.entUnlock i (wordE w))
  | 0x10 => some (.entPub i (wordE w))
  | 0x18 => some (.entNew i (wordE w))
  | 0x19 => some (.entFree i (wordE w))
  | 0x1a => some (.entMove i (wordE w))
  | _ => none

/-- The SES group (R87). -/
def decodeSes (i : Iss) (w : Word32) : Option Instr :=
  match functE w with
  | 0x00 => some (.sesRecv i (wordE w))
  | 0x08 => some (.sesSend i (wordE w))
  | 0x10 => some (.sesInfo i (wordE w))
  | 0x11 => some (.sesInfoSet i (wordE w))
  | _ => none

/-- The TICK group (R429). -/
def decodeTick (i : Iss) (w : Word32) : Option Instr :=
  match functE w with
  | 0x00 => some (.tickWait i (wordE w))
  | 0x01 => some (.tickDone i (wordE w))
  | _ => none

/-- The SYS group (R94). -/
def decodeSys (i : Iss) (w : Word32) : Option Instr :=
  match functX w with
  | 0 => some (.csrGet i (wordX w))
  | 1 => some (.csrPut i (wordX w))
  | 2 => some (.csrMerge i (wordX w))
  | 4 => some (.fence i (wordX w))
  | 5 => some (.dlrel i (wordX w))
  | 6 => some (.syscall i (wordX w))
  | 7 => if (wordX w).imm = 0 then some (.yield i (wordX w)) else some (.tret i (wordX w))
  | _ => none

/-- The PRIV group (R98). -/
def decodePriv (i : Iss) (w : Word32) : Option Instr :=
  match functX w with
  | 0 => some (.regrd i (wordX w))
  | 1 => some (.regwr i (wordX w))
  | 2 => some (.xcsrr i (wordX w))
  | 3 => some (.xcsrw i (wordX w))
  | 4 => some (.evwait i (wordX w))
  | _ => none

/-- The instruction of a word by its major opcode (R65) and function code, before its unused fields are looked at. -/
def decodeRaw (i : Iss) (w : Word32) : Option Instr :=
  match opcodeOf w with
  | 0x01 => decodeInt i w
  | 0x02 => decodeCmp i w
  | 0x03 => decodePlog i w
  | 0x04 => decodeFp i w
  | 0x05 => decodeVec i w
  | 0x08 => some (.addi i (wordI w))
  | 0x09 => some (.andi i (wordI w))
  | 0x0a => some (.ori i (wordI w))
  | 0x0b => some (.xori i (wordI w))
  | 0x0c => some (.shi i (wordI w))
  | 0x0d => some (.shor i (wordI w))
  | 0x10 => some (.ld i (wordL w))
  | 0x11 => some (.ldu i (wordL w))
  | 0x12 => some (.st i (wordL w))
  | 0x13 => some (.vld i (wordL w))
  | 0x14 => some (.vst i (wordL w))
  | 0x15 => some (.sld i (wordL w))
  | 0x16 => some (.sldu i (wordL w))
  | 0x17 => some (.sst i (wordL w))
  | 0x18 => some (.svld i (wordL w))
  | 0x19 => some (.svst i (wordL w))
  | 0x20 => decodeMem i w
  | 0x28 => some (.br i (wordB w))
  | 0x29 => some (.call i (wordB w))
  | 0x2a => some (.jr i (wordB w))
  | 0x30 => decodeEnt i w
  | 0x31 => decodeSes i w
  | 0x32 => decodeTick i w
  | 0x38 => decodeSys i w
  | 0x39 => decodePriv i w
  | _ => none

/-- The instruction of a word issued by `i`; none where the word is a bad encoding, which traps ILLEGAL, subcode 0 (R62). -/
def decodeSillar (i : Iss) (w : Word32) : Option Instr :=
  match decodeRaw i w with
  | some c => if c.wf then some c else none
  | none => none

end Sys2Proof
end

