-- ==== Sys2Proof/Config.lean ====
section
/-!
DEFINITION. What the spec leaves open: opaque constants with no body, so that no proof can see a value. Each is named in
a row of the assumption log.
-/

namespace Sys2Proof

/-- A free value: the `n`-th value the spec leaves undefined on a run (`State.free` counts them).
DESIGN CHOICE, safe (log 10). -/
opaque Config.freeValue : Nat → Nat

/-- Whether a fused multiply-add of an infinity and a zero raises INV when the addend is a quiet NaN: IEEE 754, which
R70 follows, leaves it to the implementation. DESIGN CHOICE, safe (log 32). -/
opaque Config.fmaQuietInvalid : Bool

/-- The fused coefficients of the thermal model by die position (R342): the conductances down and up, the heating in units of
2^-20 °C for 10 mW, the time constant in ms. -/
opaque Config.thermDown : Nat → Nat
opaque Config.thermUp : Nat → Nat
opaque Config.thermHeat : Nat → Nat
opaque Config.thermTau : Nat → Nat

/-- The share a DRAM or spare die position has of a power drawn while no channel was given a command (R342: the spec apportions it by
command counts). DESIGN CHOICE, safe (log 211). -/
opaque Config.idleShare : Nat → Nat → Nat

/-- The factory trims fused for an item and instance at 25, 60 and 95 °C (R335: point 0, 1, 2), and the fused plausibility window of
an item (R336). -/
opaque Config.trimSet : Nat → Nat → Nat → Nat
opaque Config.trimWindow : Nat → Nat

/-- The flits of a mesh message: whether it is a response, the event its operation counts at issue, its bytes. The spec gives no flit
size. DESIGN CHOICE, unsafe (log 164). -/
opaque Config.meshFlits : Bool → Nat → Nat → Nat

/-- The mesh bulk credits of a half, less one: R50 names the resource and gives no number. DESIGN CHOICE, unsafe (log 171). -/
opaque Config.meshCredits : Nat → Nat

/-- The four public keys in the boot ROM (R221): X in the upper 384 bits, Y in the lower. -/
opaque Config.romKey : Nat → Nat

end Sys2Proof
end

