-- ==== Sys2Proof/Machine/Fp32.lean ====
section
/-!
DEFINITION. FP32 arithmetic (R70): IEEE 754 binary32 with subnormal inputs read as zero, tiny results written as zero
with UNF and INX, one canonical NaN, and four rounding modes. Every operation answers the 32 result bits and the five
flags as a number (1 INV, 2 DIVZ, 4 OVF, 8 UNF, 16 INX), the order of `fpstat[12:8]` (R99).
-/

namespace Sys2Proof.Machine

/-- The flags of one operation. -/
abbrev fpINV : Nat := 1
abbrev fpDIVZ : Nat := 2
abbrev fpOVF : Nat := 4
abbrev fpUNF : Nat := 8
abbrev fpINX : Nat := 16

/-- The canonical quiet NaN (R70). -/
abbrev fpNaN : Word32 := 0x7FC00000#32

/-- What 32 bits stand for: a NaN (signalling or not), an infinity, a zero, or the finite value `m * 2 ^ e` with
`m` of 24 bits. A subnormal reads as zero of the same sign (R70). -/
inductive FVal where
  | nan (signalling : Bool)
  | inf (neg : Bool)
  | zero (neg : Bool)
  | fin (neg : Bool) (m : Nat) (e : Int)
  deriving DecidableEq, Repr

def fpUnpack (x : Word32) : FVal :=
  let n := x.toNat
  let neg := bitOf n 31
  let ex := bitsOf n 23 8
  let fr := bitsOf n 0 23
  if ex = 255 then (if fr = 0 then .inf neg else .nan (!bitOf n 22))
  else if ex = 0 then .zero neg
  else .fin neg (2 ^ 23 + fr) ((ex : Int) - 150)

def fpSign (neg : Bool) : Nat := if neg then 2 ^ 31 else 0
def fpZero (neg : Bool) : Word32 := BitVec.ofNat 32 (fpSign neg)
def fpInf (neg : Bool) : Word32 := BitVec.ofNat 32 (fpSign neg + 255 * 2 ^ 23)
/-- The finite value of largest magnitude. -/
def fpMax (neg : Bool) : Word32 := BitVec.ofNat 32 (fpSign neg + 254 * 2 ^ 23 + (2 ^ 23 - 1))

/-- Whether a magnitude with remainder `rem` of `2 * half` units below the last place rounds up: mode 0 nearest, ties to
even; 1 toward −∞; 2 toward zero; 3 toward +∞ (R70). `rem2` is twice the remainder, plus 1 where more lies below it. -/
def fpRoundUp (mode : Nat) (neg odd : Bool) (rem2 half2 : Nat) : Bool :=
  match mode with
  | 0 => decide (half2 < rem2) || (decide (rem2 = half2) && odd)
  | 1 => neg && decide (rem2 ≠ 0)
  | 3 => !neg && decide (rem2 ≠ 0)
  | _ => false

/-- Overflow (R70): infinity, or the largest finite value where the mode rounds toward zero. -/
def fpOverflow (mode : Nat) (neg : Bool) : Word32 :=
  match mode with
  | 0 => fpInf neg
  | 1 => if neg then fpInf neg else fpMax neg
  | 3 => if neg then fpMax neg else fpInf neg
  | _ => fpMax neg

/-- Round the non-zero value `± (n + s) * 2 ^ e`, where `0 < s < 1` if `sticky` and `s = 0` if not, to FP32 (R70). -/
def fpRound (mode : Nat) (neg : Bool) (n : Nat) (e : Int) (sticky : Bool) : Word32 × Nat :=
  let top : Int := (Nat.log2 n : Int) + e
  if top < -126 then (fpZero neg, fpUNF + fpINX)
  else
    let q : Int := top - 23
    let d : Nat := (q - e).toNat
    let u : Nat := (e - q).toNat
    let m := n * 2 ^ u / 2 ^ d
    let rem2 := 2 * (n * 2 ^ u % 2 ^ d) + b2n sticky
    let up := fpRoundUp mode neg (m % 2 == 1) rem2 (2 ^ d)
    let inx := if rem2 = 0 then 0 else fpINX
    let m' := if up then m + 1 else m
    let top' : Int := if m' = 2 ^ 24 then top + 1 else top
    let fr := if m' = 2 ^ 24 then 0 else m' - 2 ^ 23
    if 127 < top' then (fpOverflow mode neg, fpOVF + fpINX)
    else (BitVec.ofNat 32 (fpSign neg + (top' + 127).toNat * 2 ^ 23 + fr), inx)

/-- The exact sum of two signed dyadics, rounded; an exact zero sum of values not both of one sign is +0, or −0 when
rounding toward −∞ (IEEE 754). -/
def fpSumFin (mode : Nat) (n1 : Bool) (m1 : Nat) (e1 : Int) (n2 : Bool) (m2 : Nat) (e2 : Int) : Word32 × Nat :=
  let e := min e1 e2
  let a : Int := (m1 * 2 ^ (e1 - e).toNat : Nat)
  let b : Int := (m2 * 2 ^ (e2 - e).toNat : Nat)
  let t : Int := (if n1 then -a else a) + (if n2 then -b else b)
  if t = 0 then (fpZero (mode == 1), 0)
  else fpRound mode (decide (t < 0)) t.natAbs e false

def fpIsNaN (x : FVal) : Bool := match x with | .nan _ => true | _ => false
def fpIsSNaN (x : FVal) : Bool := match x with | .nan b => b | _ => false
/-- INV if an operand is a signalling NaN (R70). -/
def fpSig (xs : List FVal) : Nat := if xs.any fpIsSNaN then fpINV else 0

/-- The sum of two values that are no NaN. -/
def fpAddVal (mode : Nat) (a b : FVal) : Word32 × Nat :=
  match a, b with
  | .inf n, .inf k => if n = k then (fpInf n, 0) else (fpNaN, fpINV)
  | .inf n, _ => (fpInf n, 0)
  | _, .inf n => (fpInf n, 0)
  | .zero n, .zero k => if n = k then (fpZero n, 0) else (fpZero (mode == 1), 0)
  | .zero _, .fin n m e => fpRound mode n m e false
  | .fin n m e, .zero _ => fpRound mode n m e false
  | .fin n m e, .fin k l f => fpSumFin mode n m e k l f
  | _, _ => (fpNaN, 0)

def fpNegVal (a : FVal) : FVal :=
  match a with
  | .nan b => .nan b
  | .inf n => .inf (!n)
  | .zero n => .zero (!n)
  | .fin n m e => .fin (!n) m e

def fpAdd (mode : Nat) (x y : Word32) : Word32 × Nat :=
  let a := fpUnpack x
  let b := fpUnpack y
  if fpIsNaN a || fpIsNaN b then (fpNaN, fpSig [a, b]) else fpAddVal mode a b

def fpSub (mode : Nat) (x y : Word32) : Word32 × Nat :=
  let a := fpUnpack x
  let b := fpUnpack y
  if fpIsNaN a || fpIsNaN b then (fpNaN, fpSig [a, b]) else fpAddVal mode a (fpNegVal b)

/-- The exact product of two values that are no NaN; none where it is invalid (an infinity times a zero). -/
def fpProd (a b : FVal) : Option FVal :=
  match a, b with
  | .inf _, .zero _ => none
  | .zero _, .inf _ => none
  | .inf n, .inf k => some (.inf (n != k))
  | .inf n, .fin k _ _ => some (.inf (n != k))
  | .fin n _ _, .inf k => some (.inf (n != k))
  | .zero n, .zero k => some (.zero (n != k))
  | .zero n, .fin k _ _ => some (.zero (n != k))
  | .fin n _ _, .zero k => some (.zero (n != k))
  | .fin n m e, .fin k l f => some (.fin (n != k) (m * l) (e + f))
  | _, _ => none

def fpMul (mode : Nat) (x y : Word32) : Word32 × Nat :=
  let a := fpUnpack x
  let b := fpUnpack y
  if fpIsNaN a || fpIsNaN b then (fpNaN, fpSig [a, b])
  else
    match fpProd a b with
    | none => (fpNaN, fpINV)
    | some (.inf n) => (fpInf n, 0)
    | some (.zero n) => (fpZero n, 0)
    | some (.fin n m e) => fpRound mode n m e false
    | some (.nan _) => (fpNaN, 0)

/-- `z + x * y`, or `z - x * y`, rounded once (R70). -/
def fpFma (mode : Nat) (sub : Bool) (z x y : Word32) : Word32 × Nat :=
  let c := fpUnpack z
  let a := fpUnpack x
  let b := fpUnpack y
  if fpIsNaN a || fpIsNaN b then (fpNaN, fpSig [a, b, c])
  else
    match fpProd a b with
    | none =>
      if fpIsNaN c then
        (fpNaN, if fpIsSNaN c || Config.fmaQuietInvalid then fpINV else 0)
      else (fpNaN, fpINV)
    | some p =>
      if fpIsNaN c then (fpNaN, fpSig [c]) else fpAddVal mode c (if sub then fpNegVal p else p)

def fpDiv (mode : Nat) (x y : Word32) : Word32 × Nat :=
  let a := fpUnpack x
  let b := fpUnpack y
  if fpIsNaN a || fpIsNaN b then (fpNaN, fpSig [a, b])
  else
    match a, b with
    | .inf _, .inf _ => (fpNaN, fpINV)
    | .zero _, .zero _ => (fpNaN, fpINV)
    | .inf n, .zero k => (fpInf (n != k), 0)
    | .inf n, .fin k _ _ => (fpInf (n != k), 0)
    | .fin n _ _, .inf k => (fpZero (n != k), 0)
    | .zero n, .inf k => (fpZero (n != k), 0)
    | .zero n, .fin k _ _ => (fpZero (n != k), 0)
    | .fin n _ _, .zero k => (fpInf (n != k), fpDIVZ)
    | .fin n m e, .fin k l f =>
      fpRound mode (n != k) (m * 2 ^ 28 / l) (e - f - 28) (m * 2 ^ 28 % l != 0)
    | _, _ => (fpNaN, 0)

/-- The integer square root, bit by bit from `2 ^ k`. -/
def natSqrtBits : Nat → Nat → Nat → Nat
  | 0, _, r => r
  | k + 1, n, r => if (r + 2 ^ k) * (r + 2 ^ k) ≤ n then natSqrtBits k n (r + 2 ^ k) else natSqrtBits k n r

def fpSqrt (mode : Nat) (x : Word32) : Word32 × Nat :=
  match fpUnpack x with
  | .nan b => (fpNaN, if b then fpINV else 0)
  | .inf n => if n then (fpNaN, fpINV) else (fpInf false, 0)
  | .zero n => (fpZero n, 0)
  | .fin n m e =>
    if n then (fpNaN, fpINV)
    else
      let odd := e % 2 != 0
      let w := if odd then m * 2 ^ 31 else m * 2 ^ 30
      let f := if odd then e - 31 else e - 30
      let r := natSqrtBits 28 w 0
      fpRound mode false r (f / 2) (r * r != w)

/-- The exact order of two values that are no NaN, −0 below +0 where `signedZero`. -/
def fpKey (a : FVal) : Int :=
  match a with
  | .nan _ => 0
  | .inf n => if n then -(2 ^ 400 : Nat) else (2 ^ 400 : Nat)
  | .zero _ => 0
  | .fin n m e => (if n then -1 else 1) * ((m * 2 ^ (e + 149).toNat : Nat) : Int)

def fpLtVal (a b : FVal) : Bool := decide (fpKey a < fpKey b)
def fpNegZero (a : FVal) : Bool := match a with | .zero n => n | _ => false

/-- A subnormal operand as the zero it reads as (R70); any other bits unchanged. -/
def fpFlush (x : Word32) : Word32 :=
  match fpUnpack x with
  | .zero n => fpZero n
  | _ => x

/-- FMIN (R70): −0 below +0; one NaN yields the other operand, two the canonical NaN. DEDUCED, safe (log 31). -/
def fpMinMax (isMax : Bool) (x y : Word32) : Word32 × Nat :=
  let a := fpUnpack x
  let b := fpUnpack y
  let fl := fpSig [a, b]
  if fpIsNaN a && fpIsNaN b then (fpNaN, fl)
  else if fpIsNaN a then (fpFlush y, fl)
  else if fpIsNaN b then (fpFlush x, fl)
  else
    let aLess := fpLtVal a b || (fpKey a == fpKey b && fpNegZero a)
    (if aLess != isMax then fpFlush x else fpFlush y, fl)

def fpEq (x y : Word32) : Bool × Nat :=
  let a := fpUnpack x
  let b := fpUnpack y
  (!(fpIsNaN a || fpIsNaN b) && (fpKey a == fpKey b), fpSig [a, b])

def fpLt (x y : Word32) : Bool × Nat :=
  let a := fpUnpack x
  let b := fpUnpack y
  if fpIsNaN a || fpIsNaN b then (false, fpINV) else (fpLtVal a b, 0)

def fpLe (x y : Word32) : Bool × Nat :=
  let a := fpUnpack x
  let b := fpUnpack y
  if fpIsNaN a || fpIsNaN b then (false, fpINV) else (!fpLtVal b a, 0)

/-- FCVT.S.W: a signed 32-bit integer to FP32. -/
def fpOfInt (mode : Nat) (x : Word32) : Word32 × Nat :=
  let t := x.toInt
  if t = 0 then (fpZero false, 0) else fpRound mode (decide (t < 0)) t.natAbs 0 false

/-- FCVT.W.S: FP32 to a signed 32-bit integer; out of range saturates, NaN gives 0, both with INV. -/
def fpToInt (mode : Nat) (x : Word32) : Word32 × Nat :=
  let sat (n : Bool) : Word32 × Nat := (if n then 0x80000000#32 else 0x7FFFFFFF#32, fpINV)
  match fpUnpack x with
  | .nan _ => (0, fpINV)
  | .inf n => sat n
  | .zero _ => (0, 0)
  | .fin n m e =>
    if 8 < e then sat n
    else
      let d := (-e).toNat
      let w := m * 2 ^ e.toNat
      let q := w / 2 ^ d
      let rem2 := 2 * (w % 2 ^ d)
      let q' := if fpRoundUp mode n (q % 2 == 1) rem2 (2 ^ d) then q + 1 else q
      let t : Int := if n then -(q' : Int) else q'
      if t < -2147483648 || 2147483647 < t then sat n
      else (BitVec.ofInt 32 t, if rem2 = 0 then 0 else fpINX)

end Sys2Proof.Machine
end

