-- ==== Sys2Proof/Machine/Crypto.lean ====
section
/-!
DEFINITION. The published algorithms the spec names: CRC-32C (R189), SHA-256, SHA-384 and HMAC-SHA-256 (R189, R194, R208),
AES-128 and AES-256 with key wrap and GCM (R128, R130, R143, R194), ECDSA over P-384 (R208). Bytes are numbers below 256, most
significant first where a standard writes them so.
-/

namespace Sys2Proof.Machine

/-- Bytes to a number, most significant first. -/
def beNat (bs : List Nat) : Nat := bs.foldl (fun a b => 256 * a + b) 0
/-- The low `n` bytes of a number, most significant first. -/
def beBytes (n v : Nat) : List Nat := (List.range n).map fun k => v / 256 ^ (n - 1 - k) % 256
/-- Cut a list into pieces of `k`; `n` bounds the number of pieces. -/
def piecesOf {α : Type} (k : Nat) : Nat → List α → List (List α)
  | 0, _ => []
  | n + 1, l => if l.isEmpty then [] else l.take k :: piecesOf k n (l.drop k)
/-- All the pieces of `k` of a list. -/
def pieces {α : Type} (k : Nat) (l : List α) : List (List α) := piecesOf k (l.length / k + 1) l
/-- Exclusive or of two byte lists. -/
def xorBytes (a b : List Nat) : List Nat := List.zipWith (fun x y => x ^^^ y) a b

/-! ## CRC-32C (R189) -/

/-- One bit of the reflected CRC: the polynomial 0x1EDC6F41 reflected is 0x82F63B78. -/
def crcBit (c : Nat) : Nat := if c % 2 = 1 then c / 2 ^^^ 0x82F63B78 else c / 2
def crcByte (c b : Nat) : Nat := (List.range 8).foldl (fun a _ => crcBit a) (c ^^^ b)
def crc32c (bs : List Nat) : Nat := bs.foldl crcByte 0xFFFFFFFF ^^^ 0xFFFFFFFF

/-! ## SHA-2 -/

/-- Rotate a `w`-bit word right. -/
def rotr (w n x : Nat) : Nat := x / 2 ^ n + x % 2 ^ n * 2 ^ (w - n)

/-- The first 64 bits of the fractions of the cube roots of the primes. -/
def shaK_0 : List Nat := [
  0x428A2F98D728AE22, 0x7137449123EF65CD, 0xB5C0FBCFEC4D3B2F, 0xE9B5DBA58189DBBC, 0x3956C25BF348B538,
  0x59F111F1B605D019, 0x923F82A4AF194F9B, 0xAB1C5ED5DA6D8118, 0xD807AA98A3030242, 0x12835B0145706FBE,
  0x243185BE4EE4B28C, 0x550C7DC3D5FFB4E2, 0x72BE5D74F27B896F, 0x80DEB1FE3B1696B1, 0x9BDC06A725C71235,
  0xC19BF174CF692694, 0xE49B69C19EF14AD2, 0xEFBE4786384F25E3, 0x0FC19DC68B8CD5B5, 0x240CA1CC77AC9C65]
/-- The first 64 bits of the fractions of the cube roots of the primes. -/
def shaK_1 : List Nat := [
  0x2DE92C6F592B0275, 0x4A7484AA6EA6E483, 0x5CB0A9DCBD41FBD4, 0x76F988DA831153B5, 0x983E5152EE66DFAB,
  0xA831C66D2DB43210, 0xB00327C898FB213F, 0xBF597FC7BEEF0EE4, 0xC6E00BF33DA88FC2, 0xD5A79147930AA725,
  0x06CA6351E003826F, 0x142929670A0E6E70, 0x27B70A8546D22FFC, 0x2E1B21385C26C926, 0x4D2C6DFC5AC42AED,
  0x53380D139D95B3DF, 0x650A73548BAF63DE, 0x766A0ABB3C77B2A8, 0x81C2C92E47EDAEE6, 0x92722C851482353B]
/-- The first 64 bits of the fractions of the cube roots of the primes. -/
def shaK_2 : List Nat := [
  0xA2BFE8A14CF10364, 0xA81A664BBC423001, 0xC24B8B70D0F89791, 0xC76C51A30654BE30, 0xD192E819D6EF5218,
  0xD69906245565A910, 0xF40E35855771202A, 0x106AA07032BBD1B8, 0x19A4C116B8D2D0C8, 0x1E376C085141AB53,
  0x2748774CDF8EEB99, 0x34B0BCB5E19B48A8, 0x391C0CB3C5C95A63, 0x4ED8AA4AE3418ACB, 0x5B9CCA4F7763E373,
  0x682E6FF3D6B2B8A3, 0x748F82EE5DEFB2FC, 0x78A5636F43172F60, 0x84C87814A1F0AB72, 0x8CC702081A6439EC]
/-- The first 64 bits of the fractions of the cube roots of the primes. -/
def shaK_3 : List Nat := [
  0x90BEFFFA23631E28, 0xA4506CEBDE82BDE9, 0xBEF9A3F7B2C67915, 0xC67178F2E372532B, 0xCA273ECEEA26619C,
  0xD186B8C721C0C207, 0xEADA7DD6CDE0EB1E, 0xF57D4F7FEE6ED178, 0x06F067AA72176FBA, 0x0A637DC5A2C898A6,
  0x113F9804BEF90DAE, 0x1B710B35131C471B, 0x28DB77F523047D84, 0x32CAAB7B40C72493, 0x3C9EBE0A15C9BEBC,
  0x431D67C49C100D4C, 0x4CC5D4BECB3E42B6, 0x597F299CFC657E2A, 0x5FCB6FAB3AD6FAEC, 0x6C44198C4A475817]
def shaK : List Nat := shaK_0 ++ shaK_1 ++ shaK_2 ++ shaK_3
/-- The first 64 bits of the fractions of the square roots of the first eight primes, and of the next eight. -/
def shaH : List Nat := [
  0x6A09E667F3BCC908, 0xBB67AE8584CAA73B, 0x3C6EF372FE94F82B, 0xA54FF53A5F1D36F1, 0x510E527FADE682D1,
  0x9B05688C2B3E6C1F, 0x1F83D9ABFB41BD6B, 0x5BE0CD19137E2179]
def shaH384 : List Nat := [
  0xCBBB9D5DC1059ED8, 0x629A292A367CD507, 0x9159015A3070DD17, 0x152FECD8F70E5939, 0x67332667FFC00B31,
  0x8EB44A8768581511, 0xDB0C2E0D64F98FA7, 0x47B5481DBEFA4FA4]

/-- The parameters by which SHA-256 and SHA-384 differ: word width, rounds, and the rotations of the four functions (the third
of each lower pair shifts). -/
structure ShaP where
  w : Nat
  rounds : Nat
  s0 : Nat × Nat × Nat
  s1 : Nat × Nat × Nat
  b0 : Nat × Nat × Nat
  b1 : Nat × Nat × Nat

def sha256P : ShaP := ⟨32, 64, (7, 18, 3), (17, 19, 10), (2, 13, 22), (6, 11, 25)⟩
def sha512P : ShaP := ⟨64, 80, (1, 8, 7), (19, 61, 6), (28, 34, 39), (14, 18, 41)⟩

def shaSmall (w : Nat) (r : Nat × Nat × Nat) (x : Nat) : Nat := rotr w r.1 x ^^^ rotr w r.2.1 x ^^^ x / 2 ^ r.2.2
def shaBig (w : Nat) (r : Nat × Nat × Nat) (x : Nat) : Nat := rotr w r.1 x ^^^ rotr w r.2.1 x ^^^ rotr w r.2.2 x

/-- The message schedule, latest word first. -/
def shaSched (p : ShaP) : Nat → List Nat → List Nat
  | 0, l => l
  | n + 1, l =>
    let x := (shaSmall p.w p.s1 (l.getD 1 0) + l.getD 6 0 + shaSmall p.w p.s0 (l.getD 14 0) + l.getD 15 0) % 2 ^ p.w
    shaSched p n (x :: l)

def shaRound (p : ShaP) (h : List Nat) (kw : Nat × Nat) : List Nat :=
  match h with
  | [a, b, c, d, e, f, g, i] =>
    let m := 2 ^ p.w
    let t1 := i + shaBig p.w p.b1 e + ((e &&& f) ^^^ ((m - 1 - e) &&& g)) + kw.1 + kw.2
    let t2 := shaBig p.w p.b0 a + ((a &&& b) ^^^ (a &&& c) ^^^ (b &&& c))
    [(t1 + t2) % m, a, b, c, (d + t1) % m, e, f, g]
  | _ => h

/-- One block. -/
def shaBlock (p : ShaP) (ks : List Nat) (h : List Nat) (blk : List Nat) : List Nat :=
  let ws := (pieces (p.w / 8) blk).map beNat
  let sched := (shaSched p (p.rounds - 16) ws.reverse).reverse
  List.zipWith (fun x y => (x + y) % 2 ^ p.w) h ((ks.zip sched).foldl (shaRound p) h)

/-- The padding: a one bit, zeros, the length. -/
def shaPad (p : ShaP) (bs : List Nat) : List Nat :=
  let blk := 2 * p.w
  let tail := p.w / 4
  bs ++ [0x80] ++ List.replicate ((2 * blk - 1 - tail - bs.length % blk) % blk) 0 ++ beBytes tail (8 * bs.length)

def shaHash (p : ShaP) (ks h0 : List Nat) (bs : List Nat) : List Nat :=
  ((pieces (2 * p.w) (shaPad p bs)).foldl (shaBlock p ks) h0).flatMap (beBytes (p.w / 8))

def sha256 (bs : List Nat) : List Nat :=
  shaHash sha256P ((shaK.take 64).map (· / 2 ^ 32)) (shaH.map (· / 2 ^ 32)) bs
def sha384 (bs : List Nat) : List Nat := (shaHash sha512P shaK shaH384 bs).take 48

/-- HMAC-SHA-256 under a key of at most 64 bytes. -/
def hmac256 (key msg : List Nat) : List Nat :=
  let k := key ++ List.replicate (64 - key.length) 0
  sha256 (k.map (· ^^^ 0x5C) ++ sha256 (k.map (· ^^^ 0x36) ++ msg))

/-! ## AES -/

/-- Multiplication in GF(2^8) modulo x^8 + x^4 + x^3 + x + 1, on `k` bits of `b` from the top. -/
def aesMulBits : Nat → Nat → Nat → Nat → Nat
  | 0, _, _, acc => acc
  | k + 1, a, b, acc =>
    let d := 2 * acc
    let d := if 256 ≤ d then d ^^^ 0x11B else d
    aesMulBits k a b (if bitOf b k then d ^^^ a else d)
def aesMul (a b : Nat) : Nat := aesMulBits 8 a b 0

/-- The substitution of the bytes 0 to 255, 32 to a number, the lowest byte first. -/
def aesBox : List Nat := [
  0xC072A49CAFA2D4ADF04759FA7DC982CA76ABD7FE2B670130C56F6BF27B777C63,
  0x75B227EBE28012079A059618C323C7041531D871F1E5A534CCF73F362693FDB7,
  0xCF584C4A39BECB6A5BB1FC20ED00D153842FE329B3D63B52A05A6E1B1A2C8309,
  0xD2F3FF1021DAB6BCF5389D928F40A351A89F3C507F02F94585334D43FBAAEFD0,
  0xDB0B5EDE14B8EE4688902A22DC4F816073195D643D7EA7C41744975FEC130CCD,
  0x08AE7A65EAF4566CA94ED58D6D37C8E779E4959162ACD3C25C2406490A3A32E0,
  0x9E1DC186B95735610EF6034866B53E708A8BBD4B1F74DDE8C6B4A61C2E2578BA,
  0x16BB54B00F2D99416842E6BF0D89A18CDF2855CEE9871E9B948ED9691198F8E1]
/-- Its inverse. -/
def aesUnbox : List Nat := [
  0xCBE9DEC444438E3487FF2F9B8239E37CFBD7F3819EA340BF38A53630D56A0952,
  0x25D18B6D49A25B76B224D92866A12E084EC3FA420B954CEE3D23C2A632947B54,
  0x849D8DA75746155EDAB9EDFD5048706C92B6655DCC5CA4D41698688664F6F872,
  0x6B8A130103BDAFC1020F3FCA8F1E2CD00645B3B80558E4F70AD3BC8C00ABD890,
  0x6EDF751CE837F9E28535ADE72274AC9673E6B4F0CECFF297EADC674F4111913A,
  0xF45ACD78FEC0DB9A2079D2C64B3E56FC1BBE18AA0E62B76F89C5291D711AF147,
  0xEF9CC9939F7AE52D0D4AB519A97F51605FEC8027591012B131C7078833A8DD1F,
  0x7D0C2155631469E126D677BA7E042B17619953833CBBEBC8B0F52AAE4D3BE0A0]
/-- Entry `b` of such a table. -/
def boxAt (t : List Nat) (b : Nat) : Nat := t.getD (b / 32) 0 / 256 ^ (b % 32) % 256
/-- The substitution and its inverse. -/
def aesSub (b : Nat) : Nat := boxAt aesBox b
def aesUnsub (b : Nat) : Nat := boxAt aesUnbox b

/-- The key schedule, latest word first: `n` more words, `i` the number of the next, `nk` words of key. -/
def aesExpand (nk : Nat) : Nat → Nat → Nat → List (List Nat) → List (List Nat)
  | 0, _, _, l => l
  | n + 1, i, rc, l =>
    let t := l.headD []
    let t' :=
      if i % nk = 0 then xorBytes ((t.tail ++ t.take 1).map aesSub) [rc, 0, 0, 0]
      else if 6 < nk ∧ i % nk = 4 then t.map aesSub else t
    aesExpand nk n (i + 1) (if i % nk = 0 then aesMul rc 2 else rc) (xorBytes (l.getD (nk - 1) []) t' :: l)

/-- The round keys, 16 bytes each. -/
def aesKeys (key : List Nat) : List (List Nat) :=
  let nk := key.length / 4
  let ws := (aesExpand nk (4 * (nk + 7) - nk) nk 1 (pieces 4 key).reverse).reverse
  (pieces 4 ws).map List.flatten

/-- ShiftRows and its inverse, on 16 bytes by columns. -/
def aesShift (l : List Nat) : List Nat := (List.range 16).map fun i => l.getD ((i + 4 * (i % 4)) % 16) 0
def aesUnshift (l : List Nat) : List Nat := (List.range 16).map fun i => l.getD ((i + 12 * (i % 4)) % 16) 0

/-- Reduce a product of degree `k + 8` by one bit. -/
def aesReduce (k p : Nat) : Nat := p ^^^ p / 2 ^ (k + 8) % 2 * (0x11B * 2 ^ k)
/-- A byte by a coefficient of at most four bits. -/
def aesCoef (c b : Nat) : Nat :=
  aesReduce 0 (aesReduce 1 (aesReduce 2
    (c % 2 * b ^^^ c / 2 % 2 * (2 * b) ^^^ c / 4 % 2 * (4 * b) ^^^ c / 8 % 2 * (8 * b))))
/-- MixColumns by a row of coefficients of at most four bits. -/
def aesMix (m : List Nat) (l : List Nat) : List Nat :=
  (pieces 4 l).flatMap fun c => (List.range 4).map fun r =>
    ((List.range 4).map fun k => aesCoef (m.getD ((k + 4 - r) % 4) 0) (c.getD k 0)).foldl (· ^^^ ·) 0

/-- Encrypt one block. -/
def aesEnc (key blk : List Nat) : List Nat :=
  match aesKeys key with
  | [] => blk
  | k0 :: ks =>
    let s := (ks.dropLast).foldl (fun s k => xorBytes (aesMix [2, 3, 1, 1] (aesShift (s.map aesSub))) k) (xorBytes blk k0)
    xorBytes (aesShift (s.map aesSub)) (ks.getLastD [])

/-- Decrypt one block. -/
def aesDec (key blk : List Nat) : List Nat :=
  match (aesKeys key).reverse with
  | [] => blk
  | k0 :: ks =>
    let s := (ks.dropLast).foldl (fun s k => aesMix [14, 11, 13, 9] (xorBytes ((aesUnshift s).map aesUnsub) k))
      (xorBytes blk k0)
    xorBytes ((aesUnshift s).map aesUnsub) (ks.getLastD [])

/-! ## Key wrap (RFC 3394) -/

/-- Wrap a key of `n` 8-byte words. -/
def keyWrap (kek key : List Nat) : List Nat :=
  let n := key.length / 8
  let r := (List.range (6 * n)).foldl (fun (s : List Nat × List (List Nat)) t =>
    let i := t % n
    let b := aesEnc kek (s.1 ++ s.2.getD i [])
    (xorBytes (b.take 8) (beBytes 8 (t + 1)), s.2.set i (b.drop 8))) (List.replicate 8 0xA6, pieces 8 key)
  r.1 ++ r.2.flatten

/-- Unwrap a key; none where the integrity check fails. -/
def keyUnwrap (kek wrapped : List Nat) : Option (List Nat) :=
  let ws := pieces 8 wrapped
  let n := ws.length - 1
  let r := (List.range (6 * n)).foldl (fun (s : List Nat × List (List Nat)) k =>
    let t := 6 * n - k
    let i := (t - 1) % n
    let b := aesDec kek (xorBytes s.1 (beBytes 8 t) ++ s.2.getD i [])
    (b.take 8, s.2.set i (b.drop 8))) (ws.headD [], ws.tail)
  if r.1 = List.replicate 8 0xA6 then some r.2.flatten else none

/-! ## GCM -/

/-- Multiplication in GF(2^128) in GCM's bit order: `k` bits of `x` are left, `v` the shifted multiplier. -/
def gcmMulBits : Nat → Nat → Nat → Nat → Nat
  | 0, _, _, z => z
  | k + 1, x, v, z =>
    gcmMulBits k x (if v % 2 = 1 then v / 2 ^^^ 0xE1000000000000000000000000000000 else v / 2)
      (if bitOf x k then z ^^^ v else z)
def gcmMul (x y : Nat) : Nat := gcmMulBits 128 x y 0

/-- A block padded with zeros to 16 bytes. -/
def padBlock (l : List Nat) : List Nat := l ++ List.replicate (16 - l.length) 0

def ghash (h : Nat) (blocks : List (List Nat)) : Nat :=
  blocks.foldl (fun y b => gcmMul (y ^^^ beNat (padBlock b)) h) 0

/-- The counter stream from counter block `j + k`, over the data. -/
def gcmCtr (key nonce : List Nat) (data : List Nat) : List Nat :=
  ((pieces 16 data).zipIdx 2).flatMap fun e => xorBytes e.1 (aesEnc key (nonce ++ beBytes 4 e.2))

def gcmTag (key nonce aad ct : List Nat) : List Nat :=
  let h := beNat (aesEnc key (List.replicate 16 0))
  let y := ghash h (pieces 16 aad ++ pieces 16 ct ++ [beBytes 8 (8 * aad.length) ++ beBytes 8 (8 * ct.length)])
  xorBytes (beBytes 16 y) (aesEnc key (nonce ++ [0, 0, 0, 1]))

/-- Seal: the ciphertext and the 16-byte tag. -/
def gcmSeal (key nonce aad pt : List Nat) : List Nat :=
  let ct := gcmCtr key nonce pt
  ct ++ gcmTag key nonce aad ct

/-- Open: the plaintext; none where the tag is wrong. -/
def gcmOpen (key nonce aad ct tag : List Nat) : Option (List Nat) :=
  if gcmTag key nonce aad ct = tag then some (gcmCtr key nonce ct) else none

/-! ## ECDSA over P-384 -/

def p384P : Nat := 2 ^ 384 - 2 ^ 128 - 2 ^ 96 + 2 ^ 32 - 1
def p384N : Nat :=
  0xFFFFFFFFFFFFFFFFFFFFFFFFFFFFFFFFFFFFFFFFFFFFFFFFC7634D81F4372DDF581A0DB248B0A77AECEC196ACCC52973
def p384B : Nat :=
  0xB3312FA7E23EE7E4988E056BE3F82D19181D9C6EFE8141120314088F5013875AC656398D8A2ED19D2A85C8EDD3EC2AEF
def p384G : Nat × Nat :=
  (0xAA87CA22BE8B05378EB1C71EF320AD746E1D3B628BA79B9859F741E082542A385502F25DBF55296C3A545E3872760AB7,
   0x3617DE4A96262C6F5D9E98BF9292DC29F8F41DBD289A147CE9DA3113B5F0B8C00A60B1CE1D7E819D7A431D7C90EA0E5F)

/-- `a` to a power, modulo `m`, on `k` bits of the exponent. -/
def powMod (m a e : Nat) : Nat → Nat
  | 0 => 1
  | k + 1 =>
    let h := powMod m a (e / 2) k
    let q := h * h % m
    if e % 2 = 1 then q * a % m else q
/-- The inverse modulo a prime below 2^384. -/
def invMod (m a : Nat) : Nat := powMod m a (m - 2) 384

/-- The sum of two points of the curve; none is the point at infinity. -/
def ecAdd (a b : Option (Nat × Nat)) : Option (Nat × Nat) :=
  match a, b with
  | none, q => q
  | q, none => q
  | some (x1, y1), some (x2, y2) =>
    if x1 = x2 ∧ (y1 + y2) % p384P = 0 then none
    else
      let l :=
        if x1 = x2 then (3 * x1 * x1 + p384P - 3) * invMod p384P (2 * y1 % p384P) % p384P
        else (y2 + p384P - y1) * invMod p384P ((x2 + p384P - x1) % p384P) % p384P
      let x3 := (l * l + 2 * p384P - x1 - x2) % p384P
      some (x3, (l * (x1 + p384P - x3) + p384P - y1) % p384P)

/-- A multiple of a point, on `k` bits. -/
def ecMul (q : Option (Nat × Nat)) : Nat → Nat → Option (Nat × Nat)
  | 0, _ => none
  | k + 1, n =>
    let h := ecMul q k (n / 2)
    let d := ecAdd h h
    if n % 2 = 1 then ecAdd d q else d

/-- The point lies on the curve. -/
def ecOn (q : Nat × Nat) : Bool :=
  decide (q.1 < p384P) && decide (q.2 < p384P) &&
  decide (q.2 * q.2 % p384P = (q.1 * q.1 * q.1 + (p384P - 3) * q.1 + p384B) % p384P)

/-- Verify a signature (r, s) of a message under a public key. -/
def ecdsaVerify (pub : Nat × Nat) (msg : List Nat) (r s : Nat) : Bool :=
  let z := beNat (sha384 msg)
  let w := invMod p384N s
  ecOn pub && decide (0 < r) && decide (r < p384N) && decide (0 < s) && decide (s < p384N) &&
  match ecAdd (ecMul (some p384G) 384 (z * w % p384N)) (ecMul (some pub) 384 (r * w % p384N)) with
  | none => false
  | some q => q.1 % p384N == r

/-- A message's bytes as the algorithms take them, and back. -/
def toNats (bs : List Byte) : List Nat := bs.map BitVec.toNat
def ofNats (l : List Nat) : List Byte := l.map (BitVec.ofNat 8)

end Sys2Proof.Machine
end

