-- ==== Sys2Proof/Machine/SMap.lean ====
section
/-!
DEFINITION. Sparse data by number: a list of (key, value) pairs, keys strictly rising, in one canonical form: no entry
holds the value an unlisted key reads as. DRAM bytes, device registers, directory entries, session contexts and every
other large array of the stack are held so.
-/

namespace Sys2Proof.Machine

/-- Pairs of a key and its value, keys strictly rising. -/
abbrev SMap (α : Type) := List (Nat × α)

/-- The entry of key `k`, if it is listed. -/
def smapFind {α : Type} : SMap α → Nat → Option α
  | [], _ => none
  | (j, v) :: m, k => if k = j then some v else smapFind m k

/-- The value of key `k`; an unlisted key reads as `d`. -/
def smapGet {α : Type} (d : α) (m : SMap α) (k : Nat) : α := (smapFind m k).getD d

/-- The map with key `k` listed with value `v`. -/
def smapInsert {α : Type} : SMap α → Nat → α → SMap α
  | [], k, v => [(k, v)]
  | (j, w) :: m, k, v =>
    if k = j then (k, v) :: m else if k < j then (k, v) :: (j, w) :: m else (j, w) :: smapInsert m k v

/-- The map with key `k` unlisted. -/
def smapErase {α : Type} : SMap α → Nat → SMap α
  | [], _ => []
  | (j, w) :: m, k => if k = j then smapErase m k else (j, w) :: smapErase m k

/-- Write `v` at `k` and keep the canonical form: the value an unlisted key reads as is not listed.
DESIGN CHOICE, safe (log 12). -/
def smapPut {α : Type} [DecidableEq α] (d : α) (m : SMap α) (k : Nat) (v : α) : SMap α :=
  if v = d then smapErase m k else smapInsert m k v

/-- The entries whose key lies in `[lo, hi)`. -/
def smapSlice {α : Type} (m : SMap α) (lo hi : Nat) : SMap α := m.filter fun e => lo ≤ e.1 && e.1 < hi

/-- The map without the entries whose key lies in `[lo, hi)`. -/
def smapDrop {α : Type} (m : SMap α) (lo hi : Nat) : SMap α := m.filter fun e => !(lo ≤ e.1 && e.1 < hi)

/-- `m` with its entries in `[lo, hi)` replaced by those of `src` in that span. -/
def smapCopy {α : Type} (m src : SMap α) (lo hi : Nat) : SMap α :=
  m.filter (fun e => e.1 < lo) ++ smapSlice src lo hi ++ m.filter (fun e => hi ≤ e.1)

/-- Keys strictly rising, all above `b`, and no entry equal to the default. -/
def smapWfFrom {α : Type} [DecidableEq α] (d : α) : Option Nat → SMap α → Bool
  | _, [] => true
  | none, (k, v) :: m => decide (v ≠ d) && smapWfFrom d (some k) m
  | some b, (k, v) :: m => decide (b < k) && decide (v ≠ d) && smapWfFrom d (some k) m

/-- The canonical form: keys strictly rising, no entry equal to what an unlisted key reads as. -/
def smapWf {α : Type} [DecidableEq α] (d : α) (m : SMap α) : Bool := smapWfFrom d none m

end Sys2Proof.Machine
end

