-- ==== Sys2Proof/Machine/Regs.lean ====
section
/-!
DEFINITION. The device registers (R6, R212): for every register the spec's chapters define, its address, its fields,
their access codes (R8) and their reset entries (R9), written from the register tables of spec/00, 02, 04 to 15.
`F.<REGISTER>_<field>` is one field; `R.<REGISTER>` is the register with all its fields; `regTable` lists them by block.
An indexed register has one entry: its instance (i, j) lies at `base + i * s1 + j * s2`.
-/

namespace Sys2Proof.Machine

/-- The access codes of R8 (RSV fields are not listed: they read 0 and ignore writes). -/
inductive Acc where
  | rw | ro | wo | w1c | w1s | rws
  deriving DecidableEq, Repr

/-- The reset entry of a field (R9). `lin a b c`: the instance (i, j) resets to `a*i + b*j + c`. `special`: the
reset is worked out from another rule (a slot table built from the weights, the default fault map). -/
inductive Rst where
  | val (n : Nat)
  | lin (a b c : Nat)
  | fuse
  | undef
  | special
  deriving DecidableEq, Repr

/-- One field of a register family: the address of instance (0, 0), the two strides, the lowest bit, the width, the
access code and the reset entry. A field of a 64-bit pair may have bits 32 to 63 (R7). -/
structure Fld where
  base : Nat
  s1 : Nat
  s2 : Nat
  lo : Nat
  w : Nat
  acc : Acc
  rst : Rst
  deriving DecidableEq, Repr

/-- One register family: instance (0, 0)'s address, two (stride, count) dimensions, whether it is a 64-bit pair (R7),
and its fields. -/
structure RegD where
  base : Nat
  s1 : Nat
  n1 : Nat
  s2 : Nat
  n2 : Nat
  wide : Bool
  flds : List Fld
  deriving DecidableEq, Repr

/-- The address of the field's register in instance (i, j): the low word of a pair. -/
def fldAddr (f : Fld) (i j : Nat) : Nat := f.base + i * f.s1 + j * f.s2

def F.GLOBAL_ID_vendor : Fld := ⟨0x0, 0x0, 0x0, 16, 16, .ro, .val 7178⟩
def F.GLOBAL_ID_part : Fld := ⟨0x0, 0x0, 0x0, 0, 16, .ro, .fuse⟩
def F.GLOBAL_REV_major : Fld := ⟨0x4, 0x0, 0x0, 4, 4, .ro, .val 10⟩
def F.GLOBAL_REV_minor : Fld := ⟨0x4, 0x0, 0x0, 0, 4, .ro, .val 0⟩
def F.GLOBAL_CAP_loupe : Fld := ⟨0x8, 0x0, 0x0, 24, 1, .ro, .fuse⟩
def F.GLOBAL_CAP_dus : Fld := ⟨0x8, 0x0, 0x0, 16, 5, .ro, .fuse⟩
def F.GLOBAL_CAP_lanes : Fld := ⟨0x8, 0x0, 0x0, 8, 4, .ro, .fuse⟩
def F.GLOBAL_CAP_channels : Fld := ⟨0x8, 0x0, 0x0, 0, 6, .ro, .fuse⟩
def F.GLOBAL_MODE_result : Fld := ⟨0x10, 0x0, 0x0, 16, 8, .ro, .val 0⟩
def F.GLOBAL_MODE_busy : Fld := ⟨0x10, 0x0, 0x0, 8, 1, .ro, .val 0⟩
def F.GLOBAL_MODE_target : Fld := ⟨0x10, 0x0, 0x0, 4, 3, .ro, .val 0⟩
def F.GLOBAL_MODE_mode : Fld := ⟨0x10, 0x0, 0x0, 0, 3, .ro, .val 0⟩
def F.GLOBAL_MODE_SET_target : Fld := ⟨0x14, 0x0, 0x0, 0, 3, .wo, .val 0⟩
def F.GLOBAL_STATUS_degraded : Fld := ⟨0x18, 0x0, 0x0, 31, 1, .ro, .val 0⟩
def F.GLOBAL_STATUS_torn : Fld := ⟨0x18, 0x0, 0x0, 10, 1, .ro, .val 0⟩
def F.GLOBAL_STATUS_tb_backup : Fld := ⟨0x18, 0x0, 0x0, 9, 1, .ro, .val 0⟩
def F.GLOBAL_STATUS_gov_limit : Fld := ⟨0x18, 0x0, 0x0, 8, 1, .ro, .val 0⟩
def F.GLOBAL_STATUS_throttled : Fld := ⟨0x18, 0x0, 0x0, 7, 1, .ro, .val 0⟩
def F.GLOBAL_STATUS_overcommit : Fld := ⟨0x18, 0x0, 0x0, 6, 1, .ro, .val 0⟩
def F.GLOBAL_STATUS_engine_fenced : Fld := ⟨0x18, 0x0, 0x0, 5, 1, .ro, .val 0⟩
def F.GLOBAL_STATUS_lane_retired : Fld := ⟨0x18, 0x0, 0x0, 4, 1, .ro, .val 0⟩
def F.GLOBAL_STATUS_no_spare : Fld := ⟨0x18, 0x0, 0x0, 3, 1, .ro, .val 0⟩
def F.GLOBAL_STATUS_erasure : Fld := ⟨0x18, 0x0, 0x0, 2, 1, .ro, .val 0⟩
def F.GLOBAL_STATUS_half_width : Fld := ⟨0x18, 0x0, 0x0, 1, 1, .ro, .val 0⟩
def F.GLOBAL_STATUS_absent : Fld := ⟨0x18, 0x0, 0x0, 0, 1, .ro, .val 0⟩
def F.GLOBAL_RESET_CAUSE_warm_count : Fld := ⟨0x20, 0x0, 0x0, 16, 16, .ro, .val 0⟩
def F.GLOBAL_RESET_CAUSE_source : Fld := ⟨0x20, 0x0, 0x0, 4, 4, .ro, .val 0⟩
def F.GLOBAL_RESET_CAUSE_type : Fld := ⟨0x20, 0x0, 0x0, 0, 1, .ro, .val 0⟩
def F.GLOBAL_BOOT_min_version : Fld := ⟨0x24, 0x0, 0x0, 16, 16, .ro, .fuse⟩
def F.GLOBAL_BOOT_result : Fld := ⟨0x24, 0x0, 0x0, 4, 3, .ro, .val 0⟩
def F.GLOBAL_BOOT_fw_running : Fld := ⟨0x24, 0x0, 0x0, 3, 1, .ro, .val 0⟩
def F.GLOBAL_BOOT_boot_sel : Fld := ⟨0x24, 0x0, 0x0, 0, 2, .ro, .fuse⟩
def F.GLOBAL_FOCUS_retention : Fld := ⟨0x28, 0x0, 0x0, 8, 1, .ro, .val 0⟩
def F.GLOBAL_FOCUS_step : Fld := ⟨0x28, 0x0, 0x0, 0, 4, .ro, .val 0⟩
def F.GLOBAL_DRAIN_forced : Fld := ⟨0x2C, 0x0, 0x0, 16, 16, .ro, .val 0⟩
def F.GLOBAL_DRAIN_max_ms : Fld := ⟨0x2C, 0x0, 0x0, 0, 16, .rw, .val 1000⟩
def F.GLOBAL_FOCUS_FAIL_channel : Fld := ⟨0x30, 0x0, 0x0, 0, 34, .ro, .val 0⟩
def F.GLOBAL_MAINT_TOUCHED_channel : Fld := ⟨0x38, 0x0, 0x0, 0, 34, .ro, .val 0⟩
def F.GLOBAL_RESTORE_BASE_base : Fld := ⟨0x40, 0x0, 0x0, 0, 30, .rw, .val 0⟩
def F.GLOBAL_RESTORE_LEN_bytes : Fld := ⟨0x44, 0x0, 0x0, 0, 32, .rw, .val 0⟩
def F.GLOBAL_RESTORE_CTRL_result : Fld := ⟨0x48, 0x0, 0x0, 4, 3, .ro, .val 0⟩
def F.GLOBAL_RESTORE_CTRL_busy : Fld := ⟨0x48, 0x0, 0x0, 1, 1, .ro, .val 0⟩
def F.GLOBAL_RESTORE_CTRL_start : Fld := ⟨0x48, 0x0, 0x0, 0, 1, .wo, .val 0⟩
def F.CE_ID_logical : Fld := ⟨0x2000000, 0x10000, 0x0, 8, 6, .ro, .fuse⟩
def F.CE_ID_physical : Fld := ⟨0x2000000, 0x10000, 0x0, 0, 6, .ro, .fuse⟩
def F.CE_CTRL_lsq_per_strand : Fld := ⟨0x2000004, 0x10000, 0x0, 8, 7, .rw, .val 64⟩
def F.CE_CTRL_break_en : Fld := ⟨0x2000004, 0x10000, 0x0, 3, 1, .rw, .val 1⟩
def F.CE_CTRL_dl_strict : Fld := ⟨0x2000004, 0x10000, 0x0, 2, 1, .rw, .val 0⟩
def F.CE_CTRL_imem_lock : Fld := ⟨0x2000004, 0x10000, 0x0, 1, 1, .rw, .val 0⟩
def F.CE_CTRL_run : Fld := ⟨0x2000004, 0x10000, 0x0, 0, 1, .rw, .val 0⟩
def F.CE_STATUS_imem_ue : Fld := ⟨0x2000008, 0x10000, 0x0, 25, 1, .w1c, .val 0⟩
def F.CE_STATUS_lock_violation : Fld := ⟨0x2000008, 0x10000, 0x0, 24, 1, .w1c, .val 0⟩
def F.CE_STATUS_lsq_used : Fld := ⟨0x2000008, 0x10000, 0x0, 8, 7, .ro, .val 0⟩
def F.CE_STATUS_state : Fld := ⟨0x2000008, 0x10000, 0x0, 0, 3, .ro, .val 1⟩
def F.CE_STRAND_EN_en : Fld := ⟨0x200000C, 0x10000, 0x0, 0, 16, .rw, .val 0⟩
def F.CE_TRAP_PEND_pend : Fld := ⟨0x2000010, 0x10000, 0x0, 0, 16, .w1c, .val 0⟩
def F.CE_STRAND_CMD_cmd : Fld := ⟨0x2000014, 0x10000, 0x0, 8, 2, .wo, .val 0⟩
def F.CE_STRAND_CMD_strand : Fld := ⟨0x2000014, 0x10000, 0x0, 0, 4, .wo, .val 0⟩
def F.CE_IMEM_ADDR_index : Fld := ⟨0x2000020, 0x10000, 0x0, 0, 16, .rw, .val 0⟩
def F.CE_IMEM_DATA_word : Fld := ⟨0x2000024, 0x10000, 0x0, 0, 32, .rw, .undef⟩
def F.CE_IMEM_ECC_uncorrected : Fld := ⟨0x2000028, 0x10000, 0x0, 16, 16, .ro, .val 0⟩
def F.CE_IMEM_ECC_corrected : Fld := ⟨0x2000028, 0x10000, 0x0, 0, 16, .ro, .val 0⟩
def F.CE_SCRATCH_SPLIT_title_kib : Fld := ⟨0x2000030, 0x10000, 0x0, 0, 8, .rw, .val 128⟩
def F.CE_BREAK_TIME_age_us : Fld := ⟨0x2000040, 0x10000, 0x0, 0, 17, .rw, .val 1000⟩
def F.CE_BREAK_COUNT_skipped : Fld := ⟨0x2000044, 0x10000, 0x0, 20, 10, .ro, .val 0⟩
def F.CE_BREAK_COUNT_trapped : Fld := ⟨0x2000044, 0x10000, 0x0, 10, 10, .ro, .val 0⟩
def F.CE_BREAK_COUNT_transparent : Fld := ⟨0x2000044, 0x10000, 0x0, 0, 10, .ro, .val 0⟩
def F.CE_MIG_CTRL_force : Fld := ⟨0x2000050, 0x10000, 0x0, 9, 1, .rw, .val 0⟩
def F.CE_MIG_CTRL_start : Fld := ⟨0x2000050, 0x10000, 0x0, 8, 1, .wo, .val 0⟩
def F.CE_MIG_CTRL_target : Fld := ⟨0x2000050, 0x10000, 0x0, 0, 6, .rw, .val 0⟩
def F.CE_MIG_STATUS_stall : Fld := ⟨0x2000054, 0x10000, 0x0, 16, 16, .ro, .val 0⟩
def F.CE_MIG_STATUS_failed : Fld := ⟨0x2000054, 0x10000, 0x0, 8, 1, .w1c, .val 0⟩
def F.CE_MIG_STATUS_phase : Fld := ⟨0x2000054, 0x10000, 0x0, 0, 2, .ro, .val 0⟩
def F.CE_MIG_WAIT_ticks : Fld := ⟨0x2000058, 0x10000, 0x0, 0, 8, .rw, .val 4⟩
def F.CE_RANGE_COMMIT_view : Fld := ⟨0x20000FC, 0x10000, 0x0, 1, 1, .rw, .val 0⟩
def F.CE_RANGE_COMMIT_commit : Fld := ⟨0x20000FC, 0x10000, 0x0, 0, 1, .wo, .val 0⟩
def F.CE_SPC_title : Fld := ⟨0x2000080, 0x10000, 0x4, 16, 1, .rw, .val 1⟩
def F.CE_SPC_index : Fld := ⟨0x2000080, 0x10000, 0x4, 0, 16, .rw, .undef⟩
def F.CE_TOKENS_tokens : Fld := ⟨0x20000C0, 0x10000, 0x0, 0, 64, .ro, .val 0⟩
def F.CE_RANGE_BASE_base : Fld := ⟨0x2000100, 0x10000, 0x10, 0, 24, .rws, .val 0⟩
def F.CE_RANGE_LIMIT_limit : Fld := ⟨0x2000104, 0x10000, 0x10, 0, 24, .rws, .val 0⟩
def F.CE_RANGE_ATTR_valid : Fld := ⟨0x2000108, 0x10000, 0x10, 4, 1, .rws, .val 0⟩
def F.CE_RANGE_ATTR_fill : Fld := ⟨0x2000108, 0x10000, 0x10, 3, 1, .rws, .val 0⟩
def F.CE_RANGE_ATTR_atomic : Fld := ⟨0x2000108, 0x10000, 0x10, 2, 1, .rws, .val 0⟩
def F.CE_RANGE_ATTR_write : Fld := ⟨0x2000108, 0x10000, 0x10, 1, 1, .rws, .val 0⟩
def F.CE_RANGE_ATTR_read : Fld := ⟨0x2000108, 0x10000, 0x10, 0, 1, .rws, .val 0⟩
def F.SV_ID_master : Fld := ⟨0x2400000, 0x0, 0x0, 0, 6, .ro, .val 34⟩
def F.SV_EVENT_LO_engine : Fld := ⟨0x2400010, 0x0, 0x0, 0, 32, .w1c, .val 0⟩
def F.SV_EVENT_HI_engine : Fld := ⟨0x2400014, 0x0, 0x0, 0, 2, .w1c, .val 0⟩
def F.SV_SRAM_ECC_uncorrected : Fld := ⟨0x2400020, 0x0, 0x0, 16, 16, .ro, .val 0⟩
def F.SV_SRAM_ECC_corrected : Fld := ⟨0x2400020, 0x0, 0x0, 0, 16, .ro, .val 0⟩
def F.SV_WDOG_kick : Fld := ⟨0x2400030, 0x0, 0x0, 31, 1, .wo, .val 0⟩
def F.SV_WDOG_enable : Fld := ⟨0x2400030, 0x0, 0x0, 30, 1, .rw, .val 1⟩
def F.SV_WDOG_timeout_us : Fld := ⟨0x2400030, 0x0, 0x0, 0, 20, .rw, .val 100000⟩
def F.SV_WDOG_REMAIN_remain_us : Fld := ⟨0x2400034, 0x0, 0x0, 0, 20, .ro, .val 100000⟩
def F.TK_CTRL_late_limit : Fld := ⟨0x300000, 0x0, 0x0, 8, 8, .rw, .val 8⟩
def F.TK_CTRL_view : Fld := ⟨0x300000, 0x0, 0x0, 1, 1, .rw, .val 0⟩
def F.TK_CTRL_run : Fld := ⟨0x300000, 0x0, 0x0, 0, 1, .rw, .val 0⟩
def F.TK_SCHED_COMMIT_commit : Fld := ⟨0x300004, 0x0, 0x0, 0, 1, .wo, .val 0⟩
def F.TK_PERIOD_ns : Fld := ⟨0x300008, 0x0, 0x0, 0, 30, .rws, .val 7812500⟩
def F.TK_INGEST_CLOSE_ns : Fld := ⟨0x30000C, 0x0, 0x0, 0, 30, .rws, .val 500000⟩
def F.TK_COMMIT_DL_ns : Fld := ⟨0x300010, 0x0, 0x0, 0, 30, .rws, .val 6000000⟩
def F.TK_START_time : Fld := ⟨0x300018, 0x0, 0x0, 0, 64, .rw, .undef⟩
def F.TK_NEXT_tick : Fld := ⟨0x300020, 0x0, 0x0, 0, 64, .rw, .val 0⟩
def F.TK_COMMITTED_tick : Fld := ⟨0x300028, 0x0, 0x0, 0, 64, .ro, .val 18446744073709551615⟩
def F.TK_STATUS_slips : Fld := ⟨0x300030, 0x0, 0x0, 8, 8, .ro, .val 0⟩
def F.TK_STATUS_reanchored : Fld := ⟨0x300030, 0x0, 0x0, 7, 1, .w1c, .val 0⟩
def F.TK_STATUS_sched_err : Fld := ⟨0x300030, 0x0, 0x0, 6, 1, .w1c, .val 0⟩
def F.TK_STATUS_snap_hold : Fld := ⟨0x300030, 0x0, 0x0, 5, 1, .ro, .val 0⟩
def F.TK_STATUS_commit_open : Fld := ⟨0x300030, 0x0, 0x0, 4, 1, .ro, .val 0⟩
def F.TK_STATUS_held : Fld := ⟨0x300030, 0x0, 0x0, 3, 1, .ro, .val 0⟩
def F.TK_STATUS_phase : Fld := ⟨0x300030, 0x0, 0x0, 0, 3, .ro, .val 0⟩
def F.TK_LATE_count : Fld := ⟨0x300034, 0x0, 0x0, 0, 32, .ro, .val 0⟩
def F.TK_SLACK_ns : Fld := ⟨0x300038, 0x0, 0x0, 0, 32, .ro, .val 0⟩
def F.TK_COMMIT_TIME_barrier : Fld := ⟨0x30003C, 0x0, 0x0, 16, 16, .ro, .val 0⟩
def F.TK_COMMIT_TIME_commit : Fld := ⟨0x30003C, 0x0, 0x0, 0, 16, .ro, .val 0⟩
def F.TK_WARM_busy : Fld := ⟨0x300040, 0x0, 0x0, 11, 1, .ro, .val 0⟩
def F.TK_WARM_result : Fld := ⟨0x300040, 0x0, 0x0, 8, 3, .ro, .val 0⟩
def F.TK_WARM_start : Fld := ⟨0x300040, 0x0, 0x0, 0, 1, .wo, .val 0⟩
def F.TK_EDONE_counted : Fld := ⟨0x300100, 0x4, 0x0, 31, 1, .ro, .val 0⟩
def F.TK_EDONE_fenced : Fld := ⟨0x300100, 0x4, 0x0, 30, 1, .ro, .val 0⟩
def F.TK_EDONE_ns : Fld := ⟨0x300100, 0x4, 0x0, 0, 30, .ro, .val 0⟩
def F.ED_GRID_ybits : Fld := ⟨0x300200, 0x0, 0x0, 4, 4, .rw, .val 10⟩
def F.ED_GRID_xbits : Fld := ⟨0x300200, 0x0, 0x0, 0, 4, .rw, .val 10⟩
def F.ED_COUNT_valid : Fld := ⟨0x300204, 0x0, 0x0, 0, 22, .ro, .val 0⟩
def F.ED_FREE_free : Fld := ⟨0x300208, 0x0, 0x0, 0, 22, .ro, .val 2097152⟩
def F.ED_TORN_COUNT_torn : Fld := ⟨0x30020C, 0x0, 0x0, 0, 22, .ro, .val 0⟩
def F.ED_TORN_CURSOR_none : Fld := ⟨0x300210, 0x0, 0x0, 31, 1, .ro, .val 1⟩
def F.ED_TORN_CURSOR_index : Fld := ⟨0x300210, 0x0, 0x0, 0, 21, .rw, .val 0⟩
def F.ED_RESOLVE_HANDLE_handle : Fld := ⟨0x300214, 0x0, 0x0, 0, 32, .rw, .val 0⟩
def F.ED_RESOLVE_CMD_result : Fld := ⟨0x300218, 0x0, 0x0, 8, 2, .ro, .val 0⟩
def F.ED_RESOLVE_CMD_cmd : Fld := ⟨0x300218, 0x0, 0x0, 0, 2, .wo, .val 0⟩
def F.ED_TICK_USE_frees : Fld := ⟨0x30021C, 0x0, 0x0, 16, 16, .ro, .val 0⟩
def F.ED_TICK_USE_births : Fld := ⟨0x30021C, 0x0, 0x0, 0, 16, .ro, .val 0⟩
def F.SNAP_CTRL_ipv6 : Fld := ⟨0x300400, 0x0, 0x0, 8, 1, .rw, .val 0⟩
def F.SNAP_CTRL_port : Fld := ⟨0x300400, 0x0, 0x0, 4, 3, .rw, .val 0⟩
def F.SNAP_CTRL_abort : Fld := ⟨0x300400, 0x0, 0x0, 1, 1, .wo, .val 0⟩
def F.SNAP_CTRL_start : Fld := ⟨0x300400, 0x0, 0x0, 0, 1, .wo, .val 0⟩
def F.SNAP_STATUS_round : Fld := ⟨0x300404, 0x0, 0x0, 16, 16, .ro, .val 0⟩
def F.SNAP_STATUS_error : Fld := ⟨0x300404, 0x0, 0x0, 4, 4, .ro, .val 0⟩
def F.SNAP_STATUS_state : Fld := ⟨0x300404, 0x0, 0x0, 0, 3, .ro, .val 0⟩
def F.SNAP_ID_id : Fld := ⟨0x300408, 0x0, 0x0, 0, 32, .rw, .val 0⟩
def F.SNAP_RATE_mbps : Fld := ⟨0x30040C, 0x0, 0x0, 0, 20, .rw, .val 100000⟩
def F.SNAP_FINAL_indices : Fld := ⟨0x300410, 0x0, 0x0, 0, 22, .rw, .val 65536⟩
def F.SNAP_HOLD_MAX_us : Fld := ⟨0x300414, 0x0, 0x0, 0, 16, .rw, .val 1000⟩
def F.SNAP_PORTS_src : Fld := ⟨0x300418, 0x0, 0x0, 16, 16, .rw, .undef⟩
def F.SNAP_PORTS_dst : Fld := ⟨0x300418, 0x0, 0x0, 0, 16, .rw, .undef⟩
def F.SNAP_DADDR_addr : Fld := ⟨0x300420, 0x4, 0x0, 0, 32, .rw, .undef⟩
def F.SNAP_KEY_key : Fld := ⟨0x300430, 0x4, 0x0, 0, 32, .wo, .undef⟩
def F.SNAP_SEG_BASE_base : Fld := ⟨0x300480, 0x8, 0x0, 0, 24, .rw, .val 0⟩
def F.SNAP_SEG_LIMIT_valid : Fld := ⟨0x300484, 0x8, 0x0, 31, 1, .rw, .val 0⟩
def F.SNAP_SEG_LIMIT_limit : Fld := ⟨0x300484, 0x8, 0x0, 0, 24, .rw, .val 0⟩
def F.SNAP_SENT_count : Fld := ⟨0x300500, 0x0, 0x0, 0, 64, .ro, .val 0⟩
def F.ST_CTRL_rebind : Fld := ⟨0x310000, 0x0, 0x0, 1, 1, .rw, .val 0⟩
def F.ST_CTRL_enable : Fld := ⟨0x310000, 0x0, 0x0, 0, 1, .rw, .val 0⟩
def F.ST_WORLD_PORT_port : Fld := ⟨0x310004, 0x0, 0x0, 0, 16, .rw, .undef⟩
def F.ST_AGE_close : Fld := ⟨0x310008, 0x0, 0x0, 22, 6, .rw, .val 60⟩
def F.ST_AGE_quiet : Fld := ⟨0x310008, 0x0, 0x0, 16, 6, .rw, .val 4⟩
def F.ST_AGE_period_ms : Fld := ⟨0x310008, 0x0, 0x0, 0, 16, .rw, .val 500⟩
def F.ST_COUNT_live : Fld := ⟨0x31000C, 0x0, 0x0, 0, 19, .ro, .val 0⟩
def F.ST_CTX_INDEX_index : Fld := ⟨0x310010, 0x0, 0x0, 0, 18, .rw, .val 0⟩
def F.ST_CTX_CMD_busy : Fld := ⟨0x310014, 0x0, 0x0, 31, 1, .ro, .val 0⟩
def F.ST_CTX_CMD_result : Fld := ⟨0x310014, 0x0, 0x0, 16, 4, .ro, .val 0⟩
def F.ST_CTX_CMD_port : Fld := ⟨0x310014, 0x0, 0x0, 12, 3, .wo, .val 0⟩
def F.ST_CTX_CMD_reason : Fld := ⟨0x310014, 0x0, 0x0, 8, 4, .wo, .val 0⟩
def F.ST_CTX_CMD_cmd : Fld := ⟨0x310014, 0x0, 0x0, 0, 3, .wo, .val 0⟩
def F.ST_CTX_DATA_word : Fld := ⟨0x310040, 0x4, 0x0, 0, 32, .rw, .undef⟩
def F.ST_KEY_key : Fld := ⟨0x310080, 0x4, 0x0, 0, 32, .wo, .val 0⟩
def F.ST_FW_EVENT_LO_handle : Fld := ⟨0x3100A0, 0x0, 0x0, 0, 32, .ro, .val 0⟩
def F.ST_FW_EVENT_HI_valid : Fld := ⟨0x3100A4, 0x0, 0x0, 31, 1, .ro, .val 0⟩
def F.ST_FW_EVENT_HI_lost : Fld := ⟨0x3100A4, 0x0, 0x0, 30, 1, .ro, .val 0⟩
def F.ST_FW_EVENT_HI_reason : Fld := ⟨0x3100A4, 0x0, 0x0, 16, 8, .ro, .val 0⟩
def F.ST_FW_EVENT_HI_kind : Fld := ⟨0x3100A4, 0x0, 0x0, 0, 8, .ro, .val 0⟩
def F.ST_EVT_BASE_base : Fld := ⟨0x3100B0, 0x0, 0x0, 0, 28, .rw, .val 0⟩
def F.ST_EVT_SIZE_enable : Fld := ⟨0x3100B4, 0x0, 0x0, 31, 1, .rw, .val 0⟩
def F.ST_EVT_SIZE_code : Fld := ⟨0x3100B4, 0x0, 0x0, 0, 4, .rw, .val 0⟩
def F.ST_DROP_count : Fld := ⟨0x310100, 0x4, 0x0, 0, 32, .ro, .val 0⟩
def F.ST_BUF_WAIT_count : Fld := ⟨0x3100C0, 0x0, 0x0, 0, 32, .ro, .val 0⟩
def F.DU_CTRL_depart_max : Fld := ⟨0x320000, 0x0, 0x0, 16, 16, .rw, .val 64⟩
def F.DU_CTRL_depart : Fld := ⟨0x320000, 0x0, 0x0, 1, 1, .rw, .val 0⟩
def F.DU_CTRL_level : Fld := ⟨0x320000, 0x0, 0x0, 0, 1, .rw, .val 0⟩
def F.DU_PAYLOAD_MAX_bytes : Fld := ⟨0x320004, 0x0, 0x0, 0, 14, .rw, .val 1200⟩
def F.DU_WINDOW_us : Fld := ⟨0x320008, 0x0, 0x0, 0, 20, .rw, .val 2000⟩
def F.DU_LEAD_us : Fld := ⟨0x32000C, 0x0, 0x0, 0, 13, .rw, .val 250⟩
def F.DU_JOIN_min_pct : Fld := ⟨0x320010, 0x0, 0x0, 16, 8, .rw, .val 10⟩
def F.DU_JOIN_passes : Fld := ⟨0x320010, 0x0, 0x0, 0, 4, .rw, .val 3⟩
def F.DU_PANIC_count : Fld := ⟨0x320014, 0x0, 0x0, 16, 16, .ro, .val 0⟩
def F.DU_PANIC_lead_ns : Fld := ⟨0x320014, 0x0, 0x0, 0, 16, .rw, .val 2000⟩
def F.DU_STATUS_enc_err : Fld := ⟨0x320018, 0x0, 0x0, 0, 1, .w1c, .val 0⟩
def F.DU_ENC_COMMIT_view : Fld := ⟨0x32001C, 0x0, 0x0, 1, 1, .rw, .val 0⟩
def F.DU_ENC_COMMIT_commit : Fld := ⟨0x32001C, 0x0, 0x0, 0, 1, .wo, .val 0⟩
def F.DU_ROUNDS_count : Fld := ⟨0x320020, 0x0, 0x0, 0, 64, .ro, .val 0⟩
def F.DU_MISS_rounds : Fld := ⟨0x320100, 0x4, 0x0, 0, 32, .ro, .val 0⟩
def F.DU_ENC_scale : Fld := ⟨0x321000, 0x100, 0x4, 19, 5, .rws, .val 0⟩
def F.DU_ENC_enc : Fld := ⟨0x321000, 0x100, 0x4, 15, 4, .rws, .val 0⟩
def F.DU_ENC_size : Fld := ⟨0x321000, 0x100, 0x4, 12, 3, .rws, .val 0⟩
def F.DU_ENC_offset : Fld := ⟨0x321000, 0x100, 0x4, 0, 12, .rws, .val 0⟩
def F.LN_CTRL_level : Fld := ⟨0x100000, 0x1000, 0x0, 3, 1, .rw, .val 0⟩
def F.LN_CTRL_an_en : Fld := ⟨0x100000, 0x1000, 0x0, 2, 1, .rw, .val 1⟩
def F.LN_CTRL_pma_reset : Fld := ⟨0x100000, 0x1000, 0x0, 1, 1, .wo, .val 0⟩
def F.LN_CTRL_enable : Fld := ⟨0x100000, 0x1000, 0x0, 0, 1, .rw, .val 0⟩
def F.LN_STATUS_train : Fld := ⟨0x100004, 0x1000, 0x0, 5, 3, .ro, .val 0⟩
def F.LN_STATUS_up : Fld := ⟨0x100004, 0x1000, 0x0, 4, 1, .ro, .val 0⟩
def F.LN_STATUS_am_lock : Fld := ⟨0x100004, 0x1000, 0x0, 3, 1, .ro, .val 0⟩
def F.LN_STATUS_cdr_lock : Fld := ⟨0x100004, 0x1000, 0x0, 2, 1, .ro, .val 0⟩
def F.LN_STATUS_signal : Fld := ⟨0x100004, 0x1000, 0x0, 1, 1, .ro, .val 0⟩
def F.LN_STATUS_retired : Fld := ⟨0x100004, 0x1000, 0x0, 0, 1, .ro, .val 0⟩
def F.LN_TRAIN_CMD_busy : Fld := ⟨0x100008, 0x1000, 0x0, 31, 1, .ro, .val 0⟩
def F.LN_TRAIN_CMD_result : Fld := ⟨0x100008, 0x1000, 0x0, 8, 2, .ro, .val 0⟩
def F.LN_TRAIN_CMD_arg : Fld := ⟨0x100008, 0x1000, 0x0, 4, 4, .wo, .val 0⟩
def F.LN_TRAIN_CMD_cmd : Fld := ⟨0x100008, 0x1000, 0x0, 0, 4, .wo, .val 0⟩
def F.LN_TXFIR_post : Fld := ⟨0x10000C, 0x1000, 0x0, 24, 8, .rw, .fuse⟩
def F.LN_TXFIR_main : Fld := ⟨0x10000C, 0x1000, 0x0, 16, 8, .rw, .fuse⟩
def F.LN_TXFIR_pre1 : Fld := ⟨0x10000C, 0x1000, 0x0, 8, 8, .rw, .fuse⟩
def F.LN_TXFIR_pre2 : Fld := ⟨0x10000C, 0x1000, 0x0, 0, 8, .rw, .fuse⟩
def F.LN_PAT_CTRL_inject_period : Fld := ⟨0x100020, 0x1000, 0x0, 16, 6, .rw, .val 0⟩
def F.LN_PAT_CTRL_inject : Fld := ⟨0x100020, 0x1000, 0x0, 15, 1, .wo, .val 0⟩
def F.LN_PAT_CTRL_chk : Fld := ⟨0x100020, 0x1000, 0x0, 8, 3, .rw, .val 0⟩
def F.LN_PAT_CTRL_gen : Fld := ⟨0x100020, 0x1000, 0x0, 2, 3, .rw, .val 0⟩
def F.LN_PAT_CTRL_mode : Fld := ⟨0x100020, 0x1000, 0x0, 0, 1, .rw, .val 0⟩
def F.LN_PAT_STATUS_refused : Fld := ⟨0x100024, 0x1000, 0x0, 1, 1, .w1c, .val 0⟩
def F.LN_PAT_STATUS_lock : Fld := ⟨0x100024, 0x1000, 0x0, 0, 1, .ro, .val 0⟩
def F.LN_PAT_USER_pattern : Fld := ⟨0x100028, 0x1000, 0x0, 0, 64, .rw, .val 0⟩
def F.LN_PAT_ERR_errors : Fld := ⟨0x100030, 0x1000, 0x0, 0, 64, .ro, .val 0⟩
def F.LN_PAT_BITS_bits : Fld := ⟨0x100038, 0x1000, 0x0, 0, 64, .ro, .val 0⟩
def F.LN_RM_deleted : Fld := ⟨0x100058, 0x1000, 0x0, 16, 16, .ro, .val 0⟩
def F.LN_RM_inserted : Fld := ⟨0x100058, 0x1000, 0x0, 0, 16, .ro, .val 0⟩
def F.LN_FLAPS_count : Fld := ⟨0x10005C, 0x1000, 0x0, 0, 32, .ro, .val 0⟩
def F.LN_LATENCY_tx : Fld := ⟨0x100060, 0x1000, 0x0, 16, 16, .rw, .fuse⟩
def F.LN_LATENCY_rx : Fld := ⟨0x100060, 0x1000, 0x0, 0, 16, .rw, .fuse⟩
def F.LN_ALIGN_err : Fld := ⟨0x100014, 0x1000, 0x0, 10, 1, .w1c, .val 0⟩
def F.LN_ALIGN_locked : Fld := ⟨0x100014, 0x1000, 0x0, 9, 1, .ro, .val 0⟩
def F.LN_ALIGN_manual : Fld := ⟨0x100014, 0x1000, 0x0, 8, 1, .rw, .val 0⟩
def F.LN_ALIGN_pending : Fld := ⟨0x100014, 0x1000, 0x0, 4, 4, .ro, .val 0⟩
def F.LN_ALIGN_slip : Fld := ⟨0x100014, 0x1000, 0x0, 0, 4, .wo, .val 0⟩
def F.LN_FEC_CORR_count : Fld := ⟨0x100040, 0x1000, 0x0, 0, 64, .ro, .val 0⟩
def F.LN_FEC_UNCORR_count : Fld := ⟨0x100048, 0x1000, 0x0, 0, 64, .ro, .val 0⟩
def F.LN_FEC_SYM_count : Fld := ⟨0x100050, 0x1000, 0x0, 0, 64, .ro, .val 0⟩
def F.PT_CFG_err : Fld := ⟨0x200000, 0x0, 0x0, 2, 1, .w1c, .val 0⟩
def F.PT_CFG_mode : Fld := ⟨0x200000, 0x0, 0x0, 0, 2, .rw, .val 0⟩
def F.PT_FWQ_rate : Fld := ⟨0x200004, 0x0, 0x0, 0, 16, .rw, .val 200⟩
def F.PT_PORT_CTRL_pcp : Fld := ⟨0x200100, 0x10, 0x0, 25, 3, .rw, .val 0⟩
def F.PT_PORT_CTRL_tx_tag : Fld := ⟨0x200100, 0x10, 0x0, 24, 1, .rw, .val 0⟩
def F.PT_PORT_CTRL_untagged : Fld := ⟨0x200100, 0x10, 0x0, 23, 1, .rw, .val 1⟩
def F.PT_PORT_CTRL_vid : Fld := ⟨0x200100, 0x10, 0x0, 0, 12, .rw, .val 0⟩
def F.PT_PORT_STATUS_leave : Fld := ⟨0x200104, 0x10, 0x0, 5, 3, .ro, .val 0⟩
def F.PT_PORT_STATUS_dist : Fld := ⟨0x200104, 0x10, 0x0, 4, 1, .ro, .val 0⟩
def F.PT_PORT_STATUS_up : Fld := ⟨0x200104, 0x10, 0x0, 0, 4, .ro, .val 0⟩
def F.PT_PORT_GRP_medium : Fld := ⟨0x200108, 0x10, 0x0, 5, 1, .rw, .val 0⟩
def F.PT_PORT_GRP_dist : Fld := ⟨0x200108, 0x10, 0x0, 4, 1, .rw, .val 0⟩
def F.PT_PORT_GRP_enable : Fld := ⟨0x200108, 0x10, 0x0, 3, 1, .rw, .val 0⟩
def F.PT_PORT_GRP_group : Fld := ⟨0x200108, 0x10, 0x0, 0, 3, .rw, .lin 1 0 0⟩
def F.PT_GRP_MAC_mac : Fld := ⟨0x200200, 0x40, 0x0, 0, 48, .rw, .fuse⟩
def F.PT_GRP_IPV4_addr : Fld := ⟨0x200208, 0x40, 0x0, 0, 32, .rw, .val 0⟩
def F.PT_GRP_MTU_bytes : Fld := ⟨0x20020C, 0x40, 0x0, 0, 14, .rw, .val 1500⟩
def F.PT_GRP_IPV6_addr : Fld := ⟨0x200210, 0x40, 0x4, 0, 32, .rw, .val 0⟩
def F.PT_GRP_LL_addr : Fld := ⟨0x200220, 0x40, 0x4, 0, 32, .rw, .val 0⟩
def F.PT_FWRX_CMD_pop : Fld := ⟨0x200400, 0x0, 0x0, 3, 1, .wo, .val 0⟩
def F.PT_FWRX_CMD_lane : Fld := ⟨0x200400, 0x0, 0x0, 0, 3, .rw, .val 0⟩
def F.PT_FWRX_DESC_valid : Fld := ⟨0x200404, 0x0, 0x0, 31, 1, .ro, .val 0⟩
def F.PT_FWRX_DESC_port : Fld := ⟨0x200404, 0x0, 0x0, 14, 3, .ro, .val 0⟩
def F.PT_FWRX_DESC_length : Fld := ⟨0x200404, 0x0, 0x0, 0, 14, .ro, .val 0⟩
def F.PT_FWRX_DATA_word : Fld := ⟨0x200408, 0x0, 0x0, 0, 32, .ro, .val 0⟩
def F.PT_FWTX_CTRL_send : Fld := ⟨0x200410, 0x0, 0x0, 31, 1, .wo, .val 0⟩
def F.PT_FWTX_CTRL_full : Fld := ⟨0x200410, 0x0, 0x0, 30, 1, .ro, .val 0⟩
def F.PT_FWTX_CTRL_one_step : Fld := ⟨0x200410, 0x0, 0x0, 29, 1, .rw, .val 0⟩
def F.PT_FWTX_CTRL_two_step : Fld := ⟨0x200410, 0x0, 0x0, 28, 1, .rw, .val 0⟩
def F.PT_FWTX_CTRL_port : Fld := ⟨0x200410, 0x0, 0x0, 14, 3, .rw, .val 0⟩
def F.PT_FWTX_CTRL_length : Fld := ⟨0x200410, 0x0, 0x0, 0, 14, .rw, .val 0⟩
def F.PT_FWTX_DATA_word : Fld := ⟨0x200414, 0x0, 0x0, 0, 32, .wo, .val 0⟩
def F.PT_TXTS_time : Fld := ⟨0x200420, 0x0, 0x0, 0, 64, .ro, .val 0⟩
def F.PT_TXTS_ID_valid : Fld := ⟨0x200428, 0x0, 0x0, 31, 1, .ro, .val 0⟩
def F.PT_TXTS_ID_lost : Fld := ⟨0x200428, 0x0, 0x0, 30, 1, .w1c, .val 0⟩
def F.PT_TXTS_ID_port : Fld := ⟨0x200428, 0x0, 0x0, 16, 3, .ro, .val 0⟩
def F.PT_TXTS_ID_seq : Fld := ⟨0x200428, 0x0, 0x0, 0, 16, .ro, .val 0⟩
def F.TB_CTRL_locked : Fld := ⟨0x10000, 0x0, 0x0, 0, 1, .rw, .val 0⟩
def F.TB_STATUS_pps_in : Fld := ⟨0x10004, 0x0, 0x0, 3, 1, .w1c, .val 0⟩
def F.TB_STATUS_backup : Fld := ⟨0x10004, 0x0, 0x0, 2, 1, .ro, .val 0⟩
def F.TB_STATUS_step_refused : Fld := ⟨0x10004, 0x0, 0x0, 1, 1, .w1c, .val 0⟩
def F.TB_STATUS_slewing : Fld := ⟨0x10004, 0x0, 0x0, 0, 1, .ro, .val 0⟩
def F.TB_TIME_ns : Fld := ⟨0x10008, 0x0, 0x0, 0, 64, .ro, .val 0⟩
def F.TB_FRAC_frac : Fld := ⟨0x10010, 0x0, 0x0, 0, 32, .ro, .val 0⟩
def F.TB_INCR_incr : Fld := ⟨0x10014, 0x0, 0x0, 0, 32, .rw, .val 3435973837⟩
def F.TB_STEP_ns : Fld := ⟨0x10018, 0x0, 0x0, 0, 64, .wo, .val 0⟩
def F.TB_SLEW_ns : Fld := ⟨0x10020, 0x0, 0x0, 0, 32, .wo, .val 0⟩
def F.TB_SLEW_LEFT_ns : Fld := ⟨0x10024, 0x0, 0x0, 0, 32, .ro, .val 0⟩
def F.TB_PPS_width_ms : Fld := ⟨0x10030, 0x0, 0x0, 1, 10, .rw, .val 100⟩
def F.TB_PPS_out_en : Fld := ⟨0x10030, 0x0, 0x0, 0, 1, .rw, .val 0⟩
def F.TB_PPS_IN_ns : Fld := ⟨0x10038, 0x0, 0x0, 0, 64, .ro, .val 0⟩
def F.MG_CTRL_notice_en : Fld := ⟨0x1000, 0x0, 0x0, 2, 1, .rw, .val 0⟩
def F.MG_CTRL_udp_en : Fld := ⟨0x1000, 0x0, 0x0, 1, 1, .rw, .val 0⟩
def F.MG_CTRL_fec : Fld := ⟨0x1000, 0x0, 0x0, 0, 1, .rw, .fuse⟩
def F.MG_UDP_PORT_port : Fld := ⟨0x1004, 0x0, 0x0, 0, 16, .rw, .val 47104⟩
def F.MG_IPV4_addr : Fld := ⟨0x1008, 0x0, 0x0, 0, 32, .rw, .val 0⟩
def F.MG_MAC_mac : Fld := ⟨0x1010, 0x0, 0x0, 0, 48, .rw, .fuse⟩
def F.MG_NONCE_nonce : Fld := ⟨0x1018, 0x0, 0x0, 0, 64, .ro, .val 0⟩
def F.MG_SEQ_seq : Fld := ⟨0x1020, 0x0, 0x0, 0, 64, .ro, .val 0⟩
def F.MG_KEY_committed : Fld := ⟨0x1028, 0x0, 0x0, 8, 4, .ro, .fuse⟩
def F.MG_KEY_in_use : Fld := ⟨0x1028, 0x0, 0x0, 0, 3, .ro, .fuse⟩
def F.MG_QUEUE_long_code : Fld := ⟨0x102C, 0x0, 0x0, 8, 8, .ro, .val 0⟩
def F.MG_QUEUE_depth : Fld := ⟨0x102C, 0x0, 0x0, 0, 4, .ro, .val 0⟩
def F.MG_REJECT_COUNT_count : Fld := ⟨0x1030, 0x0, 0x0, 0, 32, .ro, .val 0⟩
def F.MG_REJECT_LAST_seq : Fld := ⟨0x1034, 0x0, 0x0, 16, 16, .ro, .val 0⟩
def F.MG_REJECT_LAST_code : Fld := ⟨0x1034, 0x0, 0x0, 8, 8, .ro, .val 0⟩
def F.MG_REJECT_LAST_status : Fld := ⟨0x1034, 0x0, 0x0, 0, 8, .ro, .val 0⟩
def F.MG_AUTH_FAIL_suppressed : Fld := ⟨0x1038, 0x0, 0x0, 16, 16, .ro, .val 0⟩
def F.MG_AUTH_FAIL_failures : Fld := ⟨0x1038, 0x0, 0x0, 0, 16, .ro, .val 0⟩
def F.MG_NDEST_MAC_mac : Fld := ⟨0x1040, 0x0, 0x0, 0, 48, .rw, .val 0⟩
def F.MG_NDEST_IP_addr : Fld := ⟨0x1048, 0x0, 0x0, 0, 32, .rw, .val 0⟩
def F.MG_NDEST_PORT_udp : Fld := ⟨0x104C, 0x0, 0x0, 16, 1, .rw, .val 0⟩
def F.MG_NDEST_PORT_port : Fld := ⟨0x104C, 0x0, 0x0, 0, 16, .rw, .val 0⟩
def F.MG_EVENTS_lost : Fld := ⟨0x103C, 0x0, 0x0, 16, 16, .ro, .val 0⟩
def F.MG_EVENTS_queued : Fld := ⟨0x103C, 0x0, 0x0, 0, 9, .ro, .val 0⟩
def F.RG_COMMIT_refused : Fld := ⟨0x50000, 0x0, 0x0, 2, 1, .w1c, .val 0⟩
def F.RG_COMMIT_view : Fld := ⟨0x50000, 0x0, 0x0, 1, 1, .rw, .val 0⟩
def F.RG_COMMIT_commit : Fld := ⟨0x50000, 0x0, 0x0, 0, 1, .wo, .val 0⟩
def F.RG_OVERCOMMIT_channel : Fld := ⟨0x50008, 0x0, 0x0, 0, 34, .w1c, .val 0⟩
def F.RG_CNT_CLR_clear : Fld := ⟨0x50010, 0x0, 0x0, 0, 1, .wo, .val 0⟩
def F.RG_RANGE_BASE_base : Fld := ⟨0x50100, 0x10, 0x0, 0, 24, .rws, .val 0⟩
def F.RG_RANGE_LIMIT_limit : Fld := ⟨0x50104, 0x10, 0x0, 0, 24, .rws, .val 0⟩
def F.RG_RANGE_ATTR_valid : Fld := ⟨0x50108, 0x10, 0x0, 3, 1, .rws, .val 0⟩
def F.RG_RANGE_ATTR_class : Fld := ⟨0x50108, 0x10, 0x0, 0, 3, .rws, .val 7⟩
def F.RG_STRIPE_BASE_base : Fld := ⟨0x50600, 0x10, 0x0, 0, 24, .rws, .val 0⟩
def F.RG_STRIPE_SIZE_units : Fld := ⟨0x50604, 0x10, 0x0, 0, 19, .rws, .val 0⟩
def F.RG_STRIPE_CTRL_valid : Fld := ⟨0x50608, 0x10, 0x0, 2, 1, .rws, .val 0⟩
def F.RG_STRIPE_CTRL_ways : Fld := ⟨0x50608, 0x10, 0x0, 0, 2, .rws, .val 0⟩
def F.RG_CHMAP_state : Fld := ⟨0x50800, 0x8, 0x0, 16, 2, .rws, .val 0⟩
def F.RG_CHMAP_old : Fld := ⟨0x50800, 0x8, 0x0, 8, 6, .rws, .val 63⟩
def F.RG_CHMAP_phys : Fld := ⟨0x50800, 0x8, 0x0, 0, 6, .rws, .lin 1 0 0⟩
def F.RG_CHCUR_cursor : Fld := ⟨0x50804, 0x8, 0x0, 0, 25, .ro, .val 0⟩
def F.RG_CHMAP_COMMIT_err : Fld := ⟨0x50900, 0x0, 0x0, 3, 1, .w1c, .val 0⟩
def F.RG_CHMAP_COMMIT_busy : Fld := ⟨0x50900, 0x0, 0x0, 2, 1, .ro, .val 0⟩
def F.RG_CHMAP_COMMIT_view : Fld := ⟨0x50900, 0x0, 0x0, 1, 1, .rw, .val 0⟩
def F.RG_CHMAP_COMMIT_commit : Fld := ⟨0x50900, 0x0, 0x0, 0, 1, .wo, .val 0⟩
def F.RG_CNT_RD_granules : Fld := ⟨0x51000, 0x80, 0x10, 0, 64, .ro, .val 0⟩
def F.RG_CNT_WR_granules : Fld := ⟨0x51008, 0x80, 0x10, 0, 64, .ro, .val 0⟩
def F.CH_ID_state : Fld := ⟨0x1000000, 0x10000, 0x0, 17, 3, .ro, .val 1⟩
def F.CH_ID_rate : Fld := ⟨0x1000000, 0x10000, 0x0, 16, 1, .ro, .val 0⟩
def F.CH_ID_logical : Fld := ⟨0x1000000, 0x10000, 0x0, 8, 6, .ro, .val 63⟩
def F.CH_ID_physical : Fld := ⟨0x1000000, 0x10000, 0x0, 0, 6, .ro, .fuse⟩
def F.CH_SCHED_level : Fld := ⟨0x1000004, 0x10000, 0x0, 31, 1, .rws, .val 0⟩
def F.CH_SCHED_wq_high : Fld := ⟨0x1000004, 0x10000, 0x0, 8, 8, .rw, .val 48⟩
def F.CH_SCHED_wq_low : Fld := ⟨0x1000004, 0x10000, 0x0, 0, 8, .rw, .val 16⟩
def F.CH_STATUS_sched_err : Fld := ⟨0x1000008, 0x10000, 0x0, 26, 1, .w1c, .val 0⟩
def F.CH_STATUS_panic : Fld := ⟨0x1000008, 0x10000, 0x0, 25, 1, .ro, .val 0⟩
def F.CH_STATUS_drain : Fld := ⟨0x1000008, 0x10000, 0x0, 24, 1, .ro, .val 0⟩
def F.CH_STATUS_wq_used : Fld := ⟨0x1000008, 0x10000, 0x0, 16, 7, .ro, .val 0⟩
def F.CH_STATUS_rq_used : Fld := ⟨0x1000008, 0x10000, 0x0, 0, 7, .ro, .val 0⟩
def F.CH_ARB_PRIO_c7 : Fld := ⟨0x1000010, 0x10000, 0x0, 28, 4, .rws, .val 0⟩
def F.CH_ARB_PRIO_c6 : Fld := ⟨0x1000010, 0x10000, 0x0, 24, 4, .rws, .val 3⟩
def F.CH_ARB_PRIO_c5 : Fld := ⟨0x1000010, 0x10000, 0x0, 20, 4, .rws, .val 3⟩
def F.CH_ARB_PRIO_c4 : Fld := ⟨0x1000010, 0x10000, 0x0, 16, 4, .rws, .val 1⟩
def F.CH_ARB_PRIO_c3 : Fld := ⟨0x1000010, 0x10000, 0x0, 12, 4, .rws, .val 2⟩
def F.CH_ARB_PRIO_c2 : Fld := ⟨0x1000010, 0x10000, 0x0, 8, 4, .rws, .val 6⟩
def F.CH_ARB_PRIO_c1 : Fld := ⟨0x1000010, 0x10000, 0x0, 4, 4, .rws, .val 5⟩
def F.CH_ARB_PRIO_c0 : Fld := ⟨0x1000010, 0x10000, 0x0, 0, 4, .rws, .val 7⟩
def F.CH_ARB_CTRL_burst : Fld := ⟨0x1000014, 0x10000, 0x0, 4, 7, .rws, .val 16⟩
def F.CH_ARB_CTRL_park : Fld := ⟨0x1000014, 0x10000, 0x0, 0, 1, .rws, .val 1⟩
def F.CH_ARB_COMMIT_view : Fld := ⟨0x1000018, 0x10000, 0x0, 1, 1, .rw, .val 0⟩
def F.CH_ARB_COMMIT_commit : Fld := ⟨0x1000018, 0x10000, 0x0, 0, 1, .wo, .val 0⟩
def F.CH_ARB_PREEMPT_count : Fld := ⟨0x100001C, 0x10000, 0x0, 5, 27, .ro, .val 0⟩
def F.CH_ARB_PREEMPT_table : Fld := ⟨0x100001C, 0x10000, 0x0, 0, 5, .ro, .val 0⟩
def F.CH_SLOTCOMMIT_result : Fld := ⟨0x1000020, 0x10000, 0x0, 8, 8, .ro, .val 0⟩
def F.CH_SLOTCOMMIT_pending : Fld := ⟨0x1000020, 0x10000, 0x0, 2, 1, .ro, .val 0⟩
def F.CH_SLOTCOMMIT_view : Fld := ⟨0x1000020, 0x10000, 0x0, 1, 1, .rw, .val 0⟩
def F.CH_SLOTCOMMIT_commit : Fld := ⟨0x1000020, 0x10000, 0x0, 0, 1, .wo, .val 0⟩
def F.CH_SLOT_LIMIT_width : Fld := ⟨0x1000024, 0x10000, 0x0, 24, 2, .ro, .val 0⟩
def F.CH_SLOT_LIMIT_reserve : Fld := ⟨0x1000024, 0x10000, 0x0, 18, 6, .ro, .val 32⟩
def F.CH_SLOT_LIMIT_limit : Fld := ⟨0x1000024, 0x10000, 0x0, 9, 9, .ro, .val 224⟩
def F.CH_SLOT_LIMIT_owned : Fld := ⟨0x1000024, 0x10000, 0x0, 0, 9, .ro, .val 222⟩
def F.CH_SLOT_REVOKED_class : Fld := ⟨0x1000028, 0x10000, 0x0, 0, 64, .w1c, .val 0⟩
def F.CH_WEIGHT_LO_c3 : Fld := ⟨0x1000030, 0x10000, 0x0, 24, 8, .rws, .val 8⟩
def F.CH_WEIGHT_LO_c2 : Fld := ⟨0x1000030, 0x10000, 0x0, 16, 8, .rws, .val 32⟩
def F.CH_WEIGHT_LO_c1 : Fld := ⟨0x1000030, 0x10000, 0x0, 8, 8, .rws, .val 96⟩
def F.CH_WEIGHT_LO_c0 : Fld := ⟨0x1000030, 0x10000, 0x0, 0, 8, .rws, .val 64⟩
def F.CH_WEIGHT_HI_c7 : Fld := ⟨0x1000034, 0x10000, 0x0, 24, 8, .rws, .val 0⟩
def F.CH_WEIGHT_HI_c6 : Fld := ⟨0x1000034, 0x10000, 0x0, 16, 8, .rws, .val 0⟩
def F.CH_WEIGHT_HI_c5 : Fld := ⟨0x1000034, 0x10000, 0x0, 8, 8, .rws, .val 0⟩
def F.CH_WEIGHT_HI_c4 : Fld := ⟨0x1000034, 0x10000, 0x0, 0, 8, .rws, .val 16⟩
def F.CH_PANIC_count : Fld := ⟨0x1000040, 0x10000, 0x0, 16, 16, .ro, .val 0⟩
def F.CH_PANIC_limit_us : Fld := ⟨0x1000040, 0x10000, 0x0, 0, 16, .rw, .val 100⟩
def F.CH_PANIC_TIME_us : Fld := ⟨0x1000044, 0x10000, 0x0, 0, 32, .ro, .val 0⟩
def F.CH_OVERDUE_count : Fld := ⟨0x1000048, 0x10000, 0x0, 0, 32, .ro, .val 0⟩
def F.CH_SLOT_e7 : Fld := ⟨0x1000400, 0x10000, 0x4, 28, 4, .rws, .special⟩
def F.CH_SLOT_e6 : Fld := ⟨0x1000400, 0x10000, 0x4, 24, 4, .rws, .special⟩
def F.CH_SLOT_e5 : Fld := ⟨0x1000400, 0x10000, 0x4, 20, 4, .rws, .special⟩
def F.CH_SLOT_e4 : Fld := ⟨0x1000400, 0x10000, 0x4, 16, 4, .rws, .special⟩
def F.CH_SLOT_e3 : Fld := ⟨0x1000400, 0x10000, 0x4, 12, 4, .rws, .special⟩
def F.CH_SLOT_e2 : Fld := ⟨0x1000400, 0x10000, 0x4, 8, 4, .rws, .special⟩
def F.CH_SLOT_e1 : Fld := ⟨0x1000400, 0x10000, 0x4, 4, 4, .rws, .special⟩
def F.CH_SLOT_e0 : Fld := ⟨0x1000400, 0x10000, 0x4, 0, 4, .rws, .special⟩
def F.CH_REF_level : Fld := ⟨0x1000500, 0x10000, 0x0, 2, 1, .rw, .val 0⟩
def F.CH_REF_policy : Fld := ⟨0x1000500, 0x10000, 0x0, 0, 2, .rw, .val 1⟩
def F.CH_REF_EXPERT_order_en : Fld := ⟨0x1000504, 0x10000, 0x0, 12, 1, .rw, .val 0⟩
def F.CH_REF_EXPERT_claim_at : Fld := ⟨0x1000504, 0x10000, 0x0, 8, 4, .rw, .val 4⟩
def F.CH_REF_EXPERT_pull_in_max : Fld := ⟨0x1000504, 0x10000, 0x0, 4, 4, .rw, .val 4⟩
def F.CH_REF_EXPERT_postpone_max : Fld := ⟨0x1000504, 0x10000, 0x0, 0, 4, .rw, .val 8⟩
def F.CH_REF_ORDER_e3 : Fld := ⟨0x1000510, 0x10000, 0x4, 24, 5, .rw, .lin 0 4 3⟩
def F.CH_REF_ORDER_e2 : Fld := ⟨0x1000510, 0x10000, 0x4, 16, 5, .rw, .lin 0 4 2⟩
def F.CH_REF_ORDER_e1 : Fld := ⟨0x1000510, 0x10000, 0x4, 8, 5, .rw, .lin 0 4 1⟩
def F.CH_REF_ORDER_e0 : Fld := ⟨0x1000510, 0x10000, 0x4, 0, 5, .rw, .lin 0 4 0⟩
def F.CH_REF_STAT_paydown : Fld := ⟨0x1000520, 0x10000, 0x0, 31, 1, .ro, .val 0⟩
def F.CH_REF_STAT_doubled : Fld := ⟨0x1000520, 0x10000, 0x0, 30, 1, .ro, .val 0⟩
def F.CH_REF_STAT_order_err : Fld := ⟨0x1000520, 0x10000, 0x0, 29, 1, .w1c, .val 0⟩
def F.CH_REF_STAT_worst_bank : Fld := ⟨0x1000520, 0x10000, 0x0, 8, 5, .ro, .val 0⟩
def F.CH_REF_STAT_worst_d : Fld := ⟨0x1000520, 0x10000, 0x0, 0, 6, .ro, .val 0⟩
def F.CH_REF_COUNT_count : Fld := ⟨0x1000524, 0x10000, 0x0, 0, 32, .ro, .val 0⟩
def F.CH_REF_FORCED_count : Fld := ⟨0x1000528, 0x10000, 0x0, 0, 32, .ro, .val 0⟩
def F.CH_REF_CMD_busy : Fld := ⟨0x100052C, 0x10000, 0x0, 31, 1, .ro, .val 0⟩
def F.CH_REF_CMD_result : Fld := ⟨0x100052C, 0x10000, 0x0, 9, 1, .ro, .val 0⟩
def F.CH_REF_CMD_go : Fld := ⟨0x100052C, 0x10000, 0x0, 8, 1, .wo, .val 0⟩
def F.CH_REF_CMD_bank : Fld := ⟨0x100052C, 0x10000, 0x0, 0, 5, .wo, .val 0⟩
def F.CH_SR_auto_en : Fld := ⟨0x1000530, 0x10000, 0x0, 31, 1, .rw, .val 1⟩
def F.CH_SR_c0_hold : Fld := ⟨0x1000530, 0x10000, 0x0, 30, 1, .ro, .val 0⟩
def F.CH_SR_in_sr : Fld := ⟨0x1000530, 0x10000, 0x0, 29, 1, .ro, .val 0⟩
def F.CH_SR_idle_us : Fld := ⟨0x1000530, 0x10000, 0x0, 0, 14, .rw, .val 20⟩
def F.CH_SR_COUNT_fixer_wakes : Fld := ⟨0x1000534, 0x10000, 0x0, 16, 16, .ro, .val 0⟩
def F.CH_SR_COUNT_entries : Fld := ⟨0x1000534, 0x10000, 0x0, 0, 16, .ro, .val 0⟩
def F.CH_SR_TIME_ms : Fld := ⟨0x1000538, 0x10000, 0x0, 0, 32, .ro, .val 0⟩
def F.CH_RP_CTRL_enable : Fld := ⟨0x1000540, 0x10000, 0x0, 16, 1, .rw, .val 1⟩
def F.CH_RP_CTRL_threshold : Fld := ⟨0x1000540, 0x10000, 0x0, 0, 11, .rw, .val 1024⟩
def F.CH_RP_COUNT_count : Fld := ⟨0x1000544, 0x10000, 0x0, 0, 32, .ro, .val 0⟩
def F.CH_RP_CLEARS_by_count : Fld := ⟨0x1000548, 0x10000, 0x0, 16, 16, .ro, .val 0⟩
def F.CH_RP_CLEARS_by_window : Fld := ⟨0x1000548, 0x10000, 0x0, 0, 16, .ro, .val 0⟩
def F.CH_RP_HOLD_count : Fld := ⟨0x100054C, 0x10000, 0x0, 0, 32, .ro, .val 0⟩
def F.CH_ECC_ERASE_pc1_valid : Fld := ⟨0x1000600, 0x10000, 0x0, 14, 1, .ro, .val 0⟩
def F.CH_ECC_ERASE_pc1_line : Fld := ⟨0x1000600, 0x10000, 0x0, 8, 6, .ro, .val 0⟩
def F.CH_ECC_ERASE_pc0_valid : Fld := ⟨0x1000600, 0x10000, 0x0, 6, 1, .ro, .val 0⟩
def F.CH_ECC_ERASE_pc0_line : Fld := ⟨0x1000600, 0x10000, 0x0, 0, 6, .ro, .val 0⟩
def F.CH_ECC_CE_pc1 : Fld := ⟨0x1000604, 0x10000, 0x0, 16, 16, .ro, .val 0⟩
def F.CH_ECC_CE_pc0 : Fld := ⟨0x1000604, 0x10000, 0x0, 0, 16, .ro, .val 0⟩
def F.CH_ECC_UE_poisoned : Fld := ⟨0x1000608, 0x10000, 0x0, 16, 16, .ro, .val 0⟩
def F.CH_ECC_UE_uncorrectable : Fld := ⟨0x1000608, 0x10000, 0x0, 0, 16, .ro, .val 0⟩
def F.CH_ECC_WORST_pc1_line : Fld := ⟨0x100060C, 0x10000, 0x0, 26, 6, .ro, .val 0⟩
def F.CH_ECC_WORST_pc1_count : Fld := ⟨0x100060C, 0x10000, 0x0, 16, 10, .ro, .val 0⟩
def F.CH_ECC_WORST_pc0_line : Fld := ⟨0x100060C, 0x10000, 0x0, 10, 6, .ro, .val 0⟩
def F.CH_ECC_WORST_pc0_count : Fld := ⟨0x100060C, 0x10000, 0x0, 0, 10, .ro, .val 0⟩
def F.CH_ECC_CLR_clear : Fld := ⟨0x1000610, 0x10000, 0x0, 0, 1, .wo, .val 0⟩
def F.CH_FIX_CTRL_enable : Fld := ⟨0x1000620, 0x10000, 0x0, 8, 1, .rw, .val 1⟩
def F.CH_FIX_CTRL_pass_h : Fld := ⟨0x1000620, 0x10000, 0x0, 0, 8, .rw, .val 24⟩
def F.CH_FIX_STAT_skipped : Fld := ⟨0x1000624, 0x10000, 0x0, 25, 7, .ro, .val 0⟩
def F.CH_FIX_STAT_cursor : Fld := ⟨0x1000624, 0x10000, 0x0, 0, 25, .ro, .val 0⟩
def F.CH_FIX_OWED_owed : Fld := ⟨0x1000628, 0x10000, 0x0, 0, 16, .ro, .val 0⟩
def F.CH_FIX_COUNT_corrected : Fld := ⟨0x100062C, 0x10000, 0x0, 16, 16, .ro, .val 0⟩
def F.CH_FIX_COUNT_poisoned : Fld := ⟨0x100062C, 0x10000, 0x0, 0, 16, .ro, .val 0⟩
def F.CH_FIX_PASSES_passes : Fld := ⟨0x1000630, 0x10000, 0x0, 0, 32, .ro, .val 0⟩
def F.CH_FIX_INIT_block : Fld := ⟨0x1000640, 0x10000, 0x4, 0, 32, .rw, .val 0⟩
def F.CH_UE_STAT_total : Fld := ⟨0x1000680, 0x10000, 0x0, 16, 16, .ro, .val 0⟩
def F.CH_UE_STAT_overflow : Fld := ⟨0x1000680, 0x10000, 0x0, 7, 1, .ro, .val 0⟩
def F.CH_UE_STAT_count : Fld := ⟨0x1000680, 0x10000, 0x0, 0, 7, .ro, .val 0⟩
def F.CH_UE_CLR_clear : Fld := ⟨0x1000684, 0x10000, 0x0, 0, 1, .wo, .val 0⟩
def F.CH_TRN_CTRL_level : Fld := ⟨0x1000700, 0x10000, 0x0, 0, 1, .rw, .val 0⟩
def F.CH_TRN_CMD_busy : Fld := ⟨0x1000704, 0x10000, 0x0, 31, 1, .ro, .val 0⟩
def F.CH_TRN_CMD_result : Fld := ⟨0x1000704, 0x10000, 0x0, 28, 3, .ro, .val 0⟩
def F.CH_TRN_CMD_arg : Fld := ⟨0x1000704, 0x10000, 0x0, 17, 3, .wo, .val 0⟩
def F.CH_TRN_CMD_pc : Fld := ⟨0x1000704, 0x10000, 0x0, 16, 1, .wo, .val 0⟩
def F.CH_TRN_CMD_line : Fld := ⟨0x1000704, 0x10000, 0x0, 10, 6, .wo, .val 0⟩
def F.CH_TRN_CMD_cmd : Fld := ⟨0x1000704, 0x10000, 0x0, 0, 4, .wo, .val 0⟩
def F.CH_TRN_STAT_rate_pending : Fld := ⟨0x1000708, 0x10000, 0x0, 31, 1, .ro, .val 0⟩
def F.CH_TRN_STAT_trained : Fld := ⟨0x1000708, 0x10000, 0x0, 30, 1, .ro, .val 0⟩
def F.CH_TRN_STAT_t_train : Fld := ⟨0x1000708, 0x10000, 0x0, 16, 8, .ro, .val 0⟩
def F.CH_TRN_STAT_worst_eye : Fld := ⟨0x1000708, 0x10000, 0x0, 8, 8, .ro, .val 0⟩
def F.CH_TRN_STAT_eye_min : Fld := ⟨0x1000708, 0x10000, 0x0, 0, 8, .ro, .val 0⟩
def F.CH_TRN_EYE_write : Fld := ⟨0x100070C, 0x10000, 0x0, 16, 16, .ro, .val 0⟩
def F.CH_TRN_EYE_read : Fld := ⟨0x100070C, 0x10000, 0x0, 0, 16, .ro, .val 0⟩
def F.CH_DLY_SEL_pc : Fld := ⟨0x1000710, 0x10000, 0x0, 7, 1, .rw, .val 0⟩
def F.CH_DLY_SEL_index : Fld := ⟨0x1000710, 0x10000, 0x0, 0, 7, .rw, .val 0⟩
def F.CH_DLY_DATA_value : Fld := ⟨0x1000714, 0x10000, 0x0, 0, 15, .rw, .undef⟩
def F.CH_TSV_STAT_converting : Fld := ⟨0x1000720, 0x10000, 0x0, 31, 1, .ro, .val 0⟩
def F.CH_TSV_STAT_half : Fld := ⟨0x1000720, 0x10000, 0x0, 29, 2, .ro, .val 0⟩
def F.CH_TSV_STAT_kept : Fld := ⟨0x1000720, 0x10000, 0x0, 27, 2, .ro, .val 0⟩
def F.CH_TSV_STAT_ca_spares : Fld := ⟨0x1000720, 0x10000, 0x0, 24, 2, .ro, .val 0⟩
def F.CH_TSV_STAT_pc1_spares : Fld := ⟨0x1000720, 0x10000, 0x0, 20, 4, .ro, .val 0⟩
def F.CH_TSV_STAT_pc0_spares : Fld := ⟨0x1000720, 0x10000, 0x0, 16, 4, .ro, .val 0⟩
def F.CH_TSV_STAT_pc1_dead : Fld := ⟨0x1000720, 0x10000, 0x0, 8, 8, .ro, .val 0⟩
def F.CH_TSV_STAT_pc0_dead : Fld := ⟨0x1000720, 0x10000, 0x0, 0, 8, .ro, .val 0⟩
def F.CH_TSV_CTRL_dead_ce : Fld := ⟨0x1000724, 0x10000, 0x0, 0, 16, .rw, .val 256⟩
def F.CH_CONV_CUR_pc : Fld := ⟨0x1000728, 0x10000, 0x0, 16, 1, .ro, .val 0⟩
def F.CH_CONV_CUR_row : Fld := ⟨0x1000728, 0x10000, 0x0, 0, 16, .ro, .val 0⟩
def F.CH_MAINT_stalls : Fld := ⟨0x100072C, 0x10000, 0x0, 20, 12, .ro, .val 0⟩
def F.CH_MAINT_gap_us : Fld := ⟨0x100072C, 0x10000, 0x0, 0, 17, .rw, .val 1000⟩
def F.CH_CAL_t_cal : Fld := ⟨0x1000730, 0x10000, 0x0, 24, 8, .ro, .val 0⟩
def F.CH_CAL_age_min : Fld := ⟨0x1000730, 0x10000, 0x0, 0, 24, .ro, .val 0⟩
def F.CH_REPAIR_SOFT_record : Fld := ⟨0x1000780, 0x10000, 0x8, 0, 64, .rw, .val 0⟩
def F.BI_CTRL_abort : Fld := ⟨0x3000000, 0x0, 0x0, 1, 1, .wo, .val 0⟩
def F.BI_CTRL_start : Fld := ⟨0x3000000, 0x0, 0x0, 0, 1, .wo, .val 0⟩
def F.BI_CFG_per_slice : Fld := ⟨0x3000004, 0x0, 0x0, 24, 8, .rw, .val 1⟩
def F.BI_CFG_pattern : Fld := ⟨0x3000004, 0x0, 0x0, 16, 3, .rw, .val 0⟩
def F.BI_CFG_kind : Fld := ⟨0x3000004, 0x0, 0x0, 14, 2, .rw, .val 1⟩
def F.BI_CFG_group : Fld := ⟨0x3000004, 0x0, 0x0, 12, 2, .rw, .val 0⟩
def F.BI_CFG_pc : Fld := ⟨0x3000004, 0x0, 0x0, 11, 1, .rw, .val 0⟩
def F.BI_CFG_channel : Fld := ⟨0x3000004, 0x0, 0x0, 0, 6, .rw, .val 0⟩
def F.BI_START_granule : Fld := ⟨0x3000008, 0x0, 0x0, 0, 25, .rw, .val 0⟩
def F.BI_SLICES_slices : Fld := ⟨0x300000C, 0x0, 0x0, 0, 25, .rw, .val 1⟩
def F.BI_USER_pattern : Fld := ⟨0x3000010, 0x0, 0x0, 0, 64, .rw, .val 0⟩
def F.BI_STATUS_result : Fld := ⟨0x3000020, 0x0, 0x0, 4, 2, .ro, .val 0⟩
def F.BI_STATUS_refused : Fld := ⟨0x3000020, 0x0, 0x0, 3, 1, .w1c, .val 0⟩
def F.BI_STATUS_busy : Fld := ⟨0x3000020, 0x0, 0x0, 2, 1, .ro, .val 0⟩
def F.BI_STATUS_complete : Fld := ⟨0x3000020, 0x0, 0x0, 1, 1, .ro, .val 0⟩
def F.BI_COUNT_patterns : Fld := ⟨0x3000024, 0x0, 0x0, 0, 32, .ro, .val 0⟩
def F.BI_DONE_patterns : Fld := ⟨0x3000028, 0x0, 0x0, 0, 32, .ro, .val 0⟩
def F.BI_SIG_sig : Fld := ⟨0x3000030, 0x0, 0x0, 0, 32, .ro, .val 0⟩
def F.BI_EXPECT_sig : Fld := ⟨0x3000034, 0x0, 0x0, 0, 32, .rw, .val 0⟩
def F.BI_FAIL_count : Fld := ⟨0x3000038, 0x0, 0x0, 16, 16, .ro, .val 0⟩
def F.BI_FAIL_pc : Fld := ⟨0x3000038, 0x0, 0x0, 7, 1, .ro, .val 0⟩
def F.BI_FAIL_line : Fld := ⟨0x3000038, 0x0, 0x0, 0, 7, .ro, .val 0⟩
def F.BI_FAIL_ADDR_granule : Fld := ⟨0x300003C, 0x0, 0x0, 0, 25, .ro, .val 0⟩
def F.CAL_CTRL_level : Fld := ⟨0x4000000, 0x0, 0x0, 1, 1, .rw, .val 0⟩
def F.CAL_CTRL_run : Fld := ⟨0x4000000, 0x0, 0x0, 0, 1, .wo, .val 0⟩
def F.CAL_STATUS_rref_ok : Fld := ⟨0x4000004, 0x0, 0x0, 31, 1, .ro, .val 0⟩
def F.CAL_STATUS_fails : Fld := ⟨0x4000004, 0x0, 0x0, 8, 8, .ro, .val 0⟩
def F.CAL_STATUS_last_item : Fld := ⟨0x4000004, 0x0, 0x0, 0, 8, .ro, .val 0⟩
def F.CAL_SEL_instance : Fld := ⟨0x4000008, 0x0, 0x0, 8, 8, .rw, .val 0⟩
def F.CAL_SEL_item : Fld := ⟨0x4000008, 0x0, 0x0, 0, 8, .rw, .val 0⟩
def F.CAL_TRIM_window : Fld := ⟨0x400000C, 0x0, 0x0, 24, 8, .rw, .fuse⟩
def F.CAL_TRIM_stored : Fld := ⟨0x400000C, 0x0, 0x0, 16, 8, .ro, .fuse⟩
def F.CAL_TRIM_value : Fld := ⟨0x400000C, 0x0, 0x0, 0, 8, .rw, .fuse⟩
def F.CAL_ROT_drift_c : Fld := ⟨0x4000010, 0x0, 0x0, 8, 5, .rw, .val 15⟩
def F.CAL_ROT_interval_h : Fld := ⟨0x4000010, 0x0, 0x0, 0, 5, .rw, .val 4⟩
def F.CAL_DUE_channel : Fld := ⟨0x4000018, 0x0, 0x0, 0, 34, .ro, .val 0⟩
def F.FUSE_CMD_busy : Fld := ⟨0x5000000, 0x0, 0x0, 31, 1, .ro, .val 0⟩
def F.FUSE_CMD_result : Fld := ⟨0x5000000, 0x0, 0x0, 28, 3, .ro, .val 0⟩
def F.FUSE_CMD_channel : Fld := ⟨0x5000000, 0x0, 0x0, 8, 6, .wo, .val 0⟩
def F.FUSE_CMD_program : Fld := ⟨0x5000000, 0x0, 0x0, 0, 1, .wo, .val 0⟩
def F.FUSE_REC_record : Fld := ⟨0x5000008, 0x0, 0x0, 0, 64, .rw, .val 0⟩
def F.FUSE_READ_SEL_channel : Fld := ⟨0x5000010, 0x0, 0x0, 8, 6, .rw, .val 0⟩
def F.FUSE_READ_SEL_slot : Fld := ⟨0x5000010, 0x0, 0x0, 0, 6, .rw, .val 0⟩
def F.FUSE_READ_record : Fld := ⟨0x5000018, 0x0, 0x0, 0, 64, .ro, .fuse⟩
def F.FUSE_FREE_slots : Fld := ⟨0x5000020, 0x0, 0x0, 0, 7, .ro, .fuse⟩
def F.PWR_CTRL_gov_en : Fld := ⟨0x40000, 0x0, 0x0, 0, 1, .rw, .val 1⟩
def F.PWR_CAP_unattainable : Fld := ⟨0x40004, 0x0, 0x0, 8, 1, .w1c, .val 0⟩
def F.PWR_CAP_forced : Fld := ⟨0x40004, 0x0, 0x0, 7, 1, .ro, .val 0⟩
def F.PWR_CAP_cap_w : Fld := ⟨0x40004, 0x0, 0x0, 0, 7, .rw, .val 70⟩
def F.PWR_POWER_avg : Fld := ⟨0x40008, 0x0, 0x0, 0, 16, .ro, .val 0⟩
def F.PWR_GOV_max_burn : Fld := ⟨0x40010, 0x0, 0x0, 28, 4, .rw, .val 8⟩
def F.PWR_GOV_band_us : Fld := ⟨0x40010, 0x0, 0x0, 16, 12, .rw, .val 1000⟩
def F.PWR_GOV_target_us : Fld := ⟨0x40010, 0x0, 0x0, 0, 16, .rw, .val 500⟩
def F.PWR_GOV_STAT_limit : Fld := ⟨0x40014, 0x0, 0x0, 31, 1, .ro, .val 0⟩
def F.PWR_GOV_STAT_deadline_burns : Fld := ⟨0x40014, 0x0, 0x0, 16, 15, .ro, .val 0⟩
def F.PWR_GOV_STAT_refused : Fld := ⟨0x40014, 0x0, 0x0, 0, 16, .ro, .val 0⟩
def F.PWR_SUSPECT_die : Fld := ⟨0x40380, 0x0, 0x0, 0, 18, .ro, .val 0⟩
def F.PWR_LADDER_therm_n : Fld := ⟨0x40384, 0x0, 0x0, 16, 1, .ro, .val 0⟩
def F.PWR_LADDER_hottest : Fld := ⟨0x40384, 0x0, 0x0, 8, 5, .ro, .val 0⟩
def F.PWR_LADDER_step : Fld := ⟨0x40384, 0x0, 0x0, 0, 3, .ro, .val 0⟩
def F.PWR_CE_manual : Fld := ⟨0x40100, 0x4, 0x0, 18, 1, .rw, .val 0⟩
def F.PWR_CE_prio : Fld := ⟨0x40100, 0x4, 0x0, 16, 2, .rw, .val 1⟩
def F.PWR_CE_set_code : Fld := ⟨0x40100, 0x4, 0x0, 8, 5, .rw, .val 15⟩
def F.PWR_CE_v_code : Fld := ⟨0x40100, 0x4, 0x0, 0, 5, .ro, .val 15⟩
def F.PWR_SV_set_code : Fld := ⟨0x40188, 0x0, 0x0, 8, 5, .rw, .val 15⟩
def F.PWR_SV_v_code : Fld := ⟨0x40188, 0x0, 0x0, 0, 5, .ro, .val 15⟩
def F.PWR_DLM_rate : Fld := ⟨0x40200, 0x4, 0x0, 0, 16, .ro, .val 0⟩
def F.PWR_TEMP_reported : Fld := ⟨0x40300, 0x4, 0x0, 24, 8, .ro, .val 0⟩
def F.PWR_TEMP_canary : Fld := ⟨0x40300, 0x4, 0x0, 16, 8, .ro, .val 128⟩
def F.PWR_TEMP_model : Fld := ⟨0x40300, 0x4, 0x0, 8, 8, .ro, .val 0⟩
def F.PWR_TEMP_sensor : Fld := ⟨0x40300, 0x4, 0x0, 0, 8, .ro, .val 0⟩
def F.PWR_DOM_busy : Fld := ⟨0x40400, 0x4, 0x0, 3, 1, .ro, .val 0⟩
def F.PWR_DOM_refused : Fld := ⟨0x40400, 0x4, 0x0, 2, 1, .w1c, .val 0⟩
def F.PWR_DOM_powered : Fld := ⟨0x40400, 0x4, 0x0, 1, 1, .ro, .val 0⟩
def F.PWR_DOM_on : Fld := ⟨0x40400, 0x4, 0x0, 0, 1, .rw, .val 0⟩
def F.PWR_RAIL_out : Fld := ⟨0x40600, 0x4, 0x0, 16, 1, .w1c, .val 0⟩
def F.PWR_RAIL_mv : Fld := ⟨0x40600, 0x4, 0x0, 0, 16, .ro, .val 0⟩
def F.FC_STATUS_group : Fld := ⟨0x20000, 0x0, 0x0, 0, 58, .ro, .val 0⟩
def F.FC_CFG_shadow_us : Fld := ⟨0x20008, 0x0, 0x0, 16, 10, .rw, .val 10⟩
def F.FC_CFG_keep_negative : Fld := ⟨0x20008, 0x0, 0x0, 1, 1, .rw, .val 1⟩
def F.FC_CFG_count_forced : Fld := ⟨0x20008, 0x0, 0x0, 0, 1, .rw, .val 0⟩
def F.FC_FIRST_valid : Fld := ⟨0x20010, 0x0, 0x0, 31, 1, .w1c, .val 0⟩
def F.FC_FIRST_group : Fld := ⟨0x20010, 0x0, 0x0, 8, 6, .ro, .val 0⟩
def F.FC_FIRST_source : Fld := ⟨0x20010, 0x0, 0x0, 0, 3, .ro, .val 0⟩
def F.FC_FIRST_TIME_ns : Fld := ⟨0x20018, 0x0, 0x0, 0, 64, .ro, .val 0⟩
def F.FC_INJECT_go : Fld := ⟨0x20030, 0x0, 0x0, 31, 1, .wo, .val 0⟩
def F.FC_INJECT_instance : Fld := ⟨0x20030, 0x0, 0x0, 16, 8, .rw, .val 0⟩
def F.FC_INJECT_group : Fld := ⟨0x20030, 0x0, 0x0, 8, 6, .rw, .val 0⟩
def F.FC_INJECT_source : Fld := ⟨0x20030, 0x0, 0x0, 0, 3, .rw, .val 0⟩
def F.FC_INJECT_ADDR_addr : Fld := ⟨0x20038, 0x0, 0x0, 0, 64, .rw, .val 0⟩
def F.FC_FENCE_master : Fld := ⟨0x20040, 0x0, 0x0, 0, 62, .ro, .val 0⟩
def F.FC_FENCE_STATUS_busy : Fld := ⟨0x20048, 0x0, 0x0, 0, 1, .ro, .val 0⟩
def F.FC_ED_FIX_cmd : Fld := ⟨0x20058, 0x0, 0x0, 30, 2, .wo, .val 0⟩
def F.FC_ED_FIX_result : Fld := ⟨0x20058, 0x0, 0x0, 28, 2, .ro, .val 0⟩
def F.FC_ED_FIX_index : Fld := ⟨0x20058, 0x0, 0x0, 0, 21, .rw, .val 0⟩
def F.FC_ED_FIX_VAL_entry : Fld := ⟨0x20060, 0x0, 0x0, 0, 64, .rw, .val 0⟩
def F.FC_DUMP_SEQ_seq : Fld := ⟨0x20070, 0x0, 0x0, 0, 32, .ro, .val 0⟩
def F.FC_DUMP_CTRL_busy : Fld := ⟨0x20074, 0x0, 0x0, 1, 1, .ro, .val 0⟩
def F.FC_DUMP_CTRL_scratch : Fld := ⟨0x20074, 0x0, 0x0, 0, 1, .wo, .val 0⟩
def F.FC_PIN_MASK_group : Fld := ⟨0x20020, 0x0, 0x0, 0, 58, .rw, .val 288230376151711743⟩
def F.FC_ENG_REASSIGN_go : Fld := ⟨0x20050, 0x0, 0x0, 31, 1, .wo, .val 0⟩
def F.FC_ENG_REASSIGN_result : Fld := ⟨0x20050, 0x0, 0x0, 28, 2, .ro, .val 0⟩
def F.FC_ENG_REASSIGN_target : Fld := ⟨0x20050, 0x0, 0x0, 8, 6, .rw, .val 0⟩
def F.FC_ENG_REASSIGN_fenced : Fld := ⟨0x20050, 0x0, 0x0, 0, 6, .rw, .val 0⟩
def F.FC_G_REAL_source : Fld := ⟨0x21000, 0x100, 0x0, 0, 8, .w1c, .val 0⟩
def F.FC_G_FORCED_source : Fld := ⟨0x21004, 0x100, 0x0, 0, 8, .w1c, .val 0⟩
def F.FC_G_SEVERE_source : Fld := ⟨0x21008, 0x100, 0x0, 0, 8, .w1c, .val 0⟩
def F.FC_G_CONSEQ_source : Fld := ⟨0x2100C, 0x100, 0x0, 0, 8, .w1c, .val 0⟩
def F.FC_G_CAP_ADDR_addr : Fld := ⟨0x21010, 0x100, 0x0, 0, 64, .ro, .val 0⟩
def F.FC_G_CAP_INFO_valid : Fld := ⟨0x21018, 0x100, 0x0, 31, 1, .w1c, .val 0⟩
def F.FC_G_CAP_INFO_origin : Fld := ⟨0x21018, 0x100, 0x0, 29, 2, .ro, .val 0⟩
def F.FC_G_CAP_INFO_access : Fld := ⟨0x21018, 0x100, 0x0, 26, 3, .ro, .val 0⟩
def F.FC_G_CAP_INFO_source : Fld := ⟨0x21018, 0x100, 0x0, 23, 3, .ro, .val 0⟩
def F.FC_G_CAP_INFO_master : Fld := ⟨0x21018, 0x100, 0x0, 17, 6, .ro, .val 0⟩
def F.FC_G_CAP_INFO_merged : Fld := ⟨0x21018, 0x100, 0x0, 8, 9, .ro, .val 0⟩
def F.FC_G_CAP_INFO_more : Fld := ⟨0x21018, 0x100, 0x0, 0, 8, .ro, .val 0⟩
def F.FC_G_CAP_TIME_ns : Fld := ⟨0x21020, 0x100, 0x0, 0, 64, .ro, .val 0⟩
def F.FC_G_DEPS_group : Fld := ⟨0x21028, 0x100, 0x0, 0, 58, .rw, .special⟩
def F.FC_G_SRC_CFG_severe : Fld := ⟨0x21040, 0x100, 0x8, 11, 3, .rw, .special⟩
def F.FC_G_SRC_CFG_event : Fld := ⟨0x21040, 0x100, 0x8, 8, 3, .rw, .special⟩
def F.FC_G_SRC_CFG_n : Fld := ⟨0x21040, 0x100, 0x8, 0, 8, .rw, .special⟩
def F.FC_G_SRC_WIN_w_us : Fld := ⟨0x21044, 0x100, 0x8, 0, 22, .rw, .special⟩
def F.FC_G_SRC_COUNT_count : Fld := ⟨0x21080, 0x100, 0x4, 0, 8, .ro, .val 0⟩
def F.PM_CTRL_title_en : Fld := ⟨0x30000, 0x0, 0x0, 1, 1, .rw, .val 0⟩
def F.PM_CTRL_level : Fld := ⟨0x30000, 0x0, 0x0, 0, 1, .rw, .val 0⟩
def F.PM_STATUS_loupe_err : Fld := ⟨0x30004, 0x0, 0x0, 3, 1, .w1c, .val 0⟩
def F.PM_STATUS_title_err : Fld := ⟨0x30004, 0x0, 0x0, 2, 1, .w1c, .val 0⟩
def F.PM_STATUS_sel_err : Fld := ⟨0x30004, 0x0, 0x0, 1, 1, .w1c, .val 0⟩
def F.PM_STATUS_sheet_err : Fld := ⟨0x30004, 0x0, 0x0, 0, 1, .w1c, .val 0⟩
def F.PM_COMMIT_view : Fld := ⟨0x30008, 0x0, 0x0, 1, 1, .rw, .val 0⟩
def F.PM_COMMIT_commit : Fld := ⟨0x30008, 0x0, 0x0, 0, 1, .wo, .val 0⟩
def F.PM_SHEET_enable : Fld := ⟨0x30010, 0x0, 0x0, 31, 1, .rw, .val 1⟩
def F.PM_SHEET_period_ms : Fld := ⟨0x30010, 0x0, 0x0, 0, 16, .rw, .val 1000⟩
def F.PM_SHEET_STAT_skipped : Fld := ⟨0x30014, 0x0, 0x0, 0, 16, .ro, .val 0⟩
def F.PM_SHEET_SEQ_seq : Fld := ⟨0x30018, 0x0, 0x0, 0, 32, .ro, .val 0⟩
def F.PM_TITLE_enable : Fld := ⟨0x3001C, 0x0, 0x0, 31, 1, .rw, .val 0⟩
def F.PM_TITLE_base : Fld := ⟨0x3001C, 0x0, 0x0, 0, 30, .rw, .val 0⟩
def F.PM_LOUPE_CTRL_run : Fld := ⟨0x30400, 0x0, 0x0, 31, 1, .rw, .val 0⟩
def F.PM_LOUPE_CTRL_drain : Fld := ⟨0x30400, 0x0, 0x0, 30, 1, .rw, .val 0⟩
def F.PM_LOUPE_CTRL_wrap : Fld := ⟨0x30400, 0x0, 0x0, 29, 1, .rw, .val 0⟩
def F.PM_LOUPE_CTRL_fset : Fld := ⟨0x30400, 0x0, 0x0, 20, 2, .rw, .val 0⟩
def F.PM_LOUPE_CTRL_p : Fld := ⟨0x30400, 0x0, 0x0, 16, 4, .rw, .val 0⟩
def F.PM_LOUPE_CTRL_event : Fld := ⟨0x30400, 0x0, 0x0, 0, 8, .rw, .val 0⟩
def F.PM_LOUPE_STAT_full : Fld := ⟨0x30404, 0x0, 0x0, 31, 1, .ro, .val 0⟩
def F.PM_LOUPE_STAT_lost : Fld := ⟨0x30404, 0x0, 0x0, 16, 15, .ro, .val 0⟩
def F.PM_LOUPE_STAT_held : Fld := ⟨0x30404, 0x0, 0x0, 0, 13, .ro, .val 0⟩
def F.PM_LOUPE_DATA_word : Fld := ⟨0x30408, 0x0, 0x0, 0, 32, .ro, .val 0⟩
def F.PM_LOUPE_RING_next : Fld := ⟨0x3040C, 0x0, 0x0, 0, 18, .ro, .val 0⟩
def F.PM_FILT_PRIV_priv : Fld := ⟨0x30040, 0x10, 0x0, 16, 2, .rws, .val 0⟩
def F.PM_FILT_PRIV_master_hi : Fld := ⟨0x30040, 0x10, 0x0, 8, 6, .rws, .val 63⟩
def F.PM_FILT_PRIV_master_lo : Fld := ⟨0x30040, 0x10, 0x0, 0, 6, .rws, .val 0⟩
def F.PM_FILT_BASE_base : Fld := ⟨0x30044, 0x10, 0x0, 0, 24, .rws, .val 0⟩
def F.PM_FILT_LIMIT_limit : Fld := ⟨0x30048, 0x10, 0x0, 0, 24, .rws, .val 16777215⟩
def F.PM_FILT_CLASS_mask : Fld := ⟨0x3004C, 0x10, 0x0, 0, 8, .rws, .val 255⟩
def F.PM_CNT_SEL_enable : Fld := ⟨0x30100, 0x4, 0x0, 31, 1, .rws, .val 0⟩
def F.PM_CNT_SEL_title : Fld := ⟨0x30100, 0x4, 0x0, 30, 1, .rws, .val 0⟩
def F.PM_CNT_SEL_fset : Fld := ⟨0x30100, 0x4, 0x0, 28, 2, .rws, .val 0⟩
def F.PM_CNT_SEL_instance : Fld := ⟨0x30100, 0x4, 0x0, 20, 6, .rws, .val 0⟩
def F.PM_CNT_SEL_event : Fld := ⟨0x30100, 0x4, 0x0, 12, 8, .rws, .val 0⟩
def F.PM_CNT_SEL_mode : Fld := ⟨0x30100, 0x4, 0x0, 8, 3, .rws, .val 0⟩
def F.PM_CNT_SEL_level : Fld := ⟨0x30100, 0x4, 0x0, 0, 8, .rws, .val 0⟩
def F.PM_CNT_count : Fld := ⟨0x30200, 0x8, 0x0, 0, 64, .rw, .val 0⟩
def F.PM_TAG_run : Fld := ⟨0x30420, 0x0, 0x0, 31, 1, .rw, .val 0⟩
def F.PM_TAG_kinds : Fld := ⟨0x30420, 0x0, 0x0, 24, 4, .rw, .val 0⟩
def F.PM_TAG_fset : Fld := ⟨0x30420, 0x0, 0x0, 20, 2, .rw, .val 0⟩
def F.PM_TAG_p : Fld := ⟨0x30420, 0x0, 0x0, 16, 4, .rw, .val 0⟩
def F.PM_TAG_seed : Fld := ⟨0x30420, 0x0, 0x0, 0, 16, .rw, .val 1⟩
def F.PM_TD_slots : Fld := ⟨0x31000, 0x40, 0x8, 0, 64, .ro, .val 0⟩
def F.PT_CNT_RXFRM_count : Fld := ⟨0x201000, 0x100, 0x0, 0, 64, .ro, .val 0⟩
def F.PT_CNT_RXBYTE_count : Fld := ⟨0x201008, 0x100, 0x0, 0, 64, .ro, .val 0⟩
def F.PT_CNT_TXFRM_count : Fld := ⟨0x201010, 0x100, 0x0, 0, 64, .ro, .val 0⟩
def F.PT_CNT_TXBYTE_count : Fld := ⟨0x201018, 0x100, 0x0, 0, 64, .ro, .val 0⟩
def F.PT_CNT_FCSERR_count : Fld := ⟨0x201020, 0x100, 0x0, 0, 32, .ro, .val 0⟩
def F.PT_CNT_UNDER_count : Fld := ⟨0x201024, 0x100, 0x0, 0, 32, .ro, .val 0⟩
def F.PT_CNT_OVER_count : Fld := ⟨0x201028, 0x100, 0x0, 0, 32, .ro, .val 0⟩
def F.PT_CNT_PAUSE_count : Fld := ⟨0x20102C, 0x100, 0x0, 0, 32, .ro, .val 0⟩
def F.PT_DROP_count : Fld := ⟨0x201040, 0x100, 0x4, 0, 32, .ro, .val 0⟩
def F.PT_PORT_CLR_clear : Fld := ⟨0x201080, 0x100, 0x0, 0, 32, .wo, .val 0⟩

def R.GLOBAL_ID : RegD := ⟨0x0, 0x0, 1, 0x0, 1, false,
  [F.GLOBAL_ID_vendor, F.GLOBAL_ID_part]⟩
def R.GLOBAL_REV : RegD := ⟨0x4, 0x0, 1, 0x0, 1, false,
  [F.GLOBAL_REV_major, F.GLOBAL_REV_minor]⟩
def R.GLOBAL_CAP : RegD := ⟨0x8, 0x0, 1, 0x0, 1, false,
  [F.GLOBAL_CAP_loupe, F.GLOBAL_CAP_dus, F.GLOBAL_CAP_lanes, F.GLOBAL_CAP_channels]⟩
def R.GLOBAL_MODE : RegD := ⟨0x10, 0x0, 1, 0x0, 1, false,
  [F.GLOBAL_MODE_result, F.GLOBAL_MODE_busy, F.GLOBAL_MODE_target, F.GLOBAL_MODE_mode]⟩
def R.GLOBAL_MODE_SET : RegD := ⟨0x14, 0x0, 1, 0x0, 1, false,
  [F.GLOBAL_MODE_SET_target]⟩
def R.GLOBAL_STATUS : RegD := ⟨0x18, 0x0, 1, 0x0, 1, false,
  [F.GLOBAL_STATUS_degraded, F.GLOBAL_STATUS_torn, F.GLOBAL_STATUS_tb_backup, F.GLOBAL_STATUS_gov_limit, F.GLOBAL_STATUS_throttled, F.GLOBAL_STATUS_overcommit, F.GLOBAL_STATUS_engine_fenced, F.GLOBAL_STATUS_lane_retired, F.GLOBAL_STATUS_no_spare, F.GLOBAL_STATUS_erasure, F.GLOBAL_STATUS_half_width, F.GLOBAL_STATUS_absent]⟩
def R.GLOBAL_RESET_CAUSE : RegD := ⟨0x20, 0x0, 1, 0x0, 1, false,
  [F.GLOBAL_RESET_CAUSE_warm_count, F.GLOBAL_RESET_CAUSE_source, F.GLOBAL_RESET_CAUSE_type]⟩
def R.GLOBAL_BOOT : RegD := ⟨0x24, 0x0, 1, 0x0, 1, false,
  [F.GLOBAL_BOOT_min_version, F.GLOBAL_BOOT_result, F.GLOBAL_BOOT_fw_running, F.GLOBAL_BOOT_boot_sel]⟩
def R.GLOBAL_FOCUS : RegD := ⟨0x28, 0x0, 1, 0x0, 1, false,
  [F.GLOBAL_FOCUS_retention, F.GLOBAL_FOCUS_step]⟩
def R.GLOBAL_DRAIN : RegD := ⟨0x2C, 0x0, 1, 0x0, 1, false,
  [F.GLOBAL_DRAIN_forced, F.GLOBAL_DRAIN_max_ms]⟩
def R.GLOBAL_FOCUS_FAIL : RegD := ⟨0x30, 0x0, 1, 0x0, 1, true,
  [F.GLOBAL_FOCUS_FAIL_channel]⟩
def R.GLOBAL_MAINT_TOUCHED : RegD := ⟨0x38, 0x0, 1, 0x0, 1, true,
  [F.GLOBAL_MAINT_TOUCHED_channel]⟩
def R.GLOBAL_RESTORE_BASE : RegD := ⟨0x40, 0x0, 1, 0x0, 1, false,
  [F.GLOBAL_RESTORE_BASE_base]⟩
def R.GLOBAL_RESTORE_LEN : RegD := ⟨0x44, 0x0, 1, 0x0, 1, false,
  [F.GLOBAL_RESTORE_LEN_bytes]⟩
def R.GLOBAL_RESTORE_CTRL : RegD := ⟨0x48, 0x0, 1, 0x0, 1, false,
  [F.GLOBAL_RESTORE_CTRL_result, F.GLOBAL_RESTORE_CTRL_busy, F.GLOBAL_RESTORE_CTRL_start]⟩
def R.CE_ID : RegD := ⟨0x2000000, 0x10000, 34, 0x0, 1, false,
  [F.CE_ID_logical, F.CE_ID_physical]⟩
def R.CE_CTRL : RegD := ⟨0x2000004, 0x10000, 34, 0x0, 1, false,
  [F.CE_CTRL_lsq_per_strand, F.CE_CTRL_break_en, F.CE_CTRL_dl_strict, F.CE_CTRL_imem_lock, F.CE_CTRL_run]⟩
def R.CE_STATUS : RegD := ⟨0x2000008, 0x10000, 34, 0x0, 1, false,
  [F.CE_STATUS_imem_ue, F.CE_STATUS_lock_violation, F.CE_STATUS_lsq_used, F.CE_STATUS_state]⟩
def R.CE_STRAND_EN : RegD := ⟨0x200000C, 0x10000, 34, 0x0, 1, false,
  [F.CE_STRAND_EN_en]⟩
def R.CE_TRAP_PEND : RegD := ⟨0x2000010, 0x10000, 34, 0x0, 1, false,
  [F.CE_TRAP_PEND_pend]⟩
def R.CE_STRAND_CMD : RegD := ⟨0x2000014, 0x10000, 34, 0x0, 1, false,
  [F.CE_STRAND_CMD_cmd, F.CE_STRAND_CMD_strand]⟩
def R.CE_IMEM_ADDR : RegD := ⟨0x2000020, 0x10000, 34, 0x0, 1, false,
  [F.CE_IMEM_ADDR_index]⟩
def R.CE_IMEM_DATA : RegD := ⟨0x2000024, 0x10000, 34, 0x0, 1, false,
  [F.CE_IMEM_DATA_word]⟩
def R.CE_IMEM_ECC : RegD := ⟨0x2000028, 0x10000, 34, 0x0, 1, false,
  [F.CE_IMEM_ECC_uncorrected, F.CE_IMEM_ECC_corrected]⟩
def R.CE_SCRATCH_SPLIT : RegD := ⟨0x2000030, 0x10000, 34, 0x0, 1, false,
  [F.CE_SCRATCH_SPLIT_title_kib]⟩
def R.CE_BREAK_TIME : RegD := ⟨0x2000040, 0x10000, 34, 0x0, 1, false,
  [F.CE_BREAK_TIME_age_us]⟩
def R.CE_BREAK_COUNT : RegD := ⟨0x2000044, 0x10000, 34, 0x0, 1, false,
  [F.CE_BREAK_COUNT_skipped, F.CE_BREAK_COUNT_trapped, F.CE_BREAK_COUNT_transparent]⟩
def R.CE_MIG_CTRL : RegD := ⟨0x2000050, 0x10000, 34, 0x0, 1, false,
  [F.CE_MIG_CTRL_force, F.CE_MIG_CTRL_start, F.CE_MIG_CTRL_target]⟩
def R.CE_MIG_STATUS : RegD := ⟨0x2000054, 0x10000, 34, 0x0, 1, false,
  [F.CE_MIG_STATUS_stall, F.CE_MIG_STATUS_failed, F.CE_MIG_STATUS_phase]⟩
def R.CE_MIG_WAIT : RegD := ⟨0x2000058, 0x10000, 34, 0x0, 1, false,
  [F.CE_MIG_WAIT_ticks]⟩
def R.CE_RANGE_COMMIT : RegD := ⟨0x20000FC, 0x10000, 34, 0x0, 1, false,
  [F.CE_RANGE_COMMIT_view, F.CE_RANGE_COMMIT_commit]⟩
def R.CE_SPC : RegD := ⟨0x2000080, 0x10000, 34, 0x4, 16, false,
  [F.CE_SPC_title, F.CE_SPC_index]⟩
def R.CE_TOKENS : RegD := ⟨0x20000C0, 0x10000, 34, 0x0, 1, true,
  [F.CE_TOKENS_tokens]⟩
def R.CE_RANGE_BASE : RegD := ⟨0x2000100, 0x10000, 34, 0x10, 64, false,
  [F.CE_RANGE_BASE_base]⟩
def R.CE_RANGE_LIMIT : RegD := ⟨0x2000104, 0x10000, 34, 0x10, 64, false,
  [F.CE_RANGE_LIMIT_limit]⟩
def R.CE_RANGE_ATTR : RegD := ⟨0x2000108, 0x10000, 34, 0x10, 64, false,
  [F.CE_RANGE_ATTR_valid, F.CE_RANGE_ATTR_fill, F.CE_RANGE_ATTR_atomic, F.CE_RANGE_ATTR_write, F.CE_RANGE_ATTR_read]⟩
def R.SV_ID : RegD := ⟨0x2400000, 0x0, 1, 0x0, 1, false,
  [F.SV_ID_master]⟩
def R.SV_EVENT_LO : RegD := ⟨0x2400010, 0x0, 1, 0x0, 1, false,
  [F.SV_EVENT_LO_engine]⟩
def R.SV_EVENT_HI : RegD := ⟨0x2400014, 0x0, 1, 0x0, 1, false,
  [F.SV_EVENT_HI_engine]⟩
def R.SV_SRAM_ECC : RegD := ⟨0x2400020, 0x0, 1, 0x0, 1, false,
  [F.SV_SRAM_ECC_uncorrected, F.SV_SRAM_ECC_corrected]⟩
def R.SV_WDOG : RegD := ⟨0x2400030, 0x0, 1, 0x0, 1, false,
  [F.SV_WDOG_kick, F.SV_WDOG_enable, F.SV_WDOG_timeout_us]⟩
def R.SV_WDOG_REMAIN : RegD := ⟨0x2400034, 0x0, 1, 0x0, 1, false,
  [F.SV_WDOG_REMAIN_remain_us]⟩
def R.TK_CTRL : RegD := ⟨0x300000, 0x0, 1, 0x0, 1, false,
  [F.TK_CTRL_late_limit, F.TK_CTRL_view, F.TK_CTRL_run]⟩
def R.TK_SCHED_COMMIT : RegD := ⟨0x300004, 0x0, 1, 0x0, 1, false,
  [F.TK_SCHED_COMMIT_commit]⟩
def R.TK_PERIOD : RegD := ⟨0x300008, 0x0, 1, 0x0, 1, false,
  [F.TK_PERIOD_ns]⟩
def R.TK_INGEST_CLOSE : RegD := ⟨0x30000C, 0x0, 1, 0x0, 1, false,
  [F.TK_INGEST_CLOSE_ns]⟩
def R.TK_COMMIT_DL : RegD := ⟨0x300010, 0x0, 1, 0x0, 1, false,
  [F.TK_COMMIT_DL_ns]⟩
def R.TK_START : RegD := ⟨0x300018, 0x0, 1, 0x0, 1, true,
  [F.TK_START_time]⟩
def R.TK_NEXT : RegD := ⟨0x300020, 0x0, 1, 0x0, 1, true,
  [F.TK_NEXT_tick]⟩
def R.TK_COMMITTED : RegD := ⟨0x300028, 0x0, 1, 0x0, 1, true,
  [F.TK_COMMITTED_tick]⟩
def R.TK_STATUS : RegD := ⟨0x300030, 0x0, 1, 0x0, 1, false,
  [F.TK_STATUS_slips, F.TK_STATUS_reanchored, F.TK_STATUS_sched_err, F.TK_STATUS_snap_hold, F.TK_STATUS_commit_open, F.TK_STATUS_held, F.TK_STATUS_phase]⟩
def R.TK_LATE : RegD := ⟨0x300034, 0x0, 1, 0x0, 1, false,
  [F.TK_LATE_count]⟩
def R.TK_SLACK : RegD := ⟨0x300038, 0x0, 1, 0x0, 1, false,
  [F.TK_SLACK_ns]⟩
def R.TK_COMMIT_TIME : RegD := ⟨0x30003C, 0x0, 1, 0x0, 1, false,
  [F.TK_COMMIT_TIME_barrier, F.TK_COMMIT_TIME_commit]⟩
def R.TK_WARM : RegD := ⟨0x300040, 0x0, 1, 0x0, 1, false,
  [F.TK_WARM_busy, F.TK_WARM_result, F.TK_WARM_start]⟩
def R.TK_EDONE : RegD := ⟨0x300100, 0x4, 34, 0x0, 1, false,
  [F.TK_EDONE_counted, F.TK_EDONE_fenced, F.TK_EDONE_ns]⟩
def R.ED_GRID : RegD := ⟨0x300200, 0x0, 1, 0x0, 1, false,
  [F.ED_GRID_ybits, F.ED_GRID_xbits]⟩
def R.ED_COUNT : RegD := ⟨0x300204, 0x0, 1, 0x0, 1, false,
  [F.ED_COUNT_valid]⟩
def R.ED_FREE : RegD := ⟨0x300208, 0x0, 1, 0x0, 1, false,
  [F.ED_FREE_free]⟩
def R.ED_TORN_COUNT : RegD := ⟨0x30020C, 0x0, 1, 0x0, 1, false,
  [F.ED_TORN_COUNT_torn]⟩
def R.ED_TORN_CURSOR : RegD := ⟨0x300210, 0x0, 1, 0x0, 1, false,
  [F.ED_TORN_CURSOR_none, F.ED_TORN_CURSOR_index]⟩
def R.ED_RESOLVE_HANDLE : RegD := ⟨0x300214, 0x0, 1, 0x0, 1, false,
  [F.ED_RESOLVE_HANDLE_handle]⟩
def R.ED_RESOLVE_CMD : RegD := ⟨0x300218, 0x0, 1, 0x0, 1, false,
  [F.ED_RESOLVE_CMD_result, F.ED_RESOLVE_CMD_cmd]⟩
def R.ED_TICK_USE : RegD := ⟨0x30021C, 0x0, 1, 0x0, 1, false,
  [F.ED_TICK_USE_frees, F.ED_TICK_USE_births]⟩
def R.SNAP_CTRL : RegD := ⟨0x300400, 0x0, 1, 0x0, 1, false,
  [F.SNAP_CTRL_ipv6, F.SNAP_CTRL_port, F.SNAP_CTRL_abort, F.SNAP_CTRL_start]⟩
def R.SNAP_STATUS : RegD := ⟨0x300404, 0x0, 1, 0x0, 1, false,
  [F.SNAP_STATUS_round, F.SNAP_STATUS_error, F.SNAP_STATUS_state]⟩
def R.SNAP_ID : RegD := ⟨0x300408, 0x0, 1, 0x0, 1, false,
  [F.SNAP_ID_id]⟩
def R.SNAP_RATE : RegD := ⟨0x30040C, 0x0, 1, 0x0, 1, false,
  [F.SNAP_RATE_mbps]⟩
def R.SNAP_FINAL : RegD := ⟨0x300410, 0x0, 1, 0x0, 1, false,
  [F.SNAP_FINAL_indices]⟩
def R.SNAP_HOLD_MAX : RegD := ⟨0x300414, 0x0, 1, 0x0, 1, false,
  [F.SNAP_HOLD_MAX_us]⟩
def R.SNAP_PORTS : RegD := ⟨0x300418, 0x0, 1, 0x0, 1, false,
  [F.SNAP_PORTS_src, F.SNAP_PORTS_dst]⟩
def R.SNAP_DADDR : RegD := ⟨0x300420, 0x4, 4, 0x0, 1, false,
  [F.SNAP_DADDR_addr]⟩
def R.SNAP_KEY : RegD := ⟨0x300430, 0x4, 8, 0x0, 1, false,
  [F.SNAP_KEY_key]⟩
def R.SNAP_SEG_BASE : RegD := ⟨0x300480, 0x8, 16, 0x0, 1, false,
  [F.SNAP_SEG_BASE_base]⟩
def R.SNAP_SEG_LIMIT : RegD := ⟨0x300484, 0x8, 16, 0x0, 1, false,
  [F.SNAP_SEG_LIMIT_valid, F.SNAP_SEG_LIMIT_limit]⟩
def R.SNAP_SENT : RegD := ⟨0x300500, 0x0, 1, 0x0, 1, true,
  [F.SNAP_SENT_count]⟩
def R.ST_CTRL : RegD := ⟨0x310000, 0x0, 1, 0x0, 1, false,
  [F.ST_CTRL_rebind, F.ST_CTRL_enable]⟩
def R.ST_WORLD_PORT : RegD := ⟨0x310004, 0x0, 1, 0x0, 1, false,
  [F.ST_WORLD_PORT_port]⟩
def R.ST_AGE : RegD := ⟨0x310008, 0x0, 1, 0x0, 1, false,
  [F.ST_AGE_close, F.ST_AGE_quiet, F.ST_AGE_period_ms]⟩
def R.ST_COUNT : RegD := ⟨0x31000C, 0x0, 1, 0x0, 1, false,
  [F.ST_COUNT_live]⟩
def R.ST_CTX_INDEX : RegD := ⟨0x310010, 0x0, 1, 0x0, 1, false,
  [F.ST_CTX_INDEX_index]⟩
def R.ST_CTX_CMD : RegD := ⟨0x310014, 0x0, 1, 0x0, 1, false,
  [F.ST_CTX_CMD_busy, F.ST_CTX_CMD_result, F.ST_CTX_CMD_port, F.ST_CTX_CMD_reason, F.ST_CTX_CMD_cmd]⟩
def R.ST_CTX_DATA : RegD := ⟨0x310040, 0x4, 16, 0x0, 1, false,
  [F.ST_CTX_DATA_word]⟩
def R.ST_KEY : RegD := ⟨0x310080, 0x4, 8, 0x0, 1, false,
  [F.ST_KEY_key]⟩
def R.ST_FW_EVENT_LO : RegD := ⟨0x3100A0, 0x0, 1, 0x0, 1, false,
  [F.ST_FW_EVENT_LO_handle]⟩
def R.ST_FW_EVENT_HI : RegD := ⟨0x3100A4, 0x0, 1, 0x0, 1, false,
  [F.ST_FW_EVENT_HI_valid, F.ST_FW_EVENT_HI_lost, F.ST_FW_EVENT_HI_reason, F.ST_FW_EVENT_HI_kind]⟩
def R.ST_EVT_BASE : RegD := ⟨0x3100B0, 0x0, 1, 0x0, 1, false,
  [F.ST_EVT_BASE_base]⟩
def R.ST_EVT_SIZE : RegD := ⟨0x3100B4, 0x0, 1, 0x0, 1, false,
  [F.ST_EVT_SIZE_enable, F.ST_EVT_SIZE_code]⟩
def R.ST_DROP : RegD := ⟨0x310100, 0x4, 8, 0x0, 1, false,
  [F.ST_DROP_count]⟩
def R.ST_BUF_WAIT : RegD := ⟨0x3100C0, 0x0, 1, 0x0, 1, false,
  [F.ST_BUF_WAIT_count]⟩
def R.DU_CTRL : RegD := ⟨0x320000, 0x0, 1, 0x0, 1, false,
  [F.DU_CTRL_depart_max, F.DU_CTRL_depart, F.DU_CTRL_level]⟩
def R.DU_PAYLOAD_MAX : RegD := ⟨0x320004, 0x0, 1, 0x0, 1, false,
  [F.DU_PAYLOAD_MAX_bytes]⟩
def R.DU_WINDOW : RegD := ⟨0x320008, 0x0, 1, 0x0, 1, false,
  [F.DU_WINDOW_us]⟩
def R.DU_LEAD : RegD := ⟨0x32000C, 0x0, 1, 0x0, 1, false,
  [F.DU_LEAD_us]⟩
def R.DU_JOIN : RegD := ⟨0x320010, 0x0, 1, 0x0, 1, false,
  [F.DU_JOIN_min_pct, F.DU_JOIN_passes]⟩
def R.DU_PANIC : RegD := ⟨0x320014, 0x0, 1, 0x0, 1, false,
  [F.DU_PANIC_count, F.DU_PANIC_lead_ns]⟩
def R.DU_STATUS : RegD := ⟨0x320018, 0x0, 1, 0x0, 1, false,
  [F.DU_STATUS_enc_err]⟩
def R.DU_ENC_COMMIT : RegD := ⟨0x32001C, 0x0, 1, 0x0, 1, false,
  [F.DU_ENC_COMMIT_view, F.DU_ENC_COMMIT_commit]⟩
def R.DU_ROUNDS : RegD := ⟨0x320020, 0x0, 1, 0x0, 1, true,
  [F.DU_ROUNDS_count]⟩
def R.DU_MISS : RegD := ⟨0x320100, 0x4, 8, 0x0, 1, false,
  [F.DU_MISS_rounds]⟩
def R.DU_ENC : RegD := ⟨0x321000, 0x100, 16, 0x4, 63, false,
  [F.DU_ENC_scale, F.DU_ENC_enc, F.DU_ENC_size, F.DU_ENC_offset]⟩
def R.LN_CTRL : RegD := ⟨0x100000, 0x1000, 9, 0x0, 1, false,
  [F.LN_CTRL_level, F.LN_CTRL_an_en, F.LN_CTRL_pma_reset, F.LN_CTRL_enable]⟩
def R.LN_STATUS : RegD := ⟨0x100004, 0x1000, 9, 0x0, 1, false,
  [F.LN_STATUS_train, F.LN_STATUS_up, F.LN_STATUS_am_lock, F.LN_STATUS_cdr_lock, F.LN_STATUS_signal, F.LN_STATUS_retired]⟩
def R.LN_TRAIN_CMD : RegD := ⟨0x100008, 0x1000, 9, 0x0, 1, false,
  [F.LN_TRAIN_CMD_busy, F.LN_TRAIN_CMD_result, F.LN_TRAIN_CMD_arg, F.LN_TRAIN_CMD_cmd]⟩
def R.LN_TXFIR : RegD := ⟨0x10000C, 0x1000, 9, 0x0, 1, false,
  [F.LN_TXFIR_post, F.LN_TXFIR_main, F.LN_TXFIR_pre1, F.LN_TXFIR_pre2]⟩
def R.LN_PAT_CTRL : RegD := ⟨0x100020, 0x1000, 9, 0x0, 1, false,
  [F.LN_PAT_CTRL_inject_period, F.LN_PAT_CTRL_inject, F.LN_PAT_CTRL_chk, F.LN_PAT_CTRL_gen, F.LN_PAT_CTRL_mode]⟩
def R.LN_PAT_STATUS : RegD := ⟨0x100024, 0x1000, 9, 0x0, 1, false,
  [F.LN_PAT_STATUS_refused, F.LN_PAT_STATUS_lock]⟩
def R.LN_PAT_USER : RegD := ⟨0x100028, 0x1000, 9, 0x0, 1, true,
  [F.LN_PAT_USER_pattern]⟩
def R.LN_PAT_ERR : RegD := ⟨0x100030, 0x1000, 9, 0x0, 1, true,
  [F.LN_PAT_ERR_errors]⟩
def R.LN_PAT_BITS : RegD := ⟨0x100038, 0x1000, 9, 0x0, 1, true,
  [F.LN_PAT_BITS_bits]⟩
def R.LN_RM : RegD := ⟨0x100058, 0x1000, 9, 0x0, 1, false,
  [F.LN_RM_deleted, F.LN_RM_inserted]⟩
def R.LN_FLAPS : RegD := ⟨0x10005C, 0x1000, 9, 0x0, 1, false,
  [F.LN_FLAPS_count]⟩
def R.LN_LATENCY : RegD := ⟨0x100060, 0x1000, 9, 0x0, 1, false,
  [F.LN_LATENCY_tx, F.LN_LATENCY_rx]⟩
def R.LN_ALIGN : RegD := ⟨0x100014, 0x1000, 9, 0x0, 1, false,
  [F.LN_ALIGN_err, F.LN_ALIGN_locked, F.LN_ALIGN_manual, F.LN_ALIGN_pending, F.LN_ALIGN_slip]⟩
def R.LN_FEC_CORR : RegD := ⟨0x100040, 0x1000, 9, 0x0, 1, true,
  [F.LN_FEC_CORR_count]⟩
def R.LN_FEC_UNCORR : RegD := ⟨0x100048, 0x1000, 9, 0x0, 1, true,
  [F.LN_FEC_UNCORR_count]⟩
def R.LN_FEC_SYM : RegD := ⟨0x100050, 0x1000, 9, 0x0, 1, true,
  [F.LN_FEC_SYM_count]⟩
def R.PT_CFG : RegD := ⟨0x200000, 0x0, 1, 0x0, 1, false,
  [F.PT_CFG_err, F.PT_CFG_mode]⟩
def R.PT_FWQ : RegD := ⟨0x200004, 0x0, 1, 0x0, 1, false,
  [F.PT_FWQ_rate]⟩
def R.PT_PORT_CTRL : RegD := ⟨0x200100, 0x10, 8, 0x0, 1, false,
  [F.PT_PORT_CTRL_pcp, F.PT_PORT_CTRL_tx_tag, F.PT_PORT_CTRL_untagged, F.PT_PORT_CTRL_vid]⟩
def R.PT_PORT_STATUS : RegD := ⟨0x200104, 0x10, 8, 0x0, 1, false,
  [F.PT_PORT_STATUS_leave, F.PT_PORT_STATUS_dist, F.PT_PORT_STATUS_up]⟩
def R.PT_PORT_GRP : RegD := ⟨0x200108, 0x10, 8, 0x0, 1, false,
  [F.PT_PORT_GRP_medium, F.PT_PORT_GRP_dist, F.PT_PORT_GRP_enable, F.PT_PORT_GRP_group]⟩
def R.PT_GRP_MAC : RegD := ⟨0x200200, 0x40, 8, 0x0, 1, true,
  [F.PT_GRP_MAC_mac]⟩
def R.PT_GRP_IPV4 : RegD := ⟨0x200208, 0x40, 8, 0x0, 1, false,
  [F.PT_GRP_IPV4_addr]⟩
def R.PT_GRP_MTU : RegD := ⟨0x20020C, 0x40, 8, 0x0, 1, false,
  [F.PT_GRP_MTU_bytes]⟩
def R.PT_GRP_IPV6 : RegD := ⟨0x200210, 0x40, 8, 0x4, 4, false,
  [F.PT_GRP_IPV6_addr]⟩
def R.PT_GRP_LL : RegD := ⟨0x200220, 0x40, 8, 0x4, 4, false,
  [F.PT_GRP_LL_addr]⟩
def R.PT_FWRX_CMD : RegD := ⟨0x200400, 0x0, 1, 0x0, 1, false,
  [F.PT_FWRX_CMD_pop, F.PT_FWRX_CMD_lane]⟩
def R.PT_FWRX_DESC : RegD := ⟨0x200404, 0x0, 1, 0x0, 1, false,
  [F.PT_FWRX_DESC_valid, F.PT_FWRX_DESC_port, F.PT_FWRX_DESC_length]⟩
def R.PT_FWRX_DATA : RegD := ⟨0x200408, 0x0, 1, 0x0, 1, false,
  [F.PT_FWRX_DATA_word]⟩
def R.PT_FWTX_CTRL : RegD := ⟨0x200410, 0x0, 1, 0x0, 1, false,
  [F.PT_FWTX_CTRL_send, F.PT_FWTX_CTRL_full, F.PT_FWTX_CTRL_one_step, F.PT_FWTX_CTRL_two_step, F.PT_FWTX_CTRL_port, F.PT_FWTX_CTRL_length]⟩
def R.PT_FWTX_DATA : RegD := ⟨0x200414, 0x0, 1, 0x0, 1, false,
  [F.PT_FWTX_DATA_word]⟩
def R.PT_TXTS : RegD := ⟨0x200420, 0x0, 1, 0x0, 1, true,
  [F.PT_TXTS_time]⟩
def R.PT_TXTS_ID : RegD := ⟨0x200428, 0x0, 1, 0x0, 1, false,
  [F.PT_TXTS_ID_valid, F.PT_TXTS_ID_lost, F.PT_TXTS_ID_port, F.PT_TXTS_ID_seq]⟩
def R.TB_CTRL : RegD := ⟨0x10000, 0x0, 1, 0x0, 1, false,
  [F.TB_CTRL_locked]⟩
def R.TB_STATUS : RegD := ⟨0x10004, 0x0, 1, 0x0, 1, false,
  [F.TB_STATUS_pps_in, F.TB_STATUS_backup, F.TB_STATUS_step_refused, F.TB_STATUS_slewing]⟩
def R.TB_TIME : RegD := ⟨0x10008, 0x0, 1, 0x0, 1, true,
  [F.TB_TIME_ns]⟩
def R.TB_FRAC : RegD := ⟨0x10010, 0x0, 1, 0x0, 1, false,
  [F.TB_FRAC_frac]⟩
def R.TB_INCR : RegD := ⟨0x10014, 0x0, 1, 0x0, 1, false,
  [F.TB_INCR_incr]⟩
def R.TB_STEP : RegD := ⟨0x10018, 0x0, 1, 0x0, 1, true,
  [F.TB_STEP_ns]⟩
def R.TB_SLEW : RegD := ⟨0x10020, 0x0, 1, 0x0, 1, false,
  [F.TB_SLEW_ns]⟩
def R.TB_SLEW_LEFT : RegD := ⟨0x10024, 0x0, 1, 0x0, 1, false,
  [F.TB_SLEW_LEFT_ns]⟩
def R.TB_PPS : RegD := ⟨0x10030, 0x0, 1, 0x0, 1, false,
  [F.TB_PPS_width_ms, F.TB_PPS_out_en]⟩
def R.TB_PPS_IN : RegD := ⟨0x10038, 0x0, 1, 0x0, 1, true,
  [F.TB_PPS_IN_ns]⟩
def R.MG_CTRL : RegD := ⟨0x1000, 0x0, 1, 0x0, 1, false,
  [F.MG_CTRL_notice_en, F.MG_CTRL_udp_en, F.MG_CTRL_fec]⟩
def R.MG_UDP_PORT : RegD := ⟨0x1004, 0x0, 1, 0x0, 1, false,
  [F.MG_UDP_PORT_port]⟩
def R.MG_IPV4 : RegD := ⟨0x1008, 0x0, 1, 0x0, 1, false,
  [F.MG_IPV4_addr]⟩
def R.MG_MAC : RegD := ⟨0x1010, 0x0, 1, 0x0, 1, true,
  [F.MG_MAC_mac]⟩
def R.MG_NONCE : RegD := ⟨0x1018, 0x0, 1, 0x0, 1, true,
  [F.MG_NONCE_nonce]⟩
def R.MG_SEQ : RegD := ⟨0x1020, 0x0, 1, 0x0, 1, true,
  [F.MG_SEQ_seq]⟩
def R.MG_KEY : RegD := ⟨0x1028, 0x0, 1, 0x0, 1, false,
  [F.MG_KEY_committed, F.MG_KEY_in_use]⟩
def R.MG_QUEUE : RegD := ⟨0x102C, 0x0, 1, 0x0, 1, false,
  [F.MG_QUEUE_long_code, F.MG_QUEUE_depth]⟩
def R.MG_REJECT_COUNT : RegD := ⟨0x1030, 0x0, 1, 0x0, 1, false,
  [F.MG_REJECT_COUNT_count]⟩
def R.MG_REJECT_LAST : RegD := ⟨0x1034, 0x0, 1, 0x0, 1, false,
  [F.MG_REJECT_LAST_seq, F.MG_REJECT_LAST_code, F.MG_REJECT_LAST_status]⟩
def R.MG_AUTH_FAIL : RegD := ⟨0x1038, 0x0, 1, 0x0, 1, false,
  [F.MG_AUTH_FAIL_suppressed, F.MG_AUTH_FAIL_failures]⟩
def R.MG_NDEST_MAC : RegD := ⟨0x1040, 0x0, 1, 0x0, 1, true,
  [F.MG_NDEST_MAC_mac]⟩
def R.MG_NDEST_IP : RegD := ⟨0x1048, 0x0, 1, 0x0, 1, false,
  [F.MG_NDEST_IP_addr]⟩
def R.MG_NDEST_PORT : RegD := ⟨0x104C, 0x0, 1, 0x0, 1, false,
  [F.MG_NDEST_PORT_udp, F.MG_NDEST_PORT_port]⟩
def R.MG_EVENTS : RegD := ⟨0x103C, 0x0, 1, 0x0, 1, false,
  [F.MG_EVENTS_lost, F.MG_EVENTS_queued]⟩
def R.RG_COMMIT : RegD := ⟨0x50000, 0x0, 1, 0x0, 1, false,
  [F.RG_COMMIT_refused, F.RG_COMMIT_view, F.RG_COMMIT_commit]⟩
def R.RG_OVERCOMMIT : RegD := ⟨0x50008, 0x0, 1, 0x0, 1, true,
  [F.RG_OVERCOMMIT_channel]⟩
def R.RG_CNT_CLR : RegD := ⟨0x50010, 0x0, 1, 0x0, 1, false,
  [F.RG_CNT_CLR_clear]⟩
def R.RG_RANGE_BASE : RegD := ⟨0x50100, 0x10, 64, 0x0, 1, false,
  [F.RG_RANGE_BASE_base]⟩
def R.RG_RANGE_LIMIT : RegD := ⟨0x50104, 0x10, 64, 0x0, 1, false,
  [F.RG_RANGE_LIMIT_limit]⟩
def R.RG_RANGE_ATTR : RegD := ⟨0x50108, 0x10, 64, 0x0, 1, false,
  [F.RG_RANGE_ATTR_valid, F.RG_RANGE_ATTR_class]⟩
def R.RG_STRIPE_BASE : RegD := ⟨0x50600, 0x10, 4, 0x0, 1, false,
  [F.RG_STRIPE_BASE_base]⟩
def R.RG_STRIPE_SIZE : RegD := ⟨0x50604, 0x10, 4, 0x0, 1, false,
  [F.RG_STRIPE_SIZE_units]⟩
def R.RG_STRIPE_CTRL : RegD := ⟨0x50608, 0x10, 4, 0x0, 1, false,
  [F.RG_STRIPE_CTRL_valid, F.RG_STRIPE_CTRL_ways]⟩
def R.RG_CHMAP : RegD := ⟨0x50800, 0x8, 32, 0x0, 1, false,
  [F.RG_CHMAP_state, F.RG_CHMAP_old, F.RG_CHMAP_phys]⟩
def R.RG_CHCUR : RegD := ⟨0x50804, 0x8, 32, 0x0, 1, false,
  [F.RG_CHCUR_cursor]⟩
def R.RG_CHMAP_COMMIT : RegD := ⟨0x50900, 0x0, 1, 0x0, 1, false,
  [F.RG_CHMAP_COMMIT_err, F.RG_CHMAP_COMMIT_busy, F.RG_CHMAP_COMMIT_view, F.RG_CHMAP_COMMIT_commit]⟩
def R.RG_CNT_RD : RegD := ⟨0x51000, 0x80, 34, 0x10, 8, true,
  [F.RG_CNT_RD_granules]⟩
def R.RG_CNT_WR : RegD := ⟨0x51008, 0x80, 34, 0x10, 8, true,
  [F.RG_CNT_WR_granules]⟩
def R.CH_ID : RegD := ⟨0x1000000, 0x10000, 34, 0x0, 1, false,
  [F.CH_ID_state, F.CH_ID_rate, F.CH_ID_logical, F.CH_ID_physical]⟩
def R.CH_SCHED : RegD := ⟨0x1000004, 0x10000, 34, 0x0, 1, false,
  [F.CH_SCHED_level, F.CH_SCHED_wq_high, F.CH_SCHED_wq_low]⟩
def R.CH_STATUS : RegD := ⟨0x1000008, 0x10000, 34, 0x0, 1, false,
  [F.CH_STATUS_sched_err, F.CH_STATUS_panic, F.CH_STATUS_drain, F.CH_STATUS_wq_used, F.CH_STATUS_rq_used]⟩
def R.CH_ARB_PRIO : RegD := ⟨0x1000010, 0x10000, 34, 0x0, 1, false,
  [F.CH_ARB_PRIO_c7, F.CH_ARB_PRIO_c6, F.CH_ARB_PRIO_c5, F.CH_ARB_PRIO_c4, F.CH_ARB_PRIO_c3, F.CH_ARB_PRIO_c2, F.CH_ARB_PRIO_c1, F.CH_ARB_PRIO_c0]⟩
def R.CH_ARB_CTRL : RegD := ⟨0x1000014, 0x10000, 34, 0x0, 1, false,
  [F.CH_ARB_CTRL_burst, F.CH_ARB_CTRL_park]⟩
def R.CH_ARB_COMMIT : RegD := ⟨0x1000018, 0x10000, 34, 0x0, 1, false,
  [F.CH_ARB_COMMIT_view, F.CH_ARB_COMMIT_commit]⟩
def R.CH_ARB_PREEMPT : RegD := ⟨0x100001C, 0x10000, 34, 0x0, 1, false,
  [F.CH_ARB_PREEMPT_count, F.CH_ARB_PREEMPT_table]⟩
def R.CH_SLOTCOMMIT : RegD := ⟨0x1000020, 0x10000, 34, 0x0, 1, false,
  [F.CH_SLOTCOMMIT_result, F.CH_SLOTCOMMIT_pending, F.CH_SLOTCOMMIT_view, F.CH_SLOTCOMMIT_commit]⟩
def R.CH_SLOT_LIMIT : RegD := ⟨0x1000024, 0x10000, 34, 0x0, 1, false,
  [F.CH_SLOT_LIMIT_width, F.CH_SLOT_LIMIT_reserve, F.CH_SLOT_LIMIT_limit, F.CH_SLOT_LIMIT_owned]⟩
def R.CH_SLOT_REVOKED : RegD := ⟨0x1000028, 0x10000, 34, 0x0, 1, true,
  [F.CH_SLOT_REVOKED_class]⟩
def R.CH_WEIGHT_LO : RegD := ⟨0x1000030, 0x10000, 34, 0x0, 1, false,
  [F.CH_WEIGHT_LO_c3, F.CH_WEIGHT_LO_c2, F.CH_WEIGHT_LO_c1, F.CH_WEIGHT_LO_c0]⟩
def R.CH_WEIGHT_HI : RegD := ⟨0x1000034, 0x10000, 34, 0x0, 1, false,
  [F.CH_WEIGHT_HI_c7, F.CH_WEIGHT_HI_c6, F.CH_WEIGHT_HI_c5, F.CH_WEIGHT_HI_c4]⟩
def R.CH_PANIC : RegD := ⟨0x1000040, 0x10000, 34, 0x0, 1, false,
  [F.CH_PANIC_count, F.CH_PANIC_limit_us]⟩
def R.CH_PANIC_TIME : RegD := ⟨0x1000044, 0x10000, 34, 0x0, 1, false,
  [F.CH_PANIC_TIME_us]⟩
def R.CH_OVERDUE : RegD := ⟨0x1000048, 0x10000, 34, 0x0, 1, false,
  [F.CH_OVERDUE_count]⟩
def R.CH_SLOT : RegD := ⟨0x1000400, 0x10000, 34, 0x4, 32, false,
  [F.CH_SLOT_e7, F.CH_SLOT_e6, F.CH_SLOT_e5, F.CH_SLOT_e4, F.CH_SLOT_e3, F.CH_SLOT_e2, F.CH_SLOT_e1, F.CH_SLOT_e0]⟩
def R.CH_REF : RegD := ⟨0x1000500, 0x10000, 34, 0x0, 1, false,
  [F.CH_REF_level, F.CH_REF_policy]⟩
def R.CH_REF_EXPERT : RegD := ⟨0x1000504, 0x10000, 34, 0x0, 1, false,
  [F.CH_REF_EXPERT_order_en, F.CH_REF_EXPERT_claim_at, F.CH_REF_EXPERT_pull_in_max, F.CH_REF_EXPERT_postpone_max]⟩
def R.CH_REF_ORDER : RegD := ⟨0x1000510, 0x10000, 34, 0x4, 8, false,
  [F.CH_REF_ORDER_e3, F.CH_REF_ORDER_e2, F.CH_REF_ORDER_e1, F.CH_REF_ORDER_e0]⟩
def R.CH_REF_STAT : RegD := ⟨0x1000520, 0x10000, 34, 0x0, 1, false,
  [F.CH_REF_STAT_paydown, F.CH_REF_STAT_doubled, F.CH_REF_STAT_order_err, F.CH_REF_STAT_worst_bank, F.CH_REF_STAT_worst_d]⟩
def R.CH_REF_COUNT : RegD := ⟨0x1000524, 0x10000, 34, 0x0, 1, false,
  [F.CH_REF_COUNT_count]⟩
def R.CH_REF_FORCED : RegD := ⟨0x1000528, 0x10000, 34, 0x0, 1, false,
  [F.CH_REF_FORCED_count]⟩
def R.CH_REF_CMD : RegD := ⟨0x100052C, 0x10000, 34, 0x0, 1, false,
  [F.CH_REF_CMD_busy, F.CH_REF_CMD_result, F.CH_REF_CMD_go, F.CH_REF_CMD_bank]⟩
def R.CH_SR : RegD := ⟨0x1000530, 0x10000, 34, 0x0, 1, false,
  [F.CH_SR_auto_en, F.CH_SR_c0_hold, F.CH_SR_in_sr, F.CH_SR_idle_us]⟩
def R.CH_SR_COUNT : RegD := ⟨0x1000534, 0x10000, 34, 0x0, 1, false,
  [F.CH_SR_COUNT_fixer_wakes, F.CH_SR_COUNT_entries]⟩
def R.CH_SR_TIME : RegD := ⟨0x1000538, 0x10000, 34, 0x0, 1, false,
  [F.CH_SR_TIME_ms]⟩
def R.CH_RP_CTRL : RegD := ⟨0x1000540, 0x10000, 34, 0x0, 1, false,
  [F.CH_RP_CTRL_enable, F.CH_RP_CTRL_threshold]⟩
def R.CH_RP_COUNT : RegD := ⟨0x1000544, 0x10000, 34, 0x0, 1, false,
  [F.CH_RP_COUNT_count]⟩
def R.CH_RP_CLEARS : RegD := ⟨0x1000548, 0x10000, 34, 0x0, 1, false,
  [F.CH_RP_CLEARS_by_count, F.CH_RP_CLEARS_by_window]⟩
def R.CH_RP_HOLD : RegD := ⟨0x100054C, 0x10000, 34, 0x0, 1, false,
  [F.CH_RP_HOLD_count]⟩
def R.CH_ECC_ERASE : RegD := ⟨0x1000600, 0x10000, 34, 0x0, 1, false,
  [F.CH_ECC_ERASE_pc1_valid, F.CH_ECC_ERASE_pc1_line, F.CH_ECC_ERASE_pc0_valid, F.CH_ECC_ERASE_pc0_line]⟩
def R.CH_ECC_CE : RegD := ⟨0x1000604, 0x10000, 34, 0x0, 1, false,
  [F.CH_ECC_CE_pc1, F.CH_ECC_CE_pc0]⟩
def R.CH_ECC_UE : RegD := ⟨0x1000608, 0x10000, 34, 0x0, 1, false,
  [F.CH_ECC_UE_poisoned, F.CH_ECC_UE_uncorrectable]⟩
def R.CH_ECC_WORST : RegD := ⟨0x100060C, 0x10000, 34, 0x0, 1, false,
  [F.CH_ECC_WORST_pc1_line, F.CH_ECC_WORST_pc1_count, F.CH_ECC_WORST_pc0_line, F.CH_ECC_WORST_pc0_count]⟩
def R.CH_ECC_CLR : RegD := ⟨0x1000610, 0x10000, 34, 0x0, 1, false,
  [F.CH_ECC_CLR_clear]⟩
def R.CH_FIX_CTRL : RegD := ⟨0x1000620, 0x10000, 34, 0x0, 1, false,
  [F.CH_FIX_CTRL_enable, F.CH_FIX_CTRL_pass_h]⟩
def R.CH_FIX_STAT : RegD := ⟨0x1000624, 0x10000, 34, 0x0, 1, false,
  [F.CH_FIX_STAT_skipped, F.CH_FIX_STAT_cursor]⟩
def R.CH_FIX_OWED : RegD := ⟨0x1000628, 0x10000, 34, 0x0, 1, false,
  [F.CH_FIX_OWED_owed]⟩
def R.CH_FIX_COUNT : RegD := ⟨0x100062C, 0x10000, 34, 0x0, 1, false,
  [F.CH_FIX_COUNT_corrected, F.CH_FIX_COUNT_poisoned]⟩
def R.CH_FIX_PASSES : RegD := ⟨0x1000630, 0x10000, 34, 0x0, 1, false,
  [F.CH_FIX_PASSES_passes]⟩
def R.CH_FIX_INIT : RegD := ⟨0x1000640, 0x10000, 34, 0x4, 16, false,
  [F.CH_FIX_INIT_block]⟩
def R.CH_UE_STAT : RegD := ⟨0x1000680, 0x10000, 34, 0x0, 1, false,
  [F.CH_UE_STAT_total, F.CH_UE_STAT_overflow, F.CH_UE_STAT_count]⟩
def R.CH_UE_CLR : RegD := ⟨0x1000684, 0x10000, 34, 0x0, 1, false,
  [F.CH_UE_CLR_clear]⟩
def R.CH_TRN_CTRL : RegD := ⟨0x1000700, 0x10000, 34, 0x0, 1, false,
  [F.CH_TRN_CTRL_level]⟩
def R.CH_TRN_CMD : RegD := ⟨0x1000704, 0x10000, 34, 0x0, 1, false,
  [F.CH_TRN_CMD_busy, F.CH_TRN_CMD_result, F.CH_TRN_CMD_arg, F.CH_TRN_CMD_pc, F.CH_TRN_CMD_line, F.CH_TRN_CMD_cmd]⟩
def R.CH_TRN_STAT : RegD := ⟨0x1000708, 0x10000, 34, 0x0, 1, false,
  [F.CH_TRN_STAT_rate_pending, F.CH_TRN_STAT_trained, F.CH_TRN_STAT_t_train, F.CH_TRN_STAT_worst_eye, F.CH_TRN_STAT_eye_min]⟩
def R.CH_TRN_EYE : RegD := ⟨0x100070C, 0x10000, 34, 0x0, 1, false,
  [F.CH_TRN_EYE_write, F.CH_TRN_EYE_read]⟩
def R.CH_DLY_SEL : RegD := ⟨0x1000710, 0x10000, 34, 0x0, 1, false,
  [F.CH_DLY_SEL_pc, F.CH_DLY_SEL_index]⟩
def R.CH_DLY_DATA : RegD := ⟨0x1000714, 0x10000, 34, 0x0, 1, false,
  [F.CH_DLY_DATA_value]⟩
def R.CH_TSV_STAT : RegD := ⟨0x1000720, 0x10000, 34, 0x0, 1, false,
  [F.CH_TSV_STAT_converting, F.CH_TSV_STAT_half, F.CH_TSV_STAT_kept, F.CH_TSV_STAT_ca_spares, F.CH_TSV_STAT_pc1_spares, F.CH_TSV_STAT_pc0_spares, F.CH_TSV_STAT_pc1_dead, F.CH_TSV_STAT_pc0_dead]⟩
def R.CH_TSV_CTRL : RegD := ⟨0x1000724, 0x10000, 34, 0x0, 1, false,
  [F.CH_TSV_CTRL_dead_ce]⟩
def R.CH_CONV_CUR : RegD := ⟨0x1000728, 0x10000, 34, 0x0, 1, false,
  [F.CH_CONV_CUR_pc, F.CH_CONV_CUR_row]⟩
def R.CH_MAINT : RegD := ⟨0x100072C, 0x10000, 34, 0x0, 1, false,
  [F.CH_MAINT_stalls, F.CH_MAINT_gap_us]⟩
def R.CH_CAL : RegD := ⟨0x1000730, 0x10000, 34, 0x0, 1, false,
  [F.CH_CAL_t_cal, F.CH_CAL_age_min]⟩
def R.CH_REPAIR_SOFT : RegD := ⟨0x1000780, 0x10000, 34, 0x8, 16, true,
  [F.CH_REPAIR_SOFT_record]⟩
def R.BI_CTRL : RegD := ⟨0x3000000, 0x0, 1, 0x0, 1, false,
  [F.BI_CTRL_abort, F.BI_CTRL_start]⟩
def R.BI_CFG : RegD := ⟨0x3000004, 0x0, 1, 0x0, 1, false,
  [F.BI_CFG_per_slice, F.BI_CFG_pattern, F.BI_CFG_kind, F.BI_CFG_group, F.BI_CFG_pc, F.BI_CFG_channel]⟩
def R.BI_START : RegD := ⟨0x3000008, 0x0, 1, 0x0, 1, false,
  [F.BI_START_granule]⟩
def R.BI_SLICES : RegD := ⟨0x300000C, 0x0, 1, 0x0, 1, false,
  [F.BI_SLICES_slices]⟩
def R.BI_USER : RegD := ⟨0x3000010, 0x0, 1, 0x0, 1, true,
  [F.BI_USER_pattern]⟩
def R.BI_STATUS : RegD := ⟨0x3000020, 0x0, 1, 0x0, 1, false,
  [F.BI_STATUS_result, F.BI_STATUS_refused, F.BI_STATUS_busy, F.BI_STATUS_complete]⟩
def R.BI_COUNT : RegD := ⟨0x3000024, 0x0, 1, 0x0, 1, false,
  [F.BI_COUNT_patterns]⟩
def R.BI_DONE : RegD := ⟨0x3000028, 0x0, 1, 0x0, 1, false,
  [F.BI_DONE_patterns]⟩
def R.BI_SIG : RegD := ⟨0x3000030, 0x0, 1, 0x0, 1, false,
  [F.BI_SIG_sig]⟩
def R.BI_EXPECT : RegD := ⟨0x3000034, 0x0, 1, 0x0, 1, false,
  [F.BI_EXPECT_sig]⟩
def R.BI_FAIL : RegD := ⟨0x3000038, 0x0, 1, 0x0, 1, false,
  [F.BI_FAIL_count, F.BI_FAIL_pc, F.BI_FAIL_line]⟩
def R.BI_FAIL_ADDR : RegD := ⟨0x300003C, 0x0, 1, 0x0, 1, false,
  [F.BI_FAIL_ADDR_granule]⟩
def R.CAL_CTRL : RegD := ⟨0x4000000, 0x0, 1, 0x0, 1, false,
  [F.CAL_CTRL_level, F.CAL_CTRL_run]⟩
def R.CAL_STATUS : RegD := ⟨0x4000004, 0x0, 1, 0x0, 1, false,
  [F.CAL_STATUS_rref_ok, F.CAL_STATUS_fails, F.CAL_STATUS_last_item]⟩
def R.CAL_SEL : RegD := ⟨0x4000008, 0x0, 1, 0x0, 1, false,
  [F.CAL_SEL_instance, F.CAL_SEL_item]⟩
def R.CAL_TRIM : RegD := ⟨0x400000C, 0x0, 1, 0x0, 1, false,
  [F.CAL_TRIM_window, F.CAL_TRIM_stored, F.CAL_TRIM_value]⟩
def R.CAL_ROT : RegD := ⟨0x4000010, 0x0, 1, 0x0, 1, false,
  [F.CAL_ROT_drift_c, F.CAL_ROT_interval_h]⟩
def R.CAL_DUE : RegD := ⟨0x4000018, 0x0, 1, 0x0, 1, true,
  [F.CAL_DUE_channel]⟩
def R.FUSE_CMD : RegD := ⟨0x5000000, 0x0, 1, 0x0, 1, false,
  [F.FUSE_CMD_busy, F.FUSE_CMD_result, F.FUSE_CMD_channel, F.FUSE_CMD_program]⟩
def R.FUSE_REC : RegD := ⟨0x5000008, 0x0, 1, 0x0, 1, true,
  [F.FUSE_REC_record]⟩
def R.FUSE_READ_SEL : RegD := ⟨0x5000010, 0x0, 1, 0x0, 1, false,
  [F.FUSE_READ_SEL_channel, F.FUSE_READ_SEL_slot]⟩
def R.FUSE_READ : RegD := ⟨0x5000018, 0x0, 1, 0x0, 1, true,
  [F.FUSE_READ_record]⟩
def R.FUSE_FREE : RegD := ⟨0x5000020, 0x0, 1, 0x0, 1, false,
  [F.FUSE_FREE_slots]⟩
def R.PWR_CTRL : RegD := ⟨0x40000, 0x0, 1, 0x0, 1, false,
  [F.PWR_CTRL_gov_en]⟩
def R.PWR_CAP : RegD := ⟨0x40004, 0x0, 1, 0x0, 1, false,
  [F.PWR_CAP_unattainable, F.PWR_CAP_forced, F.PWR_CAP_cap_w]⟩
def R.PWR_POWER : RegD := ⟨0x40008, 0x0, 1, 0x0, 1, false,
  [F.PWR_POWER_avg]⟩
def R.PWR_GOV : RegD := ⟨0x40010, 0x0, 1, 0x0, 1, false,
  [F.PWR_GOV_max_burn, F.PWR_GOV_band_us, F.PWR_GOV_target_us]⟩
def R.PWR_GOV_STAT : RegD := ⟨0x40014, 0x0, 1, 0x0, 1, false,
  [F.PWR_GOV_STAT_limit, F.PWR_GOV_STAT_deadline_burns, F.PWR_GOV_STAT_refused]⟩
def R.PWR_SUSPECT : RegD := ⟨0x40380, 0x0, 1, 0x0, 1, false,
  [F.PWR_SUSPECT_die]⟩
def R.PWR_LADDER : RegD := ⟨0x40384, 0x0, 1, 0x0, 1, false,
  [F.PWR_LADDER_therm_n, F.PWR_LADDER_hottest, F.PWR_LADDER_step]⟩
def R.PWR_CE : RegD := ⟨0x40100, 0x4, 34, 0x0, 1, false,
  [F.PWR_CE_manual, F.PWR_CE_prio, F.PWR_CE_set_code, F.PWR_CE_v_code]⟩
def R.PWR_SV : RegD := ⟨0x40188, 0x0, 1, 0x0, 1, false,
  [F.PWR_SV_set_code, F.PWR_SV_v_code]⟩
def R.PWR_DLM : RegD := ⟨0x40200, 0x4, 35, 0x0, 1, false,
  [F.PWR_DLM_rate]⟩
def R.PWR_TEMP : RegD := ⟨0x40300, 0x4, 18, 0x0, 1, false,
  [F.PWR_TEMP_reported, F.PWR_TEMP_canary, F.PWR_TEMP_model, F.PWR_TEMP_sensor]⟩
def R.PWR_DOM : RegD := ⟨0x40400, 0x4, 104, 0x0, 1, false,
  [F.PWR_DOM_busy, F.PWR_DOM_refused, F.PWR_DOM_powered, F.PWR_DOM_on]⟩
def R.PWR_RAIL : RegD := ⟨0x40600, 0x4, 8, 0x0, 1, false,
  [F.PWR_RAIL_out, F.PWR_RAIL_mv]⟩
def R.FC_STATUS : RegD := ⟨0x20000, 0x0, 1, 0x0, 1, true,
  [F.FC_STATUS_group]⟩
def R.FC_CFG : RegD := ⟨0x20008, 0x0, 1, 0x0, 1, false,
  [F.FC_CFG_shadow_us, F.FC_CFG_keep_negative, F.FC_CFG_count_forced]⟩
def R.FC_FIRST : RegD := ⟨0x20010, 0x0, 1, 0x0, 1, false,
  [F.FC_FIRST_valid, F.FC_FIRST_group, F.FC_FIRST_source]⟩
def R.FC_FIRST_TIME : RegD := ⟨0x20018, 0x0, 1, 0x0, 1, true,
  [F.FC_FIRST_TIME_ns]⟩
def R.FC_INJECT : RegD := ⟨0x20030, 0x0, 1, 0x0, 1, false,
  [F.FC_INJECT_go, F.FC_INJECT_instance, F.FC_INJECT_group, F.FC_INJECT_source]⟩
def R.FC_INJECT_ADDR : RegD := ⟨0x20038, 0x0, 1, 0x0, 1, true,
  [F.FC_INJECT_ADDR_addr]⟩
def R.FC_FENCE : RegD := ⟨0x20040, 0x0, 1, 0x0, 1, true,
  [F.FC_FENCE_master]⟩
def R.FC_FENCE_STATUS : RegD := ⟨0x20048, 0x0, 1, 0x0, 1, false,
  [F.FC_FENCE_STATUS_busy]⟩
def R.FC_ED_FIX : RegD := ⟨0x20058, 0x0, 1, 0x0, 1, false,
  [F.FC_ED_FIX_cmd, F.FC_ED_FIX_result, F.FC_ED_FIX_index]⟩
def R.FC_ED_FIX_VAL : RegD := ⟨0x20060, 0x0, 1, 0x0, 1, true,
  [F.FC_ED_FIX_VAL_entry]⟩
def R.FC_DUMP_SEQ : RegD := ⟨0x20070, 0x0, 1, 0x0, 1, false,
  [F.FC_DUMP_SEQ_seq]⟩
def R.FC_DUMP_CTRL : RegD := ⟨0x20074, 0x0, 1, 0x0, 1, false,
  [F.FC_DUMP_CTRL_busy, F.FC_DUMP_CTRL_scratch]⟩
def R.FC_PIN_MASK : RegD := ⟨0x20020, 0x0, 1, 0x0, 1, true,
  [F.FC_PIN_MASK_group]⟩
def R.FC_ENG_REASSIGN : RegD := ⟨0x20050, 0x0, 1, 0x0, 1, false,
  [F.FC_ENG_REASSIGN_go, F.FC_ENG_REASSIGN_result, F.FC_ENG_REASSIGN_target, F.FC_ENG_REASSIGN_fenced]⟩
def R.FC_G_REAL : RegD := ⟨0x21000, 0x100, 58, 0x0, 1, false,
  [F.FC_G_REAL_source]⟩
def R.FC_G_FORCED : RegD := ⟨0x21004, 0x100, 58, 0x0, 1, false,
  [F.FC_G_FORCED_source]⟩
def R.FC_G_SEVERE : RegD := ⟨0x21008, 0x100, 58, 0x0, 1, false,
  [F.FC_G_SEVERE_source]⟩
def R.FC_G_CONSEQ : RegD := ⟨0x2100C, 0x100, 58, 0x0, 1, false,
  [F.FC_G_CONSEQ_source]⟩
def R.FC_G_CAP_ADDR : RegD := ⟨0x21010, 0x100, 58, 0x0, 1, true,
  [F.FC_G_CAP_ADDR_addr]⟩
def R.FC_G_CAP_INFO : RegD := ⟨0x21018, 0x100, 58, 0x0, 1, false,
  [F.FC_G_CAP_INFO_valid, F.FC_G_CAP_INFO_origin, F.FC_G_CAP_INFO_access, F.FC_G_CAP_INFO_source, F.FC_G_CAP_INFO_master, F.FC_G_CAP_INFO_merged, F.FC_G_CAP_INFO_more]⟩
def R.FC_G_CAP_TIME : RegD := ⟨0x21020, 0x100, 58, 0x0, 1, true,
  [F.FC_G_CAP_TIME_ns]⟩
def R.FC_G_DEPS : RegD := ⟨0x21028, 0x100, 58, 0x0, 1, true,
  [F.FC_G_DEPS_group]⟩
def R.FC_G_SRC_CFG : RegD := ⟨0x21040, 0x100, 58, 0x8, 8, false,
  [F.FC_G_SRC_CFG_severe, F.FC_G_SRC_CFG_event, F.FC_G_SRC_CFG_n]⟩
def R.FC_G_SRC_WIN : RegD := ⟨0x21044, 0x100, 58, 0x8, 8, false,
  [F.FC_G_SRC_WIN_w_us]⟩
def R.FC_G_SRC_COUNT : RegD := ⟨0x21080, 0x100, 58, 0x4, 8, false,
  [F.FC_G_SRC_COUNT_count]⟩
def R.PM_CTRL : RegD := ⟨0x30000, 0x0, 1, 0x0, 1, false,
  [F.PM_CTRL_title_en, F.PM_CTRL_level]⟩
def R.PM_STATUS : RegD := ⟨0x30004, 0x0, 1, 0x0, 1, false,
  [F.PM_STATUS_loupe_err, F.PM_STATUS_title_err, F.PM_STATUS_sel_err, F.PM_STATUS_sheet_err]⟩
def R.PM_COMMIT : RegD := ⟨0x30008, 0x0, 1, 0x0, 1, false,
  [F.PM_COMMIT_view, F.PM_COMMIT_commit]⟩
def R.PM_SHEET : RegD := ⟨0x30010, 0x0, 1, 0x0, 1, false,
  [F.PM_SHEET_enable, F.PM_SHEET_period_ms]⟩
def R.PM_SHEET_STAT : RegD := ⟨0x30014, 0x0, 1, 0x0, 1, false,
  [F.PM_SHEET_STAT_skipped]⟩
def R.PM_SHEET_SEQ : RegD := ⟨0x30018, 0x0, 1, 0x0, 1, false,
  [F.PM_SHEET_SEQ_seq]⟩
def R.PM_TITLE : RegD := ⟨0x3001C, 0x0, 1, 0x0, 1, false,
  [F.PM_TITLE_enable, F.PM_TITLE_base]⟩
def R.PM_LOUPE_CTRL : RegD := ⟨0x30400, 0x0, 1, 0x0, 1, false,
  [F.PM_LOUPE_CTRL_run, F.PM_LOUPE_CTRL_drain, F.PM_LOUPE_CTRL_wrap, F.PM_LOUPE_CTRL_fset, F.PM_LOUPE_CTRL_p, F.PM_LOUPE_CTRL_event]⟩
def R.PM_LOUPE_STAT : RegD := ⟨0x30404, 0x0, 1, 0x0, 1, false,
  [F.PM_LOUPE_STAT_full, F.PM_LOUPE_STAT_lost, F.PM_LOUPE_STAT_held]⟩
def R.PM_LOUPE_DATA : RegD := ⟨0x30408, 0x0, 1, 0x0, 1, false,
  [F.PM_LOUPE_DATA_word]⟩
def R.PM_LOUPE_RING : RegD := ⟨0x3040C, 0x0, 1, 0x0, 1, false,
  [F.PM_LOUPE_RING_next]⟩
def R.PM_FILT_PRIV : RegD := ⟨0x30040, 0x10, 4, 0x0, 1, false,
  [F.PM_FILT_PRIV_priv, F.PM_FILT_PRIV_master_hi, F.PM_FILT_PRIV_master_lo]⟩
def R.PM_FILT_BASE : RegD := ⟨0x30044, 0x10, 4, 0x0, 1, false,
  [F.PM_FILT_BASE_base]⟩
def R.PM_FILT_LIMIT : RegD := ⟨0x30048, 0x10, 4, 0x0, 1, false,
  [F.PM_FILT_LIMIT_limit]⟩
def R.PM_FILT_CLASS : RegD := ⟨0x3004C, 0x10, 4, 0x0, 1, false,
  [F.PM_FILT_CLASS_mask]⟩
def R.PM_CNT_SEL : RegD := ⟨0x30100, 0x4, 16, 0x0, 1, false,
  [F.PM_CNT_SEL_enable, F.PM_CNT_SEL_title, F.PM_CNT_SEL_fset, F.PM_CNT_SEL_instance, F.PM_CNT_SEL_event, F.PM_CNT_SEL_mode, F.PM_CNT_SEL_level]⟩
def R.PM_CNT : RegD := ⟨0x30200, 0x8, 16, 0x0, 1, true,
  [F.PM_CNT_count]⟩
def R.PM_TAG : RegD := ⟨0x30420, 0x0, 1, 0x0, 1, false,
  [F.PM_TAG_run, F.PM_TAG_kinds, F.PM_TAG_fset, F.PM_TAG_p, F.PM_TAG_seed]⟩
def R.PM_TD : RegD := ⟨0x31000, 0x40, 35, 0x8, 8, true,
  [F.PM_TD_slots]⟩
def R.PT_CNT_RXFRM : RegD := ⟨0x201000, 0x100, 8, 0x0, 1, true,
  [F.PT_CNT_RXFRM_count]⟩
def R.PT_CNT_RXBYTE : RegD := ⟨0x201008, 0x100, 8, 0x0, 1, true,
  [F.PT_CNT_RXBYTE_count]⟩
def R.PT_CNT_TXFRM : RegD := ⟨0x201010, 0x100, 8, 0x0, 1, true,
  [F.PT_CNT_TXFRM_count]⟩
def R.PT_CNT_TXBYTE : RegD := ⟨0x201018, 0x100, 8, 0x0, 1, true,
  [F.PT_CNT_TXBYTE_count]⟩
def R.PT_CNT_FCSERR : RegD := ⟨0x201020, 0x100, 8, 0x0, 1, false,
  [F.PT_CNT_FCSERR_count]⟩
def R.PT_CNT_UNDER : RegD := ⟨0x201024, 0x100, 8, 0x0, 1, false,
  [F.PT_CNT_UNDER_count]⟩
def R.PT_CNT_OVER : RegD := ⟨0x201028, 0x100, 8, 0x0, 1, false,
  [F.PT_CNT_OVER_count]⟩
def R.PT_CNT_PAUSE : RegD := ⟨0x20102C, 0x100, 8, 0x0, 1, false,
  [F.PT_CNT_PAUSE_count]⟩
def R.PT_DROP : RegD := ⟨0x201040, 0x100, 8, 0x4, 10, false,
  [F.PT_DROP_count]⟩
def R.PT_PORT_CLR : RegD := ⟨0x201080, 0x100, 8, 0x0, 1, false,
  [F.PT_PORT_CLR_clear]⟩

/-- The registers of the GLOBAL block. -/
def regTableGLOBAL : List RegD :=
  [R.GLOBAL_ID, R.GLOBAL_REV, R.GLOBAL_CAP, R.GLOBAL_MODE, R.GLOBAL_MODE_SET, R.GLOBAL_STATUS, R.GLOBAL_RESET_CAUSE, R.GLOBAL_BOOT, R.GLOBAL_FOCUS, R.GLOBAL_DRAIN, R.GLOBAL_FOCUS_FAIL, R.GLOBAL_MAINT_TOUCHED, R.GLOBAL_RESTORE_BASE, R.GLOBAL_RESTORE_LEN, R.GLOBAL_RESTORE_CTRL]
/-- The registers of the CE block. -/
def regTableCE : List RegD :=
  [R.CE_ID, R.CE_CTRL, R.CE_STATUS, R.CE_STRAND_EN, R.CE_TRAP_PEND, R.CE_STRAND_CMD, R.CE_IMEM_ADDR, R.CE_IMEM_DATA, R.CE_IMEM_ECC, R.CE_SCRATCH_SPLIT, R.CE_BREAK_TIME, R.CE_BREAK_COUNT, R.CE_MIG_CTRL, R.CE_MIG_STATUS, R.CE_MIG_WAIT, R.CE_RANGE_COMMIT, R.CE_SPC, R.CE_TOKENS, R.CE_RANGE_BASE, R.CE_RANGE_LIMIT, R.CE_RANGE_ATTR]
/-- The registers of the SV block. -/
def regTableSV : List RegD :=
  [R.SV_ID, R.SV_EVENT_LO, R.SV_EVENT_HI, R.SV_SRAM_ECC, R.SV_WDOG, R.SV_WDOG_REMAIN]
/-- The registers of the TK block. -/
def regTableTK : List RegD :=
  [R.TK_CTRL, R.TK_SCHED_COMMIT, R.TK_PERIOD, R.TK_INGEST_CLOSE, R.TK_COMMIT_DL, R.TK_START, R.TK_NEXT, R.TK_COMMITTED, R.TK_STATUS, R.TK_LATE, R.TK_SLACK, R.TK_COMMIT_TIME, R.TK_WARM, R.TK_EDONE, R.ED_GRID, R.ED_COUNT, R.ED_FREE, R.ED_TORN_COUNT, R.ED_TORN_CURSOR, R.ED_RESOLVE_HANDLE, R.ED_RESOLVE_CMD, R.ED_TICK_USE, R.SNAP_CTRL, R.SNAP_STATUS, R.SNAP_ID, R.SNAP_RATE, R.SNAP_FINAL, R.SNAP_HOLD_MAX, R.SNAP_PORTS, R.SNAP_DADDR, R.SNAP_KEY, R.SNAP_SEG_BASE, R.SNAP_SEG_LIMIT, R.SNAP_SENT]
/-- The registers of the ST block. -/
def regTableST : List RegD :=
  [R.ST_CTRL, R.ST_WORLD_PORT, R.ST_AGE, R.ST_COUNT, R.ST_CTX_INDEX, R.ST_CTX_CMD, R.ST_CTX_DATA, R.ST_KEY, R.ST_FW_EVENT_LO, R.ST_FW_EVENT_HI, R.ST_EVT_BASE, R.ST_EVT_SIZE, R.ST_DROP, R.ST_BUF_WAIT]
/-- The registers of the DU block. -/
def regTableDU : List RegD :=
  [R.DU_CTRL, R.DU_PAYLOAD_MAX, R.DU_WINDOW, R.DU_LEAD, R.DU_JOIN, R.DU_PANIC, R.DU_STATUS, R.DU_ENC_COMMIT, R.DU_ROUNDS, R.DU_MISS, R.DU_ENC]
/-- The registers of the LN block. -/
def regTableLN : List RegD :=
  [R.LN_CTRL, R.LN_STATUS, R.LN_TRAIN_CMD, R.LN_TXFIR, R.LN_PAT_CTRL, R.LN_PAT_STATUS, R.LN_PAT_USER, R.LN_PAT_ERR, R.LN_PAT_BITS, R.LN_RM, R.LN_FLAPS, R.LN_LATENCY, R.LN_ALIGN, R.LN_FEC_CORR, R.LN_FEC_UNCORR, R.LN_FEC_SYM]
/-- The registers of the PT block. -/
def regTablePT : List RegD :=
  [R.PT_CFG, R.PT_FWQ, R.PT_PORT_CTRL, R.PT_PORT_STATUS, R.PT_PORT_GRP, R.PT_GRP_MAC, R.PT_GRP_IPV4, R.PT_GRP_MTU, R.PT_GRP_IPV6, R.PT_GRP_LL, R.PT_FWRX_CMD, R.PT_FWRX_DESC, R.PT_FWRX_DATA, R.PT_FWTX_CTRL, R.PT_FWTX_DATA, R.PT_TXTS, R.PT_TXTS_ID, R.PT_CNT_RXFRM, R.PT_CNT_RXBYTE, R.PT_CNT_TXFRM, R.PT_CNT_TXBYTE, R.PT_CNT_FCSERR, R.PT_CNT_UNDER, R.PT_CNT_OVER, R.PT_CNT_PAUSE, R.PT_DROP, R.PT_PORT_CLR]
/-- The registers of the TB block. -/
def regTableTB : List RegD :=
  [R.TB_CTRL, R.TB_STATUS, R.TB_TIME, R.TB_FRAC, R.TB_INCR, R.TB_STEP, R.TB_SLEW, R.TB_SLEW_LEFT, R.TB_PPS, R.TB_PPS_IN]
/-- The registers of the MG block. -/
def regTableMG : List RegD :=
  [R.MG_CTRL, R.MG_UDP_PORT, R.MG_IPV4, R.MG_MAC, R.MG_NONCE, R.MG_SEQ, R.MG_KEY, R.MG_QUEUE, R.MG_REJECT_COUNT, R.MG_REJECT_LAST, R.MG_AUTH_FAIL, R.MG_NDEST_MAC, R.MG_NDEST_IP, R.MG_NDEST_PORT, R.MG_EVENTS]
/-- The registers of the RG block. -/
def regTableRG : List RegD :=
  [R.RG_COMMIT, R.RG_OVERCOMMIT, R.RG_CNT_CLR, R.RG_RANGE_BASE, R.RG_RANGE_LIMIT, R.RG_RANGE_ATTR, R.RG_STRIPE_BASE, R.RG_STRIPE_SIZE, R.RG_STRIPE_CTRL, R.RG_CHMAP, R.RG_CHCUR, R.RG_CHMAP_COMMIT, R.RG_CNT_RD, R.RG_CNT_WR]
/-- The registers of the CH block. -/
def regTableCH : List RegD :=
  [R.CH_ID, R.CH_SCHED, R.CH_STATUS, R.CH_ARB_PRIO, R.CH_ARB_CTRL, R.CH_ARB_COMMIT, R.CH_ARB_PREEMPT, R.CH_SLOTCOMMIT, R.CH_SLOT_LIMIT, R.CH_SLOT_REVOKED, R.CH_WEIGHT_LO, R.CH_WEIGHT_HI, R.CH_PANIC, R.CH_PANIC_TIME, R.CH_OVERDUE, R.CH_SLOT, R.CH_REF, R.CH_REF_EXPERT, R.CH_REF_ORDER, R.CH_REF_STAT, R.CH_REF_COUNT, R.CH_REF_FORCED, R.CH_REF_CMD, R.CH_SR, R.CH_SR_COUNT, R.CH_SR_TIME, R.CH_RP_CTRL, R.CH_RP_COUNT, R.CH_RP_CLEARS, R.CH_RP_HOLD, R.CH_ECC_ERASE, R.CH_ECC_CE, R.CH_ECC_UE, R.CH_ECC_WORST, R.CH_ECC_CLR, R.CH_FIX_CTRL, R.CH_FIX_STAT, R.CH_FIX_OWED, R.CH_FIX_COUNT, R.CH_FIX_PASSES, R.CH_FIX_INIT, R.CH_UE_STAT, R.CH_UE_CLR, R.CH_TRN_CTRL, R.CH_TRN_CMD, R.CH_TRN_STAT, R.CH_TRN_EYE, R.CH_DLY_SEL, R.CH_DLY_DATA, R.CH_TSV_STAT, R.CH_TSV_CTRL, R.CH_CONV_CUR, R.CH_MAINT, R.CH_CAL, R.CH_REPAIR_SOFT]
/-- The registers of the BI block. -/
def regTableBI : List RegD :=
  [R.BI_CTRL, R.BI_CFG, R.BI_START, R.BI_SLICES, R.BI_USER, R.BI_STATUS, R.BI_COUNT, R.BI_DONE, R.BI_SIG, R.BI_EXPECT, R.BI_FAIL, R.BI_FAIL_ADDR]
/-- The registers of the CAL block. -/
def regTableCAL : List RegD :=
  [R.CAL_CTRL, R.CAL_STATUS, R.CAL_SEL, R.CAL_TRIM, R.CAL_ROT, R.CAL_DUE]
/-- The registers of the FUSE block. -/
def regTableFUSE : List RegD :=
  [R.FUSE_CMD, R.FUSE_REC, R.FUSE_READ_SEL, R.FUSE_READ, R.FUSE_FREE]
/-- The registers of the PWR block. -/
def regTablePWR : List RegD :=
  [R.PWR_CTRL, R.PWR_CAP, R.PWR_POWER, R.PWR_GOV, R.PWR_GOV_STAT, R.PWR_SUSPECT, R.PWR_LADDER, R.PWR_CE, R.PWR_SV, R.PWR_DLM, R.PWR_TEMP, R.PWR_DOM, R.PWR_RAIL]
/-- The registers of the FC block. -/
def regTableFC : List RegD :=
  [R.FC_STATUS, R.FC_CFG, R.FC_FIRST, R.FC_FIRST_TIME, R.FC_INJECT, R.FC_INJECT_ADDR, R.FC_FENCE, R.FC_FENCE_STATUS, R.FC_ED_FIX, R.FC_ED_FIX_VAL, R.FC_DUMP_SEQ, R.FC_DUMP_CTRL, R.FC_PIN_MASK, R.FC_ENG_REASSIGN, R.FC_G_REAL, R.FC_G_FORCED, R.FC_G_SEVERE, R.FC_G_CONSEQ, R.FC_G_CAP_ADDR, R.FC_G_CAP_INFO, R.FC_G_CAP_TIME, R.FC_G_DEPS, R.FC_G_SRC_CFG, R.FC_G_SRC_WIN, R.FC_G_SRC_COUNT]
/-- The registers of the PM block. -/
def regTablePM : List RegD :=
  [R.PM_CTRL, R.PM_STATUS, R.PM_COMMIT, R.PM_SHEET, R.PM_SHEET_STAT, R.PM_SHEET_SEQ, R.PM_TITLE, R.PM_LOUPE_CTRL, R.PM_LOUPE_STAT, R.PM_LOUPE_DATA, R.PM_LOUPE_RING, R.PM_FILT_PRIV, R.PM_FILT_BASE, R.PM_FILT_LIMIT, R.PM_FILT_CLASS, R.PM_CNT_SEL, R.PM_CNT, R.PM_TAG, R.PM_TD]

/-- The register blocks of R212. -/
inductive Blk where
  | global | mg | tb | fc | pm | pwr | rg | ln | pt | tk | st | du | ch | ce | sv | bi | cal | fuse
  deriving DecidableEq, Repr

/-- The block an address lies in (R212); `none` outside every block. -/
def blkOf (a : Nat) : Option Blk :=
  if 0x0 ≤ a ∧ a < 0x1000 then some .global
  else if 0x1000 ≤ a ∧ a < 0x2000 then some .mg
  else if 0x10000 ≤ a ∧ a < 0x20000 then some .tb
  else if 0x20000 ≤ a ∧ a < 0x30000 then some .fc
  else if 0x30000 ≤ a ∧ a < 0x40000 then some .pm
  else if 0x40000 ≤ a ∧ a < 0x50000 then some .pwr
  else if 0x50000 ≤ a ∧ a < 0x60000 then some .rg
  else if 0x100000 ≤ a ∧ a < 0x109000 then some .ln
  else if 0x200000 ≤ a ∧ a < 0x210000 then some .pt
  else if 0x300000 ≤ a ∧ a < 0x310000 then some .tk
  else if 0x310000 ≤ a ∧ a < 0x320000 then some .st
  else if 0x320000 ≤ a ∧ a < 0x330000 then some .du
  else if 0x1000000 ≤ a ∧ a < 0x1220000 then some .ch
  else if 0x2000000 ≤ a ∧ a < 0x2220000 then some .ce
  else if 0x2400000 ≤ a ∧ a < 0x2410000 then some .sv
  else if 0x3000000 ≤ a ∧ a < 0x3100000 then some .bi
  else if 0x4000000 ≤ a ∧ a < 0x4100000 then some .cal
  else if 0x5000000 ≤ a ∧ a < 0x5100000 then some .fuse
  else none

/-- The registers of a block. -/
def blkTable : Blk → List RegD
  | .global => regTableGLOBAL
  | .mg => regTableMG
  | .tb => regTableTB
  | .fc => regTableFC
  | .pm => regTablePM
  | .pwr => regTablePWR
  | .rg => regTableRG
  | .ln => regTableLN
  | .pt => regTablePT
  | .tk => regTableTK
  | .st => regTableST
  | .du => regTableDU
  | .ch => regTableCH
  | .ce => regTableCE
  | .sv => regTableSV
  | .bi => regTableBI
  | .cal => regTableCAL
  | .fuse => regTableFUSE

/-- The instance (i, j) and the half (0 low, 1 high) of the register family `r` at address `a`, if `a` is one of its words. -/
def regMatch (r : RegD) (a : Nat) : Option (Nat × Nat × Nat) :=
  if a < r.base then none
  else
    let o := a - r.base
    let i := if r.s1 = 0 then 0 else o / r.s1
    let o1 := o - i * r.s1
    let j := if r.s2 = 0 then 0 else o1 / r.s2
    let o2 := o1 - j * r.s2
    if r.n1 ≤ i ∨ r.n2 ≤ j then none
    else if o2 = 0 then some (i, j, 0)
    else if o2 = 4 ∧ r.wide then some (i, j, 1)
    else none

/-- The first register family of the list that has a word at `a`, with the instance and the half. -/
def regSearch (a : Nat) : List RegD → Option (RegD × Nat × Nat × Nat)
  | [] => none
  | r :: rs => match regMatch r a with
    | some (i, j, h) => some (r, i, j, h)
    | none => regSearch a rs

/-- The register at a device address, with the instance and the half; `none` where the spec defines none (R212). -/
def regAt (a : Nat) : Option (RegD × Nat × Nat × Nat) :=
  match blkOf a with
  | some b => regSearch a (blkTable b)
  | none => none

end Sys2Proof.Machine
end

