-- ==== Sys2Proof/Machine/State.lean ====
section
/-!
DEFINITION. The state of the world stack as plain data: every register field (one sparse map, R6 to R9), the strands and
engines (spec/02, 03), the DRAM channels (spec/09 to 12), the directory, tick unit, session table, delta units, ports,
management port, fault collector, power manager, performance monitor and test logic (spec/04 to 08, 13 to 16), and the
queue of commands that wait. Every structure's field gives its reset value as its default; `State.reset` takes them all.
-/

namespace Sys2Proof.Machine

/-- Why a step stops with a fault. No command of the stack stops the model: a trap, an error response, a fault event and
HALT are effects on the state. -/
inductive Fault where
  /-- Raised by nothing. Safe. -/
  | none
  deriving DecidableEq, Repr

/-- Why a step is refused. -/
inductive Refusal where
  /-- A command that has no meaning yet: raised by its arm of `exec` alone. Safe. -/
  | notModelled (mnemonic : String)
  deriving DecidableEq, Repr

/-- The two parts (spec/00, R2). -/
inductive Part where
  | tkw6417 | tkw3209
  deriving DecidableEq, Repr

/-! ## Engines and strands (spec/02, 03) -/

/-- The states of a strand (R28), in the order of `sstate` (R99). -/
inductive SSt where
  | disabled | ready | stalled | waiting | trapped
  deriving DecidableEq, Repr

/-- The trap causes (R428), in the order of their codes from 1. -/
inductive Cause where
  | illegal | privilege | range | align | order | deadline | check | syscall
  | poison | uncorrectable | absent | stale | torn | budget | brk
  deriving DecidableEq, Repr

/-- A trap: its cause, subcode, address and detail (R99: tcause, taddr, tinfo); 0 where the spec gives none.
DESIGN CHOICE, unsafe (log 195). -/
structure Trap where
  cause : Cause
  sub : Nat := 0
  addr : Word64 := 0
  info : Word64 := 0
  deriving DecidableEq, Repr

/-- A completion-time report that waits to be delivered (R46): the trap and the faulting instruction's index. -/
structure Report where
  trap : Trap
  fpc : BitVec 16
  deriving DecidableEq, Repr

/-- The five trap CSRs of one level (R99): cause, trap PC, faulting PC, address, detail. -/
structure TrapRegs where
  cause : Word64 := 0
  epc : Word64 := 0
  fpc : Word64 := 0
  addr : Word64 := 0
  info : Word64 := 0
  deriving DecidableEq, Repr

/-- What a WAITING strand waits for (R28): the operation that waits for a lock, a queue slot, scratch DMA buffers or a mesh bulk
credit, or the tick, or an SV event (R98). -/
inductive Wait where
  | lock (op index : Nat)
  | slot (op session : Nat)
  | dma (op : Nat)
  | credit (op : Nat)
  | tick (rd dl : Nat)
  | event (rd mask : Nat)
  deriving DecidableEq, Repr

/-- One strand (R61): its registers, its CSRs (R99), its state (R28), and what it holds (R50). The registers of a strand
are sparse: an unlisted g or v register is 0, an unlisted deadline register is all ones (R61). -/
structure Strand where
  st : SSt := .disabled
  title : Bool := true
  inHandler : Bool := false
  g : SMap Word64 := []
  v : SMap Vec128 := []
  p : BitVec 8 := 1
  dl : SMap Word64 := []
  pc : BitVec 16 := 0
  fpstat : Word64 := 0
  tvec : Word64 := 0
  tscratch : Word64 := 0
  tt : TrapRegs := {}
  ts : TrapRegs := {}
  /-- Register names (see `regG` and its neighbours) that await a result (R30, R37). -/
  busy : List Nat := []
  wait : Option Wait := none
  waitSince : Nat := 0
  /-- When the wait breaker last examined the wait (R52). -/
  examAt : Nat := 0
  /-- Entity indices locked (R82), sessions whose queue slot is held (R89), scratch DMA buffers held (R76). -/
  locks : List Nat := []
  slots : List Nat := []
  dma : Nat := 0
  /-- Inside its SIMULATE window (R86), for this tick; the tick of the window or of the last TICK.DONE (R99). -/
  inWin : Bool := false
  tick : Nat := 0
  /-- TICK.DONE executed since it was last enabled (R49, R91). -/
  everDone : Bool := false
  report : Option Report := none
  more : Bool := false
  /-- STALLED on a world load, a full load/store queue or a fence, not on another result (R385). -/
  stallMem : Bool := false
  /-- Fences in force (R78): a mask of kinds and the earlier operations it waits for. -/
  fences : List (Nat × List Nat) := []
  /-- Enabled again while the drain of R49 has not ended: the strand starts when it has. DESIGN CHOICE, unsafe (log 169). -/
  start : Bool := false
  deriving DecidableEq, Repr

/-- A strand that has run nothing. DESIGN CHOICE, unsafe (log 170): R61 gives no reset value but that of the deadline registers. -/
def strand0 : Strand := {}

/-- The token an engine is issuing (R29): the strand, the registers its first instruction wrote, and the classes of that
instruction. -/
structure Token where
  t : Nat
  writes : List Nat
  mem : Bool
  fp : Bool
  deriving DecidableEq, Repr

/-- The migration of a logical engine under way in CE p (R55): the target, the tick it was asked in, whether a forced one has stopped
issue and drains (R56), whether the copy has started and when. -/
structure Mig where
  target : Nat
  startTick : Nat
  stopped : Bool := false
  copying : Bool := false
  since : Nat := 0
  deriving DecidableEq, Repr

/-- What an engine holds beside its registers and strands: round-robin position, open token, tokens issued (R32), the token times
passed and the results they bring (R30): the strand, the register and the token from which it is usable, and the token each stalled
strand waits for; free scratch DMA buffers (R76), publication counts by tick parity (R93), migration, fence (R369), and its reports to the tick
unit for the open tick (R111). -/
structure Eng where
  rr : Nat := 15
  token : Option Token := none
  tokens : Nat := 0
  slot : Nat := 0
  lates : List (Nat × Nat × Nat) := []
  tills : SMap Nat := []
  dmaFree : Nat := 8
  issued : Nat × Nat := (0, 0)
  acked : Nat × Nat := (0, 0)
  mig : Option Mig := none
  fenced : Bool := false
  /-- When it last issued a token (the hang source of R360). -/
  lastTok : Nat := 0
  deriving DecidableEq, Repr

/-- The kinds of operation that outlive their instruction. -/
inductive OpKind where
  | ld | ldu | st | vld | vst
  | amo (op : Nat) (dword : Bool)
  | fill | sdmaIn | sdmaOut
  | entGetL | entGetN | entGetE | entLock | entUnlock | entPub | entNew | entFree | entMove
  | sesRecv | sesSend | sesInfo | sesInfoSet
  deriving DecidableEq, Repr

/-- How far an operation has come. `sent`: its request is on the way or queued; `waiting`: it waits for a lock, slot or
buffer; `data`: its result has come back; `bad`: its report will be a trap (R46). -/
inductive OpSt where
  | sent
  | waiting
  | data (v : Nat)
  | bad (t : Trap)
  deriving DecidableEq, Repr

/-- A scratch DMA's mesh bulk credit (R50): none needed, one of a mesh half asked for, or held. -/
inductive Credit where
  | none
  | asked (half : Nat)
  | held (half : Nat)
  deriving DecidableEq, Repr

/-- An outstanding operation of strand (e, t): the registers it writes (`dst`, a register name; 255 none), its address,
its two other operands, its length in bytes, its deadline, its instruction's index, the tick whose publication write it
is (R93), the granule writes not yet accepted, the granules already sent, and the time of issue. -/
structure Op where
  id : Nat
  e : Nat
  t : Nat
  kind : OpKind
  dst : Nat := 255
  addr : Nat := 0
  a1 : Nat := 0
  a2 : Nat := 0
  len : Nat := 0
  dl : Nat := 0
  fpc : BitVec 16 := 0
  pub : Option Nat := none
  need : Nat := 1
  prog : Nat := 0
  issued : Nat := 0
  /-- The bytes a SES.SEND takes with it. -/
  data : List Byte := []
  credit : Credit := .none
  /-- What the SECDED check finds in the entry or context that an operation on the ED or the ST reads (R22, R105). -/
  sram : Secded := .clean
  st : OpSt := .sent
  deriving DecidableEq, Repr

/-! ## Memory channels (spec/09 to 11) -/

/-- The inputs of a channel's arbiter (R247). -/
inductive Input where
  | priv | mesh | fixer | fill
  deriving DecidableEq, Repr

/-- What a request does at the sequencer. -/
inductive ReqKind where
  | read | write | atomic
  deriving DecidableEq, Repr

/-- A request at a channel: the operation it serves, its master (R10), class (R25, R249), deadline header (R248), place
and data. `wr` lists the bytes it writes, by byte of the granule. `due` is the absolute 16-ns unit at which it becomes
overdue, worked out on admission; `lateAt` the order in which it became overdue. `bulk`: granules follow it (R251). -/
structure Req where
  id : Nat
  op : Nat
  e : Nat := 63
  t : Nat := 0
  master : Nat
  kind : ReqKind
  phys : Nat
  gran : Nat
  waddr : Nat := 0
  len : Nat := 64
  wr : SMap Byte := []
  cls : Nat := 7
  dl : Nat := 0
  far : Bool := false
  late : Bool := false
  input : Input := .mesh
  due : Nat := 0
  lateAt : Nat := 0
  seq : Nat := 0
  bulk : Bool := false
  /-- The read has been sent to the DRAM and its decode is awaited. -/
  inFlight : Bool := false
  /-- Counted in CH_RP_HOLD (R277). -/
  rpHeld : Bool := false
  /-- A write-back of the Fixer that stores the granule poisoned (R302). -/
  poison : Bool := false
  deriving DecidableEq, Repr

/-- Who merged bytes into a write-queue entry (R296): master, strand, faulting instruction, address. -/
structure Writer where
  master : Nat
  e : Nat
  t : Nat
  fpc : BitVec 16
  addr : Nat
  deriving DecidableEq, Repr

/-- A write-queue entry (R296): its number (that of the request that opened it), the granule, the bytes written so far, its writers, class and deadline; `merging` while
its merge read is under way. -/
structure WEnt where
  id : Nat
  gran : Nat
  bytes : SMap Byte
  writers : List Writer
  cls : Nat
  due : Nat
  late : Bool := false
  lateAt : Nat := 0
  seq : Nat
  merging : Bool := false
  /-- A write-back of the Fixer that stores the granule poisoned (R302). -/
  poison : Bool := false
  rpHeld : Bool := false
  deriving DecidableEq, Repr

/-- What is stored of a granule beside its data bytes: whether it is stored poisoned (R291), and its symbols in error. -/
structure Gran where
  poison : Bool := false
  errs : SMap Byte := []
  deriving DecidableEq, Repr

/-- Work that waits for a maintenance stall of a channel (R314): a steer of the line of this key onto a TSV, and when it was asked
for; an expert command on a line (R313), with what it measures; a soft repair record (R321). -/
inductive StallWork where
  | steer (key tsv since : Nat)
  | measure (m : EyeMeas)
  | centre (pc line : Nat)
  | slip (pc line : Nat) (earlier : Bool)
  | retrain (m : EyeMeas)
  | repair (record : Nat)
  deriving DecidableEq, Repr

/-- One channel beside its registers: queues (R247), arbiter (R250 to R252), slots and credit (R254 to R257), refresh
(R268 to R275), row protection (R276 to R278), atomics and locks (R266), the Fixer's read under way (R300 to R302). -/
structure Chan where
  rq : List Req := []
  wq : List WEnt := []
  lastGrant : Input := .fill
  /-- The burst in progress: its input, the granules it has taken (R251), its master (R370). -/
  hold : Option (Input × Nat × Nat) := none
  preempt : List Nat := []
  pos : Nat := 0
  credit : SMap Nat := []
  bulkSlots : Nat := 0
  panicDus : Nat := 0
  panicSince : Nat := 0
  panicTold : Bool := false
  panicNs : Nat := 0
  openRow : SMap Nat := []
  debt : SMap Int := []
  paydown : List Nat := []
  rowCtr : SMap Nat := []
  actTab : SMap (List (Nat × Nat)) := []
  acts : SMap Nat := []
  /-- Queued neighbour refreshes by bank: the rows each has still to refresh (R277). -/
  neigh : SMap (List (List Nat)) := []
  /-- The row-protection threshold in force by bank: a change applies at the bank's next clear (R280). -/
  rpThr : SMap Nat := []
  locked : List Nat := []
  /-- Banks for which a manual refresh has been asked, in order (R272). -/
  manual : List Nat := []
  slotsLeft : Nat := 0
  /-- DRAM commands since the thermal model last advanced (R342). -/
  cmds : Nat := 0
  idleSince : Nat := 0
  srSince : Nat := 0
  fixer : Option Nat := none
  /-- Arrival and overdue counters: the next sequence of a request admitted, and of one that becomes overdue. -/
  seq : Nat := 0
  lateSeq : Nat := 0
  /-- The refresh parameters in force since the last frame boundary (R271, R272, R20): postpone_max, claim_at, pull_in_max,
  level, and the stagger order (empty: the default). -/
  refPm : Nat := 8
  refClaim : Nat := 4
  refPull : Nat := 4
  refLevel : Nat := 0
  refOrder : List Nat := []
  /-- The refresh rate asked for by temperature (R273), the pseudo-channels to enter half width at the next boundary
  (R325), the dead lines a conversion erases, a pseudo-channel whose conversion waits for the other's with its dead lines. -/
  wantDouble : Bool := false
  wantHalf : Nat := 0
  convLines : List Nat := []
  convWait : Option (Nat × List Nat) := none
  /-- Corrected symbols by line since the last clear (R306); when CA parity errors of the last 1 ms came, by line (R323), and on a channel
  that a copy reads (R326). -/
  lineCe : SMap Nat := []
  caErr : SMap (List Nat) := []
  srcErr : List Nat := []
  serviceSince : Nat := 0
  /-- The doubled self-refresh rate is set in the DRAM die (R285). -/
  srDouble : Bool := false
  /-- The channel must retire, or has (R326). -/
  retiring : Bool := false
  /-- Spares in use or unusable: data spare n of a PC is PC × 8 + n, CA spare n is 16 + n (R324). -/
  spares : List Nat := []
  /-- Lines of a PC at half width that are dead or stand in for a dead line; lines newly dead that wait for half width; both by
  `PC × 64 + line` (R324, R325). -/
  used : List Nat := []
  newDead : List Nat := []
  /-- The line whose corrected count asks for an interconnect slice (R323). -/
  suspect : Option Nat := none
  /-- When the last maintenance stall ended, and the work that waits for one (R314). -/
  stallAt : Nat := 0
  stallQ : List StallWork := []
  /-- The repair multiplexers (R308): the TSV that a line of key `PC × 64 + line` runs on where it is not its own: 36 + n data spare n,
  60 + n CA spare n (line CA n has key 48 + n of its PC), below 36 a TSV of the discarded half; the second TSV of a timing signal has
  its signal's number. -/
  mux : SMap Nat := []
  deriving DecidableEq, Repr

def chan0 : Chan := {}

/-! ## Performance monitor (spec/15) -/

/-- A Loupe or tagged sample of an operation under way (R390, R393): what its record will hold (R391). -/
structure Sample where
  op : Nat
  tb : Nat
  ev : Nat
  pc : Nat
  e : Nat
  t : Nat
  title : Bool
  tagged : Bool := false
  addr : Nat := 0
  chan : Nat := 0x3F
  bits : Nat := 0
  due : Nat := 0
  held : Nat := 0
  deriving DecidableEq, Repr

/-- A record of an access by a master that is no engine which no channel may serve (R3, R243, R244, R246): the master, whether it
writes, the world address, when. The spec names the record and lists no source for it among the collector's. DESIGN CHOICE, safe
(log 175). -/
structure Denial where
  master : Nat
  write : Bool
  addr : Nat
  time : Nat
  deriving DecidableEq, Repr

/-- The performance monitor beside its registers: each counter's increments of the present 16-ns interval and whether
the last interval met its condition (R383, R384), the Loupe's occurrence counts and tag countdowns by engine, samples
under way, records held in the buffer (R392) and those staged. -/
structure Pm where
  acc : SMap Nat := []
  prev : SMap Nat := []
  wrote : SMap Nat := []
  loupeCnt : SMap Nat := []
  tagCnt : SMap Nat := []
  samples : List Sample := []
  buffer : List (List Byte) := []
  word : Nat := 0
  seq : Nat := 0
  gap : Bool := false
  /-- The level in force: `PM_CTRL.level` as it stood at the last 16-ns boundary (R20). -/
  level : Bool := false
  lastRec : Option Nat := none
  lone : Option (List Byte) := none
  /-- Tagged records between the engines and the ring, the oldest first (R393). -/
  staging : List (List Byte) := []
  /-- When the last contact sheet fell due; one that fell due waits for an interval's end to be captured: whether one was skipped
  before it (R388). -/
  sheetLast : Option Nat := none
  sheetAsk : Option Bool := none
  /-- The timebase at the last interval boundary (R383). -/
  boundary : Nat := 0
  /-- The contact sheet under way: its timebase, whether one was skipped before it, its counters and top-down slots. -/
  sheet : Option (Nat × Bool × List Nat) := none
  skippedSince : Bool := false
  sheetsCleared : Bool := false
  mirrorSeq : Nat := 0
  idle : SMap Nat := []
  /-- Idle ns of each category since the engine's last delay-line measurement, at 8·e + k (R385). -/
  held : SMap Nat := []
  commitPending : Bool := false
  deriving DecidableEq, Repr

/-! ## Fault events (spec/14) -/

/-- A fault event on its way to the collector (R358): group, source, instance; the capture's master, access type and
address (R364); its origin: 1 real, 2 forced by FC_INJECT (R368), 3 both; when it arrived. -/
structure FaultEv where
  group : Nat
  src : Nat
  inst : Nat := 0
  master : Nat := 0x3F
  access : Nat := 6
  addr : Nat := 0
  origin : Nat := 1
  time : Nat := 0
  deriving DecidableEq, Repr

/-- How far a reaction has come: ended, with its shadow still open; fencing its party; the domain of its instance going
off, or on again (R365, RESET_BLOCK of R362); at work on its channel or lane (R362). -/
inductive Stage where
  | ended | fencing | off | on | work
  deriving DecidableEq, Repr

/-- A reaction (R361 to R367): its group, instance, source and level, when it started, the master it fences (63: none), whether
it is a severe one, and how far it has come. -/
structure React where
  group : Nat
  inst : Nat
  src : Nat
  level : Nat
  start : Nat
  party : Nat := 63
  severe : Bool := false
  stage : Stage := .ended
  deriving DecidableEq, Repr

/-- HALT has been entered and step 4 of R233 is to come: the cause, the mode before, FC_STATUS and the timebase at entry, whether
a Negative may be written (R234). -/
structure Halting where
  cause : HaltCause
  was : Nat
  status : Nat
  time : Nat
  dump : Bool
  deriving DecidableEq, Repr

/-- The fault collector beside its registers: the opening time of each source's window by `group × 8 + source` (R363), the
reactions whose shadow is open, a NOTIFY that firmware has not been told of (R98), the HALT that must take effect (R367), the
engines retired (R372), the HALT whose Negative is still to be written. -/
structure Fc where
  win : SMap Nat := []
  reacts : List React := []
  notify : Bool := false
  haltDue : Option HaltCause := none
  /-- When that HALT became due (R367). -/
  haltAt : Nat := 0
  /-- How far steps of the timebase have set it back in all: with it, the times of pending events stand in their order of arrival (R358). -/
  tbBack : Nat := 0
  /-- The HALT due fences the SV or comes of its watchdog: no Negative is written (R234). -/
  noDump : Bool := false
  /-- The HALT due comes of a fault on the ED group or on a channel that holds a shard: an open commit stays open (R116). -/
  keepOpen : Bool := false
  retired : List Nat := []
  halt : Option Halting := none
  deriving DecidableEq, Repr

/-! ## Power manager (spec/13) -/

/-- What a power domain in transition is doing (R355). -/
inductive Trans where
  | off | on | queued
  deriving DecidableEq, Repr

/-- A die's temperatures and judgments (R338 to R345): sensor readings by sensor and the sensors failed; the model
estimate in units of 2^-20 °C; the canary estimate and when the canaries were last checked (plus 1); consecutive
evaluations above and below the limits of R344; the ladder step in force for the die. -/
structure Die where
  sens : SMap Int := []
  failed : List Nat := []
  model : Int := 0
  canary : Option Int := none
  checked : Nat := 0
  above : Nat := 0
  below : Nat := 0
  step : Nat := 0
  hot : Bool := false
  deriving DecidableEq, Repr

def die0 : Die := {}

/-- A burn admitted or waiting (R350 to R352): the engine, the steps left, its slack. -/
structure Burn where
  e : Nat
  left : Nat
  slack : Int
  refused : Bool := false
  deriving DecidableEq, Repr

/-- The power manager beside its registers. -/
structure Pwr where
  trans : SMap Trans := []
  dies : SMap Die := []
  /-- The hardware trip has acted (R346). -/
  tripped : Bool := false
  /-- The voltage code each engine domain moves to, a step at a time (R354); unlisted: 15. -/
  goal : SMap Nat := []
  burns : List Burn := []
  /-- The engine whose burn or donor step is under way. -/
  stepping : Option Nat := none
  /-- Slack of each engine at the last commit, where it was counted (R350). -/
  slack : SMap Int := []
  /-- Times (plus 1): the last dodge over the cap, the start of the excess with every domain at 0.60 V, its last event, the
  start of the time below the cap (R347, R348). -/
  dodgeAt : Nat := 0
  overAt : Nat := 0
  toldAt : Nat := 0
  underAt : Nat := 0
  capThrottle : Bool := false
  /-- When each rail was first seen out of its window (plus 1), and whether its event has been raised (R341). -/
  railOut : SMap (Nat × Bool) := []
  /-- The currents last measured in mA (R341): the input currents of the LDOs of the 104 switched domains, VDD_SRAM, VDD_DRAM, VPP,
  VDD_SER, VDDH_SER, and the always-on domain's. -/
  amps : List Nat := []
  deriving DecidableEq, Repr

/-! ## Training, test, calibration, fuses (spec/12) -/

/-- A channel's training (R309 to R315): the level in force since the last training start (R20), delays by `PC × 128 + index`, the last
measured eye and net bit-slips by `PC × 64 + line`, the rate change held, what gathers training data, lines still to re-centre in place (R331), the time and
temperature of the last calibration (R329). -/
structure Trn where
  level : Bool := false
  delays : SMap Nat := []
  eyes : SMap EyeMeas := []
  slips : SMap Int := []
  held : Option Nat := none
  gathering : Bool := false
  recal : Nat := 0
  calAt : Nat := 0
  tCal : Int := 0
  deriving DecidableEq, Repr

def trn0 : Trn := {}

/-- A BIST run (R316 to R319): its settings when it started, the next granule, the slices left, the signature expected of a built-in
pattern so far. -/
structure Bist where
  kind : Nat
  ch : Nat
  pc : Nat
  group : Nat
  pattern : Nat
  perSlice : Nat
  next : Nat
  left : Nat
  expect : Nat := 0
  deriving DecidableEq, Repr

/-- Calibration and fuses: trims applied, offsets (R335, in units of 1 / `trimUnit`) and trims that wait for a maintenance stall by
`item × 256 + instance`, by die the temperature at which the fused defaults were taken (R333), windows by item, the level in force (R337),
BIST run, fuse repair records by `channel × 64 + slot`, a record being programmed, management keys by slot, the hash of the
firmware signing key (R221), the key write under way (slot and key, R193), what FUSE holds for the register fields that are loaded
from it at power-up (R9), by `fldKey`, an unlisted one 0 (log 7). -/
structure Nv where
  fuse : SMap Nat := []
  trim : SMap Nat := []
  offset : SMap Int := []
  later : SMap Nat := []
  defT : SMap Int := []
  window : SMap Nat := []
  direct : Bool := false
  bist : Option Bist := none
  repair : SMap Nat := []
  prog : Option (Nat × Nat × Nat) := none
  keys : SMap (List Byte) := []
  keyHash : Nat := 0
  keyWrite : Option (Nat × List Byte) := none
  deriving DecidableEq, Repr

/-! ## Management and modes (spec/07, 08) -/

/-- An image transfer (R207): its kind, total, the bytes received, and the time of the last. -/
structure Image where
  kind : Nat
  total : Nat
  got : Nat
  last : Nat
  deriving DecidableEq, Repr

/-- An accepted sequence (R199): its command code and status. -/
structure Polled where
  seq : Nat
  code : Nat
  status : Nat
  deriving DecidableEq, Repr

/-- A response or a notice as it left (R188, R211). -/
structure Sent where
  transport : Transport
  mac : Nat
  body : List Byte
  deriving DecidableEq, Repr

/-- A register command that waits for the check of a slot commit (R260): its frame and code, the channel, the address and the words
still to be written, what its response carries. -/
structure SlotWait where
  frame : Frame
  code : Nat
  ch : Nat
  next : Nat
  words : List Nat
  data : List Byte
  deriving DecidableEq, Repr

/-- The management port beside its registers: the register commands that wait for a slot commit; the long command (sequence and code) that runs, whether it is held, the last
accepted sequences, the transfer open, whether a title image is staged and its length, the operator key,
the image being verified (kind and length), events for the host (R211), AUTH_FAILED responses in the present second (R196), the
last response, the notices sent, rates recorded in SAFELIGHT (R205), the rate and the logical channels of the CH_RATE that runs, the
reset asked for and when it begins (R206). -/
structure Mg where
  slotWaits : List SlotWait := []
  long : Option (Nat × Nat) := none
  held : Bool := false
  polls : List Polled := []
  image : Option Image := none
  title : Option Nat := none
  opKey : Option (List Byte) := none
  events : List (List Byte) := []
  evSeq : Nat := 0
  lost : Nat := 0
  auth : Nat × Nat := (0, 0)
  resp : Option Sent := none
  notices : List Sent := []
  /-- Frames that are held while the command before them waits for a slot commit, with their codes (R197). -/
  waitFrames : List (Nat × Frame) := []
  /-- Frames LNM has dropped (R187); the last ARP request answered: the asker's MAC and IP address. -/
  macDrops : Nat := 0
  arp : Option (Nat × Nat) := none
  rates : SMap Nat := []
  verify : Option (Nat × Nat) := none
  rate : Option (Nat × List Nat) := none
  reset : Option (Nat × Nat) := none
  deriving DecidableEq, Repr

/-- A mode change under way (R216): the target, when it was asked for, whether MODE_SET asked; the drain's tick, its end of
windows, whether its sessions have been closed (R229); whether FOCUS was entered from MAINT (R232). -/
structure ModeChange where
  target : Nat
  since : Nat
  host : Bool
  drainT : Option Nat := none
  closeAt : Nat := 0
  closed : Bool := false
  fromMaint : Bool := false
  deriving DecidableEq, Repr

/-! ## Test access port (spec/16) -/

/-- The instruction of the test access port (R419 to R421). -/
inductive TapIr where
  | idcode | sample | extest | highz | clamp | bypass
  deriving DecidableEq, Repr

/-- The test access port: the instruction, its opcode in the 8-bit instruction register and what that register had captured when it was
loaded, the bypass register's bit, the boundary register's outputs, and the values captured last. -/
structure Tap where
  ir : TapIr := .idcode
  irReg : BitVec 8 := 0x01
  irSeen : BitVec 8 := 0x01
  bypass : Bool := false
  outputs : BitVec 12 := 0
  sampled : BitVec 12 := 0
  deriving DecidableEq, Repr

/-! ## Entity directory, tick unit, snapshot (spec/04) -/

/-- An invalid directory entry that has never been used (R101, R103): generation 0, owner 0x3F. -/
def entry0 : Word64 := 0x3F000000000

/-- The entity directory: entries, the free list as half-open runs of indices in order (R101), quarantined and retired
indices (R373), indices whose entry has a double-bit error that no read has met yet (R22), births and frees of the open tick (R104),
and whether a quarter has lost power since the last commit. -/
structure Ed where
  ent : SMap Word64 := []
  free : List (Nat × Nat) := [(0, 2097152)]
  quar : List Nat := []
  retired : List Nat := []
  upset : List Nat := []
  births : Nat := 0
  frees : Nat := 0
  lost : Bool := false
  deriving DecidableEq, Repr

/-- The tick unit (R107 to R118): the newest tick started, its start and its schedule, its held frames; the tick whose
SIMULATE has opened and which is not committed, its own times, the strands counted for it, their DONE times from the opening
(plus 1), the engines fenced during it and when each fence completed (plus 1), the moment its conditions were met, and what
its commit record will say. -/
structure Tick where
  cur : Option Nat := none
  start : Nat := 0
  per : Nat := 0
  ing : Nat := 0
  dl : Nat := 0
  curLate : Bool := false
  slips : Nat := 0
  sim : Option Nat := none
  simAt : Nat := 0
  simStart : Nat := 0
  simDl : Nat := 0
  counted : List Nat := []
  doneAt : SMap Nat := []
  fencedAt : SMap Nat := []
  fenced : List Nat := []
  cond : Option Nat := none
  openAt : Nat := 0
  late : Bool := false
  warm : Bool := false
  waited : Bool := false
  flipped : Nat := 0
  freed : Nat := 0
  moved : Nat := 0
  /-- A commit has closed and the governor has not yet judged it (R350). -/
  govDue : Bool := false
  deriving DecidableEq, Repr

/-- A snapshot export and restore (R126 to R129): the indices of the active and of the closed dirty bitmap, the datagrams
of the round not yet sealed (flags and records), the sequence number of the next datagram, which of the two bitmaps is
active, the final tick and when its hold began, the valid entities then; when queue 3 may send next. -/
structure Snap where
  dirty : List Nat := []
  closed : List Nat := []
  todo : List (Nat × List Byte) := []
  validN : Nat := 0
  seq : Nat := 0
  active : Nat := 0
  final : Option Nat := none
  holdAt : Nat := 0
  nextAt : Nat := 0
  deriving DecidableEq, Repr

/-! ## Sessions, delta units, egress (spec/05) -/

/-- The states of a session (R133), in the order of their codes. -/
inductive SesSt where
  | free | joining | live | quiet | closing
  deriving DecidableEq, Repr

/-- A session context (R132). `wr`, `rd`: the ring offsets, each with its wrap bit as bit 12. -/
structure Ctx where
  st : SesSt := .free
  aes256 : Bool := false
  v6 : Bool := false
  port : Nat := 0
  heard : Bool := false
  keyPend : Bool := false
  age : Nat := 0
  gen : Nat := 0
  limit : Nat := 0
  peerPort : Nat := 0
  budget : Nat := 0
  addr : Nat := 0
  view : Nat := 0
  filter : Nat := 0
  home : Nat := 0
  used : Nat := 0
  base : Nat := 0
  ctr : Nat := 0
  ringBase : Nat := 0
  ringZ : Nat := 0
  newest : Nat := 0
  wr : Nat := 0
  rd : Nat := 0
  unread : Nat := 0
  gap : Bool := false
  high : Nat := 0
  replay : Nat := 0
  rtt : Nat := 0
  off : Nat := 0
  join : Nat := 0
  deriving DecidableEq, Repr

/-- A join stream (R135): the passes begun, the tick of the present pass, its datagrams that wait for room in the lane's buffer (R156),
whether that pass has ended, and the records of its last datagram, which waits. -/
structure JoinSt where
  pass : Nat := 0
  k0 : Option Nat := none
  todo : List (List Byte) := []
  ended : Bool := false
  last : List Byte := []
  /-- The next pass waits for a committed tick, or for the commit under way to close. -/
  due : Bool := false
  deriving DecidableEq, Repr

/-- A session: its context, and beside it whether any client counter has been accepted (R139), the last send slot it was
served in, the closing reason, the rounds sent (tick and window opening, R144), its join stream, and when its join queue may
send next. -/
structure Ses where
  ctx : Ctx := {}
  anyRx : Bool := false
  lastSlot : Nat := 0
  reason : Nat := 0
  closeLeft : Bool := false
  sentAt : List (Nat × Nat) := []
  join : Option JoinSt := none
  joinNext : Nat := 0
  deriving DecidableEq, Repr

def ses0 : Ses := {}

/-- A title message buffer in use (R131): its place in the home channel, the session, kind, sequence, bytes so far, the
strand filling it while it is not complete, and the newest tick started when it was completed. -/
structure Msg where
  home : Nat
  buf : Nat
  ses : Nat
  kind : Nat
  seq : Nat
  len : Nat := 0
  filler : Option (Nat × Nat) := none
  tick : Nat := 0
  deriving DecidableEq, Repr

/-- A send slot (R145, R118): its sequence, the tick, S(N) + D, and the period. -/
structure SendSlot where
  seq : Nat
  tick : Nat
  base : Nat
  per : Nat
  deriving DecidableEq, Repr

/-- A round under build (R145, R146): the DU that builds it, the session, the slot, the tick it is built from, its window, its datagrams'
flags and records, the message buffers that are free once sent and the datagram that ends each (R131), the physical channels its reads
go to, when it began. -/
structure Build where
  du : Nat
  ses : Nat
  slot : Nat
  tick : Nat
  opens : Nat
  closes : Nat
  delta : Nat
  dgrams : List (Nat × List Byte) := []
  ends : List (Nat × Nat × Nat) := []
  chans : List Nat := []
  since : Nat
  per : Nat
  deriving DecidableEq, Repr

/-- A queued packet (R156): lane, queue, port, session (none for firmware frames and snapshots), send slot, window, whether it
is the last of its round, the message buffers that are free once it has left, its bytes (a UDP payload, or a whole frame in queue 0),
and a firmware frame's options. -/
structure Pkt where
  lane : Nat
  q : Nat
  port : Nat
  ses : Option Nat := none
  slot : Nat := 0
  opens : Nat := 0
  closes : Nat := 0
  last : Bool := false
  ends : List (Nat × Nat) := []
  bytes : List Byte := []
  twoStep : Bool := false
  oneStep : Bool := false
  isClose : Bool := false
  deriving DecidableEq, Repr

/-- A CLOSE datagram that waits for room in its lane's buffer (R156): its session, and the send slot and window it was queued for. -/
structure CloseDue where
  ses : Nat
  slot : Nat
  opens : Nat
  closes : Nat
  deriving DecidableEq, Repr

/-- The session table and the delta units beside the sessions: title buffers, waiting sequence of the key wrap key (R130),
view changes pending (R149), the event ring's sequence and events not written (R137), the firmware event FIFO (R136), send
slots, open builds, the unwrapped-key cache by lane, the newest first (R130), the sessions whose context has a double-bit error (R22), the CLOSE datagrams that wait for room (R156), the
JOIN_REQs dropped (R135). -/
structure St where
  msgs : List Msg := []
  kek : List Byte := []
  pend : List (Nat × Nat × Nat) := []
  evSeq : Nat := 0
  evMiss : Nat := 0
  fwEv : List (Nat × Nat × Nat) := []
  fwLost : Bool := false
  slots : List SendSlot := []
  slotSeq : Nat := 0
  builds : List Build := []
  keyCache : SMap (List (Nat × List Nat)) := []
  upset : List Nat := []
  closeWait : List CloseDue := []
  joinDrops : Nat := 0
  lastSweep : Nat := 0
  deriving DecidableEq, Repr

/-! ## Ports (spec/06) -/

/-- The port pipeline beside its registers: egress queues in order, the last frame sent by each lane with its FCS, firmware receive
buffers (frame, timestamp, port) with the read position of the loaded one, policer counts of the present millisecond, the
firmware frame being written, transmit timestamps. DESIGN CHOICE, safe (log 11). -/
structure Pt where
  egress : List Pkt := []
  lastTx : SMap (List Byte) := []
  fwRx : SMap (List (List Byte × Nat × Nat)) := []
  fwPos : Nat := 0
  police : SMap (Nat × Nat) := []
  fwTx : List Byte := []
  txTs : List (Nat × Nat × Nat) := []
  share : SMap (Nat × Nat) := []
  /-- The training command under way in each lane (R169). -/
  trainOp : SMap Nat := []
  /-- Each lane's training level in force since its last training start (R169, R20), lanes whose adaptation is frozen, transmit
  FIR coefficients applied, single bit flips injected (R172). -/
  level : SMap Nat := []
  frozen : List Nat := []
  fir : SMap Nat := []
  flips : SMap Nat := []
  /-- When the bit-slips of a lane not yet applied began, and how many there were then or since (R170); when its checker's counts were last
  brought up to date (R171); when its periodic injection began (R172). -/
  slips : SMap (Nat × Nat) := []
  patAt : SMap Nat := []
  injectAt : SMap Nat := []
  /-- Clause 74 FEC in force on LNM since its last training start (R186). -/
  fecLnm : Bool := false
  deriving DecidableEq, Repr

/-! ## The whole stack -/

structure State where
  part : Part := .tkw6417
  /-- Register fields by `fldKey` (R6 to R9); an unlisted field holds its reset value. -/
  regs : SMap Nat := []
  /-- The shadow (pending) values of RWS fields (R8); an unlisted field's shadow is its active value. -/
  shadow : SMap Nat := []
  /-- Held high words of pair reads and held low words of pair writes, by path (R7). -/
  holdRd : SMap (Nat × Nat) := []
  holdWr : SMap (Nat × Nat) := []
  /-- The timebase: whole nanoseconds and the fraction in units of 2^-32 ns (R181). -/
  tb : Nat := 0
  tbFrac : Nat := 0
  /-- Slew not yet a whole nanosecond, in units of 2^-32 ns (R181). -/
  slewAcc : Nat := 0
  /-- PPS_OUT is high below this count; the count at the last PPS_IN edge captured (R185). -/
  ppsHigh : Nat := 0
  ppsLast : Option Nat := none
  /-- Reference clocks lost (R411), as sources of group 57. -/
  clkLost : List Nat := []
  /-- The word answered by the last register read that has an effect of its own. -/
  lastRead : Nat := 0
  strands : SMap Strand := []
  engs : SMap Eng := []
  imem : SMap Word32 := []
  scratch : SMap Byte := []
  svram : SMap Byte := []
  ops : List Op := []
  /-- The number of the next operation; 0 is no operation. -/
  nextOp : Nat := 1
  reqs : List Req := []
  nextReq : Nat := 0
  dram : SMap Byte := []
  gran : SMap Gran := []
  chans : SMap Chan := []
  /-- Accesses denied to masters that are no engines, oldest first. -/
  denied : List Denial := []
  /-- Logical channels whose copy has stopped because the old channel stopped reading (R244). -/
  copyStopped : List Nat := []
  /-- The number of the first request routed after the last CH_MAP commit (R242). -/
  mapMark : Nat := 0
  /-- The sequence of the last UE list entry, by physical channel (R303). -/
  ueSeq : SMap Nat := []
  /-- Channels whose classes C4 to C7 are throttled (R263, R345, R348), a bit each. -/
  throttle : Nat := 0
  ed : Ed := {}
  tk : Tick := {}
  snap : Snap := {}
  ses : SMap Ses := []
  st : St := {}
  pt : Pt := {}
  faults : List FaultEv := []
  pm : Pm := {}
  fc : Fc := {}
  pwr : Pwr := {}
  trn : SMap Trn := []
  nv : Nv := {}
  mg : Mg := {}
  change : Option ModeChange := none
  tap : Tap := {}
  /-- RESET_N or PWRGOOD is low: everything but FUSE is held in reset (R220, R235). -/
  inReset : Bool := true
  /-- TEST_EN as sampled at the last rise of RESET_N (R422). -/
  testEn : Bool := false
  /-- The firmware watchdog (R59): when its count was loaded, the count in µs, and whether it has run out. -/
  wdogAt : Nat := 0
  wdogLoad : Nat := 100000
  wdogOut : Bool := false
  /-- The boot ROM's own region of SV SRAM is locked (R220, step 7). -/
  romLocked : Bool := false
  /-- Free values used so far: the model's own field, not the spec's. -/
  free : Nat := 0
  /-- Commands that wait, first in, first out. -/
  pending : List Instr := []
  deriving DecidableEq, Repr

/-- The machine right after reset: every field at its reset value. DESIGN CHOICE, unsafe (log 5, 9). -/
def State.reset : State := {}

end Sys2Proof.Machine
end

