-- ==== Sys2Proof/Machine/RegFile.lean ====
section
/-!
DEFINITION. Register fields in the state (R6 to R9): reading and writing one field of one instance, the shadow of an RWS
field and its commit. Every register of the spec is held field by field in one sparse map.
-/

namespace Sys2Proof.Machine

/-- The key of a field's instance: sixteen keys to the address, the field's lowest bit added. -/
def fldKey (f : Fld) (i j : Nat) : Nat := fldAddr f i j * 16 + f.lo

/-- The slot table the reset weights build at L = 224 (R258, "built"): entry `p` in the hexadecimal digit `p`, lowest
first. -/
def resetSlots : Nat :=
  0x1081801210411082108110421013102108180121041108210811042101310210 * 2 ^ 0 +
  0x1210814012108110821014103210181021081801210411082108110421013102 * 2 ^ 256 +
  0x8012108110421081108210141032101801210814012108110821014103210180 * 2 ^ 512 +
  0x8180121041108210811082101410321018012108110421081108210141032101 * 2 ^ 768

/-- The default fault map (R360): for a group and source, the threshold N, the window W in µs, the event reaction and the
severe reaction (0 LOG, 1 NOTIFY, 2 CONTAIN, 3 RESET_BLOCK, 4 HALT, R361). `none`: the source does not exist.
DESIGN CHOICE, unsafe (log 21). DEDUCED, unsafe (log 104). -/
def faultMap (g src : Nat) : Option (Nat × Nat × Nat × Nat) :=
  if g < 34 then
    match src with
    | 0 => some (16, 1000, 0, 1)
    | 1 => some (64, 1000000, 0, 1)
    | 2 => some (16, 4000000, 1, 1)
    | 3 => some (4, 4000000, 1, 1)
    | 4 => some (1, 1, 2, 2)
    | 5 => some (1, 1, 1, 1)
    | 6 => some (1, 1, 1, 1)
    | _ => none
  else if g < 42 then (if src = 0 then some (8, 4000000, 0, 2) else none)
  else
    match g, src with
    | 42, 0 => some (8, 4000000, 0, 1)
    | 43, 0 => some (1, 1, 1, 1)
    | 43, 1 => some (1, 1, 1, 1)
    | 44, 0 => some (4, 1000, 0, 2)
    | 44, 1 => some (4, 1000, 0, 2)
    | 45, 0 => some (1, 1, 2, 2)
    | 45, 1 => some (1, 1, 1, 1)
    | 45, 2 => some (1, 1, 1, 1)
    | 45, 3 => some (1, 1, 4, 4)
    | 46, 0 => some (1, 1, 2, 2)
    | 46, 1 => some (1, 1, 2, 2)
    | 47, 0 => some (2, 1000000, 1, 3)
    | 48, 0 => some (2, 1000000, 1, 3)
    | 48, 1 => some (3, 4000000, 3, 2)
    | 48, 2 => some (1, 1, 0, 0)
    | 49, 0 => some (2, 1000000, 1, 4)
    | 49, 1 => some (1, 1, 2, 2)
    | 50, 0 => some (1, 1, 1, 1)
    | 50, 1 => some (1, 1, 1, 1)
    | 50, 2 => some (1, 1, 1, 1)
    | 51, 0 => some (4, 1000, 1, 1)
    | 51, 1 => some (3, 1000000, 1, 4)
    | 51, 2 => some (1, 1, 1, 1)
    | 52, 0 => some (1, 1, 1, 1)
    | 52, 1 => some (1, 1, 1, 1)
    | 53, 0 => some (1, 1, 0, 0)
    | 54, 0 => some (1, 1, 1, 1)
    | 54, 1 => some (1, 1, 1, 1)
    | 55, 0 => some (16, 1000000, 0, 1)
    | 55, 1 => some (16, 1000000, 0, 1)
    | 56, 0 => some (1, 1, 1, 1)
    | 56, 1 => some (1, 1, 1, 1)
    | 57, 0 => some (1, 1, 1, 1)
    | 57, 1 => some (1, 1, 1, 1)
    | 57, 2 => some (1, 1, 1, 1)
    | 57, 3 => some (1, 1, 1, 1)
    | _, _ => none

def bitSet (l : List Nat) : Nat := l.foldl (fun a k => a ||| 2 ^ k) 0

/-- The default shadow dependents of a group (R362). -/
def faultDeps (g : Nat) : Nat :=
  if g < 34 then bitSet [45, 46, 47, 48, 54]
  else if g < 42 then bitSet [46]
  else
    match g with
    | 44 => bitSet (List.range 34 ++ [45, 46, 47, 48, 49, 54])
    | 45 => bitSet [47, 48]
    | 46 => bitSet [47]
    | 47 => bitSet [54]
    | 48 => bitSet [44, 45, 46, 54]
    | 50 => bitSet [51, 54]
    | 51 => bitSet (List.range 34 ++ [50, 52])
    | 57 => bitSet (List.range' 34 10)
    | _ => 0

/-- The reset value of a field whose reset another rule works out: the built slot table (R258), the default fault map
(R360), the default dependents (R362). -/
def specialRst (f : Fld) (i j : Nat) : Nat :=
  if f.base = 0x1000400 then bitsOf resetSlots (32 * j + f.lo) 4
  else if f.base = 0x21028 then faultDeps i
  else
    match faultMap i j with
    | none => 0
    | some (n, w, ev, sev) =>
      if f.base = 0x21044 then w else if f.lo = 0 then n else if f.lo = 8 then ev else sev

/-- The fuse-loaded fields that name their own instance: a channel's and an engine's physical number, an engine's logical
number (0x3F for the spares' engines). Every other fuse field (the FIR coefficients and latencies of a lane, the group and management MAC
addresses, MG_CTRL.fec) reads 0 unless `Nv.fuse` lists it, as a power-up loads it. DESIGN CHOICE, unsafe (log 7). -/
def fuseRst (f : Fld) (i : Nat) : Nat :=
  if f.base = 0x1000000 then i
  else if f.base = 0x2000000 then (if f.lo = 8 then (if i < 32 then i else 0x3F) else i)
  else 0

/-- The value a field holds on the full reset (R9). A field marked undef reads 0. DESIGN CHOICE, unsafe (log 6). -/
def rstVal (f : Fld) (i j : Nat) : Nat :=
  match f.rst with
  | .val n => n
  | .lin a b c => a * i + b * j + c
  | .fuse => fuseRst f i
  | .undef => 0
  | .special => specialRst f i j

/-- The value of a field. -/
def State.fld (s : State) (f : Fld) (i j : Nat) : Nat := smapGet (rstVal f i j) s.regs (fldKey f i j)

/-- Write a field (its low `w` bits). -/
def State.setFld (s : State) (f : Fld) (i j v : Nat) : State :=
  { s with regs := smapPut (rstVal f i j) s.regs (fldKey f i j) (v % 2 ^ f.w) }

/-- The field as a truth value. -/
def State.fldB (s : State) (f : Fld) (i j : Nat) : Bool := s.fld f i j != 0

/-- Add to a saturating counter field. -/
def State.addFld (s : State) (f : Fld) (i j n : Nat) : State := s.setFld f i j (satAdd f.w (s.fld f i j) n)

/-- The shadow (pending) value of an RWS field: its active value where nothing is pending (R8). -/
def State.shd (s : State) (f : Fld) (i j : Nat) : Nat :=
  (smapFind s.shadow (fldKey f i j)).getD (s.fld f i j)

/-- Write the shadow of an RWS field. -/
def State.setShd (s : State) (f : Fld) (i j v : Nat) : State :=
  { s with shadow := smapInsert s.shadow (fldKey f i j) (v % 2 ^ f.w) }

/-- Apply the shadow of one field (a commit write, R8). -/
def State.commitFld (s : State) (f : Fld) (i j : Nat) : State :=
  match smapFind s.shadow (fldKey f i j) with
  | none => s
  | some v => { s.setFld f i j v with shadow := smapErase s.shadow (fldKey f i j) }

/-- Apply the shadow of the listed fields in every instance (i, j) with `j < n`. -/
def State.commitFlds (s : State) (fs : List Fld) (i n : Nat) : State :=
  fs.foldl (fun s f => (List.range n).foldl (fun s j => s.commitFld f i j) s) s

end Sys2Proof.Machine
end

