-- ==== Sys2Proof/Machine/Access.lean ====
section
/-!
DEFINITION. Plain access to the state: time, what is present and powered, free values, fault events raised, strands,
engines, channels, outstanding operations, a strand's registers by name, and performance-monitor occurrences (R380 to R384).
-/

namespace Sys2Proof.Machine

/-! ## Time, presence, power -/

/-- The timebase in units of 16 ns (R24). -/
def State.units (s : State) : Nat := s.tb / 16

/-- Channels and engines present on the part (R3). -/
def present (p : Part) (c : Nat) : Bool :=
  match p with
  | .tkw6417 => c < 34
  | .tkw3209 => c < 16 || c == 32 || c == 33

def lanes (p : Part) : Nat := match p with | .tkw6417 => 8 | .tkw3209 => 4
def dus (p : Part) : Nat := match p with | .tkw6417 => 16 | .tkw3209 => 8
/-- Logical channels usable (R3). -/
def logicals (p : Part) : Nat := match p with | .tkw6417 => 32 | .tkw3209 => 16

/-- Whether power domain `n` (R355) is powered. The LNM and SV domains are never off. -/
def State.domOn (s : State) (n : Nat) : Bool := n == 76 || n == 101 || s.fldB F.PWR_DOM_powered n 0

/-- Whether engine `e` is present and powered; 34 is the SV. -/
def State.engOn (s : State) (e : Nat) : Bool := e == 34 || (present s.part e && s.domOn e)

/-- Whether the sequencer of physical channel `c` is present and powered. -/
def State.chanOn (s : State) (c : Nat) : Bool := present s.part c && s.domOn (34 + c)

/-- The operating mode (R213), by its code. -/
def State.mode (s : State) : Nat := s.fld F.GLOBAL_MODE_mode 0 0

/-- Master `m` is being fenced: it is drained, and its responses are discarded (R369). -/
def State.beingFenced (s : State) (m : Nat) : Bool := s.fc.reacts.any fun r => decide (r.stage = .fencing) && r.party == m

/-! ## Free values -/

/-- The next value the spec leaves undefined. -/
def State.freeVal (s : State) : Nat := Config.freeValue s.free
def State.useFree (s : State) : State := { s with free := s.free + 1 }

/-! ## Fault events (R358) -/

/-- An event is reported to the collector. A second event of a source whose first is still pending folds into it (R358,
R368). -/
def State.raise (s : State) (v : FaultEv) : State :=
  if s.faults.any fun w => w.group == v.group && w.src == v.src then
    { s with faults := s.faults.map fun (w : FaultEv) =>
        if w.group = v.group ∧ w.src = v.src then { w with origin := w.origin ||| v.origin } else w }
  else { s with faults := s.faults ++ [{ v with time := s.tb + s.fc.tbBack }] }

/-! ## Strands, engines, operations -/

def skey (e t : Nat) : Nat := e * 16 + t
def State.strand (s : State) (e t : Nat) : Strand := smapGet strand0 s.strands (skey e t)
def State.setStrand (s : State) (e t : Nat) (x : Strand) : State :=
  { s with strands := smapPut strand0 s.strands (skey e t) x }
def State.eng (s : State) (e : Nat) : Eng := smapGet {} s.engs e
def State.setEng (s : State) (e : Nat) (x : Eng) : State := { s with engs := smapPut {} s.engs e x }
def State.chan (s : State) (c : Nat) : Chan := smapGet chan0 s.chans c
def State.setChan (s : State) (c : Nat) (x : Chan) : State := { s with chans := smapPut chan0 s.chans c x }

def State.findOp (s : State) (id : Nat) : Option Op := s.ops.find? fun o => o.id == id
def State.setOp (s : State) (x : Op) : State :=
  { s with ops := s.ops.map fun o => if o.id = x.id then x else o }
def State.dropOp (s : State) (id : Nat) : State := { s with ops := s.ops.filter fun o => o.id != id }
/-- Enter a new operation; its number is `s.nextOp`. -/
def State.newOp (s : State) (x : Op) : State :=
  { s with ops := s.ops ++ [{ x with id := s.nextOp }], nextOp := s.nextOp + 1 }
def State.opsOf (s : State) (e t : Nat) : List Op := s.ops.filter fun o => o.e == e && o.t == t

/-! ## Registers of a strand (R61) -/

/-- Register names: g, v, p and dl registers in one numbering (R29, R30). -/
def regG (n : Nat) : Nat := n
def regV (n : Nat) : Nat := 32 + n
def regP (n : Nat) : Nat := 48 + n
def regDl (n : Nat) : Nat := 56 + n
/-- The strand's divider, as a register that every divide writes (R30). -/
def regDiv : Nat := 64
def regNone : Nat := 255

/-- g0 reads 0 (R61). -/
def Strand.rg (x : Strand) (n : Nat) : Word64 := if n = 0 then 0 else smapGet 0 x.g n
/-- A write to g0 is discarded (R61). -/
def Strand.wg (x : Strand) (n : Nat) (v : Word64) : Strand :=
  if n = 0 then x else { x with g := smapPut 0 x.g n v }
def Strand.rv (x : Strand) (n : Nat) : Vec128 := smapGet 0 x.v n
def Strand.wv (x : Strand) (n : Nat) (v : Vec128) : Strand := { x with v := smapPut 0 x.v n v }
/-- p0 reads 1 (R61). -/
def Strand.rp (x : Strand) (n : Nat) : Bool := n == 0 || x.p.getLsbD n
def Strand.wp (x : Strand) (n : Nat) (b : Bool) : Strand :=
  if n = 0 then x
  else { x with p := if b then x.p ||| BitVec.ofNat 8 (2 ^ n) else x.p &&& ~~~ BitVec.ofNat 8 (2 ^ n) }
def dlReset : Word64 := BitVec.allOnes 64
def Strand.rdl (x : Strand) (n : Nat) : Word64 := smapGet dlReset x.dl n
def Strand.wdl (x : Strand) (n : Nat) (v : Word64) : Strand := { x with dl := smapPut dlReset x.dl n v }
/-- Write a register by name: an operation's result. -/
def Strand.wreg (x : Strand) (r : Nat) (v : Nat) : Strand :=
  if r < 32 then x.wg r (BitVec.ofNat 64 v)
  else if r < 48 then x.wv (r - 32) (BitVec.ofNat 128 v)
  else x
def Strand.next (x : Strand) : Strand := { x with pc := x.pc + 1 }

/-- Whether the predicate of formats A and I holds (R64). -/
def Strand.guard (x : Strand) (pred : BitVec 3) (neg : Bool) : Bool := x.rp pred.toNat != neg

/-! ## Performance-monitor occurrences (R380 to R384) -/

/-- One occurrence of an event: code, instance, increment, and what the filters judge (R381). -/
structure Occ where
  ev : Nat
  inst : Nat
  inc : Nat := 1
  title : Bool := false
  master : Nat := 0x3F
  addr : Nat := 0
  cls : Nat := 7

/-- Which filters apply to an event (R380): privilege, master, address, class. -/
def evFilters (ev : Nat) : Bool × Bool × Bool × Bool :=
  if ev = 0x01 ∨ ev = 0x02 ∨ ev = 0x07 ∨ ev = 0x08 ∨ ev = 0x09 then (true, false, false, false)
  else if ev = 0x03 ∨ ev = 0x04 ∨ ev = 0x05 ∨ ev = 0x06 then (true, false, true, true)
  else if (0x20 ≤ ev ∧ ev ≤ 0x24) ∨ ev = 0x2A then (true, true, true, true)
  else if ev = 0x25 then (true, true, false, true)
  else if ev = 0x2B then (false, true, false, true)
  else if ev = 0x40 ∨ ev = 0x41 then (true, true, false, false)
  else if ev = 0x70 ∨ ev = 0x71 ∨ ev = 0x72 then (false, true, false, false)
  else (false, false, false, false)

/-- Filter set `k` judges an occurrence (R382): every condition that applies to its event holds. -/
def State.pmPass (s : State) (k : Nat) (o : Occ) : Bool :=
  let (fp, fm, fa, fc) := evFilters o.ev
  let priv := s.fld F.PM_FILT_PRIV_priv k 0
  (!fp || priv == 0 || priv == 3 || (priv == 1 && o.title) || (priv == 2 && !o.title)) &&
  (!fm || (s.fld F.PM_FILT_PRIV_master_lo k 0 ≤ o.master && o.master ≤ s.fld F.PM_FILT_PRIV_master_hi k 0)) &&
  (!fa || (s.fld F.PM_FILT_BASE_base k 0 ≤ o.addr / 4096 && o.addr / 4096 ≤ s.fld F.PM_FILT_LIMIT_limit k 0)) &&
  (!fc || bitOf (s.fld F.PM_FILT_CLASS_mask k 0) o.cls)

/-- Counter `n` counts the occurrence in the present interval (R383). -/
def State.pmCounts (s : State) (n : Nat) (o : Occ) : Bool :=
  s.fldB F.PM_CNT_SEL_enable n 0 && s.fld F.PM_CNT_SEL_event n 0 == o.ev &&
  s.fld F.PM_CNT_SEL_instance n 0 == o.inst && s.pmPass (s.fld F.PM_CNT_SEL_fset n 0) o

/-- An event occurs: each counter that selects it adds the increment to its interval (R383). -/
def State.occ (s : State) (o : Occ) : State :=
  if s.pm.level then
    { s with pm := { s.pm with acc := (List.range 16).foldl (fun a n =>
        if s.pmCounts n o then smapPut 0 a n (smapGet 0 a n + o.inc) else a) s.pm.acc } }
  else s

end Sys2Proof.Machine
end

