-- ==== Sys2Proof/Machine/Dram.lean ====
section
/-!
DEFINITION. Stored data (spec/11): the code of a granule (R287), its decode outcome (R289 to R292), reads and writes of
DRAM granules by blocks that do not queue, the route of a world address (R241 to R246), and the class of an address (R25).
A granule's stored data bytes are kept as written; its symbols in error and its poison mark are kept beside them.
-/

namespace Sys2Proof.Machine

/-! ## The code (R287, R291) -/

/-- Multiplication in GF(2^8) modulo x^8 + x^4 + x^3 + x^2 + 1, on `k` bits of `b` from the top. -/
def gfMulBits : Nat → Nat → Nat → Nat → Nat
  | 0, _, _, acc => acc
  | k + 1, a, b, acc =>
    let d := 2 * acc
    let d := if 256 ≤ d then d ^^^ 0x11D else d
    gfMulBits k a b (if bitOf b k then d ^^^ a else d)

def gfMul (a b : Byte) : Byte := BitVec.ofNat 8 (gfMulBits 8 a.toNat b.toNat 0)

/-- The generator (x − α⁰)…(x − α⁷) without its leading 1, highest power first. -/
def rsGen : List Byte :=
  let mulBy (p : List Byte) (r : Byte) : List Byte :=
    List.zipWith (· ^^^ ·) (p ++ [0]) (0 :: p.map (gfMul r))
  ([1, 2, 4, 8, 16, 32, 64, 128].foldl mulBy [1]).drop 1

/-- One step of the division: shift the remainder by a data symbol. -/
def rsStep (rem : List Byte) (d : Byte) : List Byte :=
  let f := rem.headD 0 ^^^ d
  List.zipWith (· ^^^ ·) (rem.tail ++ [0]) (rsGen.map (gfMul f))

/-- The check bytes of a granule (R287). -/
def rsCheck (data : List Byte) : List Byte := data.foldl rsStep (List.replicate 8 0)

/-- The poison mask (R291). -/
def poisonMask : List Byte := [0xA5, 0x3C, 0x96, 0x0F, 0xE1, 0x78, 0x5A, 0xC3]

/-! ## Stored granules -/

/-- Granules of a channel: 2 GiB. -/
abbrev chanGrans : Nat := 2 ^ 25
def dkey (c off : Nat) : Nat := c * 2 ^ 31 + off
def gkey (c g : Nat) : Nat := c * 2 ^ 25 + g

/-- The data bytes stored in a granule. A byte nothing has written reads as 0. DESIGN CHOICE, unsafe (log 8). -/
def State.stored (s : State) (c g : Nat) : List Byte :=
  (List.range 64).map fun k => smapGet 0 s.dram (dkey c (g * 64 + k))
def State.granSt (s : State) (c g : Nat) : Gran := smapGet {} s.gran (gkey c g)
def State.setGran (s : State) (c g : Nat) (x : Gran) : State := { s with gran := smapPut {} s.gran (gkey c g) x }
/-- Store bytes by their place in the granule. -/
def State.storeBytes (s : State) (c g : Nat) (bs : SMap Byte) : State :=
  { s with dram := bs.foldl (fun m e => smapPut 0 m (dkey c (g * 64 + e.1)) e.2) s.dram }
/-- Bytes of a list, by place from `k`. -/
def bytesAt (k : Nat) (bs : List Byte) : SMap Byte := (bs.zipIdx k).map fun e => (e.2, e.1)
/-- Write a granule whole: new data, fresh check bytes (R295). -/
def State.storeWhole (s : State) (c g : Nat) (bs : SMap Byte) : State := (s.storeBytes c g bs).setGran c g {}

/-- Add symbol changes to a granule's error list: a flip of a flip restores the symbol. -/
def addErrs (m : SMap Byte) (ups : List SymErr) : SMap Byte :=
  ups.foldl (fun m u => if u.sym < 72 then smapPut 0 m u.sym (smapGet 0 m u.sym ^^^ u.flip) else m) m

/-- The outcomes of a granule read (R289). -/
inductive GOut where
  | clean | corrected | poisoned | uncorrectable
  deriving DecidableEq, Repr

def GOut.bad : GOut → Bool
  | .clean => false | .corrected => false | .poisoned => true | .uncorrectable => true

/-- The row of a granule (R241). -/
def granRow (g : Nat) : Nat := g / 512

/-- The dead lines of a granule not yet converted to half width (R325): its row is at or above the cursor of its pseudo-channel's
conversion, or that conversion waits for the other pseudo-channel's. -/
def State.unconverted (s : State) (c g : Nat) : Option (List Nat) :=
  if s.fldB F.CH_TSV_STAT_converting c 0 && s.fld F.CH_CONV_CUR_pc c 0 == g % 2 && s.fld F.CH_CONV_CUR_row c 0 ≤ granRow g then
    some (s.chan c).convLines
  else ((s.chan c).convWait.filter fun w => w.1 == g % 2).map (·.2)

/-- A granule's pseudo-channel is at half width, its row already converted (R325). -/
def State.halfAt (s : State) (c g : Nat) : Bool :=
  bitOf (s.fld F.CH_TSV_STAT_half c 0) (g % 2) && (s.unconverted c g).isNone

/-- The lines the decoder erases for a granule: the erased line of its pseudo-channel (R290); while that pseudo-channel
converts and the granule is not yet converted, both dead lines (R325). -/
def State.erased (s : State) (c g : Nat) : List Nat :=
  match s.unconverted c g with
  | some l => l
  | none =>
  if g % 2 = 0 then (if s.fldB F.CH_ECC_ERASE_pc0_valid c 0 then [s.fld F.CH_ECC_ERASE_pc0_line c 0] else [])
  else (if s.fldB F.CH_ECC_ERASE_pc1_valid c 0 then [s.fld F.CH_ECC_ERASE_pc1_line c 0] else [])

/-- The line of a symbol at full width (R288). -/
def symLine (sym : Nat) : Nat := if sym < 64 then sym / 2 else 32 + (sym - 64) / 2
/-- The line of a symbol at half width, `kept` the half kept (R288). -/
def symLineHalf (kept sym : Nat) : Nat := if sym < 64 then 16 * kept + sym / 4 else 32 + 2 * kept + (sym - 64) / 4

/-- Symbols in error outside the erased lines. -/
def errsOutside (er : List Nat) (m : SMap Byte) : Nat := (m.filter fun e => !er.contains (symLine e.1)).length

/-- The outcome by the count of symbols in error (R289 to R292, R325); `none` where the decoder may miscorrect, so that the word
itself decides. `lines` is the number of erased lines, `n` the whole count, `k` the count outside them. -/
def outcomeOf (poison : Bool) (lines n k : Nat) : Option GOut :=
  match poison, lines with
  | false, 0 => if n = 0 then some .clean else if n ≤ 3 then some .corrected
                else if n ≤ 5 then some .uncorrectable else none
  | false, 1 => if n = 0 then some .clean else if k ≤ 1 then some .corrected
                else if k ≤ 3 then some .uncorrectable else none
  | false, _ => if n = 0 then some .clean else if k = 0 then some .corrected
                else if k ≤ 4 then some .uncorrectable else none
  | true, 0 => if n ≤ 1 then some .poisoned else if n ≤ 2 then some .uncorrectable else none
  | true, _ => if k = 0 then some .poisoned else if k ≤ 2 then some .uncorrectable else none

/-! ### The decoder at six errors and more (R287, R289, R292)

There the word read may lie within the decoder's reach of another codeword: the decoder answers that one. What it answers follows
from the code and from the symbols that differ from the stored codeword. -/

/-- α to the power `n`. -/
def gfExp : Nat → Byte
  | 0 => 1
  | n + 1 => gfMul 2 (gfExp n)
def gfPow (a : Byte) : Nat → Byte
  | 0 => 1
  | n + 1 => gfMul a (gfPow a n)
def gfInv (a : Byte) : Byte := gfPow a 254

/-- The place of symbol `i`: c(x) has it at power 71 − i (R287). -/
def symX (i : Nat) : Byte := gfExp (71 - i)

/-- The eight syndromes of a difference from a codeword. -/
def syndromes (e : SMap Byte) : List Byte :=
  (List.range 8).map fun j => e.foldl (fun a x => a ^^^ gfMul x.2 (gfPow (symX x.1) j)) 0

/-- The product of (x + X) over the places, lowest power first. -/
def placesPoly (l : List Byte) : List Byte :=
  l.foldl (fun p r => List.zipWith (· ^^^ ·) (0 :: p) ((p.map (gfMul r)) ++ [0])) [1]

def gfDot (p q : List Byte) : Byte := (List.zipWith gfMul p q).foldl (· ^^^ ·) 0

/-- A difference confined to these symbols has these syndromes: they satisfy the recurrence of the places. -/
def syndromesFit (sy : List Byte) (l : List Nat) : Bool :=
  (List.range (8 - l.length)).all fun j => gfDot (placesPoly (l.map symX)) (sy.drop j) == 0

/-- That difference: each symbol's part of it. -/
def differenceAt (sy : List Byte) (l : List Nat) : SMap Byte :=
  l.foldl (fun m i =>
    let p := placesPoly ((l.filter (· != i)).map symX)
    smapPut 0 m i (gfMul (gfDot p sy) (gfInv (gfDot p ((List.range p.length).map fun k => gfPow (symX i) k))))) []

/-- The ways to take `k` of a list. -/
def choose : Nat → List Nat → List (List Nat)
  | 0, _ => [[]]
  | _, [] => []
  | k + 1, a :: l => (choose k l).map (a :: ·) ++ choose (k + 1) l

/-- The symbols of the erased lines. -/
def erasedSyms (er : List Nat) : List Nat := (List.range 72).filter fun i => er.contains (symLine i)

/-- The decoder corrects the erased symbols and up to `t` others: the difference it finds, if there is one. -/
def correction (er : List Nat) (t : Nat) (sy : List Byte) : Option (SMap Byte) :=
  let x := erasedSyms er
  ((List.range (t + 1)).findSome? fun k =>
    (choose k ((List.range 72).filter fun i => !x.contains i)).find? fun l => syndromesFit sy (x ++ l)).map fun l =>
      differenceAt sy (x ++ l)

/-- Other symbols corrected beside the erased lines (R289, R290, R325). -/
def reach (lines : Nat) : Nat := match lines with | 0 => 3 | 1 => 1 | _ => 0

def addBytes (a b : List Byte) : List Byte := List.zipWith (· ^^^ ·) a b

/-- The syndromes of the poison mask, which lies on the check bytes (R291). -/
def maskSyndromes : List Byte := syndromes (poisonMask.zipIdx.map fun e => (64 + e.2, e.1))

/-- What the decoder answers to a word whose syndromes are `sy`: the outcome and the symbols it corrects (R289, R292).
DEDUCED, unsafe (log 45). -/
def decodeWord (er : List Nat) (sy : List Byte) : GOut × SMap Byte :=
  if sy.all (· == 0) then (.clean, [])
  else
    match correction er (reach er.length) sy with
    | some e => (.corrected, e)
    | none =>
      if (correction er (if er.isEmpty then 1 else 0) (addBytes sy maskSyndromes)).isSome then (.poisoned, [])
      else (.uncorrectable, [])

/-- The data bytes as they stand in the array: stored data with the symbols in error flipped. -/
def asRead (data : List Byte) (errs : SMap Byte) : List Byte :=
  data.zipIdx.map fun e => e.1 ^^^ smapGet 0 errs e.2

/-- The result of one DRAM read: outcome, data, the symbols in error as the decoder has them, their count (none where it has none). -/
structure Dec where
  out : GOut
  data : List Byte
  errs : SMap Byte
  counted : Option Nat

/-- Decode a granule of channel `c` with `ups` the symbols that changed since it was last touched. The changes stay in
the array: the read path never writes (R293). -/
def State.decode (s : State) (c g : Nat) (ups : List SymErr) : Dec × State :=
  let x := s.granSt c g
  let errs := addErrs x.errs ups
  let s1 := s.setGran c g { x with errs := errs }
  let er := s.erased c g
  match outcomeOf x.poison er.length errs.length (errsOutside er errs) with
  | some .clean => (⟨.clean, s.stored c g, errs, some 0⟩, s1)
  | some .corrected => (⟨.corrected, s.stored c g, errs, some errs.length⟩, s1)
  | some o => (⟨o, asRead (s.stored c g) errs, errs, some errs.length⟩, s1)
  | none =>
    let a := decodeWord er (addBytes (syndromes errs) (if x.poison then maskSyndromes else List.replicate 8 0))
    let word := asRead (s.stored c g) errs
    (⟨a.1, asRead word a.2, a.2, if a.1 = .corrected then some a.2.length else none⟩, s1)

/-- Store a granule poisoned with these data bytes (R291). -/
def State.storePoison (s : State) (c g : Nat) (bs : List Byte) : State :=
  (s.storeBytes c g (bytesAt 0 bs)).setGran c g { poison := true }

/-- Lay the bytes of `w` over a granule image. -/
def overlay (img : List Byte) (w : SMap Byte) : List Byte :=
  img.zipIdx.map fun e => (smapFind w e.2).getD e.1

/-! ## Counting of demand reads (R306) -/

/-- The counts of one line's corrected symbols since the last clear: the model keeps the worst line's alone per register,
and every line's beside it. -/
def lineKey (pc line : Nat) : Nat := pc * 64 + line

/-- The line shown as the worst gives way to one with more corrected symbols; the count shown saturates. -/
def State.worstLine (s : State) (c pc line n : Nat) : State :=
  let beats (shown count : Nat) : Bool :=
    count == 0 || shown == line || decide (smapGet 0 (s.chan c).lineCe (lineKey pc shown) < n)
  if pc = 0 then
    if beats (s.fld F.CH_ECC_WORST_pc0_line c 0) (s.fld F.CH_ECC_WORST_pc0_count c 0) then
      (s.setFld F.CH_ECC_WORST_pc0_count c 0 (min n 1023)).setFld F.CH_ECC_WORST_pc0_line c 0 line else s
  else
    if beats (s.fld F.CH_ECC_WORST_pc1_line c 0) (s.fld F.CH_ECC_WORST_pc1_count c 0) then
      (s.setFld F.CH_ECC_WORST_pc1_count c 0 (min n 1023)).setFld F.CH_ECC_WORST_pc1_line c 0 line else s

def State.countLine (s : State) (c pc line : Nat) : State :=
  let x := s.chan c
  let n := smapGet 0 x.lineCe (lineKey pc line) + 1
  let sus := if s.fld F.CH_TSV_CTRL_dead_ce c 0 ≤ n ∧ x.suspect.isNone then some (lineKey pc line) else x.suspect
  (s.setChan c { x with lineCe := smapPut 0 x.lineCe (lineKey pc line) n, suspect := sus }).worstLine c pc line n

/-- A bad demand read, or a partial write onto a bad granule: one event on the channel's group naming the world address
and the master (R294, R306, R360). -/
def State.badGran (s : State) (c waddr master access : Nat) : State :=
  s.raise { group := c, src := 1, inst := c, master := master, access := access, addr := waddr }

/-- A demand read of DRAM had this outcome: the counters of R306, and one event on the channel's group for a bad one.
DEDUCED, unsafe (log 109). -/
def State.demand (s : State) (c g waddr master access : Nat) (d : Dec) : State :=
  match d.out with
  | .clean => s
  | .corrected =>
    let s := if g % 2 = 0 then s.addFld F.CH_ECC_CE_pc0 c 0 1 else s.addFld F.CH_ECC_CE_pc1 c 0 1
    let half := s.halfAt c g
    let kept := b2n (bitOf (s.fld F.CH_TSV_STAT_kept c 0) (g % 2))
    d.errs.foldl (fun s e => s.countLine c (g % 2) (if half then symLineHalf kept e.1 else symLine e.1)) s
  | .poisoned => (s.addFld F.CH_ECC_UE_poisoned c 0 1).badGran c waddr master access
  | .uncorrectable => (s.addFld F.CH_ECC_UE_uncorrectable c 0 1).badGran c waddr master access

/-! ## From a world address to a channel (R241 to R246) -/

/-- A striped region as its registers stand: view channel, base offset in 4 KiB units, ways, share. -/
structure Stripe where
  ch : Nat
  base : Nat
  ways : Nat
  units : Nat
  deriving DecidableEq, Repr

/-- Region `n` if its registers meet the first two conditions of R245. -/
def State.stripeRaw (s : State) (n : Nat) : Option Stripe :=
  let b := s.fld F.RG_STRIPE_BASE_base n 0
  let w := 2 ^ (s.fld F.RG_STRIPE_CTRL_ways n 0 + 1)
  let x : Stripe := { ch := b / 2 ^ 19, base := b % 2 ^ 19, ways := w, units := s.fld F.RG_STRIPE_SIZE_units n 0 }
  if s.fldB F.RG_STRIPE_CTRL_valid n 0 && w ≤ 8 && 0 < x.units && x.ch + w - 1 < logicals s.part &&
      (x.base + w * x.units) * 4096 ≤ 0x7E000000 then some x else none

/-- Two spans of 4 KiB units overlap. -/
def spansMeet (a m b n : Nat) : Bool := a < b + n && b < a + m

/-- The view spans channel `ch`; the backing spans the channels after it. -/
def Stripe.meets (x y : Stripe) : Bool :=
  (List.range 8).any fun i => (List.range 8).any fun j =>
    i < x.ways && j < y.ways && x.ch + i == y.ch + j &&
    spansMeet x.base (if i = 0 then x.ways * x.units else x.units) y.base (if j = 0 then y.ways * y.units else y.units)

/-- The valid striped regions, in order (R245): of two that overlap, the lower-numbered is valid. -/
def State.stripes (s : State) : List Stripe :=
  (List.range 4).foldl (fun l n =>
    match s.stripeRaw n with
    | some x => if l.any x.meets then l else l ++ [x]
    | none => l) []

/-- Where a world address leads: a logical channel and an offset; or the backing of a region, reached directly (R246). -/
inductive Place where
  | at (l off : Nat)
  | backing
  deriving DecidableEq, Repr

/-- Resolve a 36-bit world address through the striped regions (R241, R245, R246). DEDUCED, unsafe (log 44). -/
def State.place (s : State) (wa : Nat) : Place :=
  let l := bitsOf wa 31 5
  let off := wa % 2 ^ 31
  let u := off / 4096
  match s.stripes.find? fun x => x.ch == l && x.base ≤ u && u < x.base + x.ways * x.units with
  | some x => .at (l + (u - x.base) % x.ways) ((x.base + (u - x.base) / x.ways) * 4096 + off % 4096)
  | none =>
    if s.stripes.any fun x => x.ch < l && l < x.ch + x.ways && x.base ≤ u && u < x.base + x.units then .backing
    else .at l off

/-- Some byte of a span lies in the backing of a region (R246). -/
def State.meetsBacking (s : State) (wa len : Nat) : Bool :=
  s.stripes.any fun x => (List.range 8).any fun i => decide (0 < i) && decide (i < x.ways) &&
    spansMeet ((x.ch + i) * 2 ^ 19 + x.base) x.units (wa / 4096) ((wa + len - 1) / 4096 - wa / 4096 + 1)

/-- The route of a request (R242 to R244): the channel reads come from, the channels writes go to; none where the logical
channel is ABSENT, or the copy that would serve the granule has stopped. -/
structure Route where
  rd : Nat
  wr : List Nat
  deriving DecidableEq, Repr

def State.route (s : State) (l off : Nat) : Option Route :=
  let p := s.fld F.RG_CHMAP_phys l 0
  let o := s.fld F.RG_CHMAP_old l 0
  if logicals s.part ≤ l then none
  else
    match s.fld F.RG_CHMAP_state l 0 with
    | 0 => some { rd := p, wr := [p] }
    | 1 =>
      if off / 64 < s.fld F.RG_CHCUR_cursor l 0 then some { rd := p, wr := [o, p] }
      else if s.copyStopped.contains l then none
      else some { rd := o, wr := [o, p] }
    | _ => none

/-- The class of a world address (R25): the lowest-numbered valid range that holds it; C7 for none. -/
def State.classOf (s : State) (wa : Nat) : Nat :=
  match (List.range 64).find? fun n =>
      s.fldB F.RG_RANGE_ATTR_valid n 0 && s.fld F.RG_RANGE_BASE_base n 0 ≤ wa / 4096 &&
      wa / 4096 ≤ s.fld F.RG_RANGE_LIMIT_limit n 0 with
  | some n => s.fld F.RG_RANGE_ATTR_class n 0
  | none => 7

/-- A world address in the device area: bits [30:25] all ones (R72, R106). -/
def inDeviceArea (wa : Nat) : Bool := bitsOf wa 25 6 == 63

/-! ### Refresh debts, and leaving self-refresh (R268 to R286) -/

def Chan.debtOf (x : Chan) (j : Nat) : Int := smapGet 0 x.debt j

/-- The position of bank `j` in the stagger order (R268, R272). -/
def Chan.stagger (x : Chan) (j : Nat) : Nat := if x.refOrder.isEmpty then j else x.refOrder.findIdx (· == j)

/-- The bank with the largest debt, the lower stagger position on a tie. -/
def Chan.deepest (x : Chan) (l : List Nat) : Option Nat :=
  l.foldl (fun b j =>
    match b with
    | none => some j
    | some k =>
      if x.debtOf k < x.debtOf j ∨ (x.debtOf k = x.debtOf j ∧ x.stagger j < x.stagger k) then some j else some k) none

/-- CH_REF_STAT follows the debts: the worst bank, its debt, and whether a bank is in pay-down. -/
def State.refStat (s : State) (c : Nat) : State :=
  let x := s.chan c
  let w := (x.deepest (List.range 32)).getD 0
  ((s.setFld F.CH_REF_STAT_worst_bank c 0 w).setFld F.CH_REF_STAT_worst_d c 0 (ofSigned 6 (x.debtOf w))).setFld
    F.CH_REF_STAT_paydown c 0 (b2n (!x.paydown.isEmpty))

/-- The channel leaves self-refresh (R283, R278): every debt is 0, the activation tables are empty, a changed threshold of row
protection takes effect. One that has not been trained is untrained again (R13). -/
def State.exitSr (s : State) (c : Nat) : State :=
  let x := s.chan c
  let thr := clampNat 64 1024 (s.fld F.CH_RP_CTRL_threshold c 0)
  let x1 := { x with debt := [], paydown := [], actTab := [], acts := [], pos := 0, credit := [], idleSince := s.tb,
                     rpThr := (List.range 32).foldl (fun m j => smapPut 1024 m j thr) x.rpThr }
  ((((s.setChan c x1).setFld F.CH_ID_state c 0 (if s.fldB F.CH_TRN_STAT_trained c 0 then 2 else 1)).setFld F.CH_SR_in_sr c 0 0).addFld F.CH_SR_TIME_ms c 0
    ((s.tb - x.srSince) / 1000000)).refStat c

/-- A request comes to channel `c` (R281, R283): it is not idle from now, and leaves self-refresh; in SLEEP it stays (R286). -/
def State.rouse (s : State) (c : Nat) : State :=
  if s.fld F.CH_ID_state c 0 = 3 then (if s.mode = 5 then s else s.exitSr c)
  else if (s.chan c).idleSince = s.tb then s
  else s.setChan c { s.chan c with idleSince := s.tb }

/-- The activation table of a bank is cleared, and a changed threshold takes effect (R278, R280). -/
def State.clearRows (s : State) (c j : Nat) (byWindow : Bool) : State :=
  let x := s.chan c
  let thr := clampNat 64 1024 (s.fld F.CH_RP_CTRL_threshold c 0)
  (s.setChan c { x with actTab := smapErase x.actTab j, acts := smapErase x.acts j,
                        rpThr := smapPut 1024 x.rpThr j thr }).addFld
    (if byWindow then F.CH_RP_CLEARS_by_window else F.CH_RP_CLEARS_by_count) c 0 1

/-! ### Row protection (R276 to R278) -/

/-- The lowest count of a table; 0 for an empty one. -/
def lowCount (t : List (Nat × Nat)) : Nat :=
  match t with
  | [] => 0
  | e :: r => r.foldl (fun m x => min m x.2) e.2

/-- Replace the first entry of count `m` (R276). -/
def replaceLow (m r : Nat) : List (Nat × Nat) → List (Nat × Nat)
  | [] => []
  | e :: t => if e.2 = m then (r, m + 1) :: t else e :: replaceLow m r t

/-- The table after an activation of row `r` (R276, before the threshold). -/
def actEnter (t : List (Nat × Nat)) (r : Nat) : List (Nat × Nat) :=
  if t.any fun e => e.1 == r then t.map fun e => if e.1 = r then (e.1, e.2 + 1) else e
  else if t.length < 32 then t ++ [(r, 1)]
  else replaceLow (lowCount t) r t

def actCount (t : List (Nat × Nat)) (r : Nat) : Nat := ((t.find? fun e => e.1 == r).map (·.2)).getD 0

/-- The neighbours of row `r` that exist (R277). -/
def neighbours (r : Nat) : List Nat :=
  (if 2 ≤ r then [r - 2] else []) ++ (if 1 ≤ r then [r - 1] else []) ++
  (if r + 1 < 65536 then [r + 1] else []) ++ (if r + 2 < 65536 then [r + 2] else [])

def Chan.neighOf (x : Chan) (j : Nat) : List (List Nat) := smapGet [] x.neigh j

/-- One activation of row `r` of bank `j` is entered in the bank's table (R276, R278). While the bank's queue of two is full the count
stands and the row's next activation queues its refresh (R277). DEDUCED, unsafe (log 204). -/
def State.countAct (s : State) (c j r : Nat) : State :=
  if !s.fldB F.CH_RP_CTRL_enable c 0 then s
  else
    let x := s.chan c
    let thr := smapGet 1024 x.rpThr j
    let t := actEnter (smapGet [] x.actTab j) r
    let hit := decide (thr ≤ actCount t r) && decide ((x.neighOf j).length < 2)
    let t1 := if hit then t.map fun e => if e.1 = r then (e.1, lowCount t) else e else t
    let n := smapGet 0 x.acts j + 1
    let x1 := { x with
      actTab := smapPut [] x.actTab j t1
      acts := smapPut 0 x.acts j n
      neigh := if hit then smapPut [] x.neigh j (x.neighOf j ++ [neighbours r]) else x.neigh }
    let s2 := s.setChan c x1
    if 32 * thr ≤ n then s2.clearRows c j false else s2

/-- A read or write command is given to the DRAM (R342). -/
def State.command (s : State) (c : Nat) : State := s.setChan c { s.chan c with cmds := (s.chan c).cmds + 1 }

/-- Activate row `r` of bank `j`: it stays open, and the activation is counted (R276, R342, R431). -/
def State.activate (s : State) (c j r : Nat) : State :=
  (s.setChan c { s.chan c with openRow := smapInsert (s.chan c).openRow j r, cmds := (s.chan c).cmds + 1 }).countAct c j r

/-- Refresh the next row of bank `j`'s oldest neighbour refresh (R277): two slots; the row is activated, and precharged again.
DESIGN CHOICE, unsafe (log 52). -/
def State.neighbourStep (s : State) (c j : Nat) : State :=
  let x := s.chan c
  match x.neighOf j with
  | [] => s
  | q :: rest =>
    let q1 := q.drop 1
    let x1 := { x with
      openRow := smapErase x.openRow j
      neigh := smapPut [] x.neigh j (if q1.isEmpty then rest else q1 :: rest)
      slotsLeft := 1
      idleSince := s.tb }
    let s0 := s.setChan c x1
    let s1 := match q with | r :: _ => s0.countAct c j r | [] => s0
    if q1.isEmpty then (s1.addFld F.CH_RP_COUNT_count c 0 1).occ { ev := 0x28, inst := c } else s1

/-- The oldest neighbour refreshes of bank `j` go first while its queue is full: a row at a time (R277). -/
def State.drainNeigh (s : State) (c j : Nat) : Nat → State
  | 0 => s
  | n + 1 => if ((s.chan c).neighOf j).length < 2 then s else (s.neighbourStep c j).drainNeigh c j n

/-- The bank index j of a granule: PC × 16 + bank group × 4 + bank (R241, R268). -/
def bankOf (g : Nat) : Nat := g % 2 * 16 + g / 2 % 4 * 4 + g / 128 % 4

/-- The bank's row is open at the granule's row (R431). -/
def Chan.rowHit (x : Chan) (g : Nat) : Bool := smapFind x.openRow (bankOf g) == some (granRow g)

/-- The DRAM is read or written at a granule for a request: a row hit, or an activation (R276, R431; events 0x22, 0x23). One that finds
the bank's queue of neighbour refreshes full waits for room there, and is counted (R277). -/
def State.openFor (s : State) (c g : Nat) (o : Occ) : State :=
  let j := bankOf g
  if (s.chan c).rowHit g then (s.command c).occ { o with ev := 0x22 }
  else
    let s1 := if ((s.chan c).neighOf j).length < 2 then s else (s.addFld F.CH_RP_HOLD_count c 0 1).drainNeigh c j 8
    ((s1.activate c j (granRow g)).command c).occ { o with ev := 0x23 }

/-- An access to DRAM that no request makes (maintenance, training, tests). -/
def State.touchRow (s : State) (c g : Nat) : State :=
  let j := bankOf g
  if (s.chan c).rowHit g then s.command c
  else ((if ((s.chan c).neighOf j).length < 2 then s else s.drainNeigh c j 8).activate c j (granRow g)).command c

/-- Rows `[lo, hi)` of every bank are written whole: each is activated (R276). -/
def State.sweepRows (s : State) (c lo hi : Nat) : State :=
  (List.range' lo (hi - lo)).foldl (fun s r => (List.range 32).foldl (fun s j =>
    (if ((s.chan c).neighOf j).length < 2 then s else s.drainNeigh c j 8).activate c j r) s) s

/-! ## Accesses that do not queue

The directory, the delta units, firmware and the port pipeline read and write memory within their own events: the access
is whole in the event, and sees every queued write (R36, visibility). -/

/-- The write-queue entry that holds bytes of a granule, the latest. -/
def Chan.ent (x : Chan) (g : Nat) : Option WEnt := x.wq.reverse.find? fun w => w.gran == g

/-- The bytes queued for a granule by entries older than `q`, the latest written winning. -/
def Chan.queued (x : Chan) (g q : Nat) : SMap Byte :=
  x.wq.foldl (fun m w => if w.gran = g ∧ w.seq < q then w.bytes.foldl (fun m e => smapInsert m e.1 e.2) m else m) []

/-- What is queued for a granule ahead of `q` leaves it poisoned: a write-back of the Fixer that no whole write has followed (R302, R305). -/
def Chan.queuedBad (x : Chan) (g q : Nat) : Bool :=
  x.wq.foldl (fun b w => if w.gran = g ∧ w.seq < q then w.poison || (b && decide (w.bytes.length < 64)) else b) false

/-- A write of the granule is queued ahead of `q`: it answers reads (R253). -/
def Chan.fronted (x : Chan) (g q : Nat) : Bool := x.wq.any fun w => w.gran == g && decide (w.seq < q)

/-- Writes that found no room in the channel's queue and wait at its input, by masters that do not queue (R247). -/
def State.waitingPut (s : State) (c g : Nat) : List Req :=
  s.reqs.filter fun r => r.phys == c && r.gran == g && r.op == 0 && r.master != 58 && decide (r.kind = .write)

/-- Count granules read or written for a class (R265). -/
def State.countRd (s : State) (c k : Nat) : State := s.addFld F.RG_CNT_RD_granules c k 1
def State.countWr (s : State) (c k : Nat) : State := s.addFld F.RG_CNT_WR_granules c k 1

/-- A granule as the write queue ahead of `q` gives it: the queued bytes, and for those no write holds the stored ones; no slot is used
(R253, R294, R305). DEDUCED, unsafe (log 176). -/
def State.queueGran (s : State) (c g q : Nat) : Dec × State :=
  let b := (s.chan c).queued g q
  if (s.chan c).queuedBad g q then (⟨.poisoned, overlay (s.stored c g) b, [], none⟩, s)
  else if b.length = 64 then (⟨.clean, overlay (List.replicate 64 0) b, [], some 0⟩, s)
  else
    let (d, s1) := s.decode c g []
    (⟨d.out, overlay d.data b, d.errs, d.counted⟩, s1)

/-- A read granule is delivered (events 0x20, 0x2A). -/
def State.readOcc (s : State) (o : Occ) (out : GOut) : State :=
  match out with
  | .clean => s.occ { o with ev := 0x20 }
  | .corrected => (s.occ { o with ev := 0x2A }).occ { o with ev := 0x20 }
  | _ => s

/-- Read a granule of physical channel `c` whole, as master `m`, class `k`: from the write queue where a write of it is queued, else from
DRAM (R253, R306); the master's own writes that wait at the input lie over it. -/
def State.readGran (s : State) (c g m k waddr : Nat) : Dec × State :=
  let o : Occ := { ev := 0x20, inst := c, master := m, addr := waddr, cls := k }
  let s1 := s.countRd c k
  let (d, s2) := if (s.chan c).fronted g (s.chan c).seq then s1.queueGran c g (s.chan c).seq else (s1.openFor c g o).decode c g []
  (⟨d.out, (s.waitingPut c g).foldl (fun b r => overlay b r.wr) d.data, d.errs, d.counted⟩, (s2.demand c g waddr m 0 d).readOcc o d.out)

/-- Bytes to a number, little-endian (R5). -/
def leNat (bs : List Byte) : Nat := bs.foldr (fun b a => b.toNat + 256 * a) 0
/-- The low `n` bytes of a number, little-endian. -/
def leBytes (n v : Nat) : List Byte := (List.range n).map fun k => BitVec.ofNat 8 (v / 256 ^ k)

/-- A write of this granule merges into the latest entry queued for it (R253), but where a later read or atomic of the granule is
queued, which must not see it (R36), or the entry is a poisoned write-back. DEDUCED, unsafe (log 176). -/
def Chan.canMerge (x : Chan) (g : Nat) : Option WEnt :=
  match x.ent g with
  | some w => if w.poison || x.rq.any fun r => r.gran == g && w.seq < r.seq then none else some w
  | none => none

/-- Lay bytes into the write-queue entry of sequence `q` (R253: coalescing): its writers gain one (R296). -/
def Chan.coalesce (x : Chan) (q : Nat) (bs : SMap Byte) (w : Writer) : Chan :=
  { x with wq := x.wq.map fun v =>
      if v.seq = q then { v with bytes := bs.foldl (fun b e => smapInsert b e.1 e.2) v.bytes, writers := v.writers ++ [w] } else v }

/-- Something of the granule is queued, waits or is locked: a write of it waits behind (R36, R266). -/
def State.claims (s : State) (c g : Nat) : Bool :=
  let x := s.chan c
  (x.ent g).isSome || x.locked.contains g || (x.rq.any fun r => r.gran == g) || !(s.waitingPut c g).isEmpty

/-- Write-drain mode starts at wq_high and ends at wq_low (R253). -/
def State.updDrain (s : State) (c : Nat) : State :=
  let n := (s.chan c).wq.length
  if !s.fldB F.CH_STATUS_drain c 0 && s.fld F.CH_SCHED_wq_high c 0 ≤ n then
    (s.setFld F.CH_STATUS_drain c 0 1).occ { ev := 0x29, inst := c }
  else if s.fldB F.CH_STATUS_drain c 0 && n ≤ s.fld F.CH_SCHED_wq_low c 0 then s.setFld F.CH_STATUS_drain c 0 0
  else s

/-- The deadline header of a target: the 16-bit unit, far, overdue at issue. -/
def State.deadline (s : State) (target : Nat) : Nat × Bool × Bool :=
  if target ≤ s.tb then (target / 16 % 65536, false, true)
  else
    let d := min (target / 16 - s.units) 65535
    ((s.units + d) % 65536, decide (32768 ≤ d), false)

/-- The deadline an access of a master that does not queue carries (R24, R106, R158): the tick unit's is the commit deadline of the
tick it serves, a delta unit's the opening of the window it builds for, the management port's 1 ms after issue (R203). -/
def State.directDue (s : State) (m : Nat) : Option Nat :=
  if m = 57 then s.tk.sim.map fun _ => s.tk.simStart + s.tk.simDl
  else if 40 ≤ m ∧ m < 56 then ((s.st.builds.find? fun b => b.du == m - 40).map (·.opens))
  else if m = 61 then some (s.tb + 1000000)
  else none

/-- A write by a master that does not queue waits: it joins an entry of the write queue, or makes one with the deadline it carries; where
the queue has no room it waits at the channel's input (R247, R253). -/
def State.queueWrite (s : State) (c g k : Nat) (bs : SMap Byte) (w : Writer) : State :=
  let x := s.chan c
  let h := s.deadline ((s.directDue w.master).getD (2 ^ 64 - 1))
  let late := h.2.2 || h.1 == s.units % 65536
  let due := if late then s.units else s.units + (h.1 + 65536 - s.units % 65536) % 65536
  match x.canMerge g with
  | some v => s.setChan c (x.coalesce v.seq bs w)
  | none =>
    if 64 ≤ x.wq.length ∨ !(s.waitingPut c g).isEmpty then
      { s with reqs := s.reqs ++ [{ id := s.nextReq, op := 0, master := w.master, kind := .write, phys := c, gran := g, waddr := w.addr,
                                    wr := bs, cls := k, dl := h.1, far := h.2.1, late := h.2.2 }]
               nextReq := s.nextReq + 1 }
    else
      let n : WEnt := { id := s.nextReq, gran := g, bytes := bs, writers := [w], cls := k, due := due, late := late,
                        lateAt := x.lateSeq, seq := x.seq }
      ({ s with nextReq := s.nextReq + 1 }.setChan c { x with seq := x.seq + 1, lateSeq := x.lateSeq + b2n late
                                                              wq := x.wq ++ [n] }).updDrain c

/-- The writer of an access by a master that is no strand. -/
def writerOf (m waddr : Nat) : Writer := { master := m, e := 63, t := 0, fpc := 0, addr := waddr }

/-- Write all 64 bytes of a granule of physical channel `c`: it heals whatever stood there (R295). -/
def State.wholeGran (s : State) (c g m k waddr : Nat) (bs : SMap Byte) : State :=
  let o : Occ := { ev := 0x21, inst := c, master := m, addr := waddr, cls := k }
  if s.claims c g then s.queueWrite c g k bs (writerOf m waddr)
  else (((s.countWr c k).openFor c g o).storeWhole c g bs).occ o

/-- The channel carries traffic: it is powered and has been trained (R13); one that a trip put to sleep untrained does not. -/
def State.carries (s : State) (c : Nat) : Bool :=
  s.chanOn c && (s.fld F.CH_ID_state c 0 == 2 || (s.fld F.CH_ID_state c 0 == 3 && s.fldB F.CH_TRN_STAT_trained c 0) ||
    s.fld F.CH_ID_state c 0 == 5)

/-- The count of symbols in error that a UE list entry holds: 4 or 5, else 0xFF (R303). -/
def symsByte (counted : Option Nat) : Nat := match counted with | some 4 => 4 | some 5 => 5 | _ => 0xFF

/-- Enter a detection in the UE list of channel `c` (R303, R304): kind 1 Fixer, 2 partial write, 3 migration copy. The list
lies in logical channel 2; with that channel ABSENT, or not in service (R13), only the registers record it. The write is the Fixer's, or
that of the engine that copies (R10). DESIGN CHOICE, safe (log 59). -/
def State.ueEnter (s : State) (c g waddr kind master : Nat) (counted : Option Nat) : State :=
  let n := s.fld F.CH_UE_STAT_count c 0
  let s1 := s.addFld F.CH_UE_STAT_total c 0 1
  if 64 ≤ n then s1.setFld F.CH_UE_STAT_overflow c 0 1
  else
    let off := 0x7E000000 + 0x840000 + 0x1000 * c + 64 * n
    match s1.route 2 off with
    | none => s1
    | some r =>
      if !r.wr.all s1.carries then s1 else
      let sq := smapGet 0 s1.ueSeq c + 1
      let e := leBytes 8 (waddr - waddr % 64) ++ leBytes 8 s1.tb ++ leBytes 4 g ++ leBytes 1 kind ++ leBytes 1 master ++
        leBytes 1 (s1.classOf waddr) ++ leBytes 1 (symsByte counted) ++ leBytes 4 sq ++ List.replicate 36 0
      let s2 := { s1 with ueSeq := smapPut 0 s1.ueSeq c sq }
      (r.wr.foldl (fun s p => (s.rouse p).wholeGran p (off / 64) (if kind = 3 then 59 else 58) (s.classOf (2 * 2 ^ 31 + off)) (2 * 2 ^ 31 + off)
        (bytesAt 0 e)) s2).setFld
        F.CH_UE_STAT_count c 0 (n + 1)

/-- Write bytes of a granule of physical channel `c` (R295, R296): the whole granule heals it; fewer bytes merge into a
readable granule, and leave a bad one poisoned, with one event and, where it was UNCORRECTABLE, a UE list entry. -/
def State.writeGran (s : State) (c g m k waddr : Nat) (bs : SMap Byte) : State :=
  let o : Occ := { ev := 0x21, inst := c, master := m, addr := waddr, cls := k }
  if s.claims c g then s.queueWrite c g k bs (writerOf m waddr)
  else if bs.length = 64 then s.wholeGran c g m k waddr bs
  else
    let (d, s1) := (((s.countWr c k).countRd c k).openFor c g o).decode c g []
    let s2 := ((s1.demand c g waddr m 1 d).occ o).occ { o with ev := 0x2A, inc := b2n (decide (d.out = .corrected)) }
    if d.out.bad then
      let s3 := s2.storePoison c g (overlay d.data bs)
      if d.out = .uncorrectable then s3.ueEnter c g waddr 2 m d.counted else s3
    else s2.storeWhole c g (bytesAt 0 (overlay d.data bs))

/-- An access of a master that is no engine is denied, and recorded (R3, R243, R244, R246). -/
def State.deny (s : State) (m wa : Nat) (write : Bool) : State :=
  { s with denied := s.denied ++ [⟨m, write, wa, s.tb⟩] }

/-- An access whose deadline's unit has come when it reaches the channel is overdue there (R24, R248; event 0x24). -/
def State.directLate (s : State) (c m waddr k : Nat) : State :=
  match s.directDue m with
  | some d =>
    if d / 16 ≤ s.units then
      (s.addFld F.CH_OVERDUE_count c 0 1).occ { ev := 0x24, inst := c, master := m, addr := waddr, cls := k } else s
  | none => s

/-- The mesh half that a channel and its engine are attached to (spec/01, Blocks and their connections). -/
def meshHalf (c : Nat) : Nat := if c < 16 ∨ c = 32 then 0 else 1

/-- A master at the mesh centre sends channel `c` a request and has its response: events 0x70 and 0x71 in the half the channel is
attached to (R380). The Fixer, the fill and copy engines and the mirror have inputs of their own (R247). DESIGN CHOICE, unsafe (log 164). -/
def State.meshDirect (s : State) (c m ev len : Nat) : State :=
  if m = 34 ∨ (40 ≤ m ∧ m ≤ 57) ∨ m = 61 then
    let o (resp : Bool) : Occ :=
      { ev := if resp then 0x71 else 0x70, inst := meshHalf c, inc := Config.meshFlits resp ev len, master := m }
    (s.occ (o false)).occ (o true)
  else s

/-- One granule of world memory for a block that does not queue, in class `k`, or that of its address (R25); none where no channel
serves it. DESIGN CHOICE, unsafe (log 46). -/
def State.worldRead (s : State) (wa m : Nat) (k : Option Nat) : Option Dec × State :=
  match s.place wa with
  | .backing => (none, s.deny m wa false)
  | .at l off =>
    match s.route l off with
    | none => (none, s.deny m wa false)
    | some r =>
      if s.carries r.rd then
        let (d, s) := (((s.rouse r.rd).directLate r.rd m wa (k.getD (s.classOf wa))).meshDirect r.rd m 0x03 64).readGran r.rd (off / 64) m (k.getD (s.classOf wa)) wa
        (some d, s)
      else (none, s)

/-- Write bytes within one granule of world memory, to every channel that must hold them; false where no channel serves. -/
def State.worldWrite (s : State) (wa m : Nat) (k : Option Nat) (bs : SMap Byte) : Bool × State :=
  match s.place wa with
  | .backing => (false, s.deny m wa true)
  | .at l off =>
    match s.route l off with
    | none => (false, s.deny m wa true)
    | some r =>
      if r.wr.all s.carries then
        (true, r.wr.foldl (fun t c => (((t.rouse c).directLate c m wa (k.getD (s.classOf wa))).meshDirect c m 0x04 bs.length).writeGran c (off / 64) m (k.getD (s.classOf wa)) wa bs) s)
      else (false, s)

/-- An access of `n` bytes that carries a deadline of its own (R87, R158) is overdue, granule by granule, where it comes late. -/
def State.lateSpan (s : State) (wa n due : Nat) : State :=
  if s.units < due / 16 then s
  else
    (List.range ((wa % 64 + n + 63) / 64)).foldl (fun s k =>
      match s.place (wa - wa % 64 + 64 * k) with
      | .backing => s
      | .at l off =>
        match s.route l off with
        | some r => if s.carries r.rd then s.addFld F.CH_OVERDUE_count r.rd 0 1 else s
        | none => s) s

/-- Bytes from `wa`, cut at granule ends: pairs of an address in a granule and the bytes that lie there. -/
def granPieces : Nat → Nat → List Byte → List (Nat × SMap Byte)
  | 0, _, _ => []
  | n + 1, wa, bs =>
    if bs.isEmpty then []
    else
      let k := 64 - wa % 64
      (wa, bytesAt (wa % 64) (bs.take k)) :: granPieces n (wa + k) (bs.drop k)

/-- Write a run of bytes at `wa`, each granule in the class of its address. -/
def State.worldPut (s : State) (wa m : Nat) (bs : List Byte) : State :=
  (granPieces (bs.length / 64 + 2) wa bs).foldl (fun s e => (s.worldWrite e.1 m none e.2).2) s

/-- Read `n` bytes from `wa`, granule by granule; the worst outcome met (none: a channel that does not serve). Bytes of a
bad granule are as read. -/
def readPieces : Nat → State → Nat → Nat → Nat → Option Nat → List Byte → Option GOut → List Byte × Option GOut × State
  | 0, s, _, _, _, _, acc, o => (acc, o, s)
  | f + 1, s, wa, n, m, k, acc, o =>
    if n = 0 then (acc, o, s)
    else
      let j := min n (64 - wa % 64)
      match s.worldRead wa m k with
      | (none, s) => (acc ++ List.replicate n 0, none, s)
      | (some d, s) =>
        readPieces f s (wa + j) (n - j) m k (acc ++ (d.data.drop (wa % 64)).take j)
          (if d.out.bad && o == some .clean then some d.out else o)

def State.worldGet (s : State) (wa n m : Nat) (k : Option Nat) : List Byte × Option GOut × State :=
  readPieces (n / 64 + 2) s wa n m k [] (some .clean)

/-- The device area of a logical channel (R106): its top 32 MiB. -/
def devAddr (l off : Nat) : Nat := l * 2 ^ 31 + 0x7E000000 + off

end Sys2Proof.Machine
end

