-- ==== Sys2Proof/Machine/Ops.lean ====
section
/-!
DEFINITION. The named operations the families share: samples and their records (R390 to R393), and traps: taking one (R45 to R47) and returning from one (R96).
-/

namespace Sys2Proof.Machine

/-! ## Samples and records (R390 to R393) -/

/-- The next 64-bit state of the tag draw: uniform from 2^(p-1) to 3·2^(p-1), or 1 for p = 0 (R393). The LFSR's polynomial
is not given: the draw is a free value within its range. DESIGN CHOICE, safe (log 40). -/
def tagReload (p free : Nat) : Nat := if p = 0 then 1 else 2 ^ (p - 1) + free % (2 ^ p + 1)

/-- A sampled kind of operation or a trap occurs at an engine, in issue order (R390, R393): whether it is recorded. -/
def State.sampleHit (s : State) (o : Occ) : Bool × State :=
  match s.part with
  | .tkw6417 =>
    if s.pm.level && s.fldB F.PM_LOUPE_CTRL_run 0 0 && s.fld F.PM_LOUPE_CTRL_event 0 0 == o.ev &&
        s.pmPass (s.fld F.PM_LOUPE_CTRL_fset 0 0) o then
      let n := smapGet 0 s.pm.loupeCnt o.inst + 1
      (n % 2 ^ s.fld F.PM_LOUPE_CTRL_p 0 0 == 0, { s with pm := { s.pm with loupeCnt := smapPut 0 s.pm.loupeCnt o.inst n } })
    else (false, s)
  | .tkw3209 =>
    let kind := if o.ev = 0x03 then 0 else if o.ev = 0x04 then 1 else if o.ev = 0x05 then 2 else 3
    if s.pm.level && s.fldB F.PM_TAG_run 0 0 && o.ev != 0x09 && bitOf (s.fld F.PM_TAG_kinds 0 0) kind then
      let c := smapGet 1 s.pm.tagCnt o.inst
      if c ≤ 1 then
        let s1 := { s with pm := { s.pm with
          tagCnt := smapPut 1 s.pm.tagCnt o.inst (tagReload (s.fld F.PM_TAG_p 0 0) s.freeVal) } }
        ((s.pmPass (s.fld F.PM_TAG_fset 0 0) o), s1.useFree)
      else (false, { s with pm := { s.pm with tagCnt := smapPut 1 s.pm.tagCnt o.inst (c - 1) } })
    else (false, s)

/-- A sampled operation's sample is entered; its record is built at completion (R390). -/
def State.sample (s : State) (o : Occ) (x : Sample) : State :=
  match s.sampleHit o with
  | (true, s1) => { s1 with pm := { s1.pm with samples := s1.pm.samples ++ [x] } }
  | (false, s1) => s1

/-- The 32 bytes of a record (R391). `cause` is the trap cause the operation ended with, or 0. -/
def Sample.record (x : Sample) (sq now cause : Nat) (gap : Bool) : List Byte :=
  leBytes 4 sq ++ leBytes 4 x.tb ++ leBytes 8 x.addr ++
  leBytes 4 (if x.ev = 0x09 then 0 else min (now - x.tb) (2 ^ 32 - 1)) ++ leBytes 2 x.pc ++ leBytes 1 x.ev ++
  leBytes 1 cause ++ leBytes 1 x.e ++
  leBytes 1 (x.t + b2n x.title * 16 + b2n gap * 32 + b2n x.tagged * 64) ++ leBytes 1 x.chan ++ leBytes 1 x.bits ++
  leBytes 2 x.due ++ leBytes 2 x.held

/-- Write two records as a whole granule at the ring's index, and advance it by two (R392). -/
def State.ringWrite (s : State) (r1 r2 : List Byte) : State :=
  let n := s.fld F.PM_LOUPE_RING_next 0 0
  let wa := devAddr 3 (0x1400000 + 32 * n)
  let s1 := (s.worldWrite wa 34 none (bytesAt 0 (r1 ++ r2))).2
  s1.setFld F.PM_LOUPE_RING_next 0 0 ((n + 2) % 2 ^ 18)

/-- Write the staged records out two by two, an odd one paired with zeros (R392, R393). -/
def State.flushStaging (s : State) : State :=
  let n := (s.pm.staging.length + 1) / 2
  let l := s.pm.staging
  (List.range n).foldl (fun s k => s.ringWrite (l.getD (2 * k) []) (l.getD (2 * k + 1) (List.replicate 32 0)))
    { s with pm := { s.pm with staging := [] } }

/-- The staging queue gives the ring a granule of two records (R392, R393). DESIGN CHOICE, unsafe (log 207). -/
def State.drainStaging (s : State) : State :=
  match s.pm.staging with
  | a :: b :: l => ({ s with pm := { s.pm with staging := l } }).ringWrite a b
  | _ => s

/-- A record for the ring: a first record waits for its pair (R392). Without wrap a full ring stops recording. -/
def State.ringRecord (s : State) (wrap : Bool) (r : List Byte) : State :=
  match s.pm.lone with
  | none => { s with pm := { s.pm with lone := some r } }
  | some q =>
    let s1 := ({ s with pm := { s.pm with lone := none } }).ringWrite q r
    if !wrap && s1.fld F.PM_LOUPE_RING_next 0 0 == 0 then s1.setFld F.PM_LOUPE_STAT_full 0 0 1 else s1

/-- A record that cannot enter is lost, and the next carries the gap flag (R390). -/
def State.loseRecord (s : State) : State :=
  ({ s with pm := { s.pm with gap := true } }).addFld F.PM_LOUPE_STAT_lost 0 0 1

/-- A completed sample's record enters the buffer, the ring or, tagged, the staging queue of 16 (R390, R392, R393). Where the buffer
or the ring is full without wrap, recording has stopped. -/
def State.enterRecord (s : State) (x : Sample) (cause : Nat) : State :=
  let sq := s.pm.seq + 1
  let r := x.record sq s.tb cause s.pm.gap
  let s1 := { s with pm := { s.pm with seq := sq, gap := false, lastRec := some s.tb } }
  if x.tagged then
    if s.pm.staging.length < 16 then { s1 with pm := { s1.pm with staging := s1.pm.staging ++ [r] } } else s.loseRecord
  else if s.fldB F.PM_LOUPE_STAT_full 0 0 && !s.fldB F.PM_LOUPE_CTRL_wrap 0 0 then s
  else if (match s.pm.lastRec with | some t => decide (s.tb < t + 4) | none => false) then s.loseRecord
  else if s.fldB F.PM_LOUPE_CTRL_drain 0 0 then s1.ringRecord (s.fldB F.PM_LOUPE_CTRL_wrap 0 0) r
  else if s.pm.buffer.length < 4096 then
    let s2 := ({ s1 with pm := { s1.pm with buffer := s.pm.buffer ++ [r] } }).setFld F.PM_LOUPE_STAT_held 0 0
      (s.pm.buffer.length + 1)
    if s.pm.buffer.length + 1 = 4096 ∧ s.fld F.PM_LOUPE_CTRL_wrap 0 0 = 0 then s2.setFld F.PM_LOUPE_STAT_full 0 0 1 else s2
  else if s.fldB F.PM_LOUPE_CTRL_wrap 0 0 then
    { s1 with pm := { s1.pm with buffer := s.pm.buffer.drop 1 ++ [r], word := 0 } }
  else s

/-- The samples that `p` picks out have completed: they become records (R390). -/
def State.finishSamples (s : State) (p : Sample → Bool) (cause : Nat) : State :=
  (s.pm.samples.filter p).foldl (fun s x => s.enterRecord x cause)
    { s with pm := { s.pm with samples := s.pm.samples.filter fun y => !p y } }

/-- Operation `id` completes: its samples become records (R390). -/
def State.finishSample (s : State) (id cause : Nat) : State := s.finishSamples (fun x => x.op == id) cause

/-- The granule of a bulk operation at `wa` has completed. -/
def State.finishGranule (s : State) (id wa : Nat) : State := s.finishSamples (fun x => x.op == id && x.addr == wa) 0

/-- Samples of operations that will not complete are given up. -/
def State.dropSamples (s : State) (p : Sample → Bool) : State :=
  { s with pm := { s.pm with samples := s.pm.samples.filter fun x => !p x } }

/-- The number under which a strand's TICK operation is sampled: no operation that outlives its instruction has it. -/
def tickOp (e t : Nat) : Nat := 2 ^ 65 + skey e t

/-- A TICK operation is issued: event 0x07, and its sample (R380, R390). -/
def State.tickOcc (s : State) (e t : Nat) : State :=
  let x := s.strand e t
  let o : Occ := { ev := 0x07, inst := e, title := x.title }
  (s.occ o).sample o { op := tickOp e t, tb := s.tb, ev := 0x07, pc := x.pc.toNat, e := e, t := t, title := x.title,
                       tagged := decide (s.part = .tkw3209) }

/-- A trap occurs: event 0x09, and its record at once if it is sampled. -/
def State.trapOccurs (s : State) (e t pc : Nat) (title : Bool) (cause : Nat) (addr : Word64) : State :=
  let o : Occ := { ev := 0x09, inst := e, title := title }
  match (s.occ o).sampleHit o with
  | (true, s1) => s1.enterRecord { op := 0, tb := s.tb, ev := 0x09, pc := pc, e := e, t := t, title := title,
                                   addr := addr.toNat } cause
  | (false, s1) => s1

/-! ## Traps (R45 to R47, R428) -/

/-- The cause codes (R428). -/
def Cause.code : Cause → Nat
  | .illegal => 1 | .privilege => 2 | .range => 3 | .align => 4 | .order => 5 | .deadline => 6 | .check => 7
  | .syscall => 8 | .poison => 9 | .uncorrectable => 10 | .absent => 11 | .stale => 12 | .torn => 13 | .budget => 14
  | .brk => 15

/-- The causes a title strand takes in its own vector (R47). -/
def Cause.titleHandled : Cause → Bool
  | .stale | .poison | .absent | .torn | .budget => true
  | _ => false

/-- The trap CSRs a trap writes (R99): cause, more and subcode packed; trap PC, faulting PC, address, detail. -/
def trapRegs (tr : Trap) (epc fpc : Nat) (more : Bool) : TrapRegs :=
  { cause := BitVec.ofNat 64 (tr.cause.code + b2n more * 2 ^ 8 + tr.sub % 16 * 2 ^ 12)
    epc := BitVec.ofNat 64 epc
    fpc := BitVec.ofNat 64 fpc
    addr := tr.addr
    info := tr.info }

/-- Whether a strand takes this cause in its title vector (R47). -/
def Strand.takesTitle (x : Strand) (c : Cause) : Bool := c.titleHandled && x.title && x.tvec != 0 && !x.inHandler

/-- Set the engine's bit in SV_EVENT_LO or SV_EVENT_HI (R47); the SV itself has none. -/
def State.svEvent (s : State) (e : Nat) : State :=
  if e < 32 then s.setFld F.SV_EVENT_LO_engine 0 0 (s.fld F.SV_EVENT_LO_engine 0 0 ||| 2 ^ e)
  else if e < 34 then s.setFld F.SV_EVENT_HI_engine 0 0 (s.fld F.SV_EVENT_HI_engine 0 0 ||| 2 ^ (e - 32))
  else s

/-- Clear the engine's bit there (R55). -/
def State.svUnevent (s : State) (e : Nat) : State :=
  let cut (v n : Nat) : Nat := if bitOf v n then v - 2 ^ n else v
  if e < 32 then s.setFld F.SV_EVENT_LO_engine 0 0 (cut (s.fld F.SV_EVENT_LO_engine 0 0) e)
  else s.setFld F.SV_EVENT_HI_engine 0 0 (cut (s.fld F.SV_EVENT_HI_engine 0 0) (e - 32))

/-- Set the strand's CE_TRAP_PEND bit and the engine's event bit (R47). DEDUCED, safe (log 35). -/
def State.trapPend (s : State) (e t : Nat) : State :=
  if e < 34 then (s.setFld F.CE_TRAP_PEND_pend e 0 (s.fld F.CE_TRAP_PEND_pend e 0 ||| 2 ^ t)).svEvent e else s

/-- The strand leaves TRAPPED: its CE_TRAP_PEND bit is cleared by hardware. -/
def State.trapUnpend (s : State) (e t : Nat) : State :=
  if e < 34 then
    s.setFld F.CE_TRAP_PEND_pend e 0 (s.fld F.CE_TRAP_PEND_pend e 0 &&& (2 ^ 16 - 1 - 2 ^ (t % 16)))
  else s

/-- TAKE A TRAP (R47). A title strand that handles the cause enters its vector: the title trap CSRs are written, the strand
is marked in-handler and goes on at `tvec`. Any other trap writes the supervisor trap CSRs, stops the strand in TRAPPED
with its `pc` CSR at the trap PC, and raises its pending bits. DEDUCED, safe (log 33). -/
def State.takeTrap (s : State) (e t : Nat) (tr : Trap) (epc fpc : Nat) (more : Bool) : State :=
  let x := s.strand e t
  let s1 := s.trapOccurs e t fpc x.title tr.cause.code tr.addr
  if x.takesTitle tr.cause then
    s1.setStrand e t { x with tt := trapRegs tr epc fpc more, inHandler := true, st := .ready, wait := none,
                              report := none, more := false, pc := x.tvec.setWidth 16 }
  else
    (s1.setStrand e t { x with ts := trapRegs tr epc fpc more, st := .trapped, wait := none, report := none, more := false,
                               pc := BitVec.ofNat 16 epc }).trapPend e t

/-- RETURN FROM A TRAP (R96): the in-handler mark is cleared and the strand continues at `tepc`. -/
def State.trapReturn (s : State) (e t : Nat) : State :=
  let x := s.strand e t
  s.setStrand e t { x with inHandler := false, pc := x.tt.epc.setWidth 16 }

/-- A strand that waits for an operation's result or for room becomes READY again (R28); `t` of engine `e`. One that waits for a
result a known number of tokens away stays as it is (R30). -/
def State.wake (s : State) (e t : Nat) : State :=
  let x := s.strand e t
  if x.st = .stalled ∧ smapFind (s.eng e).tills t = none then s.setStrand e t { x with st := .ready } else s

/-- Every STALLED strand of engine `e` becomes READY again: a shared condition (load/store queue room) has cleared. -/
def State.wakeAll (s : State) (e : Nat) : State := (List.range 16).foldl (fun s t => s.wake e t) s

/-- The strand is stopped on a completion-time trap (R46): its causes are the codes from 9 (R428). -/
def Strand.stoppedLate (x : Strand) : Bool := decide (x.st = .trapped) && decide (9 ≤ x.ts.cause.toNat % 256)

/-- A completion-time report arrives (R46): it waits for delivery; a second one before the handler is entered sets "more", in the
record of the trap where the strand is already TRAPPED on the first. One that finds the strand disabled waits until it is enabled
again. DESIGN CHOICE, unsafe (log 193). -/
def State.report (s : State) (e t : Nat) (r : Report) : State :=
  let x := s.strand e t
  if x.stoppedLate then s.setStrand e t { x with ts := { x.ts with cause := x.ts.cause ||| 256 } }
  else
    match x.report with
    | none => s.setStrand e t { x with report := some r }
    | some _ => s.setStrand e t { x with more := true }

end Sys2Proof.Machine
end

