-- ==== Sys2Proof/Machine/Flags.lean ====
section
/-!
DEFINITION. The flags of the stack's engines: `fpstat` with its rounding mode and five sticky flags (R70, R99), and the
predicate registers as a CSR (R99). No integer instruction has flags.
-/

namespace Sys2Proof.Machine

/-- The rounding mode, `fpstat[2:0]`. -/
def Strand.round (x : Strand) : Nat := bitsOf x.fpstat.toNat 0 3

/-- The sticky flags gather: INV [8], DIVZ [9], OVF [10], UNF [11], INX [12] (R70). -/
def Strand.sticky (x : Strand) (fl : Nat) : Strand := { x with fpstat := x.fpstat ||| BitVec.ofNat 64 (fl % 32 * 256) }

/-- The bits of `fpstat` a write reaches: [2:0] and [12:8]; [7:3] and [63:13] are 0 (R99). -/
def fpstatMask : Word64 := 0x1F07

/-- `preds`: bit i is p(i); bit 0 reads 1 (R99). -/
def Strand.preds (x : Strand) : Word64 := (x.p ||| 1).setWidth 64

/-- Write `preds`; a write to bit 0 is ignored (R99). -/
def Strand.setPreds (x : Strand) (v : Word64) : Strand := { x with p := v.setWidth 8 ||| 1 }

end Sys2Proof.Machine
end

