-- ==== Sys2Proof/Machine/Issue.lean ====
section
/-!
DEFINITION. Issue (R28 to R30, R33, R45, R62, R64, R66): which strand may issue, tokens and pairing, the fetch check, the
order of the checks, stalls and issue-time traps. Every Sillar instruction is one call of `issue`.
-/

namespace Sys2Proof.Machine

/-- What the issue stage reads off an instruction: the registers it reads and writes, whether it is a memory, directory or
system instruction, an FP32 or vector instruction, a branch (R29), and whether it may stand at index 65,535 (R79). -/
structure Info where
  reads : List Nat := []
  writes : List Nat := []
  mem : Bool := false
  fp : Bool := false
  branch : Bool := false
  last : Bool := false
  /-- The tokens after which the results are usable, where they are not usable with the next one (R30). -/
  lat : Nat := 0

/-- The same instruction without a result to come: it trapped. -/
def Info.bare (d : Info) : Info := { d with lat := 0 }

/-- What an instruction comes to once its encoding and its registers are good: a precise trap (R45), a stall (R28) on a full
queue or a fence (`mem`) or on another result (R385), or its effect. -/
inductive Res where
  | trap (t : Trap)
  | stall (mem : Bool := true)
  | go (s : State)

/-- The steps round-robin takes from the strand that issued last to strand `t` (R29). -/
def rrDist (rr t : Nat) : Nat := (t + 31 - rr) % 16

/-- The token time at hand (R30, R32): the next one; where no strand is READY, tokens that find none pass until the first result
that a stalled strand waits for. -/
def State.coming (s : State) (e : Nat) : Nat :=
  let x := s.eng e
  if (List.range 16).any fun u => decide ((s.strand e u).st = .ready) && (s.strand e u).report.isNone then x.slot + 1
  else
    match (x.tills.filter fun k => decide ((s.strand e k.1).st = .stalled)).map (·.2) with
    | [] => x.slot + 1
    | a :: l => max (x.slot + 1) (l.foldl min a)

/-- A strand STALLED on a result (R30) that the token time at hand brings. -/
def State.resultCome (s : State) (e t : Nat) : Bool :=
  decide ((s.strand e t).st = .stalled) &&
  match smapFind (s.eng e).tills t with
  | some n => decide (n ≤ s.coming e)
  | none => false

/-- The state of a strand (R28): STALLED on a result, it is READY from the token that brings it. -/
def State.stNow (s : State) (e t : Nat) : SSt := if s.resultCome e t then .ready else (s.strand e t).st

/-- The strand is READY and has no report waiting (R46). -/
def State.mayRun (s : State) (e t : Nat) : Bool := decide (s.stNow e t = .ready) && (s.strand e t).report.isNone

/-- Strand `t` is the next READY strand of engine `e` in round-robin order (R29). -/
def State.selected (s : State) (e t : Nat) : Bool :=
  (List.range 16).all fun u => !s.mayRun e u || decide (rrDist (s.eng e).rr t ≤ rrDist (s.eng e).rr u)

/-- The instruction may join the open token as its second (R29). DEDUCED, unsafe (log 26). -/
def State.pairs (s : State) (e t : Nat) (d : Info) : Bool :=
  match (s.eng e).token with
  | none => false
  | some k =>
    k.t == t && !((d.reads ++ d.writes).any fun r => k.writes.contains r) && !(k.mem && d.mem) && !(k.fp && d.fp)

/-- The engine issues: it is powered and running, neither fenced nor copying its strands away (R43, R55, R369). -/
def State.engIssues (s : State) (e : Nat) : Bool :=
  s.engOn e && (e == 34 || (s.fldB F.CE_CTRL_run e 0 && s.mode != 7)) && !(s.eng e).fenced && !s.pwr.tripped &&
  !(match (s.eng e).mig with | some m => m.copying || m.stopped | none => false)

/-- The instruction can be issued now: its engine issues, its strand is READY and has no report waiting (R46), and it
joins the open token or its strand is the one selected. -/
def State.canIssue (s : State) (e t : Nat) (d : Info) : Bool :=
  s.engIssues e && s.mayRun e t && (s.pairs e t d || s.selected e t)

/-- The token time in which the instruction issues: that of the open token it joins, else the one at hand. -/
def State.tokenTime (s : State) (e t : Nat) (d : Info) : Nat := if s.pairs e t d then (s.eng e).slot else s.coming e

/-- The results still to come once an instruction has issued at token time `n` (R30). -/
def latesAfter (l : List (Nat × Nat × Nat)) (n t : Nat) (d : Info) : List (Nat × Nat × Nat) :=
  (l.filter fun x => n < x.2.2) ++ (if d.lat = 0 then [] else d.writes.map fun r => (t, r, n + d.lat))

/-- Issue accounting: a second instruction joins the token; any other takes a token of its own, counted as one that
issues a single instruction until a second joins it (R29, R32, R385). -/
def State.takeToken (s : State) (e t : Nat) (d : Info) : State :=
  let title := (s.strand e t).title
  let s0 := (s.occ { ev := 0x02, inst := e, title := title }).addFld F.PM_TD_slots e 0 1
  let x := s0.eng e
  let n := s.tokenTime e t d
  if s.pairs e t d then
    (s0.setEng e { x with token := none, lates := latesAfter x.lates n t d }).setFld F.PM_TD_slots e 1
      (s0.fld F.PM_TD_slots e 1 - 1)
  else
    (((s0.setEng e { x with
        rr := t, tokens := (x.tokens + 1) % 2 ^ 64, lastTok := s.tb, slot := n, lates := latesAfter x.lates n t d,
        token := if d.branch then none else some ⟨t, d.writes, d.mem, d.fp⟩ }).addFld F.PM_TD_slots e 1 1).occ
      { ev := 0x01, inst := e, title := title })

/-- The token ends with this instruction: nothing joins it. -/
def State.endToken (s : State) (e : Nat) : State := s.setEng e { s.eng e with token := none }

/-- A precise issue-time trap (R45): the trap PC is the instruction's own index. -/
def State.issueTrap (s : State) (e t : Nat) (tr : Trap) : State :=
  let pc := (s.strand e t).pc.toNat
  (s.takeTrap e t tr pc pc false).endToken e

/-- A single-bit error at fetch is corrected and counted (R33, R60). -/
def State.fetchCorrected (s : State) (e : Nat) : State :=
  if e = 34 then s.addFld F.SV_SRAM_ECC_corrected 0 0 1 else s.addFld F.CE_IMEM_ECC_corrected e 0 1

/-- A double-bit error at fetch (R33, R60): counted, a fault on the engine's group, and the strand traps CHECK. -/
def State.fetchFailed (s : State) (e t : Nat) : State :=
  let pc := (s.strand e t).pc.toNat
  let s1 :=
    if e = 34 then
      (s.addFld F.SV_SRAM_ECC_uncorrected 0 0 1).raise
        { group := 49, src := 0, inst := 34, master := 34, access := 3, addr := 4 * pc }
    else
      ((s.addFld F.CE_IMEM_ECC_uncorrected e 0 1).setFld F.CE_STATUS_imem_ue e 0 1).raise
        { group := 48, src := 0, inst := e, master := e, access := 3, addr := pc }
  s1.issueTrap e t { cause := .check, addr := BitVec.ofNat 64 pc }

/-- The tokens from which the results are usable that the instruction needs and that are still to come (R30). DESIGN CHOICE, safe
(log 42). -/
def State.lateFor (s : State) (e t : Nat) (d : Info) : List Nat :=
  ((s.eng e).lates.filter fun x => x.1 == t && (d.reads ++ d.writes).contains x.2.1 && decide (s.tokenTime e t d < x.2.2)).map
    (·.2.2)

/-- A register the instruction reads or writes awaits a result (R30, R37): that of an outstanding operation, or one that comes some
tokens after its instruction. -/
def State.hazard (s : State) (e t : Nat) (d : Info) : Bool :=
  ((d.reads ++ d.writes).any fun r => (s.strand e t).busy.contains r) || !(s.lateFor e t d).isEmpty

/-- A register the instruction needs awaits a world load (R385). -/
def State.awaitsLoad (s : State) (e t : Nat) (d : Info) : Bool :=
  (s.opsOf e t).any fun o => (d.reads ++ d.writes).contains o.dst &&
    (match o.kind with | .ld | .ldu | .vld => true | _ => false)

/-- The strand stalls (R28); `till` is the token whose result it waits for, if it waits for such a one alone (R30); `mem`: it waits
for the world's memory (R385). -/
def State.stallStrand (s : State) (e t : Nat) (till : Option Nat) (mem : Bool) : State :=
  let g := s.eng e
  (s.setStrand e t { s.strand e t with st := .stalled, stallMem := mem }).setEng e
    { g with token := none, tills := match till with | some n => smapInsert g.tills t n | none => smapErase g.tills t }

/-- The token that ends a stall on results (R30); none where the strand waits for an outstanding operation. -/
def State.stallTill (s : State) (e t : Nat) (d : Info) : Option Nat :=
  if (d.reads ++ d.writes).any fun r => (s.strand e t).busy.contains r then none
  else some ((s.lateFor e t d).foldl max 0)

/-- A strand whose stall the token at hand ends is READY, the tokens that found no strand having passed (R30). -/
def State.wakeCome (s : State) (e t : Nat) : State :=
  if s.resultCome e t then
    (s.setStrand e t { s.strand e t with st := .ready }).setEng e { s.eng e with slot := s.coming e - 1 }
  else s

/-- ISSUE ONE INSTRUCTION. `ill` is the ILLEGAL subcode of a bad encoding, if it is one (R62); `body` is the instruction's
own part. The checks come in the order of R66: fetch, encoding, the last index (R79), the registers it needs, then its own
traps. A command whose strand cannot issue now does not happen: the state is unchanged.
A strand STALLED on a result that has come is READY first.
DESIGN CHOICE, safe (log 1). DESIGN CHOICE, unsafe (log 4, 36). DEDUCED, unsafe (log 27). DEDUCED, safe (log 28). -/
def issue (s9 : State) (i : Iss) (d : Info) (ill : Option Nat) (body : State → Res) : State :=
  let e := i.e.val
  let t := i.t.val
  if !s9.canIssue e t d then s9
  else
    let s := s9.wakeCome e t
    match i.ecc with
    | .double => (s.takeToken e t d.bare).fetchFailed e t
    | _ =>
      let s0 := if i.ecc = .single then s.fetchCorrected e else s
      match ill with
      | some sub => (s0.takeToken e t d.bare).issueTrap e t { cause := .illegal, sub := sub }
      | none =>
        if (s0.strand e t).pc = 0xFFFF && !d.last then
          (s0.takeToken e t d.bare).issueTrap e t { cause := .illegal, sub := 3 }
        else if s0.hazard e t d then s0.stallStrand e t (s0.stallTill e t d) (s0.awaitsLoad e t d)
        else
          match body (s0.takeToken e t d) with
          | .trap tr => (s0.takeToken e t d.bare).issueTrap e t tr
          | .stall mem => s0.stallStrand e t none mem
          | .go s1 => s1

/-- Update a strand of the issuing engine and move past the instruction. -/
def State.retire (s : State) (i : Iss) (f : Strand → Strand) : State :=
  s.setStrand i.e.val i.t.val (f (s.strand i.e.val i.t.val)).next

/-- The issuing strand. -/
def State.me (s : State) (i : Iss) : Strand := s.strand i.e.val i.t.val

/-- A first trap of a list in the order of R66. -/
def firstTrap : List (Bool × Trap) → Option Trap
  | [] => none
  | (b, t) :: r => if b then some t else firstTrap r

end Sys2Proof.Machine
end

