-- ==== Sys2Proof/Machine/Operands.lean ====
section
/-!
DEFINITION. Operand forms of the Sillar instructions (R62 to R64): the registers an instruction names, the fields that
must be 0, predicated register results of formats A and I, addresses of formats L and E, and the checks a world or scratch
access makes before it issues (R34, R39, R41, R72, R74).
-/

namespace Sys2Proof.Machine

/-! ## Registers named -/

/-- A g register as a dependence; g0 is none. -/
def gN (n : BitVec 5) : List Nat := if n = 0 then [] else [regG n.toNat]
def vN (n : BitVec 5) : List Nat := [regV n.toNat]
def pN (n : Nat) : List Nat := if n = 0 then [] else [regP n]
/-- A v register field of 16 to 31 is a bad encoding (R62). -/
def vOk (n : BitVec 5) : Bool := n.toNat < 16
/-- A predicate destination: bits [11:10] are 0 and it is not p0 (R62, R63). -/
def pdOk (n : BitVec 5) : Bool := 0 < n.toNat && n.toNat < 8
/-- A predicate source field: bits [4:3] are 0 (R69). -/
def psOk (n : BitVec 5) : Bool := n.toNat < 8

/-- ILLEGAL, subcode 0, where the encoding is bad. -/
def illIf (bad : Bool) : Option Nat := if bad then some 0 else none

/-! ## Predicated register results (R64) -/

/-- The tokens until a result is usable: none to wait for where the predicate does not hold (R30, R64). -/
def State.latIf (s : State) (i : Iss) (pred : BitVec 3) (neg : Bool) (n : Nat) : Nat :=
  if (s.me i).guard pred neg then n else 0

/-- A format A instruction over g registers whose result is usable after `n` tokens, in `unit` if it has one of its own. -/
def regN (s : State) (i : Iss) (f : FmtA) (n : Nat) (unit : List Nat) (r : Strand → Word64) : State :=
  issue s i { reads := gN f.rs1 ++ gN f.rs2 ++ pN f.pred.toNat, writes := gN f.rd ++ unit, lat := s.latIf i f.pred f.neg n }
    none fun s => .go (s.retire i fun x => if x.guard f.pred f.neg then x.wg f.rd.toNat (r x) else x)

/-- A format A instruction over g registers: rd takes `r` of rs1, rs2 (and the old rd) where the predicate holds. -/
def regA (s : State) (i : Iss) (f : FmtA) (bad : Bool) (r : Strand → Word64) : State :=
  issue s i { reads := gN f.rs1 ++ gN f.rs2 ++ pN f.pred.toNat, writes := gN f.rd } (illIf bad) fun s =>
    .go (s.retire i fun x => if x.guard f.pred f.neg then x.wg f.rd.toNat (r x) else x)

/-- rs1 and rs2 of format A. -/
def rs1A (f : FmtA) (x : Strand) : Word64 := x.rg f.rs1.toNat
def rs2A (f : FmtA) (x : Strand) : Word64 := x.rg f.rs2.toNat

/-- A format A instruction over two g registers. -/
def aluA (s : State) (i : Iss) (f : FmtA) (g : Word64 → Word64 → Word64) : State :=
  regA s i f false fun x => g (rs1A f x) (rs2A f x)

/-- A multiply of rs1 and rs2: its result is usable after 3 tokens (R30). -/
def mulA (s : State) (i : Iss) (f : FmtA) (g : Word64 → Word64 → Word64) : State :=
  regN s i f 3 [] fun x => g (rs1A f x) (rs2A f x)

/-- A divide of rs1 by rs2: one at a time in a strand, its result usable after 18 tokens (R30). -/
def divA (s : State) (i : Iss) (f : FmtA) (g : Word64 → Word64 → Word64) : State :=
  regN s i f 18 [regDiv] fun x => g (rs1A f x) (rs2A f x)

/-- A format A instruction over rs1 alone: rs2 must be 0. -/
def aluA1 (s : State) (i : Iss) (f : FmtA) (g : Word64 → Word64) : State :=
  regA s i f (f.rs2 != 0) fun x => g (rs1A f x)

/-- A format A instruction that writes predicate pd, held in rd[2:0] (R69). -/
def predA (s : State) (i : Iss) (f : FmtA) (reads : List Nat) (bad : Bool) (c : Strand → Bool) : State :=
  issue s i { reads := reads ++ pN f.pred.toNat, writes := pN f.rd.toNat } (illIf (bad || !pdOk f.rd)) fun s =>
    .go (s.retire i fun x => if x.guard f.pred f.neg then x.wp f.rd.toNat (c x) else x)

/-- A compare of rs1 with rs2 (R69). -/
def cmpA (s : State) (i : Iss) (f : FmtA) (c : Word64 → Word64 → Bool) : State :=
  predA s i f (gN f.rs1 ++ gN f.rs2) false fun x => c (rs1A f x) (rs2A f x)

/-- Predicate logic over the predicates named in rs1[2:0] and rs2[2:0] (R69). -/
def plogA (s : State) (i : Iss) (f : FmtA) (c : Bool → Bool → Bool) : State :=
  predA s i f (pN f.rs1.toNat ++ pN f.rs2.toNat) (!(psOk f.rs1 && psOk f.rs2)) fun x =>
    c (x.rp f.rs1.toNat) (x.rp f.rs2.toNat)

/-- A format I instruction: rd takes `g` of rs1 where the predicate holds; format I has no negation (R63, R68). -/
def aluI (s : State) (i : Iss) (f : FmtI) (bad : Bool) (g : Word64 → Word64) : State :=
  issue s i { reads := gN f.rs1 ++ pN f.pred.toNat, writes := gN f.rd } (illIf bad) fun s =>
    .go (s.retire i fun x => if x.guard f.pred false then x.wg f.rd.toNat (g (x.rg f.rs1.toNat)) else x)

/-! ## FP32 and vector forms (R70, R71) -/

/-- The bad-encoding subcode of an FP32 or vector instruction: 0 for a bad field, 1 while `fpstat.round` holds 4 to 7,
at index 65,535 too. DEDUCED, unsafe (log 27). -/
def fpIll (s : State) (i : Iss) (bad : Bool) : Option Nat :=
  if bad then some 0 else if 4 ≤ (s.me i).round then some 1 else none

/-- An FP32 scalar instruction with a result in rd, usable after `n` tokens: bits [63:32] become 0 (R61), the flags gather. -/
def fpA (s : State) (i : Iss) (f : FmtA) (n : Nat) (bad : Bool) (g : Strand → Word32 × Nat) : State :=
  issue s i { reads := gN f.rs1 ++ gN f.rs2 ++ gN f.rd ++ pN f.pred.toNat, writes := gN f.rd, fp := true,
              lat := s.latIf i f.pred f.neg n } (fpIll s i bad) fun s =>
    .go (s.retire i fun x =>
      if x.guard f.pred f.neg then (x.wg f.rd.toNat ((g x).1.setWidth 64)).sticky (g x).2 else x)

/-- The FP32 value of a g register: its bits [31:0] (R61). -/
def Strand.rf (x : Strand) (n : BitVec 5) : Word32 := (x.rg n.toNat).setWidth 32

/-- An FP32 compare into pd (R70). -/
def fpCmpA (s : State) (i : Iss) (f : FmtA) (c : Word32 → Word32 → Bool × Nat) : State :=
  issue s i { reads := gN f.rs1 ++ gN f.rs2 ++ pN f.pred.toNat, writes := pN f.rd.toNat, fp := true,
              lat := s.latIf i f.pred f.neg 4 } (fpIll s i (!pdOk f.rd)) fun s =>
    .go (s.retire i fun x =>
      if x.guard f.pred f.neg then
        (x.wp f.rd.toNat (c (x.rf f.rs1) (x.rf f.rs2)).1).sticky (c (x.rf f.rs1) (x.rf f.rs2)).2
      else x)

/-- Lane `k` of a vector. -/
def lane (v : Vec128) (k : Nat) : Word32 := v.extractLsb' (32 * k) 32
/-- A vector of four lanes. -/
def vec4 (a b c d : Word32) : Vec128 := d ++ c ++ b ++ a
/-- A vector with lane `k` replaced. -/
def setLane (v : Vec128) (k : Nat) (x : Word32) : Vec128 :=
  vec4 (if k = 0 then x else lane v 0) (if k = 1 then x else lane v 1) (if k = 2 then x else lane v 2)
    (if k = 3 then x else lane v 3)

/-- An operation lane by lane; the flags of all lanes are ORed (R71). -/
def laneMap (g : Nat → Word32 × Nat) : Vec128 × Nat :=
  (vec4 (g 0).1 (g 1).1 (g 2).1 (g 3).1, (g 0).2 ||| (g 1).2 ||| (g 2).2 ||| (g 3).2)

/-- A vector instruction over v registers, lane by lane. -/
def vecA (s : State) (i : Iss) (f : FmtA) (g : Nat → Word32 → Word32 → Word32 → Word32 × Nat) : State :=
  issue s i { reads := vN f.rs1 ++ vN f.rs2 ++ vN f.rd ++ pN f.pred.toNat, writes := vN f.rd, fp := true,
              lat := s.latIf i f.pred f.neg 4 }
    (fpIll s i (!(vOk f.rs1 && vOk f.rs2 && vOk f.rd))) fun s =>
    .go (s.retire i fun x =>
      if x.guard f.pred f.neg then
        let r := laneMap fun k => g x.round (lane (x.rv f.rd.toNat) k) (lane (x.rv f.rs1.toNat) k) (lane (x.rv f.rs2.toNat) k)
        (x.wv f.rd.toNat r.1).sticky r.2
      else x)

/-- A vector instruction that moves bits and sets no flag. -/
def vecMove (s : State) (i : Iss) (f : FmtA) (reads writes : List Nat) (bad : Bool) (g : Strand → Strand) : State :=
  issue s i { reads := reads ++ pN f.pred.toNat, writes := writes, fp := true } (fpIll s i bad) fun s =>
    .go (s.retire i fun x => if x.guard f.pred f.neg then g x else x)

/-! ## Addresses (R63, R72 to R74) -/

/-- The effective address of format L: g[rs1] + imm10 × scale, wrapping at 64 bits. -/
def eaL (f : FmtL) (x : Strand) (scale : Nat) : Word64 :=
  x.rg f.rs1.toNat + BitVec.ofInt 64 (f.imm.toInt * scale)

/-- Bytes of the scalar sizes. -/
def bytesL (f : FmtL) : Nat := 2 ^ f.size.toNat

/-- The range attribute an access needs (R41, R73, R75 to R77). -/
inductive RangeBit where
  | read | write | atomic | fill
  deriving DecidableEq, Repr

def RangeBit.fld : RangeBit → Fld
  | .read => F.CE_RANGE_ATTR_read
  | .write => F.CE_RANGE_ATTR_write
  | .atomic => F.CE_RANGE_ATTR_atomic
  | .fill => F.CE_RANGE_ATTR_fill

/-- The lowest-numbered valid range of engine `e` that holds the whole access (R41). -/
def State.rangeOf (s : State) (e lo hi : Nat) : Option Nat :=
  (List.range 64).find? fun n =>
    s.fldB F.CE_RANGE_ATTR_valid e n && s.fld F.CE_RANGE_BASE_base e n ≤ lo / 4096 &&
    hi / 4096 ≤ s.fld F.CE_RANGE_LIMIT_limit e n

/-- A title strand's access to `len` bytes at `wa` is allowed (R41). -/
def State.rangeAllows (s : State) (e wa len : Nat) (b : RangeBit) : Bool :=
  match s.rangeOf e wa (wa + len - 1) with
  | some n => s.fldB b.fld e n
  | none => false

/-- An access touches the device area of some channel (R72, R106). -/
def touchesDevice (wa len : Nat) : Bool := inDeviceArea wa || inDeviceArea (wa + len - 1)

/-- A world access at `a` of `len` bytes aligned to `al` is refused at issue with RANGE (R41, R72, R246): bits [63:36]
set; a device-area address or a range that does not allow it, for a title strand; a backing reached directly. -/
def State.rangeBad (s : State) (i : Iss) (a : Word64) (len : Nat) (b : RangeBit) : Bool :=
  decide (2 ^ 36 ≤ a.toNat) || decide (2 ^ 36 < a.toNat + len) ||
  ((s.me i).title && i.e.val < 34 && (touchesDevice a.toNat len || !s.rangeAllows i.e.val a.toNat len b)) ||
  s.meetsBacking (a.toNat % 2 ^ 36) len

/-- The deadline in `dl` is already reached and the engine is strict (R39). -/
def State.dlReached (s : State) (i : Iss) (dl : BitVec 3) : Bool := decide (((s.me i).rdl dl.toNat).toNat ≤ s.tb)
def State.dlBad (s : State) (i : Iss) (dl : BitVec 3) : Bool :=
  i.e.val < 34 && s.fldB F.CE_CTRL_dl_strict i.e.val 0 && s.dlReached i dl

/-- The issue-time checks of a world access, in the order of R66 and R72: ALIGN, RANGE, DEADLINE. -/
def State.worldChecks (s : State) (i : Iss) (a : Word64) (al len : Nat) (b : RangeBit) (dl : BitVec 3) : Option Trap :=
  firstTrap
    [ (a.toNat % al != 0, { cause := .align, addr := a }),
      (s.rangeBad i a len b, { cause := .range, addr := a }),
      (s.dlBad i dl, { cause := .deadline, addr := a }) ]

/-- The title share of scratch in bytes (R34): title_kib above 128 acts as 128. -/
def State.titleShare (s : State) (e : Nat) : Nat := min 128 (s.fld F.CE_SCRATCH_SPLIT_title_kib e 0) * 1024

/-- Scratch bytes the issuing strand may reach (R34, R74). On the SV the scratch forms reach its unified SRAM, which is
larger; their reach is the same 128 KiB. -/
def State.scratchReach (s : State) (i : Iss) : Nat :=
  if (s.me i).title && i.e.val < 34 then s.titleShare i.e.val else 131072

/-- The issue-time checks of a scratch access (R74): ALIGN, then RANGE. -/
def State.scratchChecks (s : State) (i : Iss) (a : Word64) (al len : Nat) : Option Trap :=
  firstTrap
    [ (a.toNat % al != 0, { cause := .align, addr := a }),
      (decide (s.scratchReach i < a.toNat + len), { cause := .range, addr := a }) ]

/-- Scratch bytes of engine `e`: a channel engine's 128 KiB, or the SV's unified SRAM. -/
def State.rdScratch (s : State) (e a n : Nat) : List Byte :=
  if e = 34 then (List.range n).map fun k => smapGet 0 s.svram (a + k)
  else (List.range n).map fun k => smapGet 0 s.scratch (e * 131072 + a + k)

def State.wrScratch (s : State) (e a : Nat) (bs : List Byte) : State :=
  if e = 34 then { s with svram := (bytesAt a bs).foldl (fun m x => smapPut 0 m x.1 x.2) s.svram }
  else { s with scratch := (bytesAt (e * 131072 + a) bs).foldl (fun m x => smapPut 0 m x.1 x.2) s.scratch }

end Sys2Proof.Machine
end

