-- ==== Sys2Proof/Machine/Held.lean ====
section
/-!
DEFINITION. What a strand can hold (R50) and how it is reclaimed (R49, R370): directory entries and their fields (R102), session
contexts and the title message a strand fills (R89), the tick unit's record of a strand's TICK.DONE (R92).
-/

namespace Sys2Proof.Machine

/-! ## Directory entries (R102) -/

def State.entry (s : State) (i : Nat) : Word64 := smapGet entry0 s.ed.ent i
def State.setEntry (s : State) (i : Nat) (v : Word64) : State :=
  { s with ed := { s.ed with ent := smapPut entry0 s.ed.ent i v, upset := s.ed.upset.filter (· != i) } }

/-- Master `m` has read entry `i` with a double-bit error: the entry is unchanged, its index quarantined, and the ED group takes the fault
(R22, R105, R373). -/
def State.edLost (s : State) (m i : Nat) : State :=
  ({ s with ed := { s.ed with upset := s.ed.upset.filter (· != i)
                              quar := if s.ed.quar.contains i then s.ed.quar else s.ed.quar ++ [i] } }).raise
    { group := 45, src := 0, inst := 0, master := m, access := 4, addr := i }

/-- Master `m` reads the entries that satisfy `p`. -/
def State.edScan (s : State) (m : Nat) (p : Nat → Bool) : State := (s.ed.upset.filter p).foldl (fun s i => s.edLost m i) s

/-- Master `m` has read the context of session `i` with a double-bit error: the ST group takes the fault (R22). -/
def State.stLost (s : State) (m i : Nat) : State :=
  s.raise { group := 46, src := 0, inst := 0, master := m, access := 4, addr := i }

/-- Bits `[lo+w-1 : lo]` of an entry, and their replacement. -/
def entGet (v : Word64) (lo w : Nat) : Nat := bitsOf v.toNat lo w
def entPut (v : Word64) (lo w x : Nat) : Word64 := BitVec.ofNat 64 (putBits v.toNat lo w x)

def entBase (v : Word64) : Nat := entGet v 0 30
def entK (v : Word64) : Nat := entGet v 30 3
def entLive (v : Word64) : Nat := entGet v 33 1
def entPublished (v : Word64) : Bool := entGet v 34 1 == 1
def entLock (v : Word64) : Bool := entGet v 35 1 == 1
def entOwner (v : Word64) : Nat := entGet v 36 6
def entHome (v : Word64) : Nat := entGet v 42 6
def entClass (v : Word64) : Nat := entGet v 48 4
def entTorn (v : Word64) : Bool := entGet v 52 1 == 1
def entValid (v : Word64) : Bool := entGet v 53 1 == 1
def entGen (v : Word64) : Nat := entGet v 54 10
/-- Marked for freeing: unlocked, with the owner 0x3E (R103). -/
def entFreeing (v : Word64) : Bool := !entLock v && entOwner v == 0x3E

def withLive (v : Word64) (n : Nat) : Word64 := entPut v 33 1 n
def withPublished (v : Word64) (b : Bool) : Word64 := entPut v 34 1 (b2n b)
def withLock (v : Word64) (b : Bool) : Word64 := entPut v 35 1 (b2n b)
def withOwner (v : Word64) (n : Nat) : Word64 := entPut v 36 6 n
def withTorn (v : Word64) (b : Bool) : Word64 := entPut v 52 1 (b2n b)

/-- Slot bytes, and the live and next slots (R80). -/
def entSize (v : Word64) : Nat := 64 * 2 ^ entK v
def liveSlot (v : Word64) : Nat := entBase v * 64 + entLive v * entSize v
def nextSlotAddr (v : Word64) : Nat := entBase v * 64 + (1 - entLive v) * entSize v

/-- The index and generation of a handle (R80). -/
def hIndex (h : Nat) : Nat := bitsOf h 10 21
def hGen (h : Nat) : Nat := bitsOf h 0 10
def mkHandle (i g : Nat) : Nat := i * 1024 + g

/-! ## Sessions and title messages (R89, R131) -/

def State.sess (s : State) (i : Nat) : Ses := smapGet ses0 s.ses i
def State.setSess (s : State) (i : Nat) (x : Ses) : State := { s with ses := smapPut ses0 s.ses i x }
def State.ctx (s : State) (i : Nat) : Ctx := (s.sess i).ctx
def State.setCtx (s : State) (i : Nat) (c : Ctx) : State := s.setSess i { s.sess i with ctx := c }

/-- The message the strand is filling for session `i`. -/
def State.filling (s : State) (i e t : Nat) : Option Msg :=
  s.st.msgs.find? fun m => m.ses == i && m.filler == some (e, t)

def State.setMsg (s : State) (m : Msg) : State :=
  { s with st := { s.st with msgs := s.st.msgs.map fun (x : Msg) => if x.home = m.home ∧ x.buf = m.buf then m else x } }
def State.dropMsg (s : State) (m : Msg) : State :=
  { s with st := { s.st with msgs := s.st.msgs.filter fun (x : Msg) => !(x.home == m.home && x.buf == m.buf) } }

/-- The strand gives its queue slot up. -/
def State.releaseSlot (s : State) (i e t : Nat) : State :=
  let c := s.ctx i
  let s1 := s.setCtx i { c with used := c.used - 1 }
  let x := s1.strand e t
  s1.setStrand e t { x with slots := x.slots.filter (· != i) }

/-! ## Counted strands (R92) -/

/-- The strand is counted for the tick whose SIMULATE is open and has not executed TICK.DONE for it. An engine that was fenced in that
tick reports nothing further (R111). -/
def State.simWaits (s : State) (k : Nat) : Bool :=
  s.tk.sim.isSome && s.tk.counted.contains k && (smapFind s.tk.doneAt k).isNone && !s.tk.fenced.contains (k / 16)

/-- A strand is done for the tick whose SIMULATE is open, at this moment. -/
def State.noteDone (s : State) (k : Nat) : State :=
  if s.simWaits k then
    { s with tk := { s.tk with doneAt := smapInsert s.tk.doneAt k (s.tb - s.tk.simAt + 1) } }
  else s

/-! ## Reclaim (R49, R370) -/

/-- The strand holds a resource of rank 1 to 3 (R50). -/
def Strand.holds (x : Strand) : Bool := !x.locks.isEmpty || !x.slots.isEmpty || x.dma != 0

/-- An entity lock of a party that is gone: the lock is cleared, torn is set, the owner kept (R123, R370). -/
def State.tearLock (s : State) (i : Nat) : State := s.setEntry i (withTorn (withLock (s.entry i) false) true)

/-- The message strand (e, t) fills for session `i` is discarded, and its slot released. -/
def State.loseSlot (s : State) (e t i : Nat) : State :=
  (match s.filling i e t with | some m => s.dropMsg m | none => s).releaseSlot i e t

/-- Every resource a strand holds is reclaimed. -/
def State.reclaim (s : State) (e t : Nat) : State :=
  let x := s.strand e t
  let s1 := x.locks.foldl (fun s i => s.tearLock i) s
  let s2 := x.slots.foldl (fun s i => s.loseSlot e t i) s1
  let s3 := s2.setEng e { s2.eng e with dmaFree := (s2.eng e).dmaFree + x.dma }
  s3.setStrand e t { s3.strand e t with locks := [], slots := [], dma := 0 }

/-- The strand starts: READY at its start address with its privilege (R28). -/
def State.startStrand (s : State) (e t : Nat) : State :=
  s.setStrand e t { s.strand e t with st := .ready, start := false, title := s.fldB F.CE_SPC_title e t,
                                      pc := BitVec.ofNat 16 (s.fld F.CE_SPC_index e t) }

/-- A strand whose enable was cleared has drained: what it holds is reclaimed, and the tick unit no longer waits for it (R49); one
that was enabled again meanwhile starts. -/
def State.drainedOff (s : State) (e t : Nat) : State :=
  if decide ((s.strand e t).st = .disabled) && (s.opsOf e t).isEmpty then
    let s1 := (s.reclaim e t).noteDone (skey e t)
    if (s.strand e t).start then s1.startStrand e t else s1
  else s

end Sys2Proof.Machine
end

