-- ==== Sys2Proof/Machine/Request.lean ====
section
/-!
DEFINITION. Operations that outlive their instruction: their kinds (R78), publication counting (R93), queue room (R37),
fences, the requests they send (R24, R243, R248), their completion and failure (R46).
-/

namespace Sys2Proof.Machine

/-! ## Kinds -/

/-- The FENCE bit of an operation's kind (R78). -/
def OpKind.fenceBit : OpKind → Nat
  | .ld | .ldu | .vld => 0
  | .st | .vst => 1
  | .amo _ _ => 2
  | .fill => 3
  | .sdmaIn | .sdmaOut => 4
  | _ => 5

/-- Publication kinds (R93). -/
def OpKind.publishes : OpKind → Bool
  | .st | .vst | .amo _ _ | .fill | .sdmaOut | .entPub | .entNew | .entFree | .entMove | .sesSend => true
  | _ => false

/-- World memory operations that hold a load/store queue entry (R37). DEDUCED, unsafe (log 41). -/
def OpKind.inLsq : OpKind → Bool
  | .ld | .ldu | .st | .vld | .vst | .amo _ _ | .fill => true
  | _ => false

/-- Operations whose granules follow one another in bursts (R251). -/
def OpKind.bulk : OpKind → Bool
  | .fill | .sdmaIn | .sdmaOut => true
  | _ => false

/-- Operations in flight of engine `e` (R37). -/
def State.lsqUsed (s : State) (e : Nat) : Nat := (s.ops.filter fun o => o.e == e && o.kind.inLsq).length
def State.lsqUsedBy (s : State) (e t : Nat) : Nat :=
  (s.ops.filter fun o => o.e == e && o.t == t && o.kind.inLsq).length

/-- The strand's share: 0 and 65 to 127 act as 64 (R37). -/
def State.lsqShare (s : State) (e : Nat) : Nat :=
  if e = 34 then 64
  else
    let n := s.fld F.CE_CTRL_lsq_per_strand e 0
    if n = 0 ∨ 64 < n then 64 else n

def State.lsqRoom (s : State) (e t : Nat) : Bool :=
  decide (s.lsqUsed e < 64) && decide (s.lsqUsedBy e t < s.lsqShare e)

/-- A fence holds operations of this kind back: an operation it waits for is still outstanding (R78). -/
def State.fenced (s : State) (e t bit : Nat) : Bool :=
  (s.strand e t).fences.any fun f => (f.1 == 0 || bitOf f.1 bit) && f.2.any fun id => (s.findOp id).isSome

/-! ## Publication counts (R93) -/

def bumpPar (p : Nat × Nat) (tick : Nat) : Nat × Nat := if tick % 2 = 0 then (p.1 + 1, p.2) else (p.1, p.2 + 1)
def State.countIssued (s : State) (e tick : Nat) : State :=
  s.setEng e { s.eng e with issued := bumpPar (s.eng e).issued tick }
def State.countAcked (s : State) (o : Op) : State :=
  match o.pub with
  | none => s
  | some tick => s.setEng o.e { s.eng o.e with acked := bumpPar (s.eng o.e).acked tick }

/-! ## Starting an operation -/

/-- The event an operation counts at issue (R380). -/
def OpKind.event : OpKind → Nat
  | .ld | .ldu | .vld | .sdmaIn => 0x03
  | .st | .vst | .fill | .sdmaOut => 0x04
  | .amo _ _ => 0x05
  | _ => 0x07

/-- The mesh halves an operation's messages cross (spec/01, R243): from its engine's half to the channel's, none on the private port;
the blocks at the mesh centre are joined to both halves. A FILL enters by an input of its own (R247). -/
def State.meshPath (s : State) (o : Op) : List Nat :=
  let own := if o.e < 34 then [meshHalf o.e] else []
  match o.kind with
  | .fill => []
  | .ld | .ldu | .st | .vld | .vst | .amo _ _ | .sdmaIn | .sdmaOut =>
    match s.place o.addr with
    | .backing => []
    | .at l off =>
      match s.route l off with
      | none => []
      | some r => if r.rd = o.e then [] else if own = [meshHalf r.rd] then own else own ++ [meshHalf r.rd]
  | _ => own

/-- An operation's requests or responses cross the mesh: events 0x70 and 0x71 (R380). DESIGN CHOICE, unsafe (log 164). -/
def State.meshOcc (s : State) (resp : Bool) (o : Op) : State :=
  (s.meshPath o).foldl (fun s h => s.occ
    { ev := if resp then 0x71 else 0x70, inst := h, inc := Config.meshFlits resp o.kind.event o.len, master := o.e }) s

def OpKind.isEnt : OpKind → Bool
  | .entGetL | .entGetN | .entGetE | .entLock | .entUnlock | .entPub | .entNew | .entFree | .entMove => true
  | _ => false
def OpKind.isSes : OpKind → Bool
  | .sesRecv | .sesSend | .sesInfo | .sesInfoSet => true
  | _ => false

/-- The entry or the context that operation `o` names has a double-bit error from now on (R22). DESIGN CHOICE, unsafe (log 187). -/
def State.strike (s : State) (o : Op) : State :=
  if o.kind.isEnt && o.kind != .entNew && decide (o.addr < 2 ^ 31) then
    { s with ed := { s.ed with upset := s.ed.upset.filter (· != hIndex o.addr) ++ [hIndex o.addr] } }
  else if o.kind.isSes && decide (o.addr < 2 ^ 32) then
    { s with st := { s.st with upset := s.st.upset.filter (· != o.addr / 2 ^ 14) ++ [o.addr / 2 ^ 14] } }
  else s

/-- Enter an operation of the issuing strand: its destination awaits a result, and it is counted if it is a publication
write inside the SIMULATE window (R93). The instruction pointer is not moved. A bulk transfer's occurrences are its granules (R380). -/
def State.startOp (s : State) (i : Iss) (o : Op) : State :=
  let e := i.e.val
  let t := i.t.val
  let x := s.me i
  let pub := if x.inWin && o.kind.publishes then some x.tick else none
  let id := s.nextOp
  let cls := s.classOf o.addr
  let oc : Occ := { ev := o.kind.event, inst := e, title := x.title, addr := o.addr, cls := cls }
  let s1 := if o.kind.bulk then s else (s.occ oc).sample oc
    { op := id, tb := s.tb, ev := oc.ev, pc := x.pc.toNat, e := e, t := t, title := x.title,
      tagged := decide (s.part = .tkw3209), addr := o.addr, bits := if oc.ev = 0x07 then 0 else cls }
  let s2 := (s1.meshOcc false { o with e := e }).newOp { o with e := e, t := t, fpc := x.pc, pub := pub, issued := s.tb, sram := i.sram }
  let s3 := s2.setStrand e t { x with busy := if o.dst = regNone ∨ o.dst = 0 then x.busy else o.dst :: x.busy }
  let s4 := if i.sram = .double then s3.strike o else s3
  match pub with
  | none => s4
  | some tick => s4.countIssued e tick

/-- The strand enters a tracked wait (R28, R52). -/
def State.enterWait (s : State) (e t : Nat) (w : Wait) : State :=
  let x := s.strand e t
  ((s.setStrand e t { x with st := .waiting, wait := some w, waitSince := s.tb }).endToken e).occ
    { ev := 0x08, inst := e, title := x.title }

/-! ## Completion -/

/-- The operation leaves: its destination no longer awaits it, its publication write is acknowledged, waiting strands of
the engine look again; the last one of a disabled strand ends its drain (R49). -/
def State.endOp (s : State) (o : Op) : State :=
  let s1 := ((s.meshOcc true o).dropOp o.id).countAcked o
  let x := s1.strand o.e o.t
  ((s1.setStrand o.e o.t { x with busy := if o.dst = regNone then x.busy else x.busy.filter (· != o.dst) }).wakeAll
    o.e).drainedOff o.e o.t

/-- The operation completes with a result for its destination; the response of a fenced engine is discarded (R369). -/
def State.completeOp (s : State) (o : Op) (v : Nat) : State :=
  let s1 := s.endOp o
  if (s.eng o.e).fenced then s1
  else (s1.setStrand o.e o.t ((s1.strand o.e o.t).wreg o.dst v)).finishSample o.id 0

/-- An operation that returns nothing completes. -/
def State.ackOp (s : State) (o : Op) : State := (s.endOp o).finishSample o.id 0

/-- The operation completes with a trap (R46): its destination is not written, it counts as acknowledged, and its report
waits to be delivered; a fenced engine gets none (R369). -/
def State.failOp (s : State) (o : Op) (tr : Trap) : State :=
  if (s.eng o.e).fenced then s.endOp o
  else ((s.endOp o).report o.e o.t { trap := tr, fpc := o.fpc }).finishSample o.id tr.cause.code

/-! ## Requests (R24, R243, R248) -/

/-- The input by which a master's request enters a channel (R243, R247). -/
def inputOf (master phys : Nat) : Input :=
  if master = 58 then .fixer else if master = 59 then .fill else if master = phys then .priv else .mesh

/-- Put a request in front of a channel's arbiter. -/
def State.sendReq (s : State) (r : Req) (target : Nat) : State :=
  let h := s.deadline target
  { s with
    reqs := s.reqs ++ [{ r with id := s.nextReq, dl := h.1, far := h.2.1, late := h.2.2, input := inputOf r.master r.phys }]
    nextReq := s.nextReq + 1 }

/-- ABSENT, raised where the request is routed (R243). -/
def absentTrap (wa : Nat) : Trap := { cause := .absent, addr := BitVec.ofNat 64 wa }

/-! ### Initialised blocks (R299) -/

/-- Set the initialised-block bits of every block of physical channel `c` within bytes `[lo, hi)` (R299). -/
def State.markInit (s : State) (c lo hi : Nat) : State :=
  (List.range 512).foldl (fun s b =>
    if lo ≤ b * 4194304 ∧ (b + 1) * 4194304 ≤ hi then
      s.setFld F.CH_FIX_INIT_block c (b / 32) (s.fld F.CH_FIX_INIT_block c (b / 32) ||| 2 ^ (b % 32))
    else s) s

/-- The world address of byte `off` of logical channel `l` (R245). -/
def State.worldAt (s : State) (l off : Nat) : Nat :=
  let u := off / 4096
  match s.stripes.find? fun x => x.ch ≤ l && l < x.ch + x.ways && x.base ≤ u && u < x.base + x.units with
  | some x => x.ch * 2 ^ 31 + (x.base + (u - x.base) * x.ways + (l - x.ch)) * 4096 + off % 4096
  | none => l * 2 ^ 31 + off

/-- Set the bit of each 4 MiB block all of whose 4 KiB units were written (R299), `wrote` by world address. -/
def State.wholeBlocks (s : State) (wrote : Nat → Bool) : State :=
  (List.range (logicals s.part)).foldl (fun t l => (List.range 512).foldl (fun t b =>
    if (List.range 1024).all fun k =>
        let off := b * 4194304 + k * 4096
        wrote (s.worldAt l off) && decide (s.place (s.worldAt l off) = .at l off) then
      match s.route l (b * 4194304) with
      | some r => r.wr.foldl (fun t c => t.markInit c (b * 4194304) ((b + 1) * 4194304)) t
      | none => t
    else t) t) s

/-- The blocks a FILL of `[wa, wa + n)` has written whole: of its logical channel, or of those its striped regions lead to. -/
def State.fillMarks (s : State) (wa n : Nat) : State :=
  let l := wa / 2 ^ 31
  if s.stripes.any fun x => x.ch == l then s.wholeBlocks fun a => wa ≤ a && a + 4096 ≤ wa + n
  else
    match s.route l (wa % 2 ^ 31) with
    | some r => r.wr.foldl (fun s c => s.markInit c (wa % 2 ^ 31) (wa % 2 ^ 31 + n)) s
    | none => s

/-- A FILL that ends early has written the blocks below its last granule sent that is not yet accepted: those wholly written are
marked (R299). -/
def State.fillCut (s : State) (o : Op) : State :=
  if o.kind = .fill then s.fillMarks o.addr (64 * (o.prog - (if o.need = 0 then 0 else 1))) else s

/-- The operation is refused where it is routed: a scratch DMA gives its buffers back. -/
def State.refuseOp (s : State) (o : Op) (wa : Nat) : State :=
  let s1 := (s.fillCut o).failOp o (absentTrap wa)
  if o.kind = .sdmaIn ∨ o.kind = .sdmaOut then
    let x := s1.strand o.e o.t
    (s1.setEng o.e { s1.eng o.e with dmaFree := (s1.eng o.e).dmaFree + x.dma }).setStrand o.e o.t { x with dma := 0 }
  else s1

/-- Send a read or atomic of `len` bytes at `wa` for operation `id`, or report ABSENT. -/
def State.sendRead (s : State) (id e t master wa len target : Nat) (kind : ReqKind) (cls : Nat) : State :=
  match s.findOp id with
  | none => s
  | some o =>
    match s.place wa with
    | .backing => s.refuseOp o wa
    | .at l off =>
      match s.route l off with
      | none => s.refuseOp o wa
      | some r => s.sendReq { id := 0, op := id, e := e, t := t, master := master, kind := kind, phys := r.rd,
                              gran := off / 64, waddr := wa, len := len, cls := cls, bulk := o.kind.bulk } target

/-- Send a write of these bytes (by place in the granule) at `wa` to every channel that must hold it. -/
def State.sendWrite (s : State) (id e t master wa : Nat) (wr : SMap Byte) (target cls : Nat) : State :=
  match s.findOp id with
  | none => s
  | some o =>
    match s.place wa with
    | .backing => s.refuseOp o wa
    | .at l off =>
      match s.route l off with
      | none => s.refuseOp o wa
      | some r =>
        r.wr.foldl (fun s c => s.sendReq { id := 0, op := id, e := e, t := t, master := master, kind := .write, phys := c,
                                           gran := off / 64, waddr := wa, wr := wr, cls := cls,
                                           bulk := o.kind.bulk } target)
          (s.setOp { o with need := r.wr.length })

/-- The master ID of an engine's requests (R10). -/
def engMaster (e : Nat) : Nat := e

/-- The scratch or fill bytes of the next granule of a bulk write. -/
def State.bulkData (s : State) (o : Op) : SMap Byte :=
  match o.kind with
  | .fill => bytesAt 0 ((List.replicate 8 (leBytes 8 o.a1)).flatten)
  | _ => bytesAt 0 (s.rdScratch o.e (o.a1 + 64 * o.prog) 64)

/-- A granule of a bulk transfer is issued: its event, in the class its request carries, and its sample (R380, R381, R390). -/
def State.granuleOcc (s : State) (o : Op) (wa cls : Nat) : State :=
  let oc : Occ := { ev := o.kind.event, inst := o.e, title := (s.strand o.e o.t).title, addr := wa, cls := cls }
  (s.occ oc).sample oc
    { op := o.id, tb := s.tb, ev := oc.ev, pc := o.fpc.toNat, e := o.e, t := o.t, title := oc.title,
      tagged := decide (s.part = .tkw3209), addr := wa, bits := cls }

/-- Send the next granule of a bulk transfer (R75, R76, R251): FILL as master 59 in class C4, scratch DMA as its engine. -/
def State.sendGranule (s : State) (id : Nat) : State :=
  match s.findOp id with
  | none => s
  | some o =>
    let wa := o.addr + 64 * o.prog
    match o.kind with
    | .sdmaIn => ((s.setOp { o with prog := o.prog + 1 }).granuleOcc o wa (s.classOf wa)).sendRead id o.e o.t (engMaster o.e) wa 64 o.dl .read (s.classOf wa)
    | .fill => ((s.setOp { o with prog := o.prog + 1 }).granuleOcc o wa 4).sendWrite id o.e o.t 59 wa (s.bulkData o) o.dl 4
    | .sdmaOut =>
      ((s.setOp { o with prog := o.prog + 1 }).granuleOcc o wa (s.classOf wa)).sendWrite id o.e o.t (engMaster o.e) wa (s.bulkData o) o.dl (s.classOf wa)
    | _ => s

/-- Granules of a bulk transfer. -/
def Op.granules (o : Op) : Nat := o.len / 64

/-- Bytes of a free value. -/
def freeBytes (v n : Nat) : List Byte := (List.range n).map fun k => BitVec.ofNat 8 (v / 256 ^ k)

/-- The scratch span of an SDMA.IN is undefined until the transfer completes, and after a bad granule (R76, R294). -/
def State.spanFree (s : State) (e a n : Nat) : State := (s.wrScratch e a (freeBytes s.freeVal n)).useFree

end Sys2Proof.Machine
end

