-- ==== Sys2Proof/Machine/System.lean ====
section
/-!
DEFINITION. The control and status registers (R99) and the system instructions over them (R94, R98), deadlines and fences
(R78).
-/

namespace Sys2Proof.Machine
open Host

/-! ## CSRs (R99) -/

/-- Who may reach a CSR. -/
inductive CsrPriv where
  | title | supervisor | remote
  deriving DecidableEq, Repr

/-- A CSR's privilege and whether it may be written; none where the number is not defined. -/
def csrKind (n : Nat) : Option (CsrPriv × Bool) :=
  if n ≤ 0x005 then some (.title, false)
  else if n = 0x006 ∨ n = 0x007 then some (.title, true)
  else if 0x010 ≤ n ∧ n ≤ 0x017 then some (.title, true)
  else if n = 0x020 ∨ n = 0x026 then some (.title, true)
  else if 0x021 ≤ n ∧ n ≤ 0x025 then some (.title, false)
  else if n = 0x100 then some (.supervisor, false)
  else if 0x110 ≤ n ∧ n ≤ 0x114 then some (.supervisor, false)
  else if 0x800 ≤ n ∧ n ≤ 0x840 then some (.remote, true)
  else if n = 0x841 then some (.remote, false)
  else none

/-- The highest rank a strand holds (R50). -/
def Strand.rank (x : Strand) : Nat :=
  if x.dma ≠ 0 then 3 else if !x.slots.isEmpty then 2 else if !x.locks.isEmpty then 1 else 0

def maxOf (l : List Nat) : Nat := l.foldl max 0

/-- The CSR `held`. -/
def Strand.held (x : Strand) : Nat :=
  x.rank + 4 * x.locks.length + 64 * b2n (!x.slots.isEmpty) + 128 * b2n (x.dma != 0) + 256 * maxOf x.locks +
  2 ^ 29 * maxOf x.slots

/-- The code of a strand's state (R99, `sstate`). -/
def SSt.code : SSt → Nat
  | .disabled => 0 | .ready => 1 | .stalled => 2 | .waiting => 3 | .trapped => 4

/-- The logical engine number of engine `e` (CE_ID); the SV has none. DEDUCED, unsafe (log 34). -/
def State.logicalOf (s : State) (e : Nat) : Nat := if e < 34 then s.fld F.CE_ID_logical e 0 else 0x3F

/-- One of the five trap CSRs. -/
def TrapRegs.get (r : TrapRegs) (k : Nat) : Word64 :=
  match k with | 0 => r.cause | 1 => r.epc | 2 => r.fpc | 3 => r.addr | _ => r.info

/-- Read a CSR of strand (e, t); `asTitle` where a title strand reads its own. -/
def State.readCsr (s : State) (e t n : Nat) (asTitle : Bool) : Word64 :=
  let x := s.strand e t
  if n = 0x000 then BitVec.ofNat 64 (t + 2 ^ 8 * s.logicalOf e + (if asTitle then 0 else 2 ^ 16 * e))
  else if n = 0x001 then BitVec.ofNat 64 (x.tick % 2 ^ 32)
  else if n = 0x002 then BitVec.ofNat 64 s.tb
  else if n = 0x003 then BitVec.ofNat 64 (s.eng e).tokens
  else if n = 0x004 then BitVec.ofNat 64 x.held
  else if n = 0x005 then BitVec.ofNat 64 ((s.opsOf e t).filter fun o => o.pub.isSome).length
  else if n = 0x006 then x.preds
  else if n = 0x007 then x.fpstat
  else if n ≤ 0x017 then x.rdl (n - 0x010)
  else if n = 0x020 then x.tvec
  else if n = 0x026 then x.tscratch
  else if n ≤ 0x025 then x.tt.get (n - 0x021)
  else if n = 0x100 then (if x.title && e < 34 then 0 else 1)
  else if n ≤ 0x114 then x.ts.get (n - 0x110)
  else if n < 0x820 then x.rg (n - 0x800)
  else if n < 0x840 then ((x.rv ((n - 0x820) / 2)) >>> (64 * (n % 2))).setWidth 64
  else if n = 0x840 then x.pc.setWidth 64
  else BitVec.ofNat 64 ((s.stNow e t).code + 256 * b2n x.inHandler)

/-- One half of a vector register replaced. -/
def setHalf (v : Vec128) (hi : Nat) (w : Word64) : Vec128 :=
  if hi = 0 then v.extractLsb' 64 64 ++ w else w ++ v.extractLsb' 0 64

/-- Write a CSR of a strand. -/
def Strand.writeCsr (x : Strand) (n : Nat) (v : Word64) : Strand :=
  if n = 0x006 then x.setPreds v
  else if n = 0x007 then { x with fpstat := v &&& fpstatMask }
  else if 0x010 ≤ n ∧ n ≤ 0x017 then x.wdl (n - 0x010) v
  else if n = 0x020 then { x with tvec := v }
  else if n = 0x026 then { x with tscratch := v }
  else if 0x800 ≤ n ∧ n < 0x820 then x.wg (n - 0x800) v
  else if 0x820 ≤ n ∧ n < 0x840 then x.wv ((n - 0x820) / 2) (setHalf (x.rv ((n - 0x820) / 2)) (n % 2) v)
  else if n = 0x840 then { x with pc := v.setWidth 16 }
  else x

/-! ## CSR.GET, CSR.PUT, CSR.MERGE (R94) -/

/-- A local access's bad encodings: an undefined or remote-only number, a write to a read-only CSR. -/
def csrIll (n : Nat) (write : Bool) : Bool :=
  match csrKind n with
  | none => true
  | some (.remote, _) => true
  | some (_, w) => write && !w

/-- The predicate registers that a CSR holds: `preds` names p1 to p7 (R99), each of which may await its result (R30). -/
def csrP (n : Nat) : List Nat := if n = 0x006 then (List.range 7).map fun k => regP (k + 1) else []

/-- A title strand's access to a supervisor CSR. -/
def State.csrDenied (s : State) (i : Iss) (n : Nat) : Bool :=
  (s.me i).title && i.e.val < 34 && decide ((csrKind n).map (·.1) = some .supervisor)

def execCsrGet (i : Iss) (f : FmtX) (s : State) : Outcome State Fault Refusal :=
  .next (issue s i { reads := csrP f.imm.toNat, writes := gN f.rd, mem := true } (illIf (f.rs1 != 0 || csrIll f.imm.toNat false)) fun s =>
    if s.csrDenied i f.imm.toNat then .trap { cause := .privilege }
    else
      let v := s.readCsr i.e.val i.t.val f.imm.toNat ((s.me i).title && i.e.val < 34)
      .go (s.retire i fun x => x.wg f.rd.toNat v))

def execCsrPut (i : Iss) (f : FmtX) (s : State) : Outcome State Fault Refusal :=
  .next (issue s i { reads := gN f.rs1, writes := csrP f.imm.toNat, mem := true }
      (illIf (f.rd != 0 || csrIll f.imm.toNat true)) fun s =>
    if s.csrDenied i f.imm.toNat then .trap { cause := .privilege }
    else .go (s.retire i fun x => x.writeCsr f.imm.toNat (x.rg f.rs1.toNat)))

def execCsrMerge (i : Iss) (f : FmtX) (s : State) : Outcome State Fault Refusal :=
  .next (issue s i { reads := gN f.rs1 ++ gN f.rd, writes := csrP f.imm.toNat, mem := true }
      (illIf (csrIll f.imm.toNat true)) fun s =>
    if s.csrDenied i f.imm.toNat then .trap { cause := .privilege }
    else
      let old := s.readCsr i.e.val i.t.val f.imm.toNat ((s.me i).title && i.e.val < 34)
      .go (s.retire i fun x =>
        x.writeCsr f.imm.toNat ((old &&& ~~~ x.rg f.rd.toNat) ||| (x.rg f.rs1.toNat &&& x.rg f.rd.toNat))))

/-- DLREL dl, rs1 (R94). -/
def execDlrel (i : Iss) (f : FmtX) (s : State) : Outcome State Fault Refusal :=
  .next (issue s i { reads := gN f.rs1, writes := [regDl f.rd.toNat], mem := true }
      (illIf (f.imm != 0 || !psOk f.rd)) fun s =>
    let now := s.tb
    .go (s.retire i fun x => x.wdl f.rd.toNat (BitVec.ofNat 64 now + x.rg f.rs1.toNat)))

/-! ## FENCE (R78) -/

/-- The strand's earlier operations of the kinds a mask names; mask 0 names every kind. -/
def State.fenceSet (s : State) (e t mask : Nat) : List Nat :=
  ((s.opsOf e t).filter fun o => mask == 0 || bitOf mask o.kind.fenceBit).map (·.id)

/-- FENCE mask: later operations of the kinds named wait until the earlier ones are done; with nothing outstanding nothing
is held. -/
def execFence (i : Iss) (f : FmtX) (s : State) : Outcome State Fault Refusal :=
  .next (issue s i { mem := true } (illIf (f.rs1 != 0 || f.rd != 0 || decide (128 ≤ f.imm.toNat))) fun s =>
    let l := s.fenceSet i.e.val i.t.val f.imm.toNat
    .go (s.retire i fun x => { x with fences :=
      (x.fences.filter fun g => g.2.any fun id => (s.findOp id).isSome) ++ (if l.isEmpty then [] else [(f.imm.toNat, l)]) }))

/-! ## Remote CSRs (R98) -/

/-- A title strand on a channel engine may not issue a PRIV instruction. -/
def State.unprivileged (s : State) (i : Iss) : Bool := (s.me i).title && i.e.val < 34

/-- The target of a remote CSR access: engine g[rs1][5:0], strand g[rs1][11:8]. -/
def remoteTarget (v : Word64) : Nat × Nat := (bitsOf v.toNat 0 6, bitsOf v.toNat 8 4)

/-- The target engine is present and powered. -/
def State.remoteOn (s : State) (e : Nat) : Bool := e ≤ 34 && s.engOn e

/-- XCSRR rd, csr, rs1: an absent or powered-off engine reads 0. -/
def execXcsrr (i : Iss) (f : FmtX) (s : State) : Outcome State Fault Refusal :=
  .next (issue s i { reads := gN f.rs1, writes := gN f.rd, mem := true } (illIf (csrKind f.imm.toNat).isNone) fun s =>
    if s.unprivileged i then .trap { cause := .privilege }
    else if s.fenced i.e.val i.t.val 6 then .stall
    else
      let r := remoteTarget ((s.me i).rg f.rs1.toNat)
      let v := if s.remoteOn r.1 then s.readCsr r.1 r.2 f.imm.toNat false else 0
      .go (s.retire i fun x => x.wg f.rd.toNat v))

/-- XCSRW rd, csr, rs1: only to a TRAPPED or DISABLED strand; ignored by an absent or powered-off engine. -/
def execXcsrw (i : Iss) (f : FmtX) (s : State) : Outcome State Fault Refusal :=
  .next (issue s i { reads := gN f.rs1 ++ gN f.rd, mem := true }
      (illIf (decide ((csrKind f.imm.toNat).map (·.2) ≠ some true))) fun s =>
    let r := remoteTarget ((s.me i).rg f.rs1.toNat)
    let y := s.strand r.1 r.2
    if s.remoteOn r.1 && !(decide (y.st = .trapped) || decide (y.st = .disabled)) then .trap { cause := .illegal, sub := 1 }
    else if s.unprivileged i then .trap { cause := .privilege }
    else if s.fenced i.e.val i.t.val 6 then .stall
    else
      let v := (s.me i).rg f.rd.toNat
      let s1 := if s.remoteOn r.1 then s.setStrand r.1 r.2 (y.writeCsr f.imm.toNat v) else s
      .go (s1.retire i id))

end Sys2Proof.Machine
end

