-- ==== Sys2Proof/Machine/Directory.lean ====
section
/-!
DEFINITION. The entity directory (R80 to R86, R101 to R105), the tick unit's records in the device area (R106, R112), the
interest grid (R121), and the entity instructions.
-/

namespace Sys2Proof.Machine
open Host

/-! ## The tick unit's regions (R106) -/

/-- The place of a record of `size` bytes of index `i` in a region. -/
def State.shard (s : State) (i off size : Nat) : Nat :=
  devAddr (i % logicals s.part) (off + size * (i / logicals s.part))
def State.ladderAddr (s : State) (i : Nat) : Nat := s.shard i 0 40
def State.maskAddr (s : State) (i : Nat) : Nat := s.shard i 0x500000 8
def State.linkAddr (s : State) (i : Nat) : Nat := s.shard i 0x600000 16
def State.cellAddr (s : State) (c : Nat) : Nat := s.shard c 0x800000 4

/-- Master `m` reads `n` bytes; none where they cannot be read. A delta unit's reads are class C0 (R249). -/
def State.tkRead (s : State) (wa n m : Nat) : Option Nat × State :=
  let r := s.worldGet wa n m (if 40 ≤ m ∧ m ≤ 55 then some 0 else none)
  (if r.2.1 = some .clean then some (leNat r.1) else none, r.2.2)

/-- The class of the tick unit's writes: that of the address, and C4 while a snapshot is restored (R249). -/
def State.tkClass (s : State) : Option Nat := if s.fldB F.GLOBAL_RESTORE_CTRL_busy 0 0 then some 4 else none

/-- The tick unit writes `n` bytes as part of whole granules (R294, R295): a granule that cannot be read is written whole with
`fill` in its other bytes. -/
def State.tkPut (s : State) (wa n v : Nat) (fill : Byte) : State :=
  (granPieces (n / 64 + 2) wa (leBytes n v)).foldl (fun s e =>
    let g := e.1 - e.1 % 64
    let r := s.worldRead g 57 none
    let img := match r.1 with
      | some d => if d.out.bad then List.replicate 64 fill else d.data
      | none => List.replicate 64 fill
    (r.2.worldWrite g 57 s.tkClass (bytesAt 0 (overlay img e.2))).2) s

/-- The tick unit writes bytes as a partial write. DESIGN CHOICE, unsafe (log 62). -/
def State.tkWrite (s : State) (wa n v : Nat) : State := s.worldPut wa 57 (leBytes n v)

/-- A cell head or grid link record that cannot be read: an event on the ED group (R294). -/
def State.gridRead (s : State) (wa n m : Nat) : Option Nat × State :=
  let r := s.tkRead wa n m
  match r.1 with
  | some v => (some v, r.2)
  | none => (none, r.2.raise { group := 45, src := 1, master := m, access := 0, addr := wa })

/-! ## Interest grid (R121) -/

abbrev m21 : Nat := 2 ^ 21 - 1
def linkNext (w : Nat) : Nat := bitsOf w 0 21
def linkPrev (w : Nat) : Nat := bitsOf w 21 21
def linkCell (w : Nat) : Nat := bitsOf w 42 20
def linkIn (w : Nat) : Bool := bitOf w 62
def mkLink (next prev cell : Nat) : Nat := next + prev * 2 ^ 21 + cell * 2 ^ 42 + 2 ^ 62

/-- Word 0 of a list neighbour; one that cannot be read is written again as a member alone in the cell. -/
def State.neighbourLink (s : State) (i cell : Nat) : Nat × State :=
  let r := s.gridRead (s.linkAddr i) 8 57
  (r.1.getD (mkLink i i cell), r.2)
def State.setLink (s : State) (i w : Nat) : State := s.tkPut (s.linkAddr i) 8 w 0
def State.setHead (s : State) (cell w : Nat) : State := s.tkPut (s.cellAddr cell) 4 w 0

/-- Unlink an entity from its cell (R121). -/
def State.unlink (s : State) (i : Nat) : State :=
  let r := s.gridRead (s.linkAddr i) 8 57
  let w := r.1.getD 0
  if !linkIn w then r.2
  else
    let n := linkNext w
    let p := linkPrev w
    let c := linkCell w
    let s1 :=
      if p = i then r.2.setHead c (if n = i then 0 else n + 2 ^ 31)
      else
        let q := r.2.neighbourLink p c
        q.2.setLink p (putBits q.1 0 21 (if n = i then p else n))
    let s2 :=
      if n = i then s1
      else
        let q := s1.neighbourLink n c
        q.2.setLink n (putBits q.1 21 21 (if p = i then n else p))
    s2.setLink i 0

/-- Link an entity at the head of a cell and clear its pending move (R121). -/
def State.linkHead (s : State) (i cell : Nat) : State :=
  let s0 := s.tkPut (s.linkAddr i + 8) 8 0 0
  let r := s0.gridRead (s0.cellAddr cell) 4 57
  let h := r.1.getD 0
  let s1 :=
    if bitOf h 31 then
      let f := h % 2 ^ 21
      let q := r.2.neighbourLink f cell
      (q.2.setLink f (putBits q.1 21 21 i)).setLink i (mkLink f i cell)
    else r.2.setLink i (mkLink i i cell)
  s1.setHead cell (i + 2 ^ 31)

/-- Cells of the configured grid (R122). -/
def State.gridCells (s : State) : Nat := 2 ^ (s.fld F.ED_GRID_xbits 0 0 + s.fld F.ED_GRID_ybits 0 0)

/-- The members of a cell, in list order; an unreadable head is an empty cell, an unreadable link ends the list (R294). -/
def membersFrom : Nat → State → Nat → Nat → List Nat → List Nat × State
  | 0, s, _, _, acc => (acc, s)
  | f + 1, s, i, m, acc =>
    let r := s.gridRead (s.linkAddr i) 8 m
    match r.1 with
    | none => (acc ++ [i], r.2)
    | some w => if !linkIn w ∨ linkNext w = i then (acc ++ [i], r.2) else membersFrom f r.2 (linkNext w) m (acc ++ [i])

def State.members (s : State) (cell m : Nat) : List Nat × State :=
  let r := s.gridRead (s.cellAddr cell) 4 m
  match r.1 with
  | none => ([], r.2)
  | some h => if bitOf h 31 then membersFrom 2097152 r.2 (h % 2 ^ 21) m [] else ([], r.2)

/-! ## The free list (R101, R373) -/

/-- Put an index at the tail of the list. -/
def freePush (l : List (Nat × Nat)) (i : Nat) : List (Nat × Nat) := l ++ [(i, i + 1)]

/-- DESIGN CHOICE, safe (log 13). -/
def freePop : List (Nat × Nat) → Option (Nat × List (Nat × Nat))
  | [] => none
  | (a, b) :: t => if a + 1 < b then some (a, (a + 1, b) :: t) else some (a, t)

/-- Take the head of the list, moving quarantined indices to the tail. -/
def freeTake (quar : List Nat) : Nat → List (Nat × Nat) → Option (Nat × List (Nat × Nat))
  | 0, _ => none
  | n + 1, l =>
    match freePop l with
    | none => none
    | some (i, t) => if quar.contains i then freeTake quar n (freePush t i) else some (i, t)

/-- Remove an index from the list. -/
def freeDrop (l : List (Nat × Nat)) (i : Nat) : List (Nat × Nat) :=
  l.flatMap fun e => if e.1 ≤ i ∧ i < e.2 then
    (if e.1 < i then [(e.1, i)] else []) ++ (if i + 1 < e.2 then [(i + 1, e.2)] else []) else [e]

def freeCount (l : List (Nat × Nat)) : Nat := l.foldl (fun n e => n + (e.2 - e.1)) 0

/-- An entity is freed at once: unlinked, invalid, ladder and pending mask zeroed, its index at the tail of the list (R86,
R115). The generation is kept. -/
def State.freeNow (s : State) (i : Nat) : State :=
  let g := entGen (s.entry i)
  let s1 := (((s.unlink i).tkPut (s.ladderAddr i) 40 0 0xFF).tkPut (s.maskAddr i) 8 0 0xFF).setEntry i (entPut entry0 54 10 g)
  { s1 with ed := { s1.ed with free := freePush s1.ed.free i } }

/-! ## Handle checks (R80) -/

def OpKind.isEntGet : OpKind → Bool
  | .entGetL | .entGetN | .entGetE => true
  | _ => false

/-- The check of a handle by an entity instruction, in order. -/
def State.edCheck (s : State) (h : Nat) (k : OpKind) : Option Trap :=
  let i := hIndex h
  let v := s.entry i
  let tr (c : Cause) : Trap := { cause := c, addr := BitVec.ofNat 64 h }
  firstTrap
    [ (decide (2 ^ 31 ≤ h), tr .stale),
      (s.ed.quar.contains i, tr .uncorrectable),
      (!entValid v || entGen v != hGen h, tr .stale),
      (entFreeing v && !k.isEntGet, tr .stale),
      (entTorn v && !(decide (k = .entGetE) || decide (k = .entUnlock)), tr .torn) ]

/-! ## Issue of the entity instructions (R81 to R86) -/

/-- A publication-class entity instruction is not allowed now: a title strand outside its window; a supervisor strand in any
mode but READY (R86). -/
def State.entState (s : State) (i : Iss) : Bool :=
  if s.unprivileged i then !(s.me i).inWin else s.mode != 2

/-- Issue an entity operation: `own` are its issue-time traps in the order of R66, those of one cause in the order of their subcodes; the
strand goes on. DESIGN CHOICE, unsafe (log 185). -/
def entOp (s : State) (i : Iss) (f : FmtE) (kind : OpKind) (reads : List Nat) (bad : Bool) (dst : Nat)
    (own : State → List (Bool × Trap)) (upd : Strand → Nat → Strand) : State :=
  issue s i { reads := gN f.rs1 ++ reads, writes := if dst = regNone then [] else gN f.rd, mem := true }
      (illIf (bad || f.dl != 0)) fun s =>
    match firstTrap (own s) with
    | some tr => .trap tr
    | none =>
      if s.fenced i.e.val i.t.val 5 then .stall
      else
        let x := s.me i
        let h := (x.rg f.rs1.toNat).toNat
        let s1 := s.startOp i { id := 0, e := 0, t := 0, kind := kind, dst := dst, addr := h,
                                a1 := (x.rg f.rs2.toNat).toNat, a2 := b2n (!s.unprivileged i) }
        .go (s1.retire i fun y => upd y (hIndex h))

def keep (x : Strand) (_ : Nat) : Strand := x
/-- The strand gives a lock up (ENT.UNLOCK, ENT.FREE). -/
def giveLock (x : Strand) (idx : Nat) : Strand := { x with locks := x.locks.filter (· != idx) }

def trapAt (c : Cause) (sub : Nat) (a : Word64) : Trap := { cause := c, sub := sub, addr := a }

def execEntGetL (i : Iss) (f : FmtE) (s : State) : Outcome State Fault Refusal :=
  .next (entOp s i f .entGetL [] (f.rs2 != 0) (regG f.rd.toNat) (fun _ => []) keep)
def execEntGetN (i : Iss) (f : FmtE) (s : State) : Outcome State Fault Refusal :=
  .next (entOp s i f .entGetN [] (f.rs2 != 0) (regG f.rd.toNat) (fun _ => []) keep)
def execEntGetE (i : Iss) (f : FmtE) (s : State) : Outcome State Fault Refusal :=
  .next (entOp s i f .entGetE [] (f.rs2 != 0) (regG f.rd.toNat) (fun _ => []) keep)

/-- The lock named by g[rs1] is not held by the strand (R82, R85). -/
def State.lockMissing (s : State) (i : Iss) (f : FmtE) : Bool :=
  !(s.me i).locks.contains (hIndex ((s.me i).rg f.rs1.toNat).toNat)

/-- DEDUCED, unsafe (log 38). -/
def execEntUnlock (i : Iss) (f : FmtE) (s : State) : Outcome State Fault Refusal :=
  .next (entOp s i f .entUnlock [] (f.rs2 != 0 || f.rd != 0) regNone
    (fun s => [(s.lockMissing i f, trapAt .illegal 2 ((s.me i).rg f.rs1.toNat))]) giveLock)

def execEntPub (i : Iss) (f : FmtE) (s : State) : Outcome State Fault Refusal :=
  .next (entOp s i f .entPub (gN f.rs2) (f.rd != 0) regNone
    (fun s => [(s.entState i, trapAt .illegal 1 ((s.me i).rg f.rs1.toNat))]) keep)

def execEntFree (i : Iss) (f : FmtE) (s : State) : Outcome State Fault Refusal :=
  .next (entOp s i f .entFree [] (f.rs2 != 0 || f.rd != 0) regNone
    (fun s => [(s.entState i, trapAt .illegal 1 ((s.me i).rg f.rs1.toNat)),
               (s.lockMissing i f, trapAt .illegal 2 ((s.me i).rg f.rs1.toNat))]) giveLock)

def execEntMove (i : Iss) (f : FmtE) (s : State) : Outcome State Fault Refusal :=
  .next (entOp s i f .entMove (gN f.rs2) (f.rd != 0) regNone
    (fun s => [(s.entState i, trapAt .illegal 1 ((s.me i).rg f.rs1.toNat)),
               (s.lockMissing i f, trapAt .illegal 2 ((s.me i).rg f.rs1.toNat)),
               (decide (s.gridCells ≤ ((s.me i).rg f.rs2.toNat).toNat % 2 ^ 20),
                trapAt .range 0 ((s.me i).rg f.rs1.toNat))]) keep)

/-- ENT.NEW's descriptor is bad (R84): a bit outside [2:0] and [7:4], or size class 7. DESIGN CHOICE, unsafe (log 30). -/
def descBad (d : Nat) : Bool := d % 8 == 7 || d / 8 % 2 == 1 || decide (256 ≤ d)

/-- A slot in a striped view (R246). -/
def State.inView (s : State) (wa n : Nat) : Bool :=
  s.stripes.any fun x => x.ch == wa / 2 ^ 31 && decide (wa % 2 ^ 31 < (x.base + x.ways * x.units) * 4096) &&
    decide (x.base * 4096 < wa % 2 ^ 31 + n)

/-- DESIGN CHOICE, unsafe (log 61). -/
def execEntNew (i : Iss) (f : FmtE) (s : State) : Outcome State Fault Refusal :=
  .next (entOp s i f .entNew (gN f.rs2) false (regG f.rd.toNat)
    (fun s =>
      let a := (s.me i).rg f.rs1.toNat
      let d := ((s.me i).rg f.rs2.toNat).toNat
      let n := 2 * (64 * 2 ^ (d % 8))
      [(s.entState i, trapAt .illegal 1 a),
       (descBad d, trapAt .illegal 1 a),
       (a.toNat % (64 * 2 ^ (d % 8)) != 0, trapAt .align 0 a),
       (s.rangeBad i a n .write || a.toNat / 2 ^ 31 != (a.toNat + n - 1) / 2 ^ 31 || s.inView (a.toNat % 2 ^ 36) n,
        trapAt .range 0 a)]) keep)

/-- ENT.LOCK (R82): its order is checked at issue, the cases in the order of their subcodes (log 185); the strand waits until the lock is
granted. DEDUCED, unsafe (log 39). -/
def execEntLock (i : Iss) (f : FmtE) (s : State) : Outcome State Fault Refusal :=
  .next (issue s i { reads := gN f.rs1, writes := gN f.rd, mem := true } (illIf (f.rs2 != 0 || f.dl != 0)) fun s =>
    let x := s.me i
    let h := x.rg f.rs1.toNat
    let idx := hIndex h.toNat
    match firstTrap
      [ (decide (1 < x.rank), trapAt .order 0 h),
        (x.locks.any fun k => decide (idx ≤ k), trapAt .order 1 h),
        (decide (8 ≤ x.locks.length), trapAt .order 4 h) ] with
    | some tr => .trap tr
    | none =>
      if s.fenced i.e.val i.t.val 5 then .stall
      else
        let id := s.nextOp
        .go ((s.startOp i { id := 0, e := 0, t := 0, kind := .entLock, dst := regG f.rd.toNat, addr := h.toNat }).enterWait
          i.e.val i.t.val (.lock id idx)))

/-! ## The directory's side -/

/-- Lock requests queued for an entity, in arrival order. -/
def State.lockQueue (s : State) (i : Nat) : List Op :=
  s.ops.filter fun o => decide (o.kind = .entLock) && decide (o.st = .waiting) && hIndex o.addr == i

/-- The operation waits from now, behind those that wait already. -/
def State.queueOp (s : State) (o : Op) : State :=
  { s with ops := (s.ops.filter fun q => q.id != o.id) ++ [{ o with st := .waiting }] }

/-- The strand of a waiting operation goes on past its instruction. -/
def State.endWait (s : State) (e t : Nat) : State :=
  let x := s.strand e t
  s.setStrand e t { x with st := .ready, wait := none, pc := x.pc + 1 }

/-- The lock is granted to operation `o` (R82). -/
def State.grantLock (s : State) (o : Op) : State :=
  let i := hIndex o.addr
  let v := withOwner (withLock (s.entry i) true) o.e
  let s1 := s.setEntry i v
  let x := s1.strand o.e o.t
  ((s1.setStrand o.e o.t { x with locks := x.locks ++ [i] }).completeOp o v.toNat).endWait o.e o.t

/-- The lock of entry `i` is given up by engine `e` (R103): the owner field records the engine while the entity is published. -/
def unlocked (v : Word64) (e : Nat) : Word64 := withOwner (withLock v false) (if entPublished v then e else 0x3F)

/-- A refused ENT.UNLOCK or ENT.FREE leaves the lock with the strand. -/
def State.keepLock (s : State) (o : Op) : State :=
  let x := s.strand o.e o.t
  s.setStrand o.e o.t { x with locks := x.locks ++ [hIndex o.addr] }

/-- ENT.PUB at the directory (R83, R86, R103, R112). -/
def State.edPublish (s : State) (o : Op) : State :=
  let i := hIndex o.addr
  let v := s.entry i
  if o.a2 = 1 then s.setEntry i (withLive v (1 - entLive v))
  else
    let v1 := withPublished v true
    let v2 := if !entLock v && entOwner v == 0x3F then withOwner v1 o.e else v1
    let r := (s.setEntry i v2).tkRead (s.maskAddr i) 8 57
    r.2.tkWrite (s.maskAddr i) 8 ((r.1.getD (2 ^ 64 - 1)) ||| o.a1)

/-- ENT.NEW at the directory (R84, R101, R104, R106): the handle, or none with no index left. -/
def State.edNew (s : State) (o : Op) : Option Nat × State :=
  if o.a2 = 0 ∧ 16384 ≤ s.ed.births then (none, s)
  else
    match freeTake s.ed.quar (s.ed.quar.length + 1) s.ed.free with
    | none => (none, s)
    | some (i, l) =>
      let g := let n := (entGen (s.entry i) + 1) % 1024; if n = 0 then 1 else n
      let v : Nat := o.addr / 64 + o.a1 % 8 * 2 ^ 30 + 0x3F * 2 ^ 36 + o.addr / 2 ^ 31 * 2 ^ 42 + o.a1 / 16 % 16 * 2 ^ 48 +
        2 ^ 53 + g * 2 ^ 54
      let h := mkHandle i g
      let s1 := ({ s with ed := { s.ed with free := l } }.setEntry i (BitVec.ofNat 64 v)).tkPut (s.linkAddr i) 16 0 0
      if o.a2 = 1 then (some h, s1)
      else
        let n := s.ed.births
        let s2 := s1.tkWrite (devAddr 0 (0x850000 + 4 * n)) 4 h
        let s3 := if n + 1 < 16384 then s2.tkWrite (devAddr 0 (0x850000 + 4 * (n + 1))) 4 0 else s2
        (some h, { s3 with ed := { s3.ed with births := n + 1 } })

/-- Mark an entity for freeing at the commit (R85, R103). -/
def marked (v : Word64) : Word64 := withOwner (withLock v false) 0x3E

/-- An entity operation that ends in a trap: a lock that would have gone is kept, a wait for a lock ends. -/
def State.edTrap (s : State) (o : Op) (tr : Trap) : State :=
  match o.kind with
  | .entUnlock | .entFree => (s.keepLock o).failOp o tr
  | .entLock => (s.failOp o tr).endWait o.e o.t
  | _ => s.failOp o tr

/-- The entry an entity operation reads from the SRAM, if it reads one: of ENT.NEW that of the index it would take. -/
def State.edReads (s : State) (o : Op) : Option Nat :=
  if o.kind = .entNew then
    if o.a2 = 0 ∧ 16384 ≤ s.ed.births then none else (freeTake s.ed.quar (s.ed.quar.length + 1) s.ed.free).map (·.1)
  else if 2 ^ 31 ≤ o.addr ∨ s.ed.quar.contains (hIndex o.addr) then none
  else some (hIndex o.addr)

/-- The operation reads an entry with a double-bit error: the entry is unchanged, the ED group takes the fault, and the operation ends in
UNCORRECTABLE, as every later one on the index does (R22, R105). An operation that reads no entry has its own end.
DESIGN CHOICE, unsafe (log 187). -/
def State.edUpset (s : State) (o : Op) (i : Nat) : State :=
  ((s.occ { ev := 0x40, inst := 0, title := (s.strand o.e o.t).title, master := o.e }).edLost o.e i).edTrap o
    { cause := .uncorrectable, addr := BitVec.ofNat 64 o.addr }

/-- The directory performs an entity operation and its response arrives (R80 to R86, R112). -/
def State.edRespond (s0 : State) (o : Op) : State :=
  let s := s0.occ { ev := 0x40, inst := 0, title := (s0.strand o.e o.t).title, master := o.e }
  let i := hIndex o.addr
  let v := s.entry i
  match (if o.kind = .entNew then none else s.edCheck o.addr o.kind) with
  | some tr => s.edTrap o tr
  | none =>
    match o.kind with
    | .entGetL => s.completeOp o (liveSlot v)
    | .entGetN => s.completeOp o (nextSlotAddr v)
    | .entGetE => s.completeOp o v.toNat
    | .entLock =>
      if entLock v || !(s.lockQueue i).isEmpty then
        (s.queueOp o).occ
          { ev := 0x41, inst := 0, title := (s.strand o.e o.t).title, master := o.e }
      else s.grantLock o
    | .entUnlock => (s.setEntry i (unlocked v o.e)).ackOp o
    | .entPub => (s.edPublish o).ackOp o
    | .entNew =>
      match s.edNew o with
      | (some h, s1) => s1.completeOp o h
      | (none, s1) => s1.failOp o { cause := .budget, addr := BitVec.ofNat 64 o.addr }
    | .entFree =>
      if o.a2 = 1 then (s.freeNow i).ackOp o
      else if 16384 ≤ s.ed.frees then (s.keepLock o).failOp o { cause := .budget, addr := BitVec.ofNat 64 o.addr }
      else ({ s with ed := { s.ed with frees := s.ed.frees + 1 } }.setEntry i (marked v)).ackOp o
    | .entMove =>
      let c := o.a1 % 2 ^ 20
      if o.a2 = 1 then ((s.unlink i).linkHead i c).ackOp o
      else (s.tkWrite (s.linkAddr i + 8) 8 (c + 2 ^ 20)).ackOp o
    | _ => s

/-- ENTITY_LOCK_GRANT (R82): the lock of an entity has been given up and passes to the oldest queued request; one whose
entity has meanwhile turned stale or torn traps instead (R80). -/
def State.entityLockGrant (s0 : State) (i : Nat) : State :=
  if entLock (s0.entry i) then s0
  else
    match s0.lockQueue i with
    | [] => s0
    | o :: _ =>
      let s := s0.edScan o.e (· == i)
      match s.edCheck o.addr .entLock with
      | some tr => (s.failOp o tr).endWait o.e o.t
      | none => s.grantLock o
def execEntityLockGrant (index : BitVec 21) (s : State) : Outcome State Fault Refusal :=
  .next (s.entityLockGrant index.toNat)

end Sys2Proof.Machine
end

