-- ==== Sys2Proof/Machine/Memory.lean ====
section
/-!
DEFINITION. The memory instructions: world loads and stores (R72, R73), scratch loads and stores (R74), FILL (R75),
scratch DMA (R76), near-memory atomics (R77).
-/

namespace Sys2Proof.Machine
open Host

/-- Move past the instruction. -/
def State.advance (s : State) (i : Iss) : State := s.retire i id

/-! ## World loads and stores (R73) -/

/-- A world load of `n` bytes into the register named `dst`. A vector load or store is a memory instruction and no vector instruction
of R29, so that it may pair with one. DESIGN CHOICE, unsafe (log 192). -/
def worldLoad (s : State) (i : Iss) (f : FmtL) (kind : OpKind) (n scale dst : Nat) (writes : List Nat) (bad : Bool) :
    State :=
  issue s i { reads := gN f.rs1, writes := writes, mem := true } (illIf bad) fun s =>
    let a := eaL f (s.me i) scale
    match s.worldChecks i a n n .read f.dl with
    | some tr => .trap tr
    | none =>
      if !s.lsqRoom i.e.val i.t.val || s.fenced i.e.val i.t.val kind.fenceBit then .stall
      else
        let id := s.nextOp
        let dl := ((s.me i).rdl f.dl.toNat).toNat
        let s1 := s.startOp i { id := 0, e := 0, t := 0, kind := kind, dst := dst, addr := a.toNat, len := n, dl := dl }
        .go ((s1.advance i).sendRead id i.e.val i.t.val (engMaster i.e.val) a.toNat n dl .read (s.classOf a.toNat))

/-- A world store of these bytes. -/
def worldStore (s : State) (i : Iss) (f : FmtL) (kind : OpKind) (n scale : Nat) (reads : List Nat) (bad : Bool)
    (data : Strand → Nat) : State :=
  issue s i { reads := gN f.rs1 ++ reads, mem := true } (illIf bad) fun s =>
    let a := eaL f (s.me i) scale
    match s.worldChecks i a n n .write f.dl with
    | some tr => .trap tr
    | none =>
      if !s.lsqRoom i.e.val i.t.val || s.fenced i.e.val i.t.val kind.fenceBit then .stall
      else
        let id := s.nextOp
        let dl := ((s.me i).rdl f.dl.toNat).toNat
        let wr := bytesAt (a.toNat % 64) (leBytes n (data (s.me i)))
        let s1 := s.startOp i { id := 0, e := 0, t := 0, kind := kind, addr := a.toNat, len := n, dl := dl }
        .go ((s1.advance i).sendWrite id i.e.val i.t.val (engMaster i.e.val) a.toNat wr dl (s.classOf a.toNat))

def execLd (i : Iss) (f : FmtL) (s : State) : Outcome State Fault Refusal :=
  .next (worldLoad s i f .ld (bytesL f) (bytesL f) (regG f.rt.toNat) (gN f.rt) false)
/-- LDU: size 3 acts as LD.D. -/
def execLdu (i : Iss) (f : FmtL) (s : State) : Outcome State Fault Refusal :=
  .next (worldLoad s i f .ldu (bytesL f) (bytesL f) (regG f.rt.toNat) (gN f.rt) false)
def execSt (i : Iss) (f : FmtL) (s : State) : Outcome State Fault Refusal :=
  .next (worldStore s i f .st (bytesL f) (bytesL f) (gN f.rt) false fun x => (x.rg f.rt.toNat).toNat)
def execVld (i : Iss) (f : FmtL) (s : State) : Outcome State Fault Refusal :=
  .next (worldLoad s i f .vld 16 16 (regV f.rt.toNat) (vN f.rt) (f.size != 0 || !vOk f.rt))
def execVst (i : Iss) (f : FmtL) (s : State) : Outcome State Fault Refusal :=
  .next (worldStore s i f .vst 16 16 (vN f.rt) (f.size != 0 || !vOk f.rt) fun x => (x.rv f.rt.toNat).toNat)

/-! ## Scratch loads and stores (R74) -/

/-- A scratch load: the bytes at the address, as a number, into the strand, usable after 3 tokens (R30). -/
def scratchLoad (s : State) (i : Iss) (f : FmtL) (n scale : Nat) (writes : List Nat) (bad : Bool)
    (w : Strand → Nat → Strand) : State :=
  issue s i { reads := gN f.rs1, writes := writes, mem := true, lat := 3 } (illIf (bad || f.dl != 0)) fun s =>
    let a := eaL f (s.me i) scale
    match s.scratchChecks i a n n with
    | some tr => .trap tr
    | none => .go (s.retire i fun x => w x (leNat (s.rdScratch i.e.val a.toNat n)))

def scratchStore (s : State) (i : Iss) (f : FmtL) (n scale : Nat) (reads : List Nat) (bad : Bool)
    (data : Strand → Nat) : State :=
  issue s i { reads := gN f.rs1 ++ reads, mem := true } (illIf (bad || f.dl != 0)) fun s =>
    let a := eaL f (s.me i) scale
    match s.scratchChecks i a n n with
    | some tr => .trap tr
    | none => .go ((s.wrScratch i.e.val a.toNat (leBytes n (data (s.me i)))).advance i)

/-- A loaded value of `n` bytes, sign-extended to 64 bits. -/
def sext (n v : Nat) : Word64 := BitVec.ofNat 64 (signExt (8 * n) 64 v)

def execSld (i : Iss) (f : FmtL) (s : State) : Outcome State Fault Refusal :=
  .next (scratchLoad s i f (bytesL f) (bytesL f) (gN f.rt) false fun x v => x.wg f.rt.toNat (sext (bytesL f) v))
/-- SLDU: size 3 loads the doubleword. -/
def execSldu (i : Iss) (f : FmtL) (s : State) : Outcome State Fault Refusal :=
  .next (scratchLoad s i f (bytesL f) (bytesL f) (gN f.rt) false fun x v => x.wg f.rt.toNat (BitVec.ofNat 64 v))
def execSst (i : Iss) (f : FmtL) (s : State) : Outcome State Fault Refusal :=
  .next (scratchStore s i f (bytesL f) (bytesL f) (gN f.rt) false fun x => (x.rg f.rt.toNat).toNat)
def execSvld (i : Iss) (f : FmtL) (s : State) : Outcome State Fault Refusal :=
  .next (scratchLoad s i f 16 16 (vN f.rt) (f.size != 0 || !vOk f.rt) fun x v => x.wv f.rt.toNat (BitVec.ofNat 128 v))
def execSvst (i : Iss) (f : FmtL) (s : State) : Outcome State Fault Refusal :=
  .next (scratchStore s i f 16 16 (vN f.rt) (f.size != 0 || !vOk f.rt) fun x => (x.rv f.rt.toNat).toNat)

/-! ## FILL (R75) -/

/-- The length rule of FILL and scratch DMA: a multiple of 64 from 64 to `top`. -/
def bulkLenOk (n top : Nat) : Bool := n % 64 == 0 && 64 ≤ n && n ≤ top

/-- FILL rd, rs1, rs2, dl: the value g[rd] into every doubleword of g[rs2] bytes from g[rs1]. -/
def execFill (i : Iss) (f : FmtE) (s : State) : Outcome State Fault Refusal :=
  .next (issue s i { reads := gN f.rs1 ++ gN f.rs2 ++ gN f.rd, mem := true } none fun s =>
    let x := s.me i
    let a := x.rg f.rs1.toNat
    let n := (x.rg f.rs2.toNat).toNat
    if !bulkLenOk n (2 ^ 31) then .trap { cause := .illegal, sub := 1 }
    else
      match firstTrap
        [ (a.toNat % 64 != 0, { cause := .align, addr := a }),
          (s.rangeBad i a n .fill || (a.toNat / 2 ^ 31 != (a.toNat + n - 1) / 2 ^ 31), { cause := .range, addr := a }),
          (s.dlBad i f.dl, { cause := .deadline, addr := a }) ] with
      | some tr => .trap tr
      | none =>
        if !s.lsqRoom i.e.val i.t.val || s.fenced i.e.val i.t.val 3 then .stall
        else
          let s1 := s.startOp i { id := 0, e := 0, t := 0, kind := .fill, addr := a.toNat, a1 := (x.rg f.rd.toNat).toNat,
                                  len := n, dl := (x.rdl f.dl.toNat).toNat }
          .go ((s1.advance i).sendGranule s.nextOp))

/-! ## Scratch DMA (R76) -/

/-- Buffers a transfer takes: one up to 16,384 bytes, two above. -/
def dmaBufs (n : Nat) : Nat := if n ≤ 16384 then 1 else 2

/-- The strand holds `k` buffers of its engine from now. -/
def State.takeDma (s : State) (e t k : Nat) : State :=
  (s.setEng e { s.eng e with dmaFree := (s.eng e).dmaFree - k }).setStrand e t
    { s.strand e t with dma := k }

/-- The transfer starts, or resumes from its progress count (R52): from the start an SDMA.IN's span is undefined until it completes;
the next granule is sent. -/
def State.dmaBegin (s : State) (id : Nat) : State :=
  match s.findOp id with
  | none => s
  | some o =>
    let s1 := s.setOp { o with st := .sent, need := o.granules - o.prog }
    let s2 := if o.kind = .sdmaIn ∧ o.prog = 0 then s1.spanFree o.e o.a1 o.len else s1
    s2.sendGranule id

/-- A bulk credit of a mesh half is free (R50). -/
def State.creditFree (s : State) (h : Nat) : Bool :=
  decide ((s.ops.filter fun o => decide (o.credit = .held h)).length < Config.meshCredits h + 1)

/-- The oldest transfer that asks for a mesh bulk credit and can have one. -/
def State.creditNext (s : State) : Option (Op × Nat) :=
  s.ops.findSome? fun o => match o.credit with
    | .asked h => if s.creditFree h then some (o, h) else none
    | _ => none

/-- Mesh bulk credits that are free pass to the transfers that ask for them, the oldest first; a strand that waits for one goes on
(R28, R50). -/
def State.grantCredits (s : State) : Nat → State
  | 0 => s
  | n + 1 =>
    match s.creditNext with
    | none => s
    | some (o, h) =>
      let x := s.strand o.e o.t
      let s1 := if x.wait = some (.credit o.id) then s.setStrand o.e o.t { x with st := .ready, wait := none } else s
      ((s1.setOp { o with credit := .held h }).dmaBegin o.id).grantCredits n

/-- A transfer that has its buffers goes on: at once where it crosses no mesh half, else with a bulk credit of the half its channel
stands in; while none is free its strand waits (R28, R46, R50). DESIGN CHOICE, unsafe (log 171). -/
def State.dmaStart (s : State) (id : Nat) : State :=
  match s.findOp id with
  | none => s
  | some o =>
    match (s.meshPath o).getLast? with
    | none => s.dmaBegin id
    | some h =>
      let s1 := (s.setOp { o with st := .sent, credit := .asked h, need := 0 }).grantCredits 64
      if (s1.ops.any fun q => q.id == id && decide (q.credit = .asked h)) && decide ((s1.strand o.e o.t).st = .ready) then
        s1.enterWait o.e o.t (.credit id)
      else s1

def sdma (s : State) (i : Iss) (f : FmtE) (kind : OpKind) (b : RangeBit) : State :=
  issue s i { reads := gN f.rs1 ++ gN f.rs2 ++ gN f.rd, mem := true } none fun s =>
    let e := i.e.val
    let t := i.t.val
    let x := s.me i
    let a := x.rg f.rs1.toNat
    let n := (x.rg f.rs2.toNat).toNat
    let sc := x.rg f.rd.toNat
    if !bulkLenOk n 32768 then .trap { cause := .illegal, sub := 1 }
    else
      match firstTrap
        [ (a.toNat % 64 != 0, { cause := .align, addr := a }),
          (sc.toNat % 64 != 0, { cause := .align, addr := sc }),
          (s.rangeBad i a n b, { cause := .range, addr := a }),
          (decide (s.scratchReach i < sc.toNat + n), { cause := .range, addr := sc }),
          (x.dma != 0, { cause := .order, sub := 2, addr := a }),
          (s.dlBad i f.dl, { cause := .deadline, addr := a }) ] with
      | some tr => .trap tr
      | none =>
        if s.fenced e t 4 then .stall
        else
          let id := s.nextOp
          let k := dmaBufs n
          let o : Op := { id := 0, e := 0, t := 0, kind := kind, addr := a.toNat, a1 := sc.toNat, a2 := k, len := n,
                          dl := (x.rdl f.dl.toNat).toNat }
          if k ≤ (s.eng e).dmaFree then .go ((((s.startOp i o).advance i).takeDma e t k).dmaStart id)
          else .go ((s.startOp i { o with st := .waiting }).enterWait e t (.dma id))

def execSdmaIn (i : Iss) (f : FmtE) (s : State) : Outcome State Fault Refusal := .next (sdma s i f .sdmaIn .read)
def execSdmaOut (i : Iss) (f : FmtE) (s : State) : Outcome State Fault Refusal := .next (sdma s i f .sdmaOut .fill)

/-! ## Near-memory atomics (R77) -/

/-- Issue an atomic: g[rs1] the address, g[rs2] the operand, g[rd] the old value on return; CAS also reads g[rd]. -/
def atomic (s : State) (i : Iss) (d : Bool) (f : FmtE) (op : Nat) : State :=
  issue s i { reads := gN f.rs1 ++ gN f.rs2 ++ gN f.rd, writes := gN f.rd, mem := true } none fun s =>
    let x := s.me i
    let a := x.rg f.rs1.toNat
    let n := if d then 8 else 4
    match s.worldChecks i a n n .atomic f.dl with
    | some tr => .trap tr
    | none =>
      if !s.lsqRoom i.e.val i.t.val || s.fenced i.e.val i.t.val 2 then .stall
      else
        let id := s.nextOp
        let dl := (x.rdl f.dl.toNat).toNat
        let s1 := s.startOp i { id := 0, e := 0, t := 0, kind := .amo op d, dst := regG f.rd.toNat, addr := a.toNat,
                                a1 := (x.rg f.rs2.toNat).toNat, a2 := (x.rg f.rd.toNat).toNat, len := n, dl := dl }
        .go ((s1.advance i).sendRead id i.e.val i.t.val (engMaster i.e.val) a.toNat n dl .atomic (s.classOf a.toNat))

/-- The new value of an atomic over `n` bytes: `old` in memory, `b` the operand, `c` what CAS compares with: of a 4-byte CAS, its low
32 bits. DESIGN CHOICE, unsafe (log 186). -/
def amoNew (op n old b c : Nat) : Nat :=
  let w := 8 * n
  let m := 2 ^ w
  match op with
  | 0 => (old + b) % m
  | 1 => old &&& (b % m)
  | 2 => old ||| (b % m)
  | 3 => old ^^^ (b % m)
  | 4 => if toSigned w old ≤ toSigned w b then old else b % m
  | 5 => if toSigned w old ≤ toSigned w b then b % m else old
  | 6 => min old (b % m)
  | 7 => max old (b % m)
  | 8 => b % m
  | _ => if old = c % m then b % m else old

def execAmoAdd (i : Iss) (d : Bool) (f : FmtE) (s : State) : Outcome State Fault Refusal := .next (atomic s i d f 0)
def execAmoAnd (i : Iss) (d : Bool) (f : FmtE) (s : State) : Outcome State Fault Refusal := .next (atomic s i d f 1)
def execAmoOr (i : Iss) (d : Bool) (f : FmtE) (s : State) : Outcome State Fault Refusal := .next (atomic s i d f 2)
def execAmoXor (i : Iss) (d : Bool) (f : FmtE) (s : State) : Outcome State Fault Refusal := .next (atomic s i d f 3)
def execAmoSmin (i : Iss) (d : Bool) (f : FmtE) (s : State) : Outcome State Fault Refusal := .next (atomic s i d f 4)
def execAmoSmax (i : Iss) (d : Bool) (f : FmtE) (s : State) : Outcome State Fault Refusal := .next (atomic s i d f 5)
def execAmoUmin (i : Iss) (d : Bool) (f : FmtE) (s : State) : Outcome State Fault Refusal := .next (atomic s i d f 6)
def execAmoUmax (i : Iss) (d : Bool) (f : FmtE) (s : State) : Outcome State Fault Refusal := .next (atomic s i d f 7)
def execAmoSwap (i : Iss) (d : Bool) (f : FmtE) (s : State) : Outcome State Fault Refusal := .next (atomic s i d f 8)
def execAmoCas (i : Iss) (d : Bool) (f : FmtE) (s : State) : Outcome State Fault Refusal := .next (atomic s i d f 9)

end Sys2Proof.Machine
end

