-- ==== Sys2Proof/Machine/Channel.lean ====
section
/-!
DEFINITION. A channel's arbiter, queues and sequencer (R247 to R257, R263 to R266), refresh and row protection as they take
slots (R268 to R278), the decode of a read (R289 to R297), and the completion of memory operations (R36, R37, R46, R75 to
R77).
-/

namespace Sys2Proof.Machine
open Host

/-! ## Small parts -/

/-- A channel in service (CH_ID.state = 2). -/
def State.inService (s : State) (c : Nat) : Bool := s.chanOn c && s.fld F.CH_ID_state c 0 == 2

/-- A channel that performs requests: in service, or no longer bound, with requests routed to it still to be performed (R242). -/
def State.works (s : State) (c : Nat) : Bool :=
  s.inService c ||
  (s.chanOn c && (s.fld F.CH_ID_state c 0 == 5 || s.fld F.CH_ID_state c 0 == 4) &&
    (!(s.chan c).rq.isEmpty || !(s.chan c).wq.isEmpty || s.reqs.any fun r => r.phys == c))

/-- The arbiter priority of a class (CH_ARB_PRIO). -/
def State.arbPrio (s : State) (c k : Nat) : Nat :=
  match k with
  | 0 => s.fld F.CH_ARB_PRIO_c0 c 0
  | 1 => s.fld F.CH_ARB_PRIO_c1 c 0
  | 2 => s.fld F.CH_ARB_PRIO_c2 c 0
  | 3 => s.fld F.CH_ARB_PRIO_c3 c 0
  | 4 => s.fld F.CH_ARB_PRIO_c4 c 0
  | 5 => s.fld F.CH_ARB_PRIO_c5 c 0
  | 6 => s.fld F.CH_ARB_PRIO_c6 c 0
  | _ => s.fld F.CH_ARB_PRIO_c7 c 0

/-- The field of slot-table position `p` (R257): entry p mod 8 of register p div 8. -/
def slotFld (p : Nat) : Fld :=
  match p % 8 with
  | 0 => F.CH_SLOT_e0
  | 1 => F.CH_SLOT_e1
  | 2 => F.CH_SLOT_e2
  | 3 => F.CH_SLOT_e3
  | 4 => F.CH_SLOT_e4
  | 5 => F.CH_SLOT_e5
  | 6 => F.CH_SLOT_e6
  | _ => F.CH_SLOT_e7

/-- The owner of a slot position: a class; none for a free entry (codes 8 to 15, R257). -/
def State.slotOwner (s : State) (c p : Nat) : Option Nat :=
  let k := s.fld (slotFld p) c (p / 8)
  if k < 8 then some k else none

/-- Half-width pseudo-channels of a channel: 0, 1 or 2. -/
def State.halves (s : State) (c : Nat) : Nat :=
  let h := s.fld F.CH_TSV_STAT_half c 0
  b2n (bitOf h 0) + b2n (bitOf h 1)

/-- A void position (R256). -/
def voidPos (halves p : Nat) : Bool :=
  match halves with
  | 0 => false
  | 1 => p % 4 == 3
  | _ => p % 2 == 1

/-- Whether a request carries title privilege (R381): an engine's that of its strand, any other master's the supervisor's. -/
def State.reqTitle (s : State) (r : Req) : Bool := r.master < 34 && (s.strand r.e r.t).title

def State.occReq (s : State) (ev c : Nat) (r : Req) : State :=
  s.occ { ev := ev, inst := c, title := s.reqTitle r, master := r.master, addr := r.waddr, cls := r.cls }

/-- Record in the sample of the request's operation what its channel did (R391). -/
def State.noteSample (s : State) (r : Req) (f : Sample → Sample) : State :=
  { s with pm := { s.pm with samples := s.pm.samples.map fun x => if x.op = r.op ∧ x.addr = r.waddr then f x else x } }

/-- A sample's status bits (R391): bit 3 a row hit, bit 6 a corrected granule. -/
def Sample.setBit (y : Sample) (n : Nat) : Sample := { y with bits := if bitOf y.bits n then y.bits else y.bits + 2 ^ n }
def Sample.corrected (y : Sample) (out : GOut) : Sample := if out = .corrected then y.setBit 6 else y

/-! ## The arbiter (R247 to R251) -/

def inputs : List Input := [.priv, .mesh, .fixer, .fill]
def inputIdx : Input → Nat
  | .priv => 0 | .mesh => 1 | .fixer => 2 | .fill => 3

/-- An earlier operation of the request's engine has still to bring a request for the same granule to this channel (R36): one that
waits in front of the arbiter, or a granule still to come of a bulk transfer that has been issued. -/
def State.heldBack (s : State) (r : Req) : Bool :=
  r.e < 35 &&
  ((s.reqs.any fun q => q.e == r.e && q.phys == r.phys && q.gran == r.gran && decide (q.op < r.op)) ||
   s.ops.any fun o => o.e == r.e && decide (o.id < r.op) && o.kind.bulk && decide (o.addr + 64 * o.prog ≤ r.waddr) &&
     decide (r.waddr < o.addr + o.len) && decide ((s.strand o.e o.t).wait ≠ some (.dma o.id)))

/-- The head request of an input: the first that no earlier request for its granule holds back. -/
def State.head (s : State) (c : Nat) (i : Input) : Option Req :=
  s.reqs.find? fun r => r.phys == c && decide (r.input = i) && !s.heldBack r

/-! ## Whole granules that enter the write queue: the write of an atomic (R266), the write-back of the Fixer (R302) -/

/-- Put an entry into a write queue in the order of its sequence. -/
def insertEnt (w : WEnt) : List WEnt → List WEnt
  | [] => [w]
  | v :: t => if w.seq < v.seq then w :: v :: t else v :: insertEnt w t

/-- The entry of the granule that a whole one of sequence `q` is laid over: older, and not yet begun. -/
def Chan.under (x : Chan) (g q : Nat) : Option WEnt :=
  x.wq.find? fun v => v.gran == g && decide (v.seq < q) && !v.merging

/-- A whole granule enters the write queue: over an older entry not yet begun, or as an entry of its own. -/
def Chan.enterWhole (x : Chan) (w : WEnt) : Chan :=
  match x.under w.gran w.seq with
  | some v => { x with wq := x.wq.map fun (q : WEnt) =>
      if q.id = v.id then { q with bytes := w.bytes, writers := q.writers ++ w.writers, poison := w.poison } else q }
  | none => { x with wq := insertEnt w x.wq }

def Chan.roomWhole (x : Chan) (g q : Nat) : Bool := decide (x.wq.length < 64) || (x.under g q).isSome

/-- Release an atomic's or the Fixer's granule (R266, R302). -/
def State.unlockGran (s : State) (c g : Nat) : State :=
  let x := s.chan c
  s.setChan c { x with locked := x.locked.erase g }

/-- The queue has room for the request (R247): eight read entries are for C0 alone; an atomic takes one read entry; at
most 8 atomics (R266). DEDUCED, unsafe (log 165). -/
def Chan.room (x : Chan) (r : Req) : Bool :=
  match r.kind with
  | .write =>
    if r.master = 58 then x.roomWhole r.gran r.seq else decide (x.wq.length < 64) || (x.canMerge r.gran).isSome
  | .read => decide (x.rq.length < (if r.cls = 0 then 96 else 88))
  | .atomic => decide (x.rq.length < (if r.cls = 0 then 96 else 88)) &&
      decide ((x.rq.filter fun q => decide (q.kind = .atomic)).length < 8)

/-- A waiting request of higher arbiter priority than class `k`, from another input. -/
def State.outranked (s : State) (c : Nat) (i : Input) (k : Nat) : Bool :=
  inputs.any fun j => decide (j ≠ i) &&
    match s.head c j with
    | some r => decide (s.arbPrio c k < s.arbPrio c r.cls)
    | none => false

/-- The better of two heads: the higher priority; a C0 request first in panic; ties round-robin after the last granted. -/
def State.betterHead (s : State) (c : Nat) (a b : Input × Req) : Input × Req :=
  let panic := s.fldB F.CH_STATUS_panic c 0
  let p (r : Req) : Nat := if panic && r.cls == 0 then 16 else s.arbPrio c r.cls
  let d (i : Input) : Nat := (inputIdx i + 7 - inputIdx (s.chan c).lastGrant) % 4
  if p a.2 < p b.2 then b
  else if p b.2 < p a.2 then a
  else if d b.1 < d a.1 then b else a

/-- The heads that could be admitted now. -/
def State.heads (s : State) (c : Nat) : List (Input × Req) :=
  inputs.filterMap fun i =>
    match s.head c i with
    | some r => if (s.chan c).room r then some (i, r) else none
    | none => none

/-- The grant under arbitration (R250). -/
def State.arbitrate (s : State) (c : Nat) : Option (Input × Req) :=
  match s.heads c with
  | [] => none
  | h :: t => some (t.foldl (s.betterHead c) h)

/-- The granules a burst may take before it arbitrates again (R251). -/
def State.burstLen (s : State) (c : Nat) : Nat := max 1 (s.fld F.CH_ARB_CTRL_burst c 0)

/-- A burst in progress, the request that continues it, and the granules it has taken; the burst length in force judges it (R252). -/
def State.burstHead (s : State) (c : Nat) : Option (Input × Req × Nat) :=
  match (s.chan c).hold with
  | none => none
  | some (i, n, _) =>
    match s.head c i with
    | some r => if r.bulk && (s.chan c).room r && decide (n < s.burstLen c) then some (i, r, n) else none
    | none => none

/-- The burst is preempted at this granule boundary (R251): C4, something better waits or panic is raised, and the table
has room. -/
def State.preempts (s : State) (c : Nat) (i : Input) (r : Req) : Bool :=
  r.cls == 4 && (s.outranked c i 4 || s.fldB F.CH_STATUS_panic c 0) && decide ((s.chan c).preempt.length < 16)

/-- What the arbiter grants: the burst in progress, or the arbitration's choice, with whether a burst was preempted. -/
def State.grant (s : State) (c : Nat) : Option (Input × Req × Bool) :=
  match s.burstHead c with
  | some (i, r, _) =>
    if s.preempts c i r then (s.arbitrate c).map fun h => (h.1, h.2, true) else some (i, r, false)
  | none => (s.arbitrate c).map fun h => (h.1, h.2, false)

/-! ## Admission (R248, R253) -/

/-- The absolute unit at which an admitted request becomes overdue, and whether it is overdue already (R248). -/
def State.admitDue (s : State) (r : Req) : Nat × Bool :=
  let d := (r.dl + 65536 - s.units % 65536) % 65536
  if r.late then (s.units, true)
  else if !r.far && 32768 ≤ d then (s.units, true)
  else (s.units + d, d == 0)

/-- Count a request that becomes overdue (CH_OVERDUE, event 0x24). -/
def State.countLate (s : State) (c : Nat) (r : Req) : State := (s.addFld F.CH_OVERDUE_count c 0 1).occReq 0x24 c r

/-- The slice of a granule's bytes a request asks for, as a number. -/
def sliceOf (bs : List Byte) (wa n : Nat) : Nat := leNat ((bs.drop (wa % 64)).take n)

/-- Start the first scratch DMA of the engine that waits, while buffers suffice (R76); a strand that waits for it goes on, while a
transfer requeued by the wait breaker resumes with its strand untouched (R52). -/
def State.grantDma (s : State) (e : Nat) : Nat → State
  | 0 => s
  | n + 1 =>
    match s.ops.find? fun o => o.e == e && decide (o.st = .waiting) &&
        (decide (o.kind = .sdmaIn) || decide (o.kind = .sdmaOut)) with
    | none => s
    | some o =>
      if o.a2 ≤ (s.eng e).dmaFree then
        let x := s.strand e o.t
        let s1 := if x.wait = some (.dma o.id) then s.setStrand e o.t { x with st := .ready, wait := none, pc := x.pc + 1 } else s
        ((s1.takeDma e o.t o.a2).dmaStart o.id).grantDma e n
      else s

/-- Release the buffers of a scratch DMA that is done (R76); its mesh bulk credit has gone with it (R50). -/
def State.releaseDma (s : State) (e t : Nat) : State :=
  let x := s.strand e t
  let g := s.eng e
  (((s.setEng e { g with dmaFree := g.dmaFree + x.dma }).setStrand e t { x with dma := 0 }).grantDma e 16).grantCredits 64

/-- Drop every request of an operation that the DRAM has not begun, and its place in the preemption tables (R251, R370). -/
def State.dropReqs (s : State) (op : Nat) : State :=
  (List.range 34).foldl (fun s c =>
    let x := s.chan c
    if x.preempt.contains op then
      (s.setChan c { x with preempt := x.preempt.filter (· != op) }).setFld F.CH_ARB_PREEMPT_table c 0
        (x.preempt.filter (· != op)).length
    else s) { s with reqs := s.reqs.filter fun r => r.op != op }

/-- A read of an operation came back bad (R294): the trap; an SDMA.IN's span is undefined and its buffers return. -/
def State.readFailed (s : State) (o : Op) (out : GOut) (wa : Nat) : State :=
  let tr : Trap := { cause := if out = .poisoned then .poison else .uncorrectable, addr := BitVec.ofNat 64 wa }
  match o.kind with
  | .sdmaIn => ((((s.dropReqs o.id).spanFree o.e o.a1 o.len).failOp o tr)).releaseDma o.e o.t
  | _ => s.failOp o tr

/-- A read's bytes reach its operation. A fenced engine's scratch takes none (R369). A scratch DMA's granule goes to scratch; an atomic keeps the whole granule. -/
def State.deliverRead (s : State) (r : Req) (bs : List Byte) : State :=
  match s.findOp r.op with
  | none => s
  | some o =>
    match o.kind with
    | .sdmaIn => if (s.eng o.e).fenced then s.setOp { o with need := o.need - 1 }
      else ((s.wrScratch o.e (o.a1 + (r.waddr - o.addr)) bs).setOp { o with need := o.need - 1 }).finishGranule o.id r.waddr
    | .amo _ _ => s.setOp { o with st := .data (leNat bs) }
    | _ => s.setOp { o with st := .data (sliceOf bs r.waddr r.len) }

/-- After a bulk granule is admitted, the next one takes its place at the input (R251). -/
def State.nextGranule (s : State) (r : Req) : State :=
  match s.findOp r.op with
  | none => s
  | some o =>
    if !r.bulk || o.granules ≤ o.prog || (r.kind == .write && o.need != 0) then s
    else
      let n := s.nextReq
      let s1 := s.sendGranule o.id
      let s2 : State := { s1 with reqs := (s1.reqs.filter fun q => n ≤ q.id) ++ s1.reqs.filter fun q => q.id < n }
      (s2.grantDma o.e 16).grantCredits 64

/-- The write queue answers the request (R253, R266): a write of the granule is queued before it, and the granule is neither locked nor
waited for by an earlier atomic. -/
def Chan.answers (x : Chan) (r : Req) : Bool :=
  x.fronted r.gran r.seq && !x.locked.contains r.gran && !(x.rq.any fun y => y.gran == r.gran && y.kind == .atomic && decide (y.seq < r.seq))

/-- A read is forwarded from the write queue: it uses no slot (R253). An atomic goes on to its computation, its granule locked; a
read of the Fixer finds nothing to write back. -/
def State.forward (s : State) (c : Nat) (r : Req) : State :=
  let (d, s0) := s.queueGran c r.gran r.seq
  let s1 := (s0.countRd c r.cls).noteSample r fun y => y.corrected d.out
  let x := s1.chan c
  let o : Occ := { ev := 0x20, inst := c, title := s.reqTitle r, master := r.master, addr := r.waddr, cls := r.cls }
  if r.master = 58 then s1.setChan c { x with fixer := none }
  else
    let s2 := (s1.demand c r.gran r.waddr r.master (if r.kind = .atomic then 2 else 0) d).readOcc o d.out
    if d.out.bad then
      match s2.findOp r.op with
      | some q => s2.readFailed q d.out r.waddr
      | none => s2
    else if r.kind = .atomic then
      let y := s2.chan c
      (s2.setChan c { y with rq := y.rq ++ [{ r with inFlight := true }], locked := r.gran :: y.locked }).deliverRead r d.data
    else s2.deliverRead r d.data

/-- Admit a read or atomic: forwarded where the write queue answers it, else queued. -/
def State.admitRead (s : State) (c : Nat) (r : Req) : State :=
  if (s.chan c).answers r then s.forward c r
  else s.setChan c { s.chan c with rq := (s.chan c).rq ++ [r] }

/-- The oldest request of a granule that waits, if the write queue answers it by now. -/
def Chan.nextAnswered (x : Chan) (g : Nat) : Option Req :=
  match x.rq.filter fun r => r.gran == g with
  | [] => none
  | r :: _ => if !r.inFlight && x.answers r then some r else none

/-- Requests that waited for a granule are forwarded while the write queue answers them (R266). -/
def State.forwardWaiting (s : State) (c g : Nat) : Nat → State
  | 0 => s
  | n + 1 =>
    match (s.chan c).nextAnswered g with
    | none => s
    | some r =>
      let x := s.chan c
      ((s.setChan c { x with rq := x.rq.filter fun q => q.id != r.id }).forward c r).forwardWaiting c g n

/-- Admit a write: merged into a queued entry, or a new entry (R253, R296); its operation is acknowledged when every
channel has accepted it (R36). -/
def State.admitWrite (s : State) (c : Nat) (r : Req) : State :=
  let x := s.chan c
  let fpc := match s.findOp r.op with | some o => o.fpc | none => 0
  let w : Writer := { master := r.master, e := r.e, t := r.t, fpc := fpc, addr := r.waddr }
  let s1 :=
    match x.canMerge r.gran with
    | some v =>
      s.setChan c { x with wq := x.wq.map fun (y : WEnt) =>
        if y.seq = v.seq then
          { y with bytes := r.wr.foldl (fun b (e : Nat × Byte) => smapInsert b e.1 e.2) y.bytes, writers := y.writers ++ [w] }
        else y }
    | none =>
      let n : WEnt := { id := r.id, gran := r.gran, bytes := r.wr, writers := [w], cls := r.cls, due := r.due,
                        late := r.late, lateAt := r.lateAt, seq := r.seq }
      s.setChan c { x with wq := x.wq ++ [n] }
  match s1.findOp r.op with
  | none => s1
  | some o =>
    let s2 := s1.setOp { o with need := o.need - 1 }
    if o.kind.bulk && o.need == 1 then s2.finishGranule o.id r.waddr else s2

/-- An engine that wrote onto a bad granule is told POISON (R296). -/
def State.tellWriter (s : State) (w : Writer) : State :=
  if w.master < 35 then
    s.report w.e w.t { trap := { cause := .poison, addr := BitVec.ofNat 64 w.addr }, fpc := w.fpc }
  else s

/-- Each writer merged into the entry is told (R296): an engine by a trap, another master by a record on the channel's group; the event
of the merge read is the first writer's record (R306). -/
def State.tellWriters (s : State) (c : Nat) (ws : List Writer) : State :=
  (ws.drop 1).foldl (fun s w => if w.master < 35 then s else s.badGran c w.addr w.master 1) (ws.foldl State.tellWriter s)

/-- Writers whose bytes were laid under a poisoned write-back are told, the first of another master by its event (R296). -/
def State.tellMerged (s : State) (c : Nat) (ws : List Writer) : State :=
  match ws with
  | [] => s
  | v :: _ => (if v.master < 35 then s else s.badGran c v.addr v.master 1).tellWriters c ws

/-- The Fixer's write-back enters the write queue with the place of its read; the granule is unlocked (R302). -/
def State.admitBack (s : State) (c : Nat) (r : Req) : State :=
  let x := s.chan c
  let w : WEnt := { id := r.id, gran := r.gran, bytes := r.wr, writers := [writerOf 58 r.waddr], cls := r.cls, due := r.due,
                    late := r.late, lateAt := r.lateAt, seq := r.seq, poison := r.poison }
  ((s.setChan c { x.enterWhole w with fixer := none }).unlockGran c r.gran).forwardWaiting c r.gran 96

/-- A transfer of operation `op` is preempted (R251): its place in the table keeps its progress; one preemption counts (event 0x2B). -/
def State.notePreempt (s : State) (c op master cls : Nat) : State :=
  let x := s.chan c
  let tab := x.preempt.filter (· != op) ++ [op]
  (((s.setChan c { x with preempt := tab, hold := none }).setFld F.CH_ARB_PREEMPT_table c 0 tab.length).addFld
    F.CH_ARB_PREEMPT_count c 0 1).occ { ev := 0x2B, inst := c, master := master, cls := cls }

/-- Account a grant: the burst that holds on, the preemption table, the last input granted. -/
def State.noteGrant (s0 : State) (c : Nat) (i : Input) (r : Req) (preempted : Bool) : State :=
  let taken := match s0.burstHead c with | some (j, _, n) => if j = i ∧ !preempted then n + 1 else 1 | none => 1
  let s := match s0.burstHead c with
    | some (_, q, _) => if preempted ∧ q.op ≠ r.op then s0.notePreempt c q.op q.master q.cls else s0
    | none => s0
  let x := s.chan c
  let tab := x.preempt.filter (· != r.op)
  let s1 := s.setChan c { x with lastGrant := i, hold := if r.bulk then some (i, taken, r.master) else none, preempt := tab }
  s1.setFld F.CH_ARB_PREEMPT_table c 0 tab.length

/-- The request is at or above the cursor of a copy that has stopped: the bound channel's arbiter refuses it (R243, R244). -/
def State.copyRefuses (s : State) (r : Req) : Bool :=
  s.copyStopped.any fun l => s.fld F.RG_CHMAP_state l 0 == 1 &&
    (s.fld F.RG_CHMAP_old l 0 == r.phys || s.fld F.RG_CHMAP_phys l 0 == r.phys) &&
    decide (s.fld F.RG_CHCUR_cursor l 0 ≤ r.gran)

/-- A refused request ends its operation with ABSENT; one of a master that is no engine is recorded. -/
def State.refuseReq (s : State) (r : Req) : State :=
  let s1 : State := { s with reqs := s.reqs.filter fun q => q.id != r.id && (r.op == 0 || q.op != r.op) }
  match s1.findOp r.op with
  | some o => ((s1.refuseOp o r.waddr).grantDma o.e 16).grantCredits 64
  | none => s1.deny r.master r.waddr (r.kind == .write)

/-- REQUEST_ADMIT (R247 to R253): the arbiter grants an input and admits its head request. With nothing to admit, or out of
service, nothing happens. -/
def State.requestAdmit (s : State) (c : Nat) : State :=
  if !s.works c then s
  else
    match s.grant c with
    | none => s
    | some (i, r, pre) =>
      let s1 := (s.noteGrant c i r pre)
      let due := s1.admitDue r
      let x := s1.chan c
      let r1 := { r with due := due.1, late := due.2, lateAt := x.lateSeq,
                           seq := if r.master = 58 ∧ r.kind = .write then r.seq else x.seq }
      let s2 := s1.setChan c { x with seq := x.seq + 1, lateSeq := x.lateSeq + b2n due.2, idleSince := s.tb }
      let s3 := { s2 with reqs := s2.reqs.filter fun q => q.id != r.id }
      let s4 := if due.2 then s3.countLate c r1 else s3
      let s5 := s4.noteSample r fun y =>
        { y with chan := c, due := if due.2 then 0 else due.1 - s.units, held := x.rq.length,
                 bits := r.cls + b2n due.2 * 16 + b2n (r.input != .priv) * 32 }
      let s6 := match r1.kind with
        | .write => if r1.master = 58 then s5.admitBack c r1 else s5.admitWrite c r1
        | _ => s5.admitRead c r1
      if s3.copyRefuses r then s3.refuseReq r else (s6.nextGranule r1).updDrain c

def execRequestAdmit (ch : Fin 34) (s : State) : Outcome State Fault Refusal := .next (s.requestAdmit ch.val)

/-- The oldest writer's occurrence for a write-queue entry (R381). -/
def State.occEnt (s : State) (ev c : Nat) (w : WEnt) : State :=
  match w.writers with
  | v :: _ => s.occ { ev := ev, inst := c, title := v.master < 34 && (s.strand v.e v.t).title, master := v.master,
                      addr := v.addr, cls := w.cls }
  | [] => s.occ { ev := ev, inst := c, cls := w.cls }

/-- A queued request of channel `c` whose remaining count has reached 0 becomes overdue (R248). -/
def State.lateIn (s : State) (c id : Nat) : State :=
  let x := s.chan c
  match x.rq.find? fun r => r.id == id && !r.late && decide (r.due ≤ s.units) with
  | some r =>
    (s.setChan c { x with lateSeq := x.lateSeq + 1, rq := x.rq.map fun (q : Req) =>
        if q.id = id then { q with late := true, lateAt := x.lateSeq } else q }).countLate c r
  | none =>
    match x.wq.find? fun w => w.id == id && !w.late && decide (w.due ≤ s.units) with
    | some w =>
      ((s.setChan c { x with lateSeq := x.lateSeq + 1, wq := x.wq.map fun (q : WEnt) =>
          if q.id = id then { q with late := true, lateAt := x.lateSeq } else q }).addFld F.CH_OVERDUE_count c 0 1).occEnt
        0x24 c w
    | none => s

/-- REQUEST_OVERDUE (R248): request `id`, queued at some channel, reaches a remaining count of 0. -/
def State.requestOverdue (s : State) (id : Nat) : State := (List.range 34).foldl (fun s c => s.lateIn c id) s
def execRequestOverdue (id : Nat) (s : State) : Outcome State Fault Refusal := .next (s.requestOverdue id)

end Sys2Proof.Machine
end

