-- ==== Sys2Proof/Machine/Sequencer.lean ====
section
/-!
DEFINITION. A channel's sequencer: what takes a command slot (R253 to R257, R263), activations and row protection
(R276 to R278), refresh (R268 to R274), the frame boundary (R258 to R262, R273), the decode of a read (R289 to R297).
-/

namespace Sys2Proof.Machine
open Host

/-! ## Refresh debt (R268 to R274) -/

/-- The debt above which a bank's refresh is forced (R270, R274). -/
def Chan.forcedAt (x : Chan) (j : Nat) : Int := if x.paydown.contains j then 2 * x.refPm else x.refPm
/-- The debt from which a bank's refresh is claimed (R270, R274). -/
def Chan.claimAt (x : Chan) (j : Nat) : Int := if x.paydown.contains j then 1 else x.refClaim

def Chan.setDebt (x : Chan) (j : Nat) (d : Int) : Chan := { x with debt := smapPut 0 x.debt j d }

/-- A due point raises the debt, up to one above the forced level (R269); a debt already beyond new limits carries over (R272). -/
def Chan.duePoint (x : Chan) (j : Nat) : Chan :=
  x.setDebt j (max (x.debtOf j) (min (x.debtOf j + 1) (x.forcedAt j + 1)))

/-- One REFpb to bank `j` (R268, R269): the next 8 rows, the bank's row closed, the debt lowered, eight slots claimed; its
row counter's wrap clears the activation table (R278). -/
def State.refreshBank (s : State) (c j : Nat) (forced : Bool) : State :=
  let x := s.chan c
  let d := x.debtOf j - 1
  let n := (smapGet 0 x.rowCtr j + 1) % 8192
  let x1 := { (x.setDebt j d) with
    openRow := smapErase x.openRow j
    rowCtr := smapPut 0 x.rowCtr j n
    paydown := if d ≤ 0 then x.paydown.filter (· != j) else x.paydown
    slotsLeft := 7
    cmds := x.cmds + 1
    manual := x.manual.erase j }
  let s1 := ((s.setChan c x1).addFld F.CH_REF_COUNT_count c 0 1).occ { ev := 0x27, inst := c }
  let s2 := if forced then s1.addFld F.CH_REF_FORCED_count c 0 1 else s1
  let s3 := if x.manual.erase j = [] then s2.setFld F.CH_REF_CMD_busy c 0 0 else s2
  (if n = 0 then s3.clearRows c j true else s3).refStat c

/-! ## What can take a slot (R253, R254) -/

/-- A queued request or write as the sequencer ranks it. -/
structure Cand where
  wr : Bool
  seq : Nat
  gran : Nat
  cls : Nat
  due : Nat
  late : Bool
  lateAt : Nat
  deriving DecidableEq, Repr

/-- An activation for this granule would wait: the bank's queue of neighbour refreshes is full (R277). -/
def Chan.actHeld (x : Chan) (g : Nat) : Bool := !x.rowHit g && decide (2 ≤ (x.neighOf (bankOf g)).length)

/-- An older request or write of the same granule stands before this one (R36). -/
def Chan.behind (x : Chan) (g q : Nat) : Bool :=
  (x.rq.any fun r => r.gran == g && decide (r.seq < q)) || (x.wq.any fun w => w.gran == g && decide (w.seq < q))

/-- The reads whose bank is ready: not begun, the granule not locked, no older access to it (R266, R36). -/
def Chan.readCands (x : Chan) (ready : BitVec 32) : List Cand :=
  (x.rq.filter fun r => !r.inFlight && ready.getLsbD (bankOf r.gran) && !x.locked.contains r.gran &&
      !(x.rq.any fun q => q.gran == r.gran && decide (q.seq < r.seq))).map
    fun r => ⟨false, r.seq, r.gran, r.cls, r.due, r.late, r.lateAt⟩

/-- The writes whose bank is ready. -/
def Chan.writeCands (x : Chan) (ready : BitVec 32) : List Cand :=
  (x.wq.filter fun w => !w.merging && ready.getLsbD (bankOf w.gran) && !x.locked.contains w.gran && !x.behind w.gran w.seq).map
    fun w => ⟨true, w.seq, w.gran, w.cls, w.due, w.late, w.lateAt⟩

/-- `a` goes before `b` (R254): overdue in the order it became so; the least remaining count; a row hit; the oldest. -/
def Chan.before (x : Chan) (a b : Cand) : Bool :=
  if a.late != b.late then a.late
  else if a.late then decide (a.lateAt < b.lateAt)
  else if a.due ≠ b.due then decide (a.due < b.due)
  else if x.rowHit a.gran != x.rowHit b.gran then x.rowHit a.gran
  else decide (a.seq < b.seq)

def Chan.best (x : Chan) (l : List Cand) : Option Cand :=
  match l with
  | [] => none
  | a :: t => some (t.foldl (fun b y => if x.before y b then y else b) a)

/-- What the slot is given to. -/
inductive Slot where
  | refresh (bank : Nat) (forced : Bool)
  | neighbour (bank : Nat)
  | serve (c : Cand) (panic credit : Bool)
  | idle
  deriving DecidableEq, Repr

/-- The request candidates of the slot: of the chosen direction (R253), none of C4 to C7 beyond a throttle's cap (R263),
none whose activation is held (R277). -/
def State.slotCands (s : State) (c : Nat) (ready : BitVec 32) : List Cand :=
  let x := s.chan c
  let ok (k : Cand) : Bool := !x.actHeld k.gran && !(bitOf s.throttle c && 4 ≤ k.cls && 128 ≤ x.bulkSlots)
  let rd := (x.readCands ready).filter ok
  let wr := (x.writeCands ready).filter ok
  let panicRead := s.fldB F.CH_STATUS_panic c 0 && decide (x.wq.length < 64) && rd.any fun k => k.cls == 0
  if s.fldB F.CH_STATUS_drain c 0 && !panicRead then (if wr.isEmpty then rd else wr)
  else if rd.isEmpty then wr else rd

/-- A bank is idle: nothing is queued for it. -/
def Chan.bankIdle (x : Chan) (j : Nat) : Bool :=
  !(x.rq.any fun r => bankOf r.gran == j) && !(x.wq.any fun w => bankOf w.gran == j)

/-- The choice of R254. -/
def State.slotChoice (s : State) (c : Nat) (ready : BitVec 32) : Slot :=
  let x := s.chan c
  let banks := (List.range 32).filter fun j => ready.getLsbD j
  let cands := s.slotCands c ready
  let owner := s.slotOwner c x.pos
  match x.deepest (banks.filter fun j => decide (x.forcedAt j < x.debtOf j)) with
  | some j => .refresh j true
  | none =>
    match (if s.fldB F.CH_STATUS_panic c 0 then x.best (cands.filter fun k => k.cls == 0) else none) with
    | some k => .serve k true false
    | none =>
      match x.deepest (banks.filter fun j => decide (x.claimAt j ≤ x.debtOf j) || x.manual.contains j) with
      | some j => .refresh j false
      | none =>
        match x.deepest (banks.filter fun j => !(x.neighOf j).isEmpty) with
        | some j => .neighbour j
        | none =>
          match x.best (cands.filter fun k => some k.cls == owner) with
          | some k => .serve k false false
          | none =>
            match (List.range 8).findSome? fun k =>
                if 0 < smapGet 0 x.credit k then x.best (cands.filter fun y => y.cls == k) else none with
            | some k => .serve k false true
            | none =>
              match x.best cands with
              | some k => .serve k false false
              | none =>
                match x.deepest (banks.filter fun j => !x.paydown.contains j && x.bankIdle j && decide (-(x.refPull : Int) < x.debtOf j)) with
                | some j => .refresh j false
                | none => .idle

/-! ## Serving a request -/

/-- Requests that wait because an activation is held are counted once each (R277). -/
def State.countHeld (s : State) (c : Nat) (ready : BitVec 32) : State :=
  let x := s.chan c
  let hr (r : Req) : Bool := !r.rpHeld && !r.inFlight && ready.getLsbD (bankOf r.gran) && x.actHeld r.gran
  let hw (w : WEnt) : Bool := !w.rpHeld && !w.merging && ready.getLsbD (bankOf w.gran) && x.actHeld w.gran
  let n := (x.rq.filter hr).length + (x.wq.filter hw).length
  if n = 0 then s
  else
    (s.setChan c { x with rq := x.rq.map fun (r : Req) => if hr r then { r with rpHeld := true } else r,
                          wq := x.wq.map fun (w : WEnt) => if hw w then { w with rpHeld := true } else w }).addFld
      F.CH_RP_HOLD_count c 0 n

/-- Serve a read or atomic: it goes to the DRAM; an atomic's or the Fixer's granule is locked (R266, R302). -/
def State.serveRead (s : State) (c : Nat) (r : Req) : State :=
  let hit := (s.chan c).rowHit r.gran
  let s0 := s.noteSample r fun y => if hit then y.setBit 3 else y
  let s1 := s0.openFor c r.gran { ev := 0x22, inst := c, title := s.reqTitle r, master := r.master, addr := r.waddr, cls := r.cls }
  let x := s1.chan c
  s1.setChan c { x with
    rq := x.rq.map fun (q : Req) => if q.id = r.id then { q with inFlight := true } else q
    locked := if r.kind = .atomic ∨ r.master = 58 then r.gran :: x.locked else x.locked }

/-- Serve a write: a whole granule is stored, and where the Fixer's poison was laid over writes that waited their writers are told; fewer bytes wait for their merge read (R295, R296). -/
def State.serveWrite (s : State) (c : Nat) (w : WEnt) : State :=
  let v := w.writers.headD { master := 0x3F, e := 63, t := 0, fpc := 0, addr := 0 }
  let s1 := s.openFor c w.gran { ev := 0x22, inst := c, title := v.master < 34 && (s.strand v.e v.t).title, master := v.master,
                                 addr := v.addr, cls := w.cls }
  let x := s1.chan c
  if w.bytes.length = 64 then
    let s2 := (s1.setChan c { x with wq := x.wq.filter fun q => q.id != w.id }).countWr c w.cls
    let s3 := if w.poison then (s2.storePoison c w.gran (w.bytes.map (·.2))).tellMerged c (w.writers.filter fun v => v.master != 58)
      else s2.storeWhole c w.gran w.bytes
    (s3.occEnt 0x21 c w).updDrain c
  else s1.setChan c { x with wq := x.wq.map fun (q : WEnt) => if q.id = w.id then { q with merging := true } else q }

def State.serveCand (s : State) (c : Nat) (k : Cand) : State :=
  let x := s.chan c
  let s1 := s.setChan c { x with bulkSlots := if 4 ≤ k.cls then x.bulkSlots + 1 else x.bulkSlots, idleSince := s.tb }
  if k.wr then (match x.wq.find? fun w => w.seq == k.seq with | some w => s1.serveWrite c w | none => s1)
  else (match x.rq.find? fun r => r.seq == k.seq with | some r => s1.serveRead c r | none => s1)

/-! ## One slot (R254 to R256) -/

def Chan.addCredit (x : Chan) (o : Option Nat) : Chan :=
  match o with
  | none => x
  | some k => { x with credit := smapPut 0 x.credit k (smapGet 0 x.credit k + 1) }
def Chan.spendCredit (x : Chan) (k : Nat) : Chan :=
  { x with credit := smapPut 0 x.credit k (smapGet 0 x.credit k - 1) }

/-- The next position, with a credit for the owner where it has lost its slot (R255). -/
def State.nextSlot (s : State) (c : Nat) (lost : Option Nat) : State :=
  let x := s.chan c
  s.setChan c { (x.addCredit lost) with pos := x.pos + 1 }

/-- SEQUENCER_SLOT (R254): one command slot of the frame, `ready` the banks whose timing allows a command. A void position
and a slot that an earlier refresh still claims go by. At the end of a frame the boundary comes first. -/
def State.sequencerSlot (s : State) (c : Nat) (ready : BitVec 32) : State :=
  let x := s.chan c
  let owner := s.slotOwner c x.pos
  if !s.works c || 256 ≤ x.pos then s
  else if voidPos (s.halves c) x.pos then s.nextSlot c owner
  else if x.slotsLeft ≠ 0 then (s.setChan c { x with slotsLeft := x.slotsLeft - 1 }).nextSlot c owner
  else
    let s0 := s.countHeld c ready
    match s0.slotChoice c ready with
    | .refresh j forced => (s0.refreshBank c j forced).nextSlot c owner
    | .neighbour j => (s0.neighbourStep c j).nextSlot c owner
    | .serve k panic credit =>
      let s1 := (s0.serveCand c k).nextSlot c (if panic && owner != some k.cls then owner else none)
      if credit then s1.setChan c ((s1.chan c).spendCredit k.cls) else s1
    | .idle => s0.nextSlot c none

def execSequencerSlot (ch : Fin 34) (ready : BitVec 32) (s : State) : Outcome State Fault Refusal :=
  .next (s.sequencerSlot ch.val ready)

/-! ## The slot table (R258 to R262) -/

/-- The first free position at or after `t`, wrapping. -/
def firstFree (tab : List Nat) (t : Nat) : Option Nat :=
  (List.range 256).findSome? fun k => if tab.getD ((t + k) % 256) 0 = 8 then some ((t + k) % 256) else none

/-- The table the weights build at limit `lim` (R258). -/
def buildSlots (weights : List Nat) (lim : Nat) : List Nat :=
  let w := weights.foldl (· + ·) 0
  (List.range 8).foldl (fun tab c =>
    let g := if w = 0 then 0 else lim * weights.getD c 0 / w
    (List.range g).foldl (fun tab i =>
      match firstFree tab ((i * 256 / g + c) % 256) with
      | some p => tab.set p c
      | none => tab) tab) (List.replicate 256 8)

def ownedIn (tab : List Nat) : Nat := (tab.filter (· < 8)).length

/-- The active slot table. -/
def State.slotTable (s : State) (c : Nat) : List Nat := (List.range 256).map fun p => s.fld (slotFld p) c (p / 8)
/-- The table written into the shadow of CH_SLOT00 to CH_SLOT31. -/
def State.slotShadow (s : State) (c : Nat) : List Nat := (List.range 256).map fun p => s.shd (slotFld p) c (p / 8)

def State.setTable (s : State) (c : Nat) (tab : List Nat) : State :=
  (tab.zipIdx.foldl (fun s e => s.setFld (slotFld e.2) c (e.2 / 8) e.1) s).setFld F.CH_SLOT_LIMIT_owned c 0 (ownedIn tab)

def weightFlds : List Fld :=
  [F.CH_WEIGHT_LO_c0, F.CH_WEIGHT_LO_c1, F.CH_WEIGHT_LO_c2, F.CH_WEIGHT_LO_c3,
   F.CH_WEIGHT_HI_c4, F.CH_WEIGHT_HI_c5, F.CH_WEIGHT_HI_c6, F.CH_WEIGHT_HI_c7]

/-- The guaranteed limit of a frame (R261). -/
def slotLimit (doubled : Bool) (halves : Nat) : Nat :=
  (match halves with | 0 => 256 | 1 => 192 | _ => 128) - (if doubled then 48 else 32)

/-- The check of a pending commit at the frame boundary (R258 to R260). -/
def State.slotCommit (s : State) (c lim : Nat) : State :=
  if !s.fldB F.CH_SLOTCOMMIT_pending c 0 then s
  else
    let s0 := s.setFld F.CH_SLOTCOMMIT_pending c 0 0
    let tab := if s.shd F.CH_SCHED_level c 0 = 0 then buildSlots (weightFlds.map fun f => s.shd f c 0) lim else s.slotShadow c
    if ownedIn tab ≤ lim then
      (((s0.commitFlds (F.CH_SCHED_level :: weightFlds) c 1).setTable c tab)).setFld F.CH_SLOTCOMMIT_result c 0 0
    else s0.setFld F.CH_SLOTCOMMIT_result c 0 0x22

/-- The position freed next (R262): the highest class that still owns entries, its highest position. -/
def revokeNext (tab : List Nat) : Option (Nat × Nat) :=
  ((List.range 8).reverse).findSome? fun k =>
    (((List.range 256).reverse).find? fun p => tab.getD p 8 == k).map fun p => (k, p)

def revokeAll : Nat → List Nat → Nat → List Nat × List Nat
  | 0, tab, _ => (tab, [])
  | n + 1, tab, lim =>
    if ownedIn tab ≤ lim then (tab, [])
    else
      match revokeNext tab with
      | none => (tab, [])
      | some (k, p) => let r := revokeAll n (tab.set p 8) lim; (r.1, k :: r.2)

/-- The revocation count of a class: byte `k` of the pair (CH_SLOT_REVOKED). -/
def State.countRevoked (s : State) (c k : Nat) : State :=
  let v := s.fld F.CH_SLOT_REVOKED_class c 0
  s.setFld F.CH_SLOT_REVOKED_class c 0 (putBits v (8 * k) 8 (min 255 (bitsOf v (8 * k) 8 + 1)))

/-- Set bit `c` of RG_OVERCOMMIT. -/
def State.markOvercommit (s : State) (c : Nat) : State :=
  s.setFld F.RG_OVERCOMMIT_channel 0 0 (s.fld F.RG_OVERCOMMIT_channel 0 0 ||| 2 ^ c)

/-- SLOT_REVOKE (R262). -/
def State.revoke (s : State) (c lim : Nat) : State :=
  let r := revokeAll 256 (s.slotTable c) lim
  if r.2.isEmpty then s
  else
    (((r.2.foldl (fun s k => s.countRevoked c k) (s.setTable c r.1)).markOvercommit c).setFld
      F.GLOBAL_STATUS_overcommit 0 0 1).raise { group := 54, src := 0, inst := c, addr := c }

/-! ## The frame boundary (R261, R271 to R275) -/

/-- The refresh rate changes (R273, R275): at a change back to the normal rate the debts stand and pay-down goes on. -/
def Chan.rateChange (x : Chan) (doubled : Bool) : Chan :=
  if doubled then
    (List.range 32).foldl (fun x j =>
      let d := x.debtOf j
      if 0 < d then { (x.setDebt j (2 * d)) with paydown := x.paydown.filter (· != j) ++ [j] }
      else x.setDebt j 0) x
  else x

/-- The stagger order the expert registers give: valid if it names each bank once (R272). -/
def State.orderTable (s : State) (c : Nat) : List Nat :=
  (List.range 8).flatMap fun n =>
    [s.fld F.CH_REF_ORDER_e0 c n, s.fld F.CH_REF_ORDER_e1 c n, s.fld F.CH_REF_ORDER_e2 c n, s.fld F.CH_REF_ORDER_e3 c n]

def orderOk (l : List Nat) : Bool := (List.range 32).all fun j => l.contains j

/-- The refresh parameters in force for the coming frame (R271, R272). -/
def State.refParams (s : State) (c : Nat) : State :=
  let x := s.chan c
  if s.fld F.CH_REF_level c 0 = 0 then
    let hidden := s.fld F.CH_REF_policy c 0 == 1
    s.setChan c { x with refPm := 8, refClaim := if hidden then 4 else 1, refPull := if hidden then 4 else 0, refLevel := 0,
                         refOrder := [] }
  else
    let pm := min 8 (s.fld F.CH_REF_EXPERT_postpone_max c 0)
    let ca := s.fld F.CH_REF_EXPERT_claim_at c 0
    let ca1 := if ca = 0 ∨ pm < ca then max 1 pm else ca
    let tab := s.orderTable c
    let en := s.fldB F.CH_REF_EXPERT_order_en c 0
    let s1 := s.setChan c { x with refPm := pm, refClaim := ca1, refPull := min 8 (s.fld F.CH_REF_EXPERT_pull_in_max c 0),
                                   refLevel := 1, refOrder := if en && orderOk tab then tab else [] }
    if en && !orderOk tab then s1.setFld F.CH_REF_STAT_order_err c 0 1 else s1

/-- The lines of half 0 or half 1 (R325). DEDUCED, unsafe (log 55). -/
def halfLines (h : Nat) : List Nat := List.range' (16 * h) 16 ++ [32 + 2 * h, 33 + 2 * h]

/-- The line a PC has erased, if any (R290). -/
def State.erasedLine (s : State) (c pc : Nat) : Option Nat :=
  if pc = 0 then (if s.fldB F.CH_ECC_ERASE_pc0_valid c 0 then some (s.fld F.CH_ECC_ERASE_pc0_line c 0) else none)
  else (if s.fldB F.CH_ECC_ERASE_pc1_valid c 0 then some (s.fld F.CH_ECC_ERASE_pc1_line c 0) else none)

def State.setErase (s : State) (c pc : Nat) (l : Option Nat) : State :=
  if pc = 0 then (s.setFld F.CH_ECC_ERASE_pc0_valid c 0 (b2n l.isSome)).setFld F.CH_ECC_ERASE_pc0_line c 0 (l.getD 0)
  else (s.setFld F.CH_ECC_ERASE_pc1_valid c 0 (b2n l.isSome)).setFld F.CH_ECC_ERASE_pc1_line c 0 (l.getD 0)

/-- The lines of PC `pc` in a list of `PC × 64 + line`. -/
def linesOf (pc : Nat) (l : List Nat) : List Nat := (l.filter fun k => k / 64 == pc).map (· % 64)

/-! ## The repair multiplexers (R308, R314) -/

/-- The logical channel that physical channel `c` serves (R242). -/
def State.logicalAt (s : State) (c : Nat) : Option Nat :=
  (List.range 32).find? fun l =>
    (s.fld F.RG_CHMAP_phys l 0 == c && s.fld F.RG_CHMAP_state l 0 != 2) ||
    (s.fld F.RG_CHMAP_old l 0 == c && s.fld F.RG_CHMAP_state l 0 == 1)

/-- Serving a logical channel. -/
def State.serves (s : State) (c : Nat) : Bool :=
  s.fld F.CH_ID_state c 0 == 2 || (s.fld F.CH_ID_state c 0 == 3 && (s.logicalAt c).isSome)

/-- Work waits for a maintenance stall of the channel (R314). -/
def State.askStall (s : State) (c : Nat) (w : StallWork) : State :=
  s.setChan c { s.chan c with stallQ := (s.chan c).stallQ ++ [w] }

/-- The repair multiplexers run a line on another TSV (R308). -/
def State.setMux (s : State) (c key tsv : Nat) : State :=
  s.setChan c { s.chan c with mux := smapInsert (s.chan c).mux key tsv }

/-- A line is steered onto another TSV: in a maintenance stall of a channel in service, elsewhere at once. -/
def State.steer (s : State) (c key tsv : Nat) : State :=
  if s.serves c then s.askStall c (.steer key tsv s.tb) else s.setMux c key tsv

/-- The dead lines of a pseudo-channel that is to go to half width: the erased line and those newly dead. -/
def State.deadLines (s : State) (c pc : Nat) : List Nat := (s.erasedLine c pc).toList ++ linesOf pc (s.chan c).newDead

/-- Pseudo-channel `pc` goes to half width (R325): the half with fewer dead lines is kept, its dead lines are steered onto the lowest
healthy lines of the other half, the erasure is cleared, and the conversion starts; it waits where the other pseudo-channel still
converts, since CH_CONV_CUR shows one cursor. DEDUCED, unsafe (log 55). -/
def State.widthOf (s : State) (c pc : Nat) : State :=
  let x := s.chan c
  let bad := s.deadLines c pc
  let n (h : Nat) : Nat := (bad.filter fun l => (halfLines h).contains l).length
  let kept := if n 1 < n 0 then 1 else 0
  let moves := (bad.filter fun l => (halfLines kept).contains l).zip ((halfLines (1 - kept)).filter fun l => !bad.contains l)
  let runs := s.fldB F.CH_TSV_STAT_converting c 0
  let x1 := { x with
    wantHalf := x.wantHalf &&& (3 - 2 ^ pc)
    convLines := if runs then x.convLines else bad
    convWait := if runs then some (pc, bad) else x.convWait
    newDead := x.newDead.filter fun k => k / 64 != pc
    used := x.used ++ bad.map (lineKey pc) ++ moves.map fun m => lineKey pc m.2 }
  let s1 := (((s.setChan c x1).setErase c pc none).setFld F.CH_TSV_STAT_kept c 0 (putBits (s.fld F.CH_TSV_STAT_kept c 0) pc 1 kept)).setFld
    F.CH_TSV_STAT_half c 0 (s.fld F.CH_TSV_STAT_half c 0 ||| 2 ^ pc)
  let s2 := if runs then s1
    else ((s1.setFld F.CH_TSV_STAT_converting c 0 1).setFld F.CH_CONV_CUR_pc c 0 pc).setFld F.CH_CONV_CUR_row c 0 0
  moves.foldl (fun s m => s.steer c (lineKey pc m.1) m.2) s2

/-- The width changes asked for since the last frame take effect (R325). -/
def State.widthChange (s : State) (c : Nat) : State :=
  (List.range 2).foldl (fun s pc => if bitOf (s.chan c).wantHalf pc then s.widthOf c pc else s) s

/-! ## The Fixer's next read (R300, R301) -/

/-- The initialised-block bit of block `b` (R299). -/
def State.initBit (s : State) (c b : Nat) : Bool := bitOf (s.fld F.CH_FIX_INIT_block c (b / 32)) (b % 32)

/-- The world address of granule `g` of physical channel `c`, through the map and the striped regions (R241 to R246). A channel
no logical channel is bound to gives the address of its own number. -/
def State.worldOf (s : State) (c g : Nat) : Nat :=
  let l := (s.logicalAt c).getD c
  let u := g / 64
  match s.stripes.find? fun x => x.ch ≤ l && l < x.ch + x.ways && x.base ≤ u && u < x.base + x.units with
  | some x => x.ch * 2 ^ 31 + (x.base + (u - x.base) * x.ways + (l - x.ch)) * 4096 + g % 64 * 64
  | none => l * 2 ^ 31 + g * 64

/-- The next granule of a marked block at or after the cursor, and whether the walk wraps (R300). -/
def State.fixNext (s : State) (c : Nat) : Option (Nat × Bool) :=
  let cur := s.fld F.CH_FIX_STAT_cursor c 0
  let b := cur / 65536
  ((List.range 513).find? fun k => s.initBit c ((b + k) % 512)).map fun k =>
    (if k = 0 then cur else (b + k) % 512 * 65536, decide (512 ≤ b + k))

/-- The Fixer issues its next read: class C3, master 58; the spec gives it no deadline, so it carries the furthest. -/
def State.fixIssue (s : State) (c : Nat) : State :=
  match s.fixNext c with
  | none => s
  | some (g, wrap) =>
    let last := g + 1 == 2 ^ 25
    let s1 := s.setFld F.CH_FIX_STAT_cursor c 0 ((g + 1) % 2 ^ 25)
    let s2 := if wrap || last then s1.addFld F.CH_FIX_PASSES_passes c 0 1 else s1
    let s3 := s2.setChan c { s2.chan c with fixer := some s2.nextReq }
    s3.sendReq { id := 0, op := 0, master := 58, kind := .read, phys := c, gran := g, waddr := s.worldOf c g, cls := 3 }
      (2 ^ 64 - 1)

/-- While reads are owed, the Fixer of a channel in service issues one per frame (R300, R301). -/
def State.fixCatchUp (s : State) (c : Nat) : State :=
  let n := s.fld F.CH_FIX_OWED_owed c 0
  if 0 < n && s.inService c && (s.chan c).fixer.isNone && s.fldB F.CH_FIX_CTRL_enable c 0 && s.mode != 5 then
    (s.setFld F.CH_FIX_OWED_owed c 0 (n - 1)).fixIssue c
  else s

/-- FRAME_BOUNDARY (R261): the frame's end. Rate and width changes take effect, a pending slot commit is checked against
the coming frame's limit, entries beyond it are revoked, credits lapse, and refresh parameters apply. -/
def State.frameBoundary (s : State) (c : Nat) : State :=
  let x := s.chan c
  if !s.works c || x.pos < 256 then s
  else
    let was := s.fldB F.CH_REF_STAT_doubled c 0
    let x1 := { (if x.wantDouble != was then x.rateChange x.wantDouble else x) with pos := 0, credit := [], bulkSlots := 0 }
    let s1 := ((s.setChan c x1).setFld F.CH_REF_STAT_doubled c 0 (b2n x.wantDouble)).widthChange c
    let lim := slotLimit x.wantDouble (s1.halves c)
    let s2 := ((s1.setFld F.CH_SLOT_LIMIT_limit c 0 lim).setFld F.CH_SLOT_LIMIT_reserve c 0 (if x.wantDouble then 48 else 32)).setFld
      F.CH_SLOT_LIMIT_width c 0 (s1.halves c)
    ((((s2.slotCommit c lim).revoke c lim).refParams c).refStat c).fixCatchUp c

end Sys2Proof.Machine
end

