-- ==== Sys2Proof/Machine/Complete.lean ====
section
/-!
DEFINITION. What the DRAM answers and what completes an operation: the decode of a read and of a merge read (R289 to R297),
loads, stores, atomics, FILL and scratch DMA (R36, R37, R75 to R77, R266, R299), and completion-time traps (R46, R47).
-/

namespace Sys2Proof.Machine
open Host

/-! ## Decode of a read (R289 to R294) -/

/-- The channel at which request `id` is with the DRAM. -/
def State.inFlightAt (s : State) (id : Nat) : Option (Nat × Req) :=
  (List.range 34).findSome? fun c =>
    ((s.chan c).rq.find? fun r => r.id == id && r.inFlight && r.master != 58).map fun r => (c, r)

/-- Remove a request from the read queue. -/
def State.dropRead (s : State) (c id : Nat) : State :=
  let x := s.chan c
  s.setChan c { x with rq := x.rq.filter fun r => r.id != id, idleSince := s.tb }

/-- DRAM_READ_DECODE: the granule of request `id` has been read from the DRAM and is decoded; older queued bytes lie over it.
A bad outcome is reported to the operation; an atomic goes on to its computation (R266, R294). -/
def State.dramReadDecode (s : State) (id : Nat) (ups : List SymErr) : State :=
  match s.inFlightAt id with
  | none => s
  | some (c, r) =>
    let q := (s.chan c).queued r.gran r.seq
    let d := if q.length = 64 then (({ out := .clean, data := overlay (List.replicate 64 0) q, errs := [], counted := some 0 } : Dec), s)
             else s.decode c r.gran ups
    let acc := if r.kind = .atomic then 2 else 0
    let s1 := ((d.2.demand c r.gran r.waddr r.master acc d.1).countRd c r.cls).noteSample r fun y => y.corrected d.1.out
    let s2 := if d.1.out = .corrected then s1.occReq 0x2A c r else s1
    let s3 := if r.kind = .atomic ∧ !d.1.out.bad then s2 else (s2.dropRead c id).unlockGran c r.gran
    match s3.findOp r.op with
    | none => s3
    | some o =>
      if d.1.out.bad then s3.readFailed o d.1.out r.waddr
      else (s3.occReq 0x20 c r).deliverRead r (overlay d.1.data q)
def execDramReadDecode (id : Nat) (ups : List SymErr) (s : State) : Outcome State Fault Refusal :=
  .next (s.dramReadDecode id ups)

/-! ## Decode of a merge read (R296, R297) -/

/-- MERGE_READ_DECODE: the old granule of a partial write has been read; the merge is stored, poisoned where the old granule
was bad; a granule newly poisoned enters the UE list. DESIGN CHOICE, unsafe (log 60). -/
def State.mergeReadDecode (s : State) (c g : Nat) (ups : List SymErr) : State :=
  match (s.chan c).wq.find? fun w => w.gran == g && w.merging with
  | none => s
  | some w =>
    let v := w.writers.headD { master := 0x3F, e := 63, t := 0, fpc := 0, addr := 0 }
    let (d, s1) := s.decode c g ups
    let x := s1.chan c
    let o : Occ := { ev := 0x2A, inst := c, title := v.master < 34 && (s.strand v.e v.t).title, master := v.master, addr := v.addr, cls := w.cls }
    let s1b := ((s1.setChan c { x with wq := x.wq.filter (fun q => q.id != w.id), idleSince := s.tb }).countRd c w.cls).countWr c w.cls
    let s2 := (if d.out = .corrected then s1b.occ o else s1b).touchRow c g
    let s3 := (s2.demand c g v.addr v.master 1 d).occEnt 0x21 c w
    let img := overlay d.data w.bytes
    let s4 :=
      if d.out.bad then
        let s5 := (s3.storePoison c g img).tellWriters c w.writers
        if d.out = .uncorrectable then s5.ueEnter c g v.addr 2 v.master d.counted else s5
      else s3.storeWhole c g (bytesAt 0 img)
    s4.updDrain c
def execMergeReadDecode (ch : Fin 34) (g : BitVec 25) (ups : List SymErr) (s : State) : Outcome State Fault Refusal :=
  .next (s.mergeReadDecode ch.val g.toNat ups)

/-! ## Completions -/

/-- The value a load's register takes: sign-extended for LD, zero-extended for the others (R73). -/
def loadValue (o : Op) (v : Nat) : Nat := if o.kind = .ld then signExt (8 * o.len) 64 v else v

/-- WORLD_LOAD_COMPLETE (R37): the data of load `id` have arrived and its register is written; its latency is counted. -/
def State.worldLoadComplete (s : State) (id : Nat) : State :=
  match s.findOp id with
  | none => s
  | some o =>
    match o.kind, o.st with
    | .ld, .data v | .ldu, .data v | .vld, .data v =>
      (s.occ { ev := 0x06, inst := o.e, inc := s.tb - o.issued, title := (s.strand o.e o.t).title, addr := o.addr,
               cls := s.classOf o.addr }).completeOp o (loadValue o v)
    | _, _ => s
def execWorldLoadComplete (id : Nat) (s : State) : Outcome State Fault Refusal := .next (s.worldLoadComplete id)

/-- STORE_ACKNOWLEDGE (R36): every channel that must hold the store has accepted it. -/
def State.storeAcknowledge (s : State) (id : Nat) : State :=
  match s.findOp id with
  | none => s
  | some o =>
    match o.kind with
    | .st | .vst => if o.need = 0 then s.ackOp o else s
    | _ => s
def execStoreAcknowledge (id : Nat) (s : State) : Outcome State Fault Refusal := .next (s.storeAcknowledge id)

/-- FILL_COMPLETE (R75): the last granule has been accepted. -/
def State.fillComplete (s : State) (id : Nat) : State :=
  match s.findOp id with
  | none => s
  | some o =>
    if o.kind = .fill ∧ o.prog = o.granules ∧ o.need = 0 then (s.fillMarks o.addr o.len).ackOp o else s
def execFillComplete (id : Nat) (s : State) : Outcome State Fault Refusal := .next (s.fillComplete id)

/-- SDMA_COMPLETE (R76): the last granule has completed; the buffers are released and pass to a waiter. -/
def State.sdmaComplete (s : State) (id : Nat) : State :=
  match s.findOp id with
  | none => s
  | some o =>
    if (o.kind = .sdmaIn ∨ o.kind = .sdmaOut) ∧ o.st = .sent ∧ o.prog = o.granules ∧ o.need = 0 then
      (s.ackOp o).releaseDma o.e o.t
    else s
def execSdmaComplete (id : Nat) (s : State) : Outcome State Fault Refusal := .next (s.sdmaComplete id)

/-! ## Atomics (R77, R266) -/

/-- The operand in a granule image, and the image with the operand replaced. -/
def operandOf (img : List Byte) (wa n : Nat) : Nat := sliceOf img wa n
def withOperand (img : List Byte) (wa n v : Nat) : List Byte := overlay img (bytesAt (wa % 64) (leBytes n v))

/-- ATOMIC_COMPLETE (R266, R77): the unit computes the new operand, the whole granule enters the write queue of every channel
that must hold it, the granule is unlocked and the old value returns. -/
def State.atomicComplete (s : State) (id : Nat) : State :=
  match s.findOp id with
  | none => s
  | some o =>
    match o.kind, o.st with
    | .amo op _, .data v =>
      match (List.range 34).findSome? fun c => ((s.chan c).rq.find? fun r => r.op == id).map fun r => (c, r) with
      | none => s
      | some (c, r) =>
        let img := leBytes 64 v
        let old := operandOf img o.addr o.len
        let w : WEnt := { id := r.id, gran := r.gran, seq := r.seq, cls := r.cls, due := r.due, late := r.late,
                          bytes := bytesAt 0 (withOperand img o.addr o.len (amoNew op o.len old o.a1 o.a2)),
                          writers := [{ master := r.master, e := o.e, t := o.t, fpc := o.fpc, addr := o.addr }] }
        let others := match s.place o.addr with
          | .at l off => (match s.route l off with | some t => t.wr.filter (· != c) | none => [])
          | .backing => []
        if !(s.chan c).roomWhole w.gran w.seq || others.any fun p => !(s.chan p).roomWhole w.gran (s.chan p).seq then s
        else
          let s1 := s.setChan c ((s.chan c).enterWhole w)
          let s2 := others.foldl (fun s p => let y := s.chan p
            (s.setChan p { (y.enterWhole { w with seq := y.seq }) with seq := y.seq + 1 }).updDrain p) s1
          ((((s2.dropRead c r.id).unlockGran c r.gran).updDrain c).completeOp o old).forwardWaiting c r.gran 96
    | _, _ => s
def execAtomicComplete (id : Nat) (s : State) : Outcome State Fault Refusal := .next (s.atomicComplete id)

/-! ## Completion-time traps (R46, R47) -/

/-- A waiting request of the strand is withdrawn with no effect (R46). -/
def State.withdrawWait (s : State) (e t : Nat) : State :=
  match (s.strand e t).wait with
  | some (.lock op _) | some (.slot op _) | some (.dma op) =>
    (match s.findOp op with | some o => (s.endOp o).dropSamples fun y => y.op == op | none => s)
  | some (.tick _ _) => s.dropSamples fun y => y.op == tickOp e t
  | _ => s

/-- COMPLETION_TRAP (R46): a strand's report is delivered: it issues nothing further, a tracked wait ends and runs again after
the handler, and the trap is taken with the next instruction not yet issued as its PC. -/
def State.completionTrap (s : State) (e t : Nat) : State :=
  let x := s.strand e t
  match x.report with
  | none => s
  | some r =>
    if x.st = .trapped ∨ x.st = .disabled then s
    else
      let s1 := s.withdrawWait e t
      ((s1.setStrand e t { (s1.strand e t) with wait := none }).endToken e).takeTrap e t r.trap x.pc.toNat r.fpc.toNat x.more
def execCompletionTrap (e : Fin 35) (t : Fin 16) (s : State) : Outcome State Fault Refusal := .next (s.completionTrap e.val t.val)

end Sys2Proof.Machine
end

