-- ==== Sys2Proof/Machine/Protect.lean ====
section
/-!
DEFINITION. The rest of a channel: commits of its tables (R252, R253, R260), refresh commands (R269, R272), row protection and
self-refresh (R280 to R285), the Fixer and the UE list (R300 to R306), the channel map and migration copies (R242 to R244),
class ranges and striped regions (R246), and the TSV failure ladder (R312, R314, R323 to R327).
-/

namespace Sys2Proof.Machine
open Host

/-! ## Commits and plain commands -/

/-- CH_ARB_COMMIT (R252). DESIGN CHOICE, safe (log 57). -/
def execChArbCommit (ch : Fin 34) (s : State) : Outcome State Fault Refusal :=
  .next (s.commitFlds
    [F.CH_ARB_PRIO_c0, F.CH_ARB_PRIO_c1, F.CH_ARB_PRIO_c2, F.CH_ARB_PRIO_c3, F.CH_ARB_PRIO_c4, F.CH_ARB_PRIO_c5,
     F.CH_ARB_PRIO_c6, F.CH_ARB_PRIO_c7, F.CH_ARB_CTRL_burst, F.CH_ARB_CTRL_park] ch.val 1)

/-- A write of CH_SCHED (R253): refused where low is not below high, or high is above 64. Its `level` is shadowed (R258). -/
def State.chSchedWrite (s : State) (c v : Nat) : State :=
  let lo := bitsOf v 0 8
  let hi := bitsOf v 8 8
  if hi ≤ lo ∨ 64 < hi then s.setFld F.CH_STATUS_sched_err c 0 1
  else ((s.setFld F.CH_SCHED_wq_low c 0 lo).setFld F.CH_SCHED_wq_high c 0 hi).setShd F.CH_SCHED_level c 0 (bitsOf v 31 1)
def execChSchedWrite (ch : Fin 34) (v : Word32) (s : State) : Outcome State Fault Refusal :=
  .next (s.chSchedWrite ch.val v.toNat)

/-- CH_SLOTCOMMIT (R260): the commit waits for the frame boundary; one that waits already is not affected. -/
def execChSlotcommit (ch : Fin 34) (s : State) : Outcome State Fault Refusal :=
  .next (s.setFld F.CH_SLOTCOMMIT_pending ch.val 0 1)

/-- CHANNEL_PANIC_LIMIT (R264): one event for a panic that has lasted, without a break, for longer than the limit. -/
def State.panicLimit (s : State) (c : Nat) : State :=
  let x := s.chan c
  if s.fldB F.CH_STATUS_panic c 0 && !x.panicTold && decide (x.panicSince + s.fld F.CH_PANIC_limit_us c 0 * 1000 < s.tb) then
    (s.setChan c { x with panicTold := true }).raise { group := 54, src := 1, inst := c, addr := c }
  else s
def execChannelPanicLimit (ch : Fin 34) (s : State) : Outcome State Fault Refusal := .next (s.panicLimit ch.val)

/-- RG_CNT_CLR (R265). -/
def State.clearCounts (s : State) : State :=
  (List.range 34).foldl (fun s c => (List.range 8).foldl (fun s k =>
    (s.setFld F.RG_CNT_RD_granules c k 0).setFld F.RG_CNT_WR_granules c k 0) s) s
def execRgCntClr (s : State) : Outcome State Fault Refusal := .next s.clearCounts

/-! ## Refresh (R269, R272) and row protection (R280) -/

/-- REFRESH_DUE_POINT (R269): a bank of a channel in service owes one more refresh. In self-refresh the die refreshes itself. -/
def State.refreshDue (s : State) (c j : Nat) : State :=
  if s.inService c then (s.setChan c ((s.chan c).duePoint j)).refStat c else s
def execRefreshDuePoint (ch : Fin 34) (bank : Fin 32) (s : State) : Outcome State Fault Refusal :=
  .next (s.refreshDue ch.val bank.val)

/-- A manual refresh is refused at level 0, and where it, with those asked for before it, would take the debt below −pull_in_max
(R272). -/
def State.manualRefused (s : State) (c j : Nat) : Bool :=
  let x := s.chan c
  x.refLevel == 0 || decide (x.debtOf j - x.manual.count j - 1 < -(x.refPull : Int))

/-- MANUAL_REFRESH (R272): the bank is refreshed once at the claimed level by the next slots. -/
def State.manualRefresh (s : State) (c j : Nat) : State :=
  if s.manualRefused c j then s.setFld F.CH_REF_CMD_result c 0 1
  else ((s.setChan c { s.chan c with manual := (s.chan c).manual ++ [j] }).setFld F.CH_REF_CMD_result c 0 0).setFld F.CH_REF_CMD_busy c 0 1
def execManualRefresh (ch : Fin 34) (bank : Fin 32) (s : State) : Outcome State Fault Refusal :=
  .next (s.manualRefresh ch.val bank.val)

/-- CH_RP_CTRL_WRITE (R280): `enable` may be cleared only in MAINT. DEDUCED, safe (log 51). -/
def State.rpCtrl (s : State) (c v : Nat) : State :=
  let s1 := s.setFld F.CH_RP_CTRL_threshold c 0 (bitsOf v 0 11)
  if bitOf v 16 ∨ s.mode = 6 then s1.setFld F.CH_RP_CTRL_enable c 0 (bitsOf v 16 1) else s1
def execChRpCtrlWrite (ch : Fin 34) (v : Word32) (s : State) : Outcome State Fault Refusal := .next (s.rpCtrl ch.val v.toNat)

/-! ## Self-refresh (R281 to R285) -/

/-- The die position of a physical channel (R307). -/
def diePos (c : Nat) : Nat := if 32 ≤ c then 1 else c / 2 + 2

/-! ### Dies and their temperatures (R338, R339), in units of 2^-20 °C -/

/-- One degree. DESIGN CHOICE, unsafe (log 116). -/
def degree : Int := 1048576

/-- The sensors of a die position. -/
def sensorsOf (p : Nat) : Nat := if p = 0 then 16 else 2
/-- The channels of a die position (R307). -/
def dieChans (p : Nat) : List Nat := if p = 0 then [] else if p = 1 then [32, 33] else [2 * (p - 2), 2 * (p - 2) + 1]
/-- The die position exists on the part. -/
def diePresent (part : Part) (p : Nat) : Bool := p < 2 || (dieChans p).any fun c => present part c
def diesOf (part : Part) : List Nat := (List.range 18).filter fun p => diePresent part p

def State.die (s : State) (p : Nat) : Die := smapGet die0 s.pwr.dies p
def State.setDie (s : State) (p : Nat) (d : Die) : State :=
  { s with pwr := { s.pwr with dies := smapPut die0 s.pwr.dies p d } }

/-- The highest reading among the working sensors; none where all have failed. -/
def Die.sensor (d : Die) (p : Nat) : Option Int :=
  ((List.range (sensorsOf p)).filter fun k => !d.failed.contains k).foldl (fun (a : Option Int) (k : Nat) =>
    let v := smapGet 0 d.sens k * (degree / 4)
    some (match a with | some w => max w v | none => v)) none

/-- max(m, k). -/
def Die.guess (d : Die) : Int := match d.canary with | some k => max d.model (k * degree) | none => d.model

/-- The reported temperature (R339, R344). -/
def State.reported (s : State) (p : Nat) : Int :=
  let d := s.die p
  match d.sensor p with
  | none => d.guess
  | some v => if bitOf (s.fld F.PWR_SUSPECT_die 0 0) p then max v d.guess else v

/-- The channel's die is declared suspect (R344). -/
def State.suspectDie (s : State) (c : Nat) : Bool := bitOf (s.fld F.PWR_SUSPECT_die 0 0) (diePos c)

/-- A migration names the channel in CH_MAP. -/
def State.migrating (s : State) (c : Nat) : Bool :=
  (List.range 32).any fun l =>
    s.fld F.RG_CHMAP_state l 0 == 1 && (s.fld F.RG_CHMAP_phys l 0 == c || s.fld F.RG_CHMAP_old l 0 == c)

/-- An idle spare channel: trained, bound to no logical channel (R11, R330). -/
def State.idleSpare (s : State) : Option Nat :=
  (List.range 34).find? fun c => s.chanOn c && s.fld F.CH_ID_state c 0 == 5 && !(s.chan c).retiring

/-- A maintenance step of the channel is pending (R281, R283): a stall that work waits for, a recalibration in place that is under way
or due, a line under suspicion, trims that wait for a stall, a test run, a training command. -/
def State.maintDue (s : State) (c : Nat) : Bool :=
  let x := s.chan c
  !x.stallQ.isEmpty || x.suspect.isSome || (smapGet trn0 s.trn c).recal != 0 ||
  (bitOf (s.fld F.CAL_DUE_channel 0 0) c && s.idleSpare.isNone) ||
  (s.nv.later.any fun e => (e.1 / 256 == 4 || e.1 / 256 == 5) && e.1 % 256 / 2 == c) ||
  (s.nv.bist.any fun b => b.ch == c) || s.fldB F.CH_TRN_CMD_busy c 0

/-- Nothing is queued, waiting or under way at the channel (R281). -/
def State.chanIdle (s : State) (c : Nat) : Bool :=
  let x := s.chan c
  x.rq.isEmpty && x.wq.isEmpty && !(s.reqs.any fun r => r.phys == c) && x.locked.isEmpty && x.neigh.isEmpty &&
  !s.maintDue c && !s.migrating c

/-- The die's reported temperature is above 85 °C (R285). -/
def State.hotDie (s : State) (c : Nat) : Bool := decide (85 * degree < s.reported (diePos c))

/-- The Fixer's read of a channel that goes to sleep: none is under way, since the channel is idle.
DESIGN CHOICE, unsafe (log 50). -/
def State.enterSr (s : State) (c : Nat) : State :=
  let x := s.chan c
  let owed := (List.range 32).foldl (fun n j => n + (max 0 (x.debtOf j)).toNat) 0
  let ctr := (List.range 32).foldl (fun m j =>
    smapPut 0 m j ((smapGet 0 m j + (max 0 (x.debtOf j)).toNat) % 8192)) x.rowCtr
  let x1 := { x with
    debt := x.debt.filter fun e => decide (e.2 < 0)
    paydown := []
    rowCtr := ctr
    openRow := []
    srSince := s.tb
    srDouble := s.hotDie c }
  let wraps := ((List.range 32).filter fun j => decide (8192 ≤ smapGet 0 x.rowCtr j + (max 0 (x.debtOf j)).toNat)).length
  (((((((s.setChan c x1).addFld F.CH_RP_CLEARS_by_window c 0 wraps).addFld F.CH_REF_COUNT_count c 0 owed).setFld F.CH_ID_state c 0 3).setFld F.CH_SR_in_sr c 0 1).addFld
    F.CH_SR_COUNT_entries c 0 1).occ { ev := 0x27, inst := c, inc := owed }).refStat c

/-- SELF_REFRESH_ENTRY (R281): an idle channel in service that holds no C0 range, but in HALT (R233), and whose die is not suspect, once
it has been idle for CH_SR.idle_us. -/
def State.selfRefreshEntry (s : State) (c : Nat) : State :=
  if s.inService c && s.fldB F.CH_SR_auto_en c 0 && !(s.fldB F.CH_SR_c0_hold c 0 && s.mode != 7) && !s.suspectDie c && s.chanIdle c &&
      decide ((s.chan c).idleSince + clampNat 1 10000 (s.fld F.CH_SR_idle_us c 0) * 1000 ≤ s.tb) then
    s.enterSr c
  else s
def execSelfRefreshEntry (ch : Fin 34) (s : State) : Outcome State Fault Refusal := .next (s.selfRefreshEntry ch.val)

/-- A cause to leave self-refresh (R282, R283). -/
def State.srCause (s : State) (c : Nat) : Bool :=
  (s.reqs.any fun r => r.phys == c) || (s.fldB F.CH_SR_c0_hold c 0 && s.mode != 7) || s.suspectDie c || s.maintDue c ||
  s.fldB F.CH_TRN_STAT_rate_pending c 0 || s.migrating c

/-- SELF_REFRESH_EXIT (R283). A temperature that crossed 85 °C alone makes the sequencer set the new rate and re-enter
(R285); in SLEEP it is the one cause (R286). DEDUCED, unsafe (log 167). -/
def State.selfRefreshExit (s : State) (c : Nat) : State :=
  let x := s.chan c
  if s.fld F.CH_ID_state c 0 != 3 then s
  else if s.mode != 5 && s.srCause c then s.exitSr c
  else if x.srDouble != s.hotDie c then (s.exitSr c).enterSr c
  else s
def execSelfRefreshExit (ch : Fin 34) (s : State) : Outcome State Fault Refusal := .next (s.selfRefreshExit ch.val)

/-- FIXER_WAKE (R284): 4,096 owed reads wake the channel. -/
def State.fixerWake (s : State) (c : Nat) : State :=
  if s.fld F.CH_ID_state c 0 == 3 && s.mode != 5 && decide (4096 ≤ s.fld F.CH_FIX_OWED_owed c 0) then
    (s.exitSr c).addFld F.CH_SR_COUNT_fixer_wakes c 0 1
  else s
def execFixerWake (ch : Fin 34) (s : State) : Outcome State Fault Refusal := .next (s.fixerWake ch.val)

/-! ## The Fixer (R300 to R302) -/

/-- One more read is owed; beyond the counter's end it is skipped (R301). -/
def State.fixOwe (s : State) (c : Nat) : State :=
  if s.fld F.CH_FIX_OWED_owed c 0 = 65535 then s.addFld F.CH_FIX_STAT_skipped c 0 1
  else s.addFld F.CH_FIX_OWED_owed c 0 1

/-- FIXER_READ (R300): a regular read falls due. DESIGN CHOICE, unsafe (log 47). -/
def State.fixerRead (s : State) (c : Nat) : State :=
  if !s.chanOn c || !s.fldB F.CH_FIX_CTRL_enable c 0 || s.mode == 5 then s
  else if s.fld F.CH_ID_state c 0 = 3 then s.fixOwe c
  else if s.fld F.CH_ID_state c 0 != 2 then s
  else if (s.chan c).fixer.isSome then s.fixOwe c
  else s.fixIssue c
def execFixerRead (ch : Fin 34) (s : State) : Outcome State Fault Refusal := .next (s.fixerRead ch.val)

/-- FIXER_READ_COMPLETE (R302): the outcome is acted on. A write-back goes to the channel's queue, the granule locked until it is
there; otherwise the granule is released. -/
def State.fixerReadComplete (s : State) (c : Nat) (ups : List SymErr) : State :=
  match (s.chan c).rq.find? fun r => r.master == 58 && r.inFlight with
  | none => s
  | some r =>
    let g := r.gran
    let (d, s1) := s.decode c g ups
    let s2 := ((s1.dropRead c r.id).countRd c 3).readOcc { ev := 0x20, inst := c, master := 58, addr := r.waddr, cls := 3 } d.out
    let img := bytesAt 0 (overlay d.data ((s1.chan c).queued g r.seq))
    let back (t : State) (poison : Bool) : State :=
      t.sendReq { id := 0, op := 0, master := 58, kind := .write, phys := c, gran := g, waddr := r.waddr, wr := img, cls := 3,
                  seq := r.seq, poison := poison } (2 ^ 64 - 1)
    let done := ((s2.setChan c { s2.chan c with fixer := none }).unlockGran c g).forwardWaiting c g 96
    match d.out with
    | .clean => done
    | .poisoned => done
    | .corrected => (back s2 false).addFld F.CH_FIX_COUNT_corrected c 0 1
    | .uncorrectable =>
      ((((back s2 true).addFld F.CH_FIX_COUNT_poisoned c 0 1).ueEnter c g (s.worldOf c g) 1 58 d.counted)).raise
        { group := c, src := 2, inst := c, master := 58, access := 0, addr := s.worldOf c g }
def execFixerReadComplete (ch : Fin 34) (ups : List SymErr) (s : State) : Outcome State Fault Refusal :=
  .next (s.fixerReadComplete ch.val ups)

/-- CH_UE_CLR (R304). -/
def execChUeClr (ch : Fin 34) (s : State) : Outcome State Fault Refusal :=
  .next ((s.setFld F.CH_UE_STAT_count ch.val 0 0).setFld F.CH_UE_STAT_overflow ch.val 0 0)

/-- The counts of corrected and bad reads, and the worst lines, start again (R306). -/
def State.clearWorst (s : State) (c pc : Nat) : State :=
  let x := s.chan c
  let s1 := s.setChan c { x with lineCe := x.lineCe.filter fun e => e.1 / 64 != pc }
  if pc = 0 then (s1.setFld F.CH_ECC_WORST_pc0_line c 0 0).setFld F.CH_ECC_WORST_pc0_count c 0 0
  else (s1.setFld F.CH_ECC_WORST_pc1_line c 0 0).setFld F.CH_ECC_WORST_pc1_count c 0 0
def State.clearEcc (s : State) (c : Nat) : State :=
  ((((((s.setFld F.CH_ECC_CE_pc0 c 0 0).setFld F.CH_ECC_CE_pc1 c 0 0).setFld F.CH_ECC_UE_poisoned c 0 0).setFld
    F.CH_ECC_UE_uncorrectable c 0 0).clearWorst c 0).clearWorst c 1)
def execChEccClr (ch : Fin 34) (s : State) : Outcome State Fault Refusal := .next (s.clearEcc ch.val)

/-! ## C0 holds (R282) -/

/-- Spans of 4 KiB units of logical channel `l` that do not lead to it directly: views and backings of regions. -/
def State.stripedSpans (s : State) (l : Nat) : List (Nat × Nat) :=
  s.stripes.filterMap fun x =>
    if x.ch = l then some (l * 2 ^ 19 + x.base, l * 2 ^ 19 + x.base + x.ways * x.units)
    else if x.ch < l ∧ l < x.ch + x.ways then some (l * 2 ^ 19 + x.base, l * 2 ^ 19 + x.base + x.units)
    else none

/-- Units `[b, m]` hold one that leads to logical channel `l`: directly, or through a region's view. -/
def State.unitsReach (s : State) (l b m : Nat) : Bool :=
  let sp := s.stripedSpans l
  let lo := max b (l * 2 ^ 19)
  let hi := min m (l * 2 ^ 19 + 2 ^ 19 - 1)
  ((lo :: sp.map (·.2)).any fun u => decide (lo ≤ u) && decide (u ≤ hi) && !(sp.any fun p => p.1 ≤ u && u < p.2)) ||
  s.stripes.any fun x =>
    let st := x.ch * 2 ^ 19 + x.base
    let u0 := max b st
    let k := l - x.ch
    let u := u0 + (k + x.ways - (u0 - st) % x.ways) % x.ways
    decide (x.ch ≤ l) && decide (k < x.ways) && decide (u ≤ m) && decide (u < st + x.ways * x.units)

/-- A valid class range of class C0 covers an address routed to physical channel `c`. -/
def State.holdsC0 (s : State) (c : Nat) : Bool :=
  (List.range 32).any fun l =>
    ((s.fld F.RG_CHMAP_phys l 0 == c && s.fld F.RG_CHMAP_state l 0 != 2) ||
     (s.fld F.RG_CHMAP_old l 0 == c && s.fld F.RG_CHMAP_state l 0 == 1)) &&
    (List.range 64).any fun n =>
      s.fldB F.RG_RANGE_ATTR_valid n 0 && s.fld F.RG_RANGE_ATTR_class n 0 == 0 &&
      s.unitsReach l (s.fld F.RG_RANGE_BASE_base n 0) (s.fld F.RG_RANGE_LIMIT_limit n 0)

/-- The C0 holds are worked out again; a channel asleep that comes to hold a C0 range leaves self-refresh at once. -/
def State.c0Holds (s : State) : State :=
  (List.range 34).foldl (fun s c =>
    let h := s.holdsC0 c
    let s1 := s.setFld F.CH_SR_c0_hold c 0 (b2n h)
    if h && s.fld F.CH_ID_state c 0 == 3 && s.mode != 5 && s.mode != 7 then s1.exitSr c else s1) s

/-! ## The channel map and migration copies (R242 to R244) -/

/-- The channel is not idle up to now (R281). -/
def State.busyNow (s : State) (c : Nat) : State := s.setChan c { s.chan c with idleSince := s.tb }

/-- The channel's numbers follow the map: a bound channel is in service, one bound no longer is an idle spare, or retired where
its retirement was needed (R326, R330). -/
def State.rebind (s : State) : State :=
  (List.range 34).foldl (fun s c =>
    let st := s.fld F.CH_ID_state c 0
    match s.logicalAt c with
    | some l =>
      let s1 := s.setFld F.CH_ID_logical c 0 l
      if st = 5 then (s1.setFld F.CH_ID_state c 0 2).busyNow c else s1
    | none =>
      let s1 := s.setFld F.CH_ID_logical c 0 0x3F
      if st = 2 ∨ st = 3 then s1.setFld F.CH_ID_state c 0 (if (s.chan c).retiring then 4 else 5) else s1) s

/-- Logical channel `l` has become ABSENT: GLOBAL_STATUS.absent, and in SERVE a shard is lost (R327, R360). -/
def State.wentAbsent (s : State) (l : Nat) : State :=
  let s1 := s.setFld F.GLOBAL_STATUS_absent 0 0 1
  if s.mode = 3 then s1.raise { group := 45, src := 3, master := 57, addr := l } else s1

/-- One entry of the map is applied. DEDUCED, safe (log 49). -/
def State.commitMap (s : State) (l : Nat) : State :=
  let was := s.fld F.RG_CHMAP_state l 0
  let p := s.fld F.RG_CHMAP_phys l 0
  let s0 := if was = 1 then (s.busyNow p).busyNow (s.fld F.RG_CHMAP_old l 0) else s
  let s1 := ((s0.commitFld F.RG_CHMAP_phys l 0).commitFld F.RG_CHMAP_old l 0).commitFld F.RG_CHMAP_state l 0
  let now := s1.fld F.RG_CHMAP_state l 0
  let s2 := if now = 1 ∧ (was ≠ 1 ∨ s1.fld F.RG_CHMAP_phys l 0 ≠ p) then
      { s1.setFld F.RG_CHCUR_cursor l 0 0 with copyStopped := s1.copyStopped.filter (· != l) }
    else s1
  if now = 2 ∧ was ≠ 2 then s2.wentAbsent l else s2

/-- CHMAP_COMMIT (R242). -/
def State.chmapCommit (s : State) : State :=
  if s.fldB F.RG_CHMAP_COMMIT_busy 0 0 then s.setFld F.RG_CHMAP_COMMIT_err 0 0 1
  else
    let s1 := ((List.range 32).foldl (fun s l => s.commitMap l) s).setFld F.RG_CHMAP_COMMIT_busy 0 0 1
    (({ s1 with mapMark := s1.nextReq }).rebind).c0Holds
def execChmapCommit (s : State) : Outcome State Fault Refusal := .next s.chmapCommit

/-- A request routed under the old map is still to be performed. -/
def State.oldRouted (s : State) : Bool :=
  (s.reqs.any fun r => decide (r.id < s.mapMark)) ||
  s.chans.any fun e => (e.2.rq.any fun r => decide (r.id < s.mapMark)) || (e.2.wq.any fun w => decide (w.id < s.mapMark))

/-- CHMAP_DRAIN_COMPLETE (R242): every request routed under the old set has been performed. -/
def execChmapDrainComplete (s : State) : Outcome State Fault Refusal :=
  .next (if s.fldB F.RG_CHMAP_COMMIT_busy 0 0 && !s.oldRouted then s.setFld F.RG_CHMAP_COMMIT_busy 0 0 0 else s)

/-- The operation number of the migration copy in the preemption tables; no operation has it. -/
def copyOp : Nat := 2 ^ 64

/-- A granule of the copy arbitrates as a burst of the fill engine (R250, R251): whether it is granted. Where a better request preempts
the burst, its progress goes to the preemption table; where another is granted or the queue is full, it waits.
DESIGN CHOICE, unsafe (log 48). -/
def State.copyGrant (s : State) (c g : Nat) (kind : ReqKind) : Bool × State :=
  let r : Req := { id := s.nextReq, op := copyOp, master := 59, kind := kind, phys := c, gran := g, cls := 4, input := .fill, bulk := true }
  let t : State := { s with reqs := r :: s.reqs }
  match t.grant c with
  | some (i, q, pre) =>
    if q.id = r.id then (true, { t.noteGrant c i q pre with reqs := s.reqs })
    else if pre then (false, s.notePreempt c copyOp 59 4)
    else (false, s)
  | none => (false, s)

/-- One granule is copied from `o` to `p` (R244): queued bytes of `o` lie over the stored ones; a bad granule is stored poisoned
and entered in the UE list of `p`. DESIGN CHOICE, unsafe (log 48). -/
def State.copyGran (s : State) (o p g : Nat) (ups : List SymErr) : State :=
  let wa := s.worldOf o g
  let at_ (c : Nat) : Occ := { ev := 0x21, inst := c, master := 59, addr := wa, cls := 4 }
  let q := (s.chan o).queued g (s.chan o).seq
  let s0 := (((s.countRd o 4).countWr p 4).openFor p g (at_ p)).occ (at_ p)
  if (s.chan o).queuedBad g (s.chan o).seq then s0.storePoison p g (overlay (s.stored o g) q)
  else if q.length = 64 then (s0.readOcc (at_ o) .clean).storeWhole p g q
  else
    let (d, s1) := (s0.openFor o g (at_ o)).decode o g ups
    let s2 := s1.readOcc (at_ o) d.out
    if d.out.bad then
      ((s2.badGran o wa 59 0).storePoison p g (overlay d.data q)).ueEnter p g wa 3 59 d.counted
    else s2.storeWhole p g (bytesAt 0 (overlay d.data q))

/-- The copy is complete: the entry returns to state 0 without a commit. -/
def State.copyDone (s : State) (l : Nat) : State :=
  let p := s.fld F.RG_CHMAP_phys l 0
  let s1 := (s.setFld F.RG_CHMAP_state l 0 0).setFld F.RG_CHMAP_old l 0 0x3F
  (((s1.busyNow p).busyNow (s.fld F.RG_CHMAP_old l 0)).rebind).c0Holds

/-- The copy of a granule waits (R244): an atomic has it, or a write of it that the new channel may have accepted has yet to be accepted
by the old one. -/
def State.copyWaits (s : State) (o p g : Nat) : Bool :=
  (s.chan o).locked.contains g || (s.chan p).locked.contains g ||
  s.reqs.any fun r => r.phys == o && r.gran == g && decide (r.kind = .write)

/-- CHANNEL_COPY_GRANULE (R244): the copy write of the granule at the cursor is acknowledged and the cursor advances. -/
def State.channelCopy (s : State) (l : Nat) (ups : List SymErr) : State :=
  let o := s.fld F.RG_CHMAP_old l 0
  let p := s.fld F.RG_CHMAP_phys l 0
  let g := s.fld F.RG_CHCUR_cursor l 0
  if s.fld F.RG_CHMAP_state l 0 != 1 || s.copyStopped.contains l || s.copyWaits o p g then s
  else
    let rd := ((s.rouse o).rouse p).copyGrant o g .read
    let wr := rd.2.copyGrant p g .write
    if !rd.1 then rd.2
    else if !wr.1 then wr.2
    else
      let s0 := wr.2
      let s1 := s0.copyGran o p g ups
      let b := g / 65536
      let s2 := if g % 65536 = 65535 ∧ s.initBit o b then
          s1.setFld F.CH_FIX_INIT_block p (b / 32) (s1.fld F.CH_FIX_INIT_block p (b / 32) ||| 2 ^ (b % 32)) else s1
      if g = 2 ^ 25 - 1 then s2.copyDone l else s2.setFld F.RG_CHCUR_cursor l 0 (g + 1)

/-- Reads of the old channel that are queued there at or above the cursor come to nothing once it has stopped reading: they end ABSENT.
What is under way in its DRAM ends with them. -/
def State.copyRefuseQueued (s : State) (o cur : Nat) : State :=
  let x := s.chan o
  let gone := x.rq.filter fun r => decide (cur ≤ r.gran)
  let s1 := s.setChan o { x with rq := x.rq.filter fun r => decide (r.gran < cur),
                                 locked := x.locked.filter fun g => !(gone.any fun r => r.gran == g && r.inFlight) }
  let s2 := if gone.any fun r => some r.id == x.fixer then s1.setChan o { s1.chan o with fixer := none } else s1
  gone.foldl State.refuseReq s2

/-- COPY_SOURCE_FAIL (R244): the old channel stops reading; the copy stops and the cursor freezes. -/
def State.copySourceFail (s : State) (l : Nat) : State :=
  let o := s.fld F.RG_CHMAP_old l 0
  let cur := s.fld F.RG_CHCUR_cursor l 0
  if s.fld F.RG_CHMAP_state l 0 = 1 ∧ !s.copyStopped.contains l then
    ((({ s with copyStopped := l :: s.copyStopped }).raise
      { group := o, src := 6, inst := o, master := 59, access := 0, addr := cur }).copyRefuseQueued o cur)
  else s
/-! ## Class ranges and regions (R25, R246) -/

def regionFlds : List Fld := [F.RG_STRIPE_BASE_base, F.RG_STRIPE_SIZE_units, F.RG_STRIPE_CTRL_valid, F.RG_STRIPE_CTRL_ways]
def rangeFlds : List Fld := [F.RG_RANGE_BASE_base, F.RG_RANGE_LIMIT_limit, F.RG_RANGE_ATTR_valid, F.RG_RANGE_ATTR_class]

/-- Apply the shadow of the listed fields in instances 0 to n − 1. -/
def State.commitInst (s : State) (fs : List Fld) (n : Nat) : State :=
  (List.range n).foldl (fun s i => fs.foldl (fun s f => s.commitFld f i 0) s) s

/-- The commit changes a striped region. -/
def State.regionChanges (s : State) : Bool :=
  (List.range 4).any fun i => regionFlds.any fun f => s.shd f i 0 != s.fld f i 0

/-- No engine runs. -/
def State.allStopped (s : State) : Bool := (List.range 34).all fun e => !s.fldB F.CE_CTRL_run e 0

/-- RG_COMMIT (R246): a commit that changes a region applies only in READY with every engine stopped; otherwise the whole
commit is refused. -/
def State.rgCommit (s : State) : State :=
  if s.regionChanges && !(s.mode == 2 && s.allStopped) then s.setFld F.RG_COMMIT_refused 0 0 1
  else ((s.commitInst rangeFlds 64).commitInst regionFlds 4).c0Holds
def execRgCommit (s : State) : Outcome State Fault Refusal := .next s.rgCommit

/-! ## The TSV failure ladder (R312, R323 to R327) -/

/-- CH_TSV_STAT counts spares in use (R324). -/
def State.spareStat (s : State) (c : Nat) : State :=
  let l := (s.chan c).spares
  ((s.setFld F.CH_TSV_STAT_pc0_spares c 0 (l.filter fun k => decide (k < 8)).length).setFld F.CH_TSV_STAT_pc1_spares c 0
    (l.filter fun k => decide (8 ≤ k) && decide (k < 16)).length).setFld F.CH_TSV_STAT_ca_spares c 0
    (l.filter fun k => decide (16 ≤ k) && decide (k < 18)).length

def State.useSpare (s : State) (c k : Nat) : State :=
  let x := s.chan c
  (s.setChan c { x with spares := x.spares ++ [k] }).spareStat c

/-- A maintenance stall takes the channel's TSVs (R314). -/
def State.stall (s : State) (c : Nat) : State :=
  (s.setChan c { s.chan c with stallAt := s.tb, credit := [], openRow := [], idleSince := s.tb }).addFld F.CH_MAINT_stalls c 0 1

/-- The ladder writes a soft record into the first empty place (R321). -/
def State.writeSoft (s : State) (c rec : Nat) : State :=
  match (List.range 16).find? fun n => s.fld F.CH_REPAIR_SOFT_record c n == 0 with
  | some n => s.setFld F.CH_REPAIR_SOFT_record c n rec
  | none => s

/-- A TSV record (R320): kind 1 or 2. -/
def tsvRecord (kind c pc line spare : Nat) : Nat :=
  2 ^ 63 + kind * 2 ^ 60 + c * 2 ^ 54 + pc * 2 ^ 53 + line * 2 ^ 47 + spare * 2 ^ 44

/-- A test run is cut short (R318). -/
def State.cutBist (s : State) : State :=
  match s.nv.bist with
  | none => s
  | some b =>
    ((((({ s with nv := { s.nv with bist := none } }).setFld F.BI_STATUS_busy 0 0 0).setFld F.BI_STATUS_complete 0 0 0).setFld
      F.BI_STATUS_result 0 0 3).raise { group := 53, src := 0, addr := b.ch })
/-- Retirement of a channel cuts its test run short. -/
def State.cutBistAt (s : State) (c : Nat) : State := if s.nv.bist.any fun b => b.ch == c then s.cutBist else s

/-- The channel must retire (R326). -/
def State.retireNeeded (s : State) (c line : Nat) : State :=
  ((s.cutBistAt c).setChan c { s.chan c with retiring := true }).raise { group := c, src := 4, inst := c, addr := line }

/-- One step of the ladder: an event on the channel's group naming the line. -/
def State.ladderEvent (s : State) (c line : Nat) : State := s.raise { group := c, src := 3, inst := c, addr := line }

/-- A line of a PC at half width is steered onto the lowest healthy unused line of the discarded half. A line of the discarded half is
unhealthy from now; the line that it stood in for, if any, is steered on.
DESIGN CHOICE, unsafe (log 56). -/
def State.steerHalf (s : State) (c pc line : Nat) : State :=
  let x := s.chan c
  let off := halfLines (1 - bitsOf (s.fld F.CH_TSV_STAT_kept c 0) pc 1)
  let used := if off.contains line ∧ !x.used.contains (lineKey pc line) then x.used ++ [lineKey pc line] else x.used
  let key := if off.contains line then (x.mux.find? fun e => e.1 / 64 == pc && e.1 % 64 < 36 && e.2 == line).map (·.1)
    else some (lineKey pc line)
  match key with
  | none => s.setChan c { x with used := used }
  | some k =>
    match off.find? fun l => !used.contains (lineKey pc l) with
    | some l => ((s.setChan c { x with used := used ++ [lineKey pc l] }).steer c k l).ladderEvent c line
    | none => s.retireNeeded c line

/-- A data or check line is dead: the first rung that applies (R324). The erased line found dead again, as FOCUS may, keeps its erasure
where no spare is free. -/
def State.lineDead (s : State) (c pc line : Nat) : State :=
  let x := s.chan c
  let again := s.erasedLine c pc == some line
  let s1 := if again then s else if pc = 0 then s.addFld F.CH_TSV_STAT_pc0_dead c 0 1 else s.addFld F.CH_TSV_STAT_pc1_dead c 0 1
  match (List.range 8).find? fun n => !x.spares.contains (8 * pc + n) with
  | some n =>
    let s2 := if again then s1.setErase c pc none else s1
    (((s2.useSpare c (8 * pc + n)).writeSoft c (tsvRecord 1 c pc line n)).steer c (lineKey pc line) (36 + n)).ladderEvent c line
  | none =>
    if bitOf (s.fld F.CH_TSV_STAT_half c 0) pc then s1.steerHalf c pc line
    else if (s.erasedLine c pc).isNone ∨ again then
      ((s1.setErase c pc (some line)).setFld F.GLOBAL_STATUS_erasure 0 0 1).ladderEvent c line
    else
      ((s1.setChan c { s1.chan c with wantHalf := x.wantHalf ||| 2 ^ pc, newDead := x.newDead ++ [lineKey pc line] }).setFld
        F.GLOBAL_STATUS_half_width 0 0 1).ladderEvent c line

/-- A CA line is dead: onto a CA spare where one is free, else the channel retires (R324, R326). A timing signal (12 and above) has no
record of its own (R320).
DEDUCED, unsafe (log 54). -/
def State.caDead (s : State) (c pc line : Nat) : State :=
  match (List.range 2).find? fun n => !(s.chan c).spares.contains (16 + n) with
  | some n =>
    let s1 := s.useSpare c (16 + n)
    (if line < 12 then s1.writeSoft c (tsvRecord 2 c 0 line n) else s1).steer c
      (lineKey pc (if line < 12 then 48 + line else line)) (60 + n)
  | none => s.retireNeeded c line

/-- A spare that fails is unusable and counts as used (R312). -/
def State.spareDead (s : State) (c k : Nat) : State := if (s.chan c).spares.contains k then s else s.useSpare c k

/-- The times of an error that comes now and of those less than 1 ms before it. -/
def State.within1ms (s : State) (l : List Nat) : List Nat := (l.filter fun t => decide (s.tb < t + 1000000)) ++ [s.tb]

/-- A CA parity error survives its retry; the sixteenth on a line within 1 ms makes the line dead (R323). -/
def State.lineParity (s : State) (c line g master : Nat) : State :=
  let x := s.chan c
  let k := lineKey (g % 2) line
  let l := s.within1ms (smapGet [] x.caErr k)
  let s1 := s.raise { group := c, src := 0, inst := c, master := master, access := 6, addr := g }
  if l.length < 16 then s1.setChan c { x with caErr := smapPut [] x.caErr k l }
  else (s1.setChan c { x with caErr := smapErase x.caErr k }).caDead c (g % 2) line

/-! ## Conversion to half width (R325) -/

/-- One granule is rewritten in the half-width layout. -/
def State.convertGran (s : State) (c g : Nat) (ups : List SymErr) : State :=
  let o : Occ := { ev := 0x21, inst := c, master := 59, addr := s.worldOf c g, cls := 4 }
  let (d, s1) := (s.openFor c g o).decode c g ups
  let s2 := (((s1.countRd c 4).countWr c 4).occ o).readOcc o d.out
  if d.out.bad then
    ((s2.storePoison c g d.data).ueEnter c g (s.worldOf c g) 3 59 d.counted)
  else s2.storeWhole c g (bytesAt 0 d.data)

/-- The last row of a conversion is done: the pseudo-channel that waits converts next, or none does. -/
def State.conversionEnd (s : State) (c : Nat) : State :=
  let x := s.chan c
  match x.convWait with
  | some (pc, l) =>
    ((s.setChan c { x with convLines := l, convWait := none }).setFld F.CH_CONV_CUR_pc c 0 pc).setFld F.CH_CONV_CUR_row c 0 0
  | none => (s.setFld F.CH_TSV_STAT_converting c 0 0).setChan c { x with convLines := [] }

/-- HALF_WIDTH_CONVERSION_STEP (R325): the next row of the converting PC, if its block is marked; the last row ends the
conversion. `ups` gives changed symbols by granule of the row. On a channel that must retire the conversion has stopped (R328). -/
def State.conversionStep (s : State) (c : Nat) (ups : List (Nat × SymErr)) : State :=
  if !s.fldB F.CH_TSV_STAT_converting c 0 || (s.chan c).retiring then s
  else
    let r := s.fld F.CH_CONV_CUR_row c 0
    let pc := s.fld F.CH_CONV_CUR_pc c 0
    let s1 := if s.initBit c (r / 128) then
        (List.range 256).foldl (fun s k => s.convertGran c (r * 512 + 2 * k + pc)
          ((ups.filter fun u => u.1 == 2 * k + pc).map (·.2))) (s.rouse c)
      else s
    if r = 65535 then s1.conversionEnd c
    else s1.setFld F.CH_CONV_CUR_row c 0 (r + 1)
def execHalfWidthConversionStep (ch : Fin 34) (ups : List (BitVec 9 × SymErr)) (s : State) : Outcome State Fault Refusal :=
  .next (s.conversionStep ch.val (ups.map fun u => (u.1.toNat, u.2)))

end Sys2Proof.Machine
end

