-- ==== Sys2Proof/Machine/Tick.lean ====
section
/-!
DEFINITION. The tick unit (spec/04, R106 to R125): TICK.WAIT and TICK.DONE (R91, R92), the schedule and its points, late
ticks, the commit and its record, the mask ladder, torn entities, warm restart, the title mirror (R387).
-/

namespace Sys2Proof.Machine
open Host

/-! ## TICK.WAIT and TICK.DONE (R91, R92, R429) -/

/-- TICK.WAIT returns: the tick, its commit deadline, and the window opens. The strand moves past the instruction. -/
def State.openWindow (s : State) (e t rd dl : Nat) : State :=
  let n := s.tk.sim.getD 0
  let x := ((s.strand e t).wg rd (BitVec.ofNat 64 (n % 2 ^ 32))).wdl dl (BitVec.ofNat 64 (s.tk.simStart + s.tk.simDl))
  (s.finishSample (tickOp e t) 0).setStrand e t { x with st := .ready, wait := none, inWin := true, tick := n, pc := x.pc + 1 }

def execTickWait (i : Iss) (f : FmtE) (s : State) : Outcome State Fault Refusal :=
  .next (issue s i { writes := gN f.rd ++ [regDl f.dl.toNat], mem := true } (illIf (f.rs1 != 0 || f.rs2 != 0)) fun s =>
    let e := i.e.val
    let t := i.t.val
    let x := s.me i
    match firstTrap
      [ (e == 34 || x.inWin, { cause := .illegal, sub := 1 }),
        (x.rank != 0, { cause := .order, sub := 3 }) ] with
    | some tr => .trap tr
    | none =>
      if s.fenced e t 5 then .stall
      else
        let s1 := s.tickOcc e t
        if s1.simWaits (skey e t) then .go (s1.openWindow e t f.rd.toNat f.dl.toNat)
        else .go (s1.enterWait e t (.tick f.rd.toNat f.dl.toNat)))

def execTickDone (i : Iss) (f : FmtE) (s : State) : Outcome State Fault Refusal :=
  .next (issue s i { mem := true } (illIf (f.rs1 != 0 || f.rs2 != 0 || f.rd != 0 || f.dl != 0)) fun s =>
    let e := i.e.val
    let t := i.t.val
    let x := s.me i
    match firstTrap
      [ (e == 34 || !x.inWin, { cause := .illegal, sub := 1 }),
        (x.rank != 0, { cause := .order, sub := 3 }) ] with
    | some tr => .trap tr
    | none =>
      if s.fenced e t 5 then .stall
      else .go ((((s.tickOcc e t).finishSample (tickOp e t) 0).retire i fun y =>
        { y with inWin := false, everDone := true }).noteDone (skey e t)))

/-! ## The schedule (R107 to R110, R118) -/

/-- TK_SCHED_COMMIT (R107). -/
def State.schedCommit (s : State) : State :=
  let p := s.shd F.TK_PERIOD_ns 0 0
  let i := s.shd F.TK_INGEST_CLOSE_ns 0 0
  let d := s.shd F.TK_COMMIT_DL_ns 0 0
  if 1000000 ≤ p ∧ p ≤ 1000000000 ∧ 10000 ≤ i ∧ i < d ∧ d ≤ p then
    ((s.commitFld F.TK_PERIOD_ns 0 0).commitFld F.TK_INGEST_CLOSE_ns 0 0).commitFld F.TK_COMMIT_DL_ns 0 0
  else s.setFld F.TK_STATUS_sched_err 0 0 1
def execTkSchedCommit (s : State) : Outcome State Fault Refusal := .next s.schedCommit

/-- TK_RUN_CLEAR and TK_RUN_SET (R109): the next start waits while `run` is 0. -/
def execTkRunClear (s : State) : Outcome State Fault Refusal := .next (s.setFld F.TK_CTRL_run 0 0 0)
def execTkRunSet (s : State) : Outcome State Fault Refusal := .next (s.setFld F.TK_CTRL_run 0 0 1)

/-- The newest tick's conditions are met, or it is committed. -/
def State.curMet (s : State) (n : Nat) : Bool :=
  s.fld F.TK_COMMITTED_tick 0 0 == n || (s.tk.sim == some n && s.tk.cond.isSome)

/-- The newest tick has not met its conditions at the next point at which it would be late. In DRAIN only a tick whose
SIMULATE has opened can be late (R229). -/
def State.missDue (s : State) : Bool :=
  match s.tk.cur with
  | none => false
  | some n =>
    !s.curMet n && decide (s.tk.start + s.tk.dl + s.tk.slips * s.tk.per ≤ s.tb) &&
    (s.mode == 3 || (s.mode == 4 && s.tk.sim == some n))

/-- A send slot (R145): added while slots give rounds. -/
def State.addSlot (s : State) (tick base per : Nat) : State :=
  { s with st := { s.st with
      slots := (s.st.slots.filter fun x => decide (s.tb < x.base + 2 * x.per)) ++ [⟨s.st.slotSeq + 1, tick, base, per⟩]
      slotSeq := s.st.slotSeq + 1 } }

/-- TICK_START (R108 to R110): the next tick starts. A start more than a period late is re-anchored. In DRAIN
ticks keep their points so that windows exist; they give no rounds (R229). DESIGN CHOICE, unsafe (log 67). -/
def State.tickStart (s : State) : State :=
  let due := s.fld F.TK_START_time 0 0
  if !((s.mode == 3 || s.mode == 4) && s.fldB F.TK_CTRL_run 0 0 && decide (due ≤ s.tb) && !s.missDue) then s
  else
    let p := s.fld F.TK_PERIOD_ns 0 0
    let n := s.fld F.TK_NEXT_tick 0 0
    let late := decide (due + p < s.tb)
    let at' := if late then s.tb else due
    let d := s.fld F.TK_COMMIT_DL_ns 0 0
    let s1 := if late then (s.setFld F.TK_STATUS_reanchored 0 0 1).raise { group := 43, src := 1, addr := n } else s
    let s2 := (((((s1.setFld F.TK_NEXT_tick 0 0 (n + 1)).setFld F.TK_START_time 0 0 (at' + p)).setFld
      F.TK_STATUS_held 0 0 0).setFld F.TK_STATUS_slips 0 0 0).setFld F.TK_STATUS_phase 0 0 1)
    let s3 := { s2 with tk := { s2.tk with cur := some n, start := at', per := p,
                                           ing := s.fld F.TK_INGEST_CLOSE_ns 0 0, dl := d, curLate := false, slips := 0 } }
    s3.addSlot n (at' + d) p
def execTickStart (s : State) : Outcome State Fault Refusal := .next s.tickStart

/-- A strand counts for a tick (R17, R92): enabled, its enable in effect, on a powered running engine that is not fenced.
DESIGN CHOICE, unsafe (log 43). -/
def State.countedNow (s : State) : List Nat :=
  (List.range 34).flatMap fun e =>
    if s.engOn e && s.fldB F.CE_CTRL_run e 0 && !(s.eng e).fenced then
      ((List.range 16).filter fun t => bitOf (s.fld F.CE_STRAND_EN_en e 0) t && !(s.strand e t).start).map fun t => skey e t
    else []

/-- A strand in TICK.WAIT is released where it is counted. -/
def State.releaseWait (s : State) (k : Nat) : State :=
  match (s.strand (k / 16) (k % 16)).st, (s.strand (k / 16) (k % 16)).wait with
  | .waiting, some (.tick rd dl) => s.openWindow (k / 16) (k % 16) rd dl
  | _, _ => s

/-- SIMULATE_OPEN (R108, R111, R18): ingest has closed, the tick before is committed, and no build against the tick two
before is open. -/
def State.simulateOpen (s : State) : State :=
  match s.tk.cur with
  | none => s
  | some n =>
    if s.mode == 3 && s.tk.sim.isNone && s.fld F.TK_STATUS_phase 0 0 == 1 && decide (s.tk.start + s.tk.ing ≤ s.tb) &&
        !(s.st.builds.any fun b => decide (b.tick + 2 ≤ n)) then
      let c := s.countedNow
      let s1 := { s.setFld F.TK_STATUS_phase 0 0 2 with
        tk := { s.tk with sim := some n, simAt := s.tb, simStart := s.tk.start, simDl := s.tk.dl, counted := c,
                          doneAt := [], fencedAt := [], fenced := [], cond := none, late := s.tk.curLate,
                          waited := false } }
      c.foldl (fun s k => s.releaseWait k) s1
    else s
def execSimulateOpen (s : State) : Outcome State Fault Refusal := .next s.simulateOpen

/-- A held frame is issued for the newest tick (R118). Past 255 the 8-bit count of slips stays. DESIGN CHOICE, unsafe (log 184). -/
def State.heldFrame (s : State) (n : Nat) : State :=
  let h := s.tk.slips + 1
  let lim := max 1 (s.fld F.TK_CTRL_late_limit 0 0)
  let s1 := { s with tk := { s.tk with slips := h, curLate := true, late := if s.tk.sim = some n then true else s.tk.late } }
  let s2 := ((s1.setFld F.TK_STATUS_slips 0 0 (min h 255)).setFld F.TK_STATUS_held 0 0 1).setFld F.TK_START_time 0 0
    (s.fld F.TK_START_time 0 0 + s.tk.per)
  let s3 := if s.fld F.TK_COMMITTED_tick 0 0 = 2 ^ 64 - 1 then s2 else s2.occ { ev := 0x43, inst := 0 }
  if h = lim then s3.raise { group := 45, src := 2, master := 57, addr := n } else s3

/-- The conditions are not met at S(N) + D (R118). -/
def State.deadlineMiss (s : State) : State :=
  match s.tk.cur with
  | none => s
  | some n =>
    if s.missDue && s.tk.slips == 0 then
      (s.addFld F.TK_LATE_count 0 0 1).heldFrame n
    else s

/-- HELD_FRAME_REPEAT (R118): a further period has passed; the frame has a send slot of its own.
DESIGN CHOICE, unsafe (log 66). -/
def State.heldRepeat (s : State) : State :=
  match s.tk.cur with
  | none => s
  | some n =>
    if s.missDue && s.tk.slips != 0 then
      (s.heldFrame n).addSlot n (s.tk.start + s.tk.dl + s.tk.slips * s.tk.per) s.tk.per
    else s
def execHeldFrameRepeat (s : State) : Outcome State Fault Refusal := .next s.heldRepeat

/-! ## Commit conditions (R111, R113) -/

def parOf (p : Nat × Nat) (tick : Nat) : Nat := if tick % 2 = 0 then p.1 else p.2
def zeroPar (p : Nat × Nat) (tick : Nat) : Nat × Nat := if tick % 2 = 0 then (0, p.2) else (p.1, 0)

/-- The counted engines of the open tick. -/
def State.countedEngines (s : State) : List Nat := (s.tk.counted.map (· / 16)).dedup

/-- Engine `e` counts as DRAINED for tick `n`: its fence is complete, or every counted strand is done and every publication
write is acknowledged. -/
def State.drained (s : State) (e n : Nat) : Bool :=
  if s.tk.fenced.contains e then (smapFind s.tk.fencedAt e).isSome
  else
    (s.tk.counted.all fun k => decide (k / 16 ≠ e) || (smapFind s.tk.doneAt k).isSome) &&
    parOf (s.eng e).issued n == parOf (s.eng e).acked n

/-- The DONE time of engine `e`: that of its last counted strand; none where it was fenced before. -/
def State.doneTime (s : State) (e : Nat) : Option Nat :=
  (s.tk.counted.filter fun k => k / 16 == e).foldl (fun a k =>
    match a, smapFind s.tk.doneAt k with
    | some x, some y => some (max x (y - 1))
    | _, _ => none) (some 0)

/-- TK_EDONE of engine `e`. One not counted reads 0, and a time past its 30 bits saturates. DESIGN CHOICE, unsafe (log 183). -/
def State.writeEdone (s : State) (e : Nat) : State :=
  let put (s : State) (c f n : Nat) : State :=
    ((s.setFld F.TK_EDONE_counted e 0 c).setFld F.TK_EDONE_fenced e 0 f).setFld F.TK_EDONE_ns e 0 (min n (2 ^ 30 - 1))
  if !s.countedEngines.contains e then put s 0 0 0
  else
    match s.doneTime e with
    | some n => put s 1 0 n
    | none => put s 1 1 ((smapFind s.tk.fencedAt e).getD 1 - 1)

/-- The tick whose commit a snapshot's final round holds (R127). -/
def State.snapHolds (s : State) (n : Nat) : Bool := s.snap.final.any fun f => f + 1 == n

/-- Every condition of the open tick but a snapshot's hold is met. -/
def State.allDrained (s : State) : Bool :=
  match s.tk.sim with
  | none => false
  | some n => s.tk.cond.isNone && s.countedEngines.all fun e => s.drained e n

/-- A signed time in a 32-bit saturating register. -/
def satSigned (x : Int) : Nat := ofSigned 32 (max (-(2 ^ 31)) (min (2 ^ 31 - 1) x))

/-- COMMIT_CONDITIONS_MET (R111, R113). -/
def State.conditionsMet (s : State) : State :=
  match s.tk.sim with
  | none => s
  | some n =>
    if s.allDrained && !s.snapHolds n then
      let s1 := s.countedEngines.foldl (fun s e =>
        s.setEng e { s.eng e with issued := zeroPar (s.eng e).issued n, acked := zeroPar (s.eng e).acked n }) s
      let s2 := (List.range 34).foldl (fun s e => s.writeEdone e) s1
      let s3 := s2.setFld F.TK_SLACK_ns 0 0 (satSigned ((s.tk.simStart + s.tk.simDl : Nat) - (s.tb : Int)))
      let s4 := if s.tk.cur = some n then s3.setFld F.TK_STATUS_phase 0 0 3 else s3
      { s4 with tk := { s4.tk with cond := some s.tb } }
    else s
def execCommitConditionsMet (s : State) : Outcome State Fault Refusal := .next s.conditionsMet

/-! ## The mask ladder (R119, R120) -/

/-- The rungs after the commit of tick `n` with change mask `c`. -/
def newRungs (n c : Nat) (old : List Nat) : List Nat :=
  (List.range 5).map fun i =>
    if i = 0 then c else if n % 2 ^ i = 0 then c ||| old.getD (i - 1) 0 else c ||| old.getD i 0

/-- The five rungs of an entity; all ones where the record cannot be read (R294). -/
def State.rungs (s : State) (i m : Nat) : List Nat × State :=
  let r := s.tkRead (s.ladderAddr i) 40 m
  match r.1 with
  | some v => ((List.range 5).map fun k => bitsOf v (64 * k) 64, r.2)
  | none => (List.replicate 5 (2 ^ 64 - 1), r.2)

def rungWord (l : List Nat) : Nat := l.foldr (fun x a => x + 2 ^ 64 * a) 0

/-- The ladder of entity `i` at the commit of `n`. -/
def State.ladderStep (s : State) (i n c : Nat) : State :=
  let r := s.rungs i 57
  r.2.tkPut (s.ladderAddr i) 40 (rungWord (newRungs n c r.1)) 0xFF

/-! ## Snapshot dirty marks (R127) -/

/-- An export is under way. -/
def State.snapRuns (s : State) : Bool :=
  let x := s.fld F.SNAP_STATUS_state 0 0
  1 ≤ x && x ≤ 3

/-- A byte of dirty bitmap `k`, bit `i`. -/
def snapBit (k i : Nat) : Nat := devAddr 0 (0x970000 + 0x40000 * k + i / 8)

/-- Set the bit of index `i` in the active bitmap. -/
def State.snapMark (s : State) (i : Nat) : State :=
  if s.snapRuns && !s.snap.dirty.contains i then
    let wa := snapBit s.snap.active i
    let r := s.tkRead wa 1 57
    ({ r.2 with snap := { r.2.snap with dirty := r.2.snap.dirty ++ [i] } }).tkWrite wa 1 ((r.1.getD 0) ||| 2 ^ (i % 8))
  else s

/-! ## The entry pass (R115) -/

/-- The handles of a list in the device area, read by master `m`: up to 16,384, ended by 0. -/
def handlesFrom (m : Nat) : Nat → State → Nat → List Nat → List Nat × State
  | 0, s, _, acc => (acc, s)
  | f + 1, s, wa, acc =>
    let r := s.tkRead wa 4 m
    match r.1 with
    | some h => if h = 0 then (acc, r.2) else handlesFrom m f r.2 (wa + 4) (acc ++ [h])
    | none => (acc, r.2)
def State.handles (s : State) (m wa : Nat) : List Nat × State := handlesFrom m 16384 s wa []

/-- The handle goes into departure list `n` (R106). -/
def State.departs (s : State) (n h : Nat) : State :=
  let k := s.tk.freed
  let s1 := if k < 16384 then s.tkWrite (devAddr 0 (0x860000 + 0x10000 * (n % 17) + 4 * k)) 4 h else s
  { s1 with tk := { s1.tk with freed := k + 1 } }

/-- A pending move of entity `i` is applied; `flip`: the entity is published and flipped now (R121). -/
def State.applyMove (s : State) (i : Nat) (flip : Bool) : State :=
  let r := s.gridRead (s.linkAddr i) 16 57
  let w := r.1.getD 0
  if !bitOf w 84 || !(linkIn w || flip) then r.2
  else
    let cell := bitsOf w 64 20
    if linkIn w && linkCell w == cell then r.2.tkPut (s.linkAddr i + 8) 8 0 0
    else
      let s1 := ((r.2.unlink i).linkHead i cell).snapMark i
      { s1 with tk := { s1.tk with moved := s1.tk.moved + 1 } }

/-- Published is cleared, and an unlocked entity's owner. -/
def settled (v : Word64) : Word64 :=
  let w := withPublished v false
  if entLock w then w else withOwner w 0x3F

/-- A valid entry in the pass of tick `n`; a quarantined one stays unchanged (R105). A torn entity stays in its cell: its pending move
stays pending (R115, R123). DEDUCED, unsafe (log 63). -/
def State.entryPass (s : State) (n i : Nat) : State :=
  let v := s.entry i
  if !entValid v || s.ed.quar.contains i then s
  else if entFreeing v then
    ((s.departs n (mkHandle i (entGen v))).freeNow i).snapMark i
  else if entPublished v && (s.tk.fenced.contains (entOwner v) || entTorn v) then
    let s1 := ((s.setEntry i (settled (withTorn v true))).tkPut (s.maskAddr i) 8 0 0xFF).snapMark i
    s1.ladderStep i n 0
  else if entPublished v then
    let r := s.tkRead (s.maskAddr i) 8 57
    let c := r.1.getD (2 ^ 64 - 1)
    let s1 := ((r.2.setEntry i (settled (withLive v (1 - entLive v)))).tkPut (s.maskAddr i) 8 0 0xFF).snapMark i
    (({ s1 with tk := { s1.tk with flipped := s1.tk.flipped + 1 } }).ladderStep i n c).applyMove i true
  else
    let s1 := (s.setEntry i (settled v)).ladderStep i n 0
    if entTorn v then s1 else s1.applyMove i false

/-- The record of tick `n` in the commit ring (R106). -/
def recordAddr (n : Nat) : Nat := devAddr 0 (0x840000 + 64 * (n % 64))

/-- Departure list `n` is ended, unless it is full (R106). -/
def State.endDepart (s : State) (n : Nat) : State :=
  let k := s.tk.freed
  if k < 16384 then s.tkWrite (devAddr 0 (0x860000 + 0x10000 * (n % 17) + 4 * k)) 4 0 else s

/-- The indices created in the open tick are marked for a snapshot that runs (R127). -/
def State.markBirths (s : State) : State :=
  if s.snapRuns && s.ed.births != 0 then
    let b := s.handles 57 (devAddr 0 0x850000)
    (b.1.take s.ed.births).foldl (fun s h => s.snapMark (hIndex h)) b.2
  else s

/-- COMMIT_OPEN (R114): the build barrier has ended; the open marker is written, then the entry pass runs. A commit that has
not opened when HALT is entered is never opened (R116). -/
def State.commitOpen (s : State) : State :=
  match s.tk.sim, s.tk.cond with
  | some n, some at' =>
    if s.fldB F.TK_STATUS_commit_open 0 0 || !s.st.builds.isEmpty || s.mode == 7 then s
    else
      let s1 := (s.tkWrite (recordAddr n + 60) 4 0).setFld F.TK_STATUS_commit_open 0 0 1
      let s1 := s1.setFld F.TK_COMMIT_TIME_barrier 0 0 (min ((s.tb - at') / 16) 65535)
      let s2 := ({ s1 with tk := { s1.tk with openAt := s.tb, flipped := 0, freed := 0, moved := 0 } }).edScan 57
        fun i => entValid (s1.entry i)
      let s3 := (s2.ed.ent.map (·.1)).foldl (fun s i => s.entryPass n i) s2
      s3.markBirths.endDepart n
  | _, _ => s
def execCommitOpen (s : State) : Outcome State Fault Refusal := .next s.commitOpen

/-! ## The commit record (R117) and the title mirror (R387) -/

def State.validCount (s : State) : Nat := (s.ed.ent.filter fun e => entValid e.2).length
def State.tornCount (s : State) : Nat := (s.ed.ent.filter fun e => entValid e.2 && entTorn e.2).length

/-- Bytes 0x00 to 0x3B of the record of tick `n`, closed now. DESIGN CHOICE, unsafe (log 65). -/
def State.commitRecord (s : State) (n : Nat) : List Byte :=
  leBytes 4 0x52434B54 ++ leBytes 2 1 ++ leBytes 2 (b2n s.tk.late + 2 * b2n s.tk.warm + 4 * b2n s.tk.waited) ++
  leBytes 8 n ++ leBytes 8 s.tk.simStart ++ leBytes 8 (s.tk.cond.getD 0) ++ leBytes 8 s.tb ++
  leBytes 4 s.tk.flipped ++ leBytes 4 s.ed.births ++ leBytes 4 s.tk.freed ++ leBytes 4 s.tk.moved ++
  leBytes 4 s.validCount

/-- A whole record's commit word. -/
def commitWord (n : Nat) : Nat := n % 2 ^ 30 * 4 + 1

/-- The title mirror is written (R387): the counters as the last interval boundary left them first, then granule 0. -/
def State.titleMirror (s : State) : State :=
  if s.fldB F.PM_TITLE_enable 0 0 && s.mode == 3 then
    let wa := s.fld F.PM_TITLE_base 0 0 * 64
    let sq := s.pm.mirrorSeq + 1
    let on := (List.range 16).map fun k => s.fldB F.PM_CNT_SEL_title k 0
    let cnt := (List.range 16).flatMap fun k =>
      leBytes 8 (if s.fldB F.PM_CNT_SEL_title k 0 then s.fld F.PM_CNT_count k 0 else 0)
    let mask := (on.zipIdx.map fun e => b2n e.1 * 2 ^ e.2).sum
    let g0 := leBytes 8 (s.fld F.TK_COMMITTED_tick 0 0) ++ leBytes 8 s.pm.boundary ++ leBytes 2 mask ++ leBytes 2 0 ++ leBytes 4 sq ++
      List.replicate 40 0
    (({ s with pm := { s.pm with mirrorSeq := sq } }).worldPut (wa + 64) 34 cnt).worldPut wa 34 g0
  else s

/-- View and filter changes held since the last commit take effect (R149): (session, selector, value), in order.
DESIGN CHOICE, unsafe (log 64). -/
def State.applyViews (s : State) : State :=
  let s1 := s.st.pend.foldl (fun s p =>
    let x := smapGet ses0 s.ses p.1
    let c := if p.2.1 = 2 then { x.ctx with view := p.2.2 } else { x.ctx with filter := p.2.2 }
    { s with ses := smapPut ses0 s.ses p.1 { x with ctx := c } }) s
  { s1 with st := { s1.st with pend := [] } }

/-- The record of the commit, its commit word last, then REPLICATE opens (R114). -/
def State.commitClose (s : State) : State :=
  match s.tk.sim with
  | none => s
  | some n =>
    if !s.fldB F.TK_STATUS_commit_open 0 0 then s
    else
      let s1 := (s.worldPut (recordAddr n) 57 (s.commitRecord n)).tkWrite (recordAddr n + 60) 4
        (commitWord n)
      let s2 := (((s1.setFld F.TK_COMMITTED_tick 0 0 n).setFld F.TK_STATUS_commit_open 0 0 0).setFld
        F.TK_COMMIT_TIME_commit 0 0 (min ((s.tb - s.tk.openAt) / 16) 65535)).tkWrite (devAddr 0 0x850000) 4 0
      let s3 := if s.tk.cur = some n then s2.setFld F.TK_STATUS_phase 0 0 0 else s2
      let s4 := { s3 with ed := { s3.ed with births := 0, frees := 0, lost := false }
                          tk := { s3.tk with sim := none, cond := none, counted := [], warm := false, waited := false,
                                             fenced := [], govDue := true } }
      ((s4.occ { ev := 0x42, inst := 0, inc := s.tb - s.tk.openAt }).applyViews).titleMirror
/-- COMMIT_CLOSE; a commit that a HALT has kept open, or must keep open, stays open (R116). -/
def execCommitClose (s : State) : Outcome State Fault Refusal := .next (if s.mode = 7 ∨ s.fc.keepOpen then s else s.commitClose)

/-! ## Torn entities (R123, R124) and the grid size (R122) -/

/-- A torn entity's handle is checked: 1 stale, 2 not torn. -/
def State.resolveCheck (s : State) (h : Nat) : Nat :=
  let v := s.entry (hIndex h)
  if 2 ^ 31 ≤ h ∨ s.ed.quar.contains (hIndex h) ∨ !entValid v ∨ entGen v ≠ hGen h then 1
  else if !entTorn v then 2 else 0

/-- ED_RESOLVE_KEEP: torn and the lock are cleared. -/
def State.resolveKeep (s1 : State) (h : Nat) : State :=
  let s := s1.edScan 34 (· == hIndex h)
  let s0 := s.setFld F.ED_RESOLVE_HANDLE_handle 0 0 h
  let r := s.resolveCheck h
  let s1 := s0.setFld F.ED_RESOLVE_CMD_result 0 0 r
  if r ≠ 0 then s1
  else
    let v := withTorn (s.entry (hIndex h)) false
    s1.setEntry (hIndex h) (if entLock v then unlocked v (entOwner v) else v)
def execEdResolveKeep (handle : Word32) (s : State) : Outcome State Fault Refusal := .next (s.resolveKeep handle.toNat)

/-- ED_RESOLVE_FREE: torn is cleared, and the entity is freed at the next commit, or at once outside SERVE. -/
def State.resolveFree (s1 : State) (h : Nat) : State :=
  let s := s1.edScan 34 (· == hIndex h)
  let s0 := s.setFld F.ED_RESOLVE_HANDLE_handle 0 0 h
  let r := s.resolveCheck h
  let s1 := s0.setFld F.ED_RESOLVE_CMD_result 0 0 r
  if r ≠ 0 then s1
  else if s.mode = 3 then s1.setEntry (hIndex h) (marked (withTorn (s.entry (hIndex h)) false))
  else s1.freeNow (hIndex h)
def execEdResolveFree (handle : Word32) (s : State) : Outcome State Fault Refusal := .next (s.resolveFree handle.toNat)

/-- The first torn index at or after the cursor. -/
def State.tornAt (s : State) : Option Nat :=
  (s.ed.ent.find? fun e => decide (s.fld F.ED_TORN_CURSOR_index 0 0 ≤ e.1) && entValid e.2 && entTorn e.2).map (·.1)

/-- ED_TORN_CURSOR_WRITE: the cursor moves; the search it starts is what the register reads as. -/
def execEdTornCursorWrite (v : Word32) (s : State) : Outcome State Fault Refusal :=
  .next (s.setFld F.ED_TORN_CURSOR_index 0 0 v.toNat)

/-- ED_GRID_WRITE (R122): only in READY, and only a grid of at most 2^20 cells. -/
def State.gridWrite (s : State) (v : Nat) : State :=
  if s.mode = 2 ∧ bitsOf v 0 4 + bitsOf v 4 4 ≤ 20 then
    (s.setFld F.ED_GRID_xbits 0 0 (bitsOf v 0 4)).setFld F.ED_GRID_ybits 0 0 (bitsOf v 4 4)
  else s
def execEdGridWrite (v : Word32) (s : State) : Outcome State Fault Refusal := .next (s.gridWrite v.toNat)

/-! ## Warm restart (R125) -/

/-- The tick of the whole record in slot `k` of the ring, and the slot's commit word. -/
def State.ringRecord? (s : State) (k : Nat) : Option Nat × Nat × State :=
  let r := s.tkRead (recordAddr k) 64 57
  match r.1 with
  | none => (none, 0xFFFFFFFF, r.2)
  | some v =>
    let w := bitsOf v 480 32
    let t := bitsOf v 64 64
    (if w = commitWord t then some t else none, w, r.2)

/-- The newest whole record. -/
def State.newestRecord (s : State) : Option Nat × State :=
  (List.range 64).foldl (fun a k =>
    let r := a.2.ringRecord? k
    (match a.1, r.1 with
      | some x, some y => some (max x y)
      | none, y => y
      | x, none => x, r.2.2)) (none, s)

/-- An entity of the birth list is undone. -/
def State.unbirth (s : State) (h : Nat) : State :=
  let i := hIndex h
  let v := s.entry i
  if entValid v && entGen v == hGen h && !s.ed.quar.contains i then
    let s1 := s.setEntry i (entPut entry0 54 10 (entGen v))
    { s1 with ed := { s1.ed with free := freePush s1.ed.free i } }
  else s

/-- An entry ever used at a warm restart: of a valid one published, lock and freeing mark are cleared and the owner is 0x3F; its pending
mask and move are zeroed, valid or not. -/
def State.warmEntry (s : State) (i : Nat) : State :=
  let v := s.entry i
  let s1 := if entValid v && !s.ed.quar.contains i then
      s.setEntry i (withOwner (withLock (withPublished v false) false) 0x3F) else s
  (s1.tkPut (s.maskAddr i) 8 0 0xFF).tkPut (s.linkAddr i + 8) 8 0 0

/-- TK_WARM_START (R125): ignored in SERVE and while one runs. -/
def execTkWarmStart (s : State) : Outcome State Fault Refusal :=
  .next (if s.mode = 3 ∨ s.fldB F.TK_WARM_busy 0 0 then s else s.setFld F.TK_WARM_busy 0 0 1)

/-- WARM_RESTART_COMPLETE (R125). -/
def State.warmRestart (s : State) : State :=
  if !s.fldB F.TK_WARM_busy 0 0 then s
  else
    let done (s : State) (r : Nat) : State := (s.setFld F.TK_WARM_result 0 0 r).setFld F.TK_WARM_busy 0 0 0
    let r := s.newestRecord
    match r.1 with
    | none => done r.2 2
    | some t =>
      let q := r.2.ringRecord? (t + 1)
      if q.2.1 = 0 then done q.2.2 3
      else if s.ed.lost then done q.2.2 4
      else
        let b := (q.2.2.edScan 57 fun i => entValid (s.entry i)).handles 57 (devAddr 0 0x850000)
        let s1 := b.1.foldl (fun s h => s.unbirth h) b.2
        let s2 := ({ s1 with ed := { s1.ed with births := 0, frees := 0 } }).tkWrite (devAddr 0 0x850000) 4 0
        let s3 := (s2.ed.ent.map (·.1)).foldl (fun s i => s.warmEntry i) s2
        let s4 := { s3 with tk := { s3.tk with cur := none, sim := none, cond := none, counted := [], warm := true } }
        done (((s4.setFld F.TK_COMMITTED_tick 0 0 t).setFld F.TK_NEXT_tick 0 0 (t + 1)).setFld F.TK_STATUS_phase 0 0 0) 1
def execWarmRestartComplete (s : State) : Outcome State Fault Refusal := .next s.warmRestart

end Sys2Proof.Machine
end

