-- ==== Sys2Proof/Machine/Session.lean ====
section
/-!
DEFINITION. The session table (spec/05): contexts (R132), key records and title buffers (R130, R131), events (R137), the
context commands (R134, R136), ageing (R133), the session instructions (R87 to R90), and the responses of the directory and
the session table (R112).
-/

namespace Sys2Proof.Machine
open Host

/-! ## Contexts (R132) -/

def SesSt.code : SesSt → Nat
  | .free => 0 | .joining => 1 | .live => 2 | .quiet => 3 | .closing => 4
def sesStOf (n : Nat) : SesSt :=
  match n with | 1 => .joining | 2 => .live | 3 => .quiet | 4 => .closing | _ => .free

/-- The sixteen words of a context. -/
def Ctx.words (c : Ctx) : List Nat :=
  [ c.st.code + b2n c.aes256 * 2 ^ 3 + b2n c.v6 * 2 ^ 4 + c.port * 2 ^ 5 + b2n c.heard * 2 ^ 8 + b2n c.keyPend * 2 ^ 9 +
      c.age * 2 ^ 10 + c.gen * 2 ^ 16 + c.limit * 2 ^ 30,
    c.peerPort + c.budget * 2 ^ 16,
    bitsOf c.addr 0 32, bitsOf c.addr 32 32, bitsOf c.addr 64 32, bitsOf c.addr 96 32,
    c.view, c.filter + c.home * 2 ^ 16 + c.used * 2 ^ 22,
    c.base, c.ctr, c.ringBase + c.ringZ * 2 ^ 14 + c.newest * 2 ^ 17,
    c.wr + c.rd * 2 ^ 13, c.unread + b2n c.gap * 2 ^ 10, c.high, c.replay + c.rtt * 2 ^ 16, c.off + c.join * 2 ^ 16 ]

/-- A context from its words. -/
def ctxOf (w : List Nat) : Ctx :=
  let g (k lo n : Nat) : Nat := bitsOf (w.getD k 0) lo n
  { st := sesStOf (g 0 0 3), aes256 := g 0 3 1 == 1, v6 := g 0 4 1 == 1, port := g 0 5 3, heard := g 0 8 1 == 1,
    keyPend := g 0 9 1 == 1, age := g 0 10 6, gen := g 0 16 14, limit := g 0 30 2, peerPort := g 1 0 16,
    budget := g 1 16 12, addr := g 2 0 32 + g 3 0 32 * 2 ^ 32 + g 4 0 32 * 2 ^ 64 + g 5 0 32 * 2 ^ 96,
    view := g 6 0 28, filter := g 7 0 16, home := g 7 16 6, used := g 7 22 3, base := g 8 0 32, ctr := g 9 0 31,
    ringBase := g 10 0 14, ringZ := g 10 14 3, newest := g 10 17 13, wr := g 11 0 13, rd := g 11 13 13,
    unread := g 12 0 10, gap := g 12 10 1 == 1, high := g 13 0 32, replay := g 14 0 16, rtt := g 14 16 16,
    off := g 15 0 16, join := g 15 16 10 }

/-- A session handle: index ‖ generation. -/
def State.sesHandle (s : State) (i : Nat) : Nat := i * 2 ^ 14 + (s.ctx i).gen
def noBase : Nat := 0xFFFFFFFF
/-- The low 32 bits of the last committed tick (R137, R141). -/
def State.committed32 (s : State) : Nat := s.fld F.TK_COMMITTED_tick 0 0 % 2 ^ 32
def State.noneCommitted (s : State) : Bool := s.fld F.TK_COMMITTED_tick 0 0 == 2 ^ 64 - 1
/-- Tick `a` is later than `b`, modulo 2^32 (R141). -/
def laterTick (a b : Nat) : Bool := decide (0 < toSigned 32 (a + 2 ^ 32 - b % 2 ^ 32))
/-- The ST quarter of a session is powered. -/
def State.stOn (s : State) (i : Nat) : Bool := s.domOn (97 + i / 65536 % 4)

/-! ## The ST's regions (R130) -/

def State.keyRec (s : State) (i : Nat) : Nat := devAddr (i % logicals s.part) (0xA00000 + 64 * (i / logicals s.part))
def bufAddr (home buf : Nat) : Nat := devAddr home (0xB00000 + 2048 * buf)
def Ctx.ringAddr (c : Ctx) : Nat := devAddr c.home (0xC00000 + 256 * c.ringBase)
def Ctx.ringSize (c : Ctx) : Nat := 256 * 2 ^ c.ringZ

/-- The key in a lane's cache. -/
def State.keyCached (s : State) (i lane : Nat) : Option (List Nat) :=
  ((smapGet [] s.st.keyCache lane).find? fun e => e.1 == i).map (·.2)
/-- A key enters the cache of a lane, which holds 1,024; the oldest gives way. DESIGN CHOICE, safe (log 179). -/
def State.keyKeep (s : State) (i lane : Nat) (k : List Nat) : State :=
  { s with st := { s.st with keyCache := smapPut [] s.st.keyCache lane (((i, k) :: smapGet [] s.st.keyCache lane).take 1024) } }
/-- No cache holds a key of these sessions any longer. -/
def State.keysForget (s : State) (gone : Nat → Bool) : State :=
  { s with st := { s.st with keyCache := s.st.keyCache.map fun e => (e.1, e.2.filter fun x => !gone x.1) } }

/-- The key record of session `i` could not be read, or its wrap failed: the ST group takes the fault (R360). DEDUCED, unsafe (log 201). -/
def State.keyLost (s : State) (i : Nat) : State :=
  s.raise { group := 46, src := 1, inst := 0, master := 56, access := 4, addr := i }

/-- The session key, unwrapped, from lane `lane`'s cache; on a miss its record is read in class `k`, and its deadline is `due`
(R130, R158). None where the record cannot be read or its wrap fails. -/
def State.sesKey (s : State) (i lane k : Nat) (due : Option Nat) : Option (List Nat) × State :=
  let cut (x : List Nat) : List Nat := if (s.ctx i).aes256 then x else x.take 16
  match s.keyCached i lane with
  | some x => (some (cut x), s)
  | none =>
    let s1 := match due with | some d => s.lateSpan (s.keyRec i) 40 d | none => s
    let r := s1.worldGet (s.keyRec i) 40 56 (some k)
    match r.2.1 with
    | some .clean =>
      (match keyUnwrap (toNats s.st.kek) (toNats r.1) with
       | some x => (some (cut x), r.2.2.keyKeep i lane x)
       | none => (none, r.2.2.keyLost i))
    | _ => (none, r.2.2.keyLost i)

/-- A 4-byte count of the key record: 0x28 the next title sequence, 0x2C the highest acknowledged. -/
def State.keyCount (s : State) (i off : Nat) : Nat × State :=
  let r := s.worldGet (s.keyRec i + off) 4 56 none
  (leNat r.1, if r.2.1 = some .clean then r.2.2 else r.2.2.keyLost i)
def State.setKeyCount (s : State) (i off v : Nat) : State :=
  s.worldPut (s.keyRec i + off) 56 (leBytes 4 v)

/-! ## Events (R136, R137) -/

/-- A session event is written to the title's ring, where the ring is enabled and served. DEDUCED, unsafe (log 71). -/
def State.stEvent (s : State) (kind reason i : Nat) : State :=
  let sq := (s.st.evSeq + 1) % 2 ^ 32
  let n := 256 * 2 ^ s.fld F.ST_EVT_SIZE_code 0 0
  let wa := s.fld F.ST_EVT_BASE_base 0 0 * 256 + 16 * (sq % n)
  let body := leBytes 4 sq ++ leBytes 1 kind ++ leBytes 1 reason ++ leBytes 2 s.st.evMiss ++ leBytes 4 (s.sesHandle i) ++
    leBytes 4 s.committed32
  let s1 := { s with st := { s.st with evSeq := sq } }
  let w := s1.worldWrite wa 56 none (bytesAt (wa % 64) body)
  if s.fldB F.ST_EVT_SIZE_enable 0 0 && w.1 then { w.2 with st := { w.2.st with evMiss := 0 } }
  else { s1 with st := { s1.st with evMiss := min 65535 (s.st.evMiss + 1) } }

/-- FREED goes to the firmware's FIFO too (R136). -/
def State.fwEvent (s : State) (kind reason i : Nat) : State :=
  if s.st.fwEv.length < 1024 then { s with st := { s.st with fwEv := s.st.fwEv ++ [(s.sesHandle i, reason, kind)] } }
  else { s with st := { s.st with fwLost := true } }

/-- ST_FW_EVENT_POP: the read answers the oldest entry's handle and removes it; 0 where there is none. The high word, with
`valid` and `lost`, is held for the path (R7), and `lost` is cleared. -/
def State.fwPop (s : State) : Nat × Nat × State :=
  let s1 := { s with st := { s.st with fwEv := s.st.fwEv.tail, fwLost := false } }
  match s.st.fwEv with
  | [] => (0, b2n s.st.fwLost * 2 ^ 30, s1)
  | (h, r, k) :: _ => (h, 2 ^ 31 + b2n s.st.fwLost * 2 ^ 30 + r * 2 ^ 16 + k, s1)
/-- A path of R7 as a number. DEDUCED, unsafe (log 15). -/
def pathKey (p : Path) : Nat :=
  match p with
  | .mgmt => 16
  | .ce e t => 32 + 16 * e.val + t.val
  | .sv t => t.val
def State.holdHigh (s : State) (p : Path) (addr hi : Nat) : State :=
  { s with holdRd := smapInsert s.holdRd (pathKey p) (addr, hi) }
def execStFwEventPop (path : Path) (s : State) : Outcome State Fault Refusal :=
  .next { (s.fwPop.2.2.holdHigh path 0x3100A0 s.fwPop.2.1) with lastRead := s.fwPop.1 }

/-! ## Title buffers and slots (R131) -/

/-- Buffers a session holds. -/
def State.buffersOf (s : State) (i : Nat) : Nat := (s.st.msgs.filter fun m => m.ses == i).length
/-- The lowest free buffer of a home channel. -/
def State.freeBuffer (s : State) (home : Nat) : Option Nat :=
  (List.range 512).find? fun b => !(s.st.msgs.any fun m => m.home == home && m.buf == b)

/-- A session has a queue slot and a buffer for one more message. -/
def State.slotRoom (s : State) (i : Nat) : Bool :=
  let c := s.ctx i
  decide (c.used < c.limit + 1) && decide (s.buffersOf i < c.limit + 1) && (s.freeBuffer c.home).isSome

/-- First parts that wait on sessions of a home channel, in arrival order. -/
def State.slotQueue (s : State) (home : Nat) : List Op :=
  s.ops.filter fun o => decide (o.kind = .sesSend) && decide (o.st = .waiting) && (s.ctx (o.addr / 2 ^ 14)).home == home

def sendLen (w : Nat) : Nat := bitsOf w 0 11
def sendMore (w : Nat) : Bool := bitOf w 16
def sendKind (w : Nat) : Nat := bitsOf w 20 4

/-- The strand takes a slot and a buffer for a message of session `i`. -/
def State.takeSlot (s : State) (i : Nat) (o : Op) : State :=
  let c := s.ctx i
  match s.freeBuffer c.home with
  | none => s
  | some b =>
    let s1 := s.setCtx i { c with used := c.used + 1 }
    let s2 := { s1 with st := { s1.st with msgs := s1.st.msgs ++
      [(⟨c.home, b, i, sendKind o.a2, 0, 0, some (o.e, o.t), 0⟩ : Msg)] } }
    let x := s2.strand o.e o.t
    s2.setStrand o.e o.t { x with slots := x.slots ++ [i] }

/-- The tick a message is completed in (R153): that of the strand's window; outside one the last committed, or 0 before the first commit.
DESIGN CHOICE, unsafe (log 75). -/
def State.msgTick (s : State) (o : Op) : Nat := o.pub.getD (if s.noneCommitted then 0 else s.fld F.TK_COMMITTED_tick 0 0)

/-- A message is complete: it takes its sequence, becomes visible to replication, and the slot is released (R89). -/
def State.completeMsg (s : State) (i : Nat) (o : Op) (m : Msg) : State :=
  let q := s.keyCount i 0x28
  let s1 := q.2.setKeyCount i 0x28 (q.1 + 1)
  (s1.setMsg { m with seq := q.1, filler := none, tick := s.msgTick o }).releaseSlot i o.e o.t

/-- One part of a message the strand is filling: BUDGET above 2,032 bytes, the message discarded and the slot released (R153);
status 1 where the session is CLOSING (R136). -/
def State.sendPart (s : State) (i : Nat) (o : Op) : State :=
  match s.filling i o.e o.t with
  | none => (s.releaseSlot i o.e o.t).completeOp o 1
  | some m =>
    let last := !sendMore o.a2
    if (s.ctx i).st = .closing then
      (if last then (s.dropMsg m).releaseSlot i o.e o.t else s).completeOp o 1
    else if 2032 < m.len + sendLen o.a2 then
      ((s.dropMsg m).releaseSlot i o.e o.t).failOp o { cause := .budget, addr := BitVec.ofNat 64 o.addr }
    else
      let wa := bufAddr m.home m.buf + m.len
      let s1 := (s.lateSpan wa o.data.length o.dl).worldPut wa (engMaster o.e) o.data
      let m1 := { m with len := m.len + sendLen o.a2 }
      (if last then s1.completeMsg i o m1 else s1.setMsg m1).completeOp o 0

/-- A first part is granted: the strand goes on. -/
def State.grantSlot (s : State) (i : Nat) (o : Op) : State :=
  (((s.takeSlot i o).setOp { o with st := .sent }).sendPart i o).endWait o.e o.t

/-- A waiting or arriving first part ends with a status, holding nothing. -/
def State.endSend (s : State) (o : Op) (status : Nat) : State := (s.completeOp o status).endWait o.e o.t

/-- Every first part that waits on session `i` ends with a status (R133). -/
def State.endSends (s : State) (i status : Nat) : State :=
  (s.ops.filter fun o => decide (o.kind = .sesSend) && decide (o.st = .waiting) && o.addr / 2 ^ 14 == i).foldl
    (fun s o => s.endSend o status) s

/-- SESSION_SLOT_GRANT (R131): the first waiting part, in arrival order, whose session has room. -/
def State.slotGrant (s : State) (home : Nat) : State :=
  match (s.slotQueue home).find? fun o => s.slotRoom (o.addr / 2 ^ 14) with
  | none => s
  | some o => s.grantSlot (o.addr / 2 ^ 14) o

/-- Parts that wait on a home channel are served in arrival order while there is room. -/
def State.slotGrants (s : State) (home : Nat) : Nat → State
  | 0 => s
  | n + 1 => (s.slotGrant home).slotGrants home n

/-- A first part arrives at the ST: those that wait and have room go before it (R131). DEDUCED, unsafe (log 69). -/
def State.firstPart (s0 : State) (i : Nat) (o : Op) : State :=
  let c := s0.ctx i
  if c.st = .closing ∨ c.st = .free then s0.endSend o 1
  else
    let s := s0.slotGrants c.home (s0.slotQueue c.home).length
    if s.slotRoom i then s.grantSlot i o
    else if c.st = .quiet then s.endSend o 2
    else (s.queueOp o).addFld F.ST_BUF_WAIT_count 0 0 1
def execSessionSlotGrant (home : Fin 32) (s : State) : Outcome State Fault Refusal := .next (s.slotGrant home.val)

/-! ## Input rings (R140) -/

/-- A ring offset moved on by `n` bytes: its wrap bit turns at the ring's end. -/
def ringAdd (size off n : Nat) : Nat :=
  let p := off % 4096 + n
  let w := off / 4096
  if size ≤ p then (1 - w) * 4096 + (p - size) else w * 4096 + p
/-- Bytes in the ring. -/
def Ctx.ringUsed (c : Ctx) : Nat :=
  if c.wr / 4096 = c.rd / 4096 then c.wr % 4096 - c.rd % 4096 else c.ringSize - c.rd % 4096 + c.wr % 4096
/-- The gap clears when at least half the ring is free. -/
def Ctx.clearGap (c : Ctx) : Ctx := if 2 * (c.ringSize - c.ringUsed) < c.ringSize then c else { c with gap := false }

/-- Read ring bytes from an offset, in a class (none: by address) and under a deadline; the ring may wrap. -/
def State.ringGet (s : State) (c : Ctx) (off n m : Nat) (cls : Option Nat) (due : Nat) : List Byte × Option GOut × State :=
  let p := off % 4096
  let k := min n (c.ringSize - p)
  let a := (s.lateSpan (c.ringAddr + p) k due).worldGet (c.ringAddr + p) k m cls
  if k = n then a
  else
    let b := (a.2.2.lateSpan c.ringAddr (n - k) due).worldGet c.ringAddr (n - k) m cls
    (a.1 ++ b.1, if a.2.1 = some .clean then b.2.1 else a.2.1, b.2.2)
def State.ringPut (s : State) (c : Ctx) (bs : List Byte) : State :=
  let p := c.wr % 4096
  let k := c.ringSize - p
  (s.worldPut (c.ringAddr + p) 56 (bs.take k)).worldPut c.ringAddr 56 (bs.drop k)

/-- The bytes a record of `n` payload bytes takes. -/
def ringRec (n : Nat) : Nat := 16 + (n + 15) / 16 * 16

/-- The trap for an outcome of R294. -/
def badTrap (out : Option GOut) (h : Nat) : Trap :=
  { cause := match out with | some .poisoned => .poison | none => .absent | _ => .uncorrectable, addr := BitVec.ofNat 64 h }

/-- SES.RECV at the ST (R88, R140). -/
def State.sesRecv (s : State) (i : Nat) (o : Op) : State :=
  let c := s.ctx i
  if c.unread = 0 ∨ !(c.st = .live ∨ c.st = .quiet) then s.completeOp o 0
  else
    let h := s.ringGet c c.rd 16 (engMaster o.e) none o.dl
    if h.2.1 ≠ some .clean then h.2.2.failOp o (badTrap h.2.1 o.addr)
    else
      let n := leNat (h.1.take 2)
      if laterTick (leNat ((h.1.drop 8).take 4)) o.a2 then h.2.2.completeOp o 0
      else
        let r := h.2.2.ringGet c c.rd (16 + n) (engMaster o.e) none o.dl
        if r.2.1 ≠ some .clean then r.2.2.failOp o (badTrap r.2.1 o.addr)
        else
          let c1 := ({ c with rd := ringAdd c.ringSize c.rd (ringRec n), unread := c.unread - 1 }).clearGap
          ((r.2.2.setCtx i c1).wrScratch o.e o.a1 r.1).completeOp o (16 + n)

/-! ## SES.INFO and SES.INFO.SET at the ST (R90, R149) -/

/-- DESIGN CHOICE, unsafe (log 68). -/
def State.sesInfo (s : State) (i sel : Nat) : Option Nat :=
  let c := s.ctx i
  match sel with
  | 0 => some c.st.code
  | 1 => some c.base
  | 2 => some c.view
  | 3 => some c.filter
  | 4 => some c.budget
  | 5 => some c.home
  | 6 => some c.rtt
  | 7 => some c.unread
  | _ => none

/-- A pending view or filter change: a second write of one field in a tick replaces the first. -/
def State.sesInfoSet (s : State) (i sel v : Nat) : Option State :=
  let l := s.st.pend.filter fun p => !(p.1 == i && p.2.1 == sel)
  if 4096 ≤ l.length then none else some { s with st := { s.st with pend := l ++ [(i, sel, v)] } }

/-- A session operation that ends in a trap: a wait for a slot ends; a slot held stays held, and the message it fills stays. -/
def State.stTrap (s : State) (o : Op) (tr : Trap) : State :=
  match (s.strand o.e o.t).wait with
  | some (.slot id _) => if id = o.id then (s.failOp o tr).endWait o.e o.t else s.failOp o tr
  | _ => s.failOp o tr

/-- The operation reads a context with a double-bit error: the ST group takes the fault (R22), and the operation ends in UNCORRECTABLE.
DESIGN CHOICE, unsafe (log 187). -/
def State.stUpset (s : State) (o : Op) : State :=
  (s.stLost o.e (o.addr / 2 ^ 14)).stTrap o
    { cause := .uncorrectable, addr := BitVec.ofNat 64 o.addr }

/-- The ST performs a session operation and its response arrives. A handle names a session only with bits [63:32] 0. DESIGN CHOICE,
unsafe (log 174). A later part of a message that is gone, with its slot, writes a status the spec does not give: a free value. -/
def State.stRespond (s : State) (o : Op) : State :=
  let i := o.addr / 2 ^ 14
  let held := (s.strand o.e o.t).slots.contains i
  if 2 ^ 32 ≤ o.addr ∨ (s.ctx i).gen ≠ o.addr % 2 ^ 14 then s.stTrap o { cause := .stale, addr := BitVec.ofNat 64 o.addr }
  else
    match o.kind with
    | .sesRecv => s.sesRecv i o
    | .sesSend =>
      if o.prog = 0 then s.firstPart i o
      else if held then s.sendPart i o
      else s.useFree.completeOp o (s.freeVal % 2 ^ 64)
    | .sesInfo =>
      match s.sesInfo i o.a1 with
      | some v => s.completeOp o v
      | none => s.useFree.completeOp o (s.freeVal % 2 ^ 64)
    | .sesInfoSet =>
      match s.sesInfoSet i o.a1 o.a2 with
      | some s1 => s1.ackOp o
      | none => s.failOp o { cause := .budget, addr := BitVec.ofNat 64 o.addr }
    | _ => s

/-- The ED quarter of an index is powered. -/
def State.edOn (s : State) (i : Nat) : Bool := s.domOn (93 + i / 524288 % 4)

/-- An earlier part of the strand's message to the same session is still on the way: parts are served in their order. -/
def State.partBefore (s : State) (o : Op) : Bool :=
  decide (o.kind = .sesSend) && (s.opsOf o.e o.t).any fun q =>
    decide (q.kind = .sesSend) && q.addr / 2 ^ 14 == o.addr / 2 ^ 14 && decide (q.id < o.id)

/-- The ED performs the operation, on an entry as the SECDED check finds it: a single-bit error is corrected. -/
def State.edAnswer (s : State) (o : Op) : State :=
  match s.edReads o with
  | some i => if o.sram = .double ∨ s.ed.upset.contains i then s.edUpset o i else s.edRespond o
  | none => s.edRespond o

/-- The ST performs the operation, on a context as the SECDED check finds it; a handle past the last session reads none. -/
def State.stAnswer (s : State) (o : Op) : State :=
  if (o.sram = .double ∨ s.st.upset.contains (o.addr / 2 ^ 14)) ∧ o.addr < 2 ^ 32 then s.stUpset o else s.stRespond o

/-- DIRECTORY_RESPONSE (R112): the ED or the ST performs a request that is on the way, and its response arrives. A unit without
power answers nothing. -/
def State.directoryResponse (s : State) (id : Nat) : State :=
  match s.findOp id with
  | none => s
  | some o =>
    if o.st ≠ .sent then s
    else if o.kind.isEnt && s.edOn (if o.kind = .entNew then 0 else hIndex o.addr) then s.edAnswer o
    else if o.kind.isSes && s.stOn (o.addr / 2 ^ 14) && !s.partBefore o then s.stAnswer o
    else s
def execDirectoryResponse (id : Nat) (s : State) : Outcome State Fault Refusal := .next (s.directoryResponse id)

/-! ## The session instructions (R87 to R90) -/

def execSesRecv (i : Iss) (f : FmtE) (s : State) : Outcome State Fault Refusal :=
  .next (issue s i { reads := gN f.rs1 ++ gN f.rs2, writes := gN f.rd, mem := true } none fun s =>
    let x := s.me i
    let h := x.rg f.rs1.toNat
    let a := x.rg f.rs2.toNat
    match firstTrap
      [ (a.toNat % 8 != 0, { cause := .align, addr := a }),
        (decide (s.scratchReach i < a.toNat + 2048), { cause := .range, addr := a }),
        (s.dlBad i f.dl, { cause := .deadline, addr := h }) ] with
    | some tr => .trap tr
    | none =>
      if s.fenced i.e.val i.t.val 5 then .stall
      else .go ((s.startOp i { id := 0, e := 0, t := 0, kind := .sesRecv, dst := regG f.rd.toNat, addr := h.toNat,
                               a1 := a.toNat, a2 := x.tick % 2 ^ 32, len := 2048, dl := (x.rdl f.dl.toNat).toNat }).advance i))

/-- A bad SES.SEND control word (R89). -/
def sendBad (w : Nat) : Bool :=
  sendLen w == 0 || decide (1024 < sendLen w) || bitsOf w 11 5 != 0 || bitsOf w 17 3 != 0 || decide (2 ^ 24 ≤ w)

/-- The last part of the strand's message to a session is still on the way: until it completes the strand holds the slot, and the
next message's first part cannot take one. DEDUCED, unsafe (log 172). -/
def State.lastPartOut (s : State) (e t idx : Nat) : Bool :=
  (s.opsOf e t).any fun o => decide (o.kind = .sesSend) && o.addr / 2 ^ 14 == idx && !sendMore o.a2

/-- SES.SEND (R89): a first part waits for its slot and buffer; a later part goes on with the message, its `prog` 1. The cases of ORDER
are taken in the order of their subcodes (log 185). DEDUCED, unsafe (log 29). DESIGN CHOICE, unsafe (log 173). -/
def execSesSend (i : Iss) (f : FmtE) (s : State) : Outcome State Fault Refusal :=
  .next (issue s i { reads := gN f.rs1 ++ gN f.rs2 ++ gN f.rd, writes := gN f.rd, mem := true } none fun s =>
    let e := i.e.val
    let t := i.t.val
    let x := s.me i
    let h := x.rg f.rs1.toNat
    let idx := h.toNat / 2 ^ 14
    let a := x.rg f.rs2.toNat
    let w := (x.rg f.rd.toNat).toNat
    let cont := x.slots.contains idx
    match firstTrap
      [ (sendBad w, { cause := .illegal, sub := 1 }),
        (a.toNat % 8 != 0, { cause := .align, addr := a }),
        (decide (s.scratchReach i < a.toNat + sendLen w), { cause := .range, addr := a }),
        (!cont && x.dma != 0, { cause := .order, addr := h }),
        (!cont && x.slots.any fun k => decide (idx ≤ k), { cause := .order, sub := 1, addr := h }),
        (s.dlBad i f.dl, { cause := .deadline, addr := h }) ] with
    | some tr => .trap tr
    | none =>
      if s.fenced e t 5 then .stall
      else if s.lastPartOut e t idx then .stall false
      else
        let id := s.nextOp
        let s1 := s.startOp i { id := 0, e := 0, t := 0, kind := .sesSend, dst := regG f.rd.toNat, addr := h.toNat,
                                a1 := a.toNat, a2 := w, data := s.rdScratch e a.toNat (sendLen w), prog := b2n cont,
                                dl := (x.rdl f.dl.toNat).toNat }
        if cont then .go (s1.advance i) else .go (s1.enterWait e t (.slot id idx)))

def execSesInfo (i : Iss) (f : FmtE) (s : State) : Outcome State Fault Refusal :=
  .next (issue s i { reads := gN f.rs1 ++ gN f.rs2, writes := gN f.rd, mem := true } (illIf (f.dl != 0)) fun s =>
    let x := s.me i
    if s.fenced i.e.val i.t.val 5 then .stall
    else .go ((s.startOp i { id := 0, e := 0, t := 0, kind := .sesInfo, dst := regG f.rd.toNat,
                             addr := (x.rg f.rs1.toNat).toNat, a1 := (x.rg f.rs2.toNat).toNat }).advance i))

def execSesInfoSet (i : Iss) (f : FmtE) (s : State) : Outcome State Fault Refusal :=
  .next (issue s i { reads := gN f.rs1 ++ gN f.rs2 ++ gN f.rd, mem := true } (illIf (f.dl != 0)) fun s =>
    let x := s.me i
    let sel := (x.rg f.rs2.toNat).toNat
    let v := (x.rg f.rd.toNat).toNat
    match firstTrap
      [ (!(sel == 2 || sel == 3), { cause := .illegal, sub := 1 }),
        (decide ((if sel = 2 then 2 ^ 28 else 2 ^ 16) ≤ v), { cause := .illegal, sub := 1 }) ] with
    | some tr => .trap tr
    | none =>
      if s.fenced i.e.val i.t.val 5 then .stall
      else .go ((s.startOp i { id := 0, e := 0, t := 0, kind := .sesInfoSet, addr := (x.rg f.rs1.toNat).toNat,
                               a1 := sel, a2 := v }).advance i))

/-! ## Closing (R136) -/

/-- The window of a session's next send slot: one that is open, or the next to open (R145). -/
def winOpen (c : Ctx) (x : SendSlot) : Nat := x.base + c.off * x.per / 65536
def State.winClose (s : State) (c : Ctx) (x : SendSlot) : Nat :=
  min (winOpen c x + clampNat 50 1000000 (s.fld F.DU_WINDOW_us 0 0) * 1000) (winOpen c x + x.per)
def State.nextSlotOf (s : State) (c : Ctx) : SendSlot :=
  match s.st.slots.find? fun x => decide (s.tb < s.winClose c x) with
  | some x => x
  | none => { seq := s.st.slotSeq + 1, tick := s.fld F.TK_NEXT_tick 0 0,
              base := s.fld F.TK_START_time 0 0 + s.fld F.TK_COMMIT_DL_ns 0 0, per := s.fld F.TK_PERIOD_ns 0 0 }

/-- Lanes per port in the present configuration (R160). -/
def State.portLanes (s : State) : Nat :=
  match s.fld F.PT_CFG_mode 0 0 with | 1 => 2 | 2 => 4 | _ => 1
def State.ports (s : State) : Nat := lanes s.part / s.portLanes
/-- The delta units of a port that are not fenced (R147, R362). -/
def State.portDus (s : State) (p : Nat) : List Nat :=
  (List.range' (2 * s.portLanes * p) (2 * s.portLanes)).filter fun d => !bitOf (s.fld F.FC_FENCE_master 0 0) (40 + d)
/-- The DU that serves a session (R147), and that DU's lane. -/
def State.duOf (s : State) (i : Nat) : Nat :=
  let p := (s.ctx i).port
  let l := s.portDus p
  if l.isEmpty then 2 * s.portLanes * p else l.getD (i % l.length) 0

/-- The 16-byte header of a world datagram (R141). -/
def wHeader (flags ack handle tick ctr : Nat) : List Byte :=
  leBytes 1 1 ++ leBytes 1 flags ++ leBytes 2 ack ++ leBytes 4 handle ++ leBytes 4 tick ++ leBytes 4 ctr

/-- Seal a datagram (R143). With no key the tag cannot be made: the datagram is not sent.
DESIGN CHOICE, unsafe (log 82). -/
def sealWorld (key : Option (List Nat)) (hdr recs : List Byte) : Option (List Byte) :=
  key.map fun k => hdr ++ ofNats (gcmSeal k (toNats (hdr.drop 4)) (toNats hdr) (toNats recs))

def State.enqueue (s : State) (p : Pkt) : State := { s with pt := { s.pt with egress := s.pt.egress ++ [p] } }

/-- Bytes queued on a lane, and whether its buffer of 1 MiB has room for `n` more (R156). -/
def State.queued (s : State) (lane : Nat) : Nat :=
  s.pt.egress.foldl (fun n p => if p.lane = lane then n + p.bytes.length else n) 0
def State.laneRoom (s : State) (lane n : Nat) : Bool := decide (s.queued lane + n ≤ 2 ^ 20)

/-- The lane of a session's DU. -/
def State.laneOfSes (s : State) (i : Nat) : Nat := s.duOf i / 2

/-- The CLOSE datagram of a session, for the send slot that comes next (R136). -/
def State.closeDue (s : State) (i : Nat) : CloseDue :=
  let sl := s.nextSlotOf (s.ctx i)
  { ses := i, slot := sl.seq, opens := winOpen (s.ctx i) sl, closes := s.winClose (s.ctx i) sl }

/-- The CLOSE datagram `d` enters queue 1 with its window and the counter kept for it (R143). -/
def State.sendClose (s : State) (d : CloseDue) : State :=
  let i := d.ses
  let c := s.ctx i
  let k := s.sesKey i (s.laneOfSes i) 0 none
  let hdr := wHeader 0 0xFFFF (s.sesHandle i) s.committed32 (2 ^ 31 + c.ctr)
  let s1 := (k.2.setCtx i { c with ctr := min (2 ^ 31 - 1) (c.ctr + 1) }).occ { ev := 0x53, inst := s.laneOfSes i }
  match sealWorld k.1 hdr (leBytes 1 6 ++ leBytes 1 (s.sess i).reason ++ leBytes 2 0) with
  | none => s1
  | some bs => s1.enqueue { lane := s.laneOfSes i, q := 1, port := c.port, ses := some i, slot := d.slot,
                            opens := d.opens, closes := d.closes, bytes := bs, isClose := true }

/-- One CLOSE datagram is queued, or waits for room in the lane's buffer; its window does not change with the wait (R156).
DESIGN CHOICE, unsafe (log 81). -/
def State.queueClose (s : State) (i : Nat) : State :=
  if s.laneRoom (s.laneOfSes i) 36 then s.sendClose (s.closeDue i)
  else { s with st := { s.st with closeWait := s.st.closeWait ++ [s.closeDue i] } }

/-- CLOSE datagrams that waited enter the queue while there is room. -/
def State.closeFill (s : State) : State :=
  s.st.closeWait.foldl (fun s d =>
    if s.laneRoom (s.laneOfSes d.ses) 36 && decide (s.tb < d.closes) then
      ({ s with st := { s.st with closeWait := s.st.closeWait.erase d } }).sendClose d
    else s) s

/-- The packets of session `i` that are queued leave their queues: its rounds and its join stream. -/
def State.dropPkts (s : State) (i : Nat) : State :=
  { s with pt := { s.pt with egress := s.pt.egress.filter fun (p : Pkt) => p.ses != some i } }

/-- A session enters CLOSING (R136): its rounds and its join stream stop with the packets that are queued. -/
def State.closeSession (s : State) (i reason : Nat) : State :=
  let x := s.sess i
  if x.ctx.st = .free ∨ x.ctx.st = .closing then s
  else
    let s1 := s.setSess i { x with ctx := { x.ctx with st := .closing, rd := x.ctx.wr, unread := 0, gap := false },
                                   reason := reason, join := none }
    let s2 := { s1 with st := { s1.st with msgs := s1.st.msgs.filter fun (m : Msg) => !(m.ses == i && m.filler.isNone) } }
    (((s2.dropPkts i).endSends i 1).stEvent 5 reason i).queueClose i

/-- The context of session `i` is written afresh, with check bits that fit. -/
def State.stFresh (s : State) (i : Nat) : State := { s with st := { s.st with upset := s.st.upset.filter (· != i) } }

/-- A session becomes FREE, and FREED is told (R136). -/
def State.freeSession (s : State) (i reason : Nat) : State :=
  let x := s.sess i
  let s1 := s.setSess i { x with ctx := { x.ctx with st := .free, unread := 0 }, join := none, sentAt := [] }
  ((s1.stFresh i).stEvent 6 reason i).fwEvent 6 reason i

/-- Something of a CLOSING session is still under way. -/
def State.sesBusy (s : State) (i : Nat) : Bool :=
  (s.pt.egress.any fun p => p.ses == some i && p.isClose) || (s.st.builds.any fun b => b.ses == i) ||
  (s.st.msgs.any fun m => m.ses == i) || (s.ctx i).used != 0 || s.st.closeWait.any fun d => d.ses == i

/-- SESSION_FREED (R136). -/
def execSessionFreed (session : BitVec 18) (s : State) : Outcome State Fault Refusal :=
  let i := session.toNat
  .next (if decide ((s.ctx i).st = .closing) && !s.sesBusy i then s.freeSession i (s.sess i).reason else s)

/-! ## The context commands (R134) -/

def State.ctxIndex (s : State) : Nat := s.fld F.ST_CTX_INDEX_index 0 0
def State.ctxResult (s : State) (r : Nat) : State := s.setFld F.ST_CTX_CMD_result 0 0 r

/-- Context words into the data registers; a context with a double-bit error is not read (log 187). -/
def State.ctxRead (s : State) : State :=
  if s.st.upset.contains s.ctxIndex then (s.stLost 34 s.ctxIndex).ctxResult 2
  else
  ((s.ctx s.ctxIndex).words.zipIdx.foldl (fun s e => s.setFld F.ST_CTX_DATA_word e.2 0 e.1) s).ctxResult 0
def execStCtxRead (s : State) : Outcome State Fault Refusal := .next s.ctxRead

/-- The context that create forces (R134, step 5). DESIGN CHOICE, unsafe (log 70). -/
def createdCtx (c : Ctx) (gen : Nat) : Ctx :=
  { c with st := .joining, heard := true, age := 0, gen := (if (gen + 1) % 16384 = 0 then 1 else (gen + 1) % 16384),
           base := noBase, newest := 0, wr := 0, rd := 0, unread := 0, gap := false, ctr := 0, high := 0, replay := 0,
           used := 0 }

/-- ST_CTX_CREATE (R134). DEDUCED, unsafe (log 72). -/
def State.ctxCreate (s : State) : State :=
  let i := s.ctxIndex
  let c := ctxOf ((List.range 16).map fun k => s.fld F.ST_CTX_DATA_word k 0)
  if (s.ctx i).st ≠ .free then s.ctxResult 2
  else if 4 < c.ringZ ∨ 16384 < c.ringBase + 2 ^ c.ringZ ∨ logicals s.part ≤ c.home ∨ s.ports ≤ c.port then s.ctxResult 3
  else
    let key := (List.range 8).flatMap fun k => toNats (leBytes 4 (s.fld F.ST_KEY_key k 0))
    let body := ofNats (keyWrap (toNats s.st.kek) key) ++ leBytes 4 1 ++ List.replicate 20 0
    let s1 := ((s.keysForget (· == i)).stFresh i).setSess i { ctx := createdCtx c (s.ctx i).gen, lastSlot := s.st.slotSeq }
    let s2 := s1.worldPut (s.keyRec i) 56 body
    let s3 := (List.range 8).foldl (fun s k => s.setFld F.ST_KEY_key k 0 0) s2
    (s3.stEvent 1 0 i).ctxResult 0
def execStCtxCreate (s : State) : Outcome State Fault Refusal := .next s.ctxCreate

/-- ST_CTX_CLOSE (R136). -/
def State.ctxClose (s : State) (reason : Nat) : State :=
  let i := s.ctxIndex
  match (s.ctx i).st with
  | .free | .closing => s.ctxResult 2
  | _ => (s.closeSession i reason).ctxResult 0
def execStCtxClose (reason : BitVec 4) (s : State) : Outcome State Fault Refusal := .next (s.ctxClose reason.toNat)

/-- ST_CTX_KEYFRAME (R148). DEDUCED, unsafe (log 84). -/
def State.ctxKeyframe (s : State) : State :=
  let i := s.ctxIndex
  match (s.ctx i).st with
  | .free | .closing => s.ctxResult 2
  | _ => (s.setCtx i { s.ctx i with keyPend := true }).ctxResult 0
def execStCtxKeyframe (s : State) : Outcome State Fault Refusal := .next s.ctxKeyframe

/-- ST_CTX_MOVE (R159). -/
def State.ctxMove (s : State) (port : Nat) : State :=
  let i := s.ctxIndex
  if (s.ctx i).st = .free then s.ctxResult 2
  else if s.ports ≤ port then s.ctxResult 3
  else ((s.setCtx i { s.ctx i with port := port }).stEvent 7 0 i).ctxResult 0
def execStCtxMove (port : Fin 8) (s : State) : Outcome State Fault Refusal := .next (s.ctxMove port.val)

/-! ## Ageing (R133) -/

/-- One context at a sweep. -/
def State.ageOne (s : State) (i : Nat) : State :=
  let c := s.ctx i
  if s.st.upset.contains i then s.stLost 56 i
  else if c.st = .free then s
  else if c.heard then s.setCtx i { c with heard := false, age := 0 }
  else
    let a := min 63 (c.age + 1)
    let s1 := s.setCtx i { c with age := a }
    if s.fld F.ST_AGE_close 0 0 ≤ a then s1.closeSession i 2
    else if c.st = .live ∧ s.fld F.ST_AGE_quiet 0 0 ≤ a then
      ((s1.setCtx i { c with age := a, st := .quiet }).endSends i 2).stEvent 3 0 i
    else s1

/-- AGE_SWEEP: once per age period, every context. Sessions are frozen in HALT (R213). -/
def State.ageSweep (s : State) : State :=
  if s.mode = 7 ∨ s.tb < s.st.lastSweep + s.fld F.ST_AGE_period_ms 0 0 * 1000000 then s
  else (s.ses.map (·.1)).foldl (fun s i => s.ageOne i) { s with st := { s.st with lastSweep := s.tb } }
def execAgeSweep (s : State) : Outcome State Fault Refusal := .next s.ageSweep

end Sys2Proof.Machine
end

