-- ==== Sys2Proof/Machine/Replicate.lean ====
section
/-!
DEFINITION. Replication (spec/05, R145 to R155, R158): the interest set, field encoders, the records of a round, datagram
filling and sealing, building a round, join passes, DU panic and overrun.
-/

namespace Sys2Proof.Machine
open Host

/-! ## Field encoders (R154, R155) -/

/-- `n * 2 ^ e` to the nearest integer, ties to even. -/
def rneInt (n : Nat) (e : Int) : Nat :=
  match e with
  | .ofNat k => n * 2 ^ k
  | .negSucc k =>
    let d := 2 ^ (k + 1)
    let q := n / d
    let r := 2 * (n % d)
    if d < r ∨ (r = d ∧ q % 2 = 1) then q + 1 else q

/-- An FP32 lane as binary16. -/
def toF16 (x : Word32) : Nat :=
  match fpUnpack x with
  | .nan _ => 0x7E00
  | .inf neg => b2n neg * 2 ^ 15 + 0x7C00
  | .zero neg => b2n neg * 2 ^ 15
  | .fin neg m e =>
    let top : Int := 23 + e
    let q : Int := max (top - 10) (-24)
    let n := rneInt m (e - q)
    let v := if top < -14 then n else (top + 14).toNat * 2 ^ 10 + n
    b2n neg * 2 ^ 15 + min v 0x7C00

/-- An FP32 lane as a signed `w`-bit integer of `v * 2 ^ scale`, saturating. -/
def toQ (w : Nat) (scale : Int) (x : Word32) : Nat :=
  let hi := 2 ^ (w - 1)
  match fpUnpack x with
  | .nan _ => 0
  | .inf neg => if neg then hi else hi - 1
  | .zero _ => 0
  | .fin neg m e =>
    let n := rneInt m (e + scale)
    if neg then ofSigned w (-(min n hi : Nat)) else min n (hi - 1)

/-- Unsigned LEB128. -/
def lebFrom : Nat → Nat → List Byte
  | 0, _ => []
  | k + 1, v => if v < 128 then [BitVec.ofNat 8 v] else BitVec.ofNat 8 (v % 128 + 128) :: lebFrom k (v / 128)
def leb (v : Nat) : List Byte := lebFrom 10 v

/-- The zig-zag map of a signed `w`-bit integer. -/
def zigzag (w v : Nat) : Nat :=
  let x := toSigned w v
  if 0 ≤ x then (2 * x).toNat else (-2 * x - 1).toNat

/-- The bytes of a size code; none where it acts as off. -/
def encSize (code : Nat) : Option Nat := [1, 2, 4, 8, 12, 16][code]?

/-- An encoder entry that is in force for a slot of `k` bytes: its encoding, size, offset and scale; and whether the entry breaks
its rules. -/
def State.encEntry (s : State) (c f k : Nat) : Option (Nat × Nat × Nat × Int) × Bool :=
  let enc := s.fld F.DU_ENC_enc c f
  let off := s.fld F.DU_ENC_offset c f
  let sc := toSigned 5 (s.fld F.DU_ENC_scale c f)
  if enc = 0 ∨ 8 ≤ enc then (none, false)
  else
    match encSize (s.fld F.DU_ENC_size c f) with
    | none => (none, false)
    | some n =>
      if ((enc = 2 ∨ enc = 3 ∨ enc = 4) ∧ n % 4 ≠ 0) ∨ ((enc = 5 ∨ enc = 6) ∧ 8 < n) ∨ k < off + n then (none, true)
      else if enc = 7 ∧ !s.fldB F.DU_CTRL_level 0 0 then (none, false)
      else (some (enc, n, off, sc), false)

/-- The enabled fields of a class for a slot of `k` bytes, field 63 among them, as a mask. -/
def State.enabledMask (s : State) (c k : Nat) : Nat :=
  2 ^ 63 + (((List.range 63).filter fun f => (s.encEntry c f k).1.isSome).map fun f => 2 ^ f).sum
/-- An entry of the class breaks its rules. -/
def State.encBroken (s : State) (c k : Nat) : Bool := (List.range 63).any fun f => (s.encEntry c f k).2

/-- FP32 lanes of bytes. -/
def lanesOf (bs : List Byte) : List Word32 := (pieces 4 bs).map fun p => BitVec.ofNat 32 (leNat p)

/-- The wire form of a field of a slot. -/
def encField (e : Nat × Nat × Nat × Int) (slot : List Byte) : List Byte :=
  let bs := (slot.drop e.2.2.1).take e.2.1
  match e.1 with
  | 1 => bs
  | 2 => (lanesOf bs).flatMap fun x => leBytes 2 (toF16 x)
  | 3 => (lanesOf bs).flatMap fun x => leBytes 2 (toQ 16 e.2.2.2 x)
  | 4 => (lanesOf bs).flatMap fun x => leBytes 1 (toQ 8 e.2.2.2 x)
  | 5 => leb (leNat bs)
  | 6 => leb (zigzag (8 * e.2.1) (leNat bs))
  | _ =>
    let n := min (leNat (bs.take 1)) (e.2.1 - 1)
    leBytes 1 n ++ (bs.drop 1).take n

/-! ## The interest set (R149) -/

/-- The cells at Chebyshev distance `k` from cell `c` of the grid, in ascending order. -/
def cellsAt (xb yb c k : Nat) : List Nat :=
  let w := 2 ^ xb
  (List.range (2 * k + 1)).flatMap fun dy =>
    let y : Int := (c / w + dy : Nat) - (k : Int)
    if y < 0 ∨ (2 ^ yb : Nat) ≤ y then []
    else (if dy = 0 ∨ dy = 2 * k then List.range (2 * k + 1) else [0, 2 * k]).filterMap fun dx =>
      let x : Int := (c % w + dx : Nat) - (k : Int)
      if x < 0 ∨ (w : Int) ≤ x then none else some (y.toNat * w + x.toNat)

/-- What a visit has gathered: the set as (index, cell), and the addresses read. -/
structure Visit where
  set : List (Nat × Nat) := []
  addrs : List Nat := []

/-- The admitted entities of one cell are added while the budget lasts. -/
def State.visitCell (s : State) (du filter budget cell : Nat) (acc : Visit) : Visit × State :=
  if budget ≤ acc.set.length then (acc, s)
  else
    let r := s.members cell (40 + du)
    let s1 := r.2.edScan (40 + du) r.1.contains
    let l := r.1.filter fun i => bitOf filter (entClass (s.entry i)) && !s1.ed.quar.contains i
    ({ set := acc.set ++ (l.map fun i => (i, cell)).take (budget - acc.set.length),
       addrs := acc.addrs ++ s.cellAddr cell :: r.1.map s.linkAddr }, s1)

/-- The interest set of a session, in visit order. -/
def State.interest (s : State) (du : Nat) (c : Ctx) : Visit × State :=
  let budget := if c.budget = 0 then 4096 else c.budget
  let xb := s.fld F.ED_GRID_xbits 0 0
  let yb := s.fld F.ED_GRID_ybits 0 0
  ((List.range (bitsOf c.view 20 8 + 1)).flatMap fun k => cellsAt xb yb (bitsOf c.view 0 20) k).foldl
    (fun a cell => a.2.visitCell du c.filter budget cell a.1) ({}, s)

/-! ## Records (R141, R142, R150 to R153) -/

/-- A record to place: bytes, or a title message, which may be cut into fragments. -/
inductive Rec where
  | plain (bs : List Byte)
  | title (kind seq : Nat) (bs : List Byte)

def titleRec (kind seq : Nat) (more : Bool) (bs : List Byte) : List Byte :=
  leBytes 1 (4 + 16 * b2n more) ++ leBytes 1 kind ++ leBytes 2 bs.length ++ leBytes 4 seq ++ bs

/-- Place fragments: each fills the rest of its datagram. -/
def placeFrags (cap kind seq : Nat) : Nat → List (List Byte) → List Byte → List (List Byte)
  | 0, out, _ => out
  | f + 1, out, bs =>
    let cur := out.getLastD []
    let room := cap - cur.length
    if room < 9 then placeFrags cap kind seq f (out ++ [[]]) bs
    else
      let n := room - 8
      if bs.length ≤ n then out.dropLast ++ [cur ++ titleRec kind seq false bs]
      else placeFrags cap kind seq f (out.dropLast ++ [cur ++ titleRec kind seq true (bs.take n)] ++ [[]]) (bs.drop n)

/-- Place one record in the datagrams so far. -/
def placeRec (cap : Nat) (out : List (List Byte)) (r : Rec) : List (List Byte) :=
  let cur := out.getLastD []
  let put (bs : List Byte) := if cur.length + bs.length ≤ cap then out.dropLast ++ [cur ++ bs] else out ++ [bs]
  match r with
  | .plain bs => put bs
  | .title k q bs =>
    if (titleRec k q false bs).length ≤ cap then put (titleRec k q false bs)
    else placeFrags cap k q (2 * bs.length + 2) out bs

/-- Fill datagrams in record order. -/
def fillDgrams (cap : Nat) (rs : List Rec) : List (List Byte) := rs.foldl (placeRec cap) [[]]

/-- The wire bit of a field (R142). -/
def wireBit (f : Nat) : Nat := if f = 63 then 0 else f + 1

/-- An ENTITY record of some fields: (field, bytes) in wire order. -/
def entityRec (h cls : Nat) (fs : List (Nat × List Byte)) : List Byte :=
  leBytes 1 (1 + 16 * cls) ++ leBytes 4 h ++ leb ((fs.map fun e => 2 ^ wireBit e.1).sum) ++ (fs.map (·.2)).flatten

/-- ENTITY records of an entity's fields: one, or several of consecutive fields where one would not fit in an empty datagram. -/
def entityRecs (cap h cls : Nat) : List (Nat × List Byte) → List (Nat × List Byte) → List (List Byte)
  | [], cur => if cur.isEmpty then [] else [entityRec h cls cur]
  | f :: fs, cur =>
    if !cur.isEmpty && decide (cap < (entityRec h cls (cur ++ [f])).length) then
      entityRec h cls cur :: entityRecs cap h cls fs [f]
    else entityRecs cap h cls fs (cur ++ [f])

/-- The smallest rung that covers a distance of `d` ticks (R120). -/
def rungFor (d : Nat) : Nat := if d ≤ 1 then 0 else if d ≤ 2 then 1 else if d ≤ 4 then 2 else if d ≤ 8 then 3 else 4

/-- What an entity gives a round: its ENTITY records, whether its slot could be read (R294), the addresses read. -/
structure EntRecs where
  recs : List (List Byte) := []
  ok : Bool := true
  addrs : List Nat := []

/-- The sent mask of an entity and its records (R150): `d` none for a keyframe. A slot that cannot be read gives none. -/
def State.entityFor (s : State) (du cap : Nat) (d : Option Nat) (i cell : Nat) : EntRecs × State :=
  let v := s.entry i
  let k := entSize v
  let en := s.enabledMask (entClass v) k
  let s0 := if s.encBroken (entClass v) k then s.setFld F.DU_STATUS_enc_err 0 0 1 else s
  let r := match d with
    | none => (en, ([] : List Nat), s0)
    | some d => if d = 0 then (0, [], s0) else
      let q := s0.rungs i (40 + du)
      (q.1.getD (rungFor d) 0 &&& en, [s.ladderAddr i], q.2)
  let m := r.1
  if m = 0 then ({ addrs := r.2.1 }, r.2.2)
  else
    let fs := (List.range 63).filter fun f => bitOf m f
    let w := if fs.isEmpty then ([], some .clean, r.2.2)
      else r.2.2.worldGet (liveSlot v) k (40 + du) (some 0)
    let at_ := r.2.1 ++ (if fs.isEmpty then [] else [liveSlot v])
    if w.2.1 ≠ some .clean then ({ ok := false, addrs := at_ }, w.2.2)
    else
      let cellF := if bitOf m 63 then [(63, leBytes 3 cell)] else []
      let vals := fs.filterMap fun f => ((s.encEntry (entClass v) f k).1).map fun e => (f, encField e w.1)
      ({ recs := entityRecs cap (mkHandle i (entGen v)) (entClass v) (cellF ++ vals) [], addrs := at_ }, w.2.2)

/-- What a round's visit gathers: ENTITY records, the entities that have none, whether a slot could not be read, the addresses read. -/
structure Gather where
  recs : List (List Byte) := []
  quietIdx : List Nat := []
  bad : Bool := false
  addrs : List Nat := []

def State.gather (s : State) (du cap : Nat) (d : Option Nat) (set : List (Nat × Nat)) : Gather × State :=
  set.foldl (fun a e =>
    let s1 := a.2.occ { ev := 0x60, inst := du }
    let r := s1.entityFor du cap d e.1 e.2
    let s2 := if r.1.recs.isEmpty then r.2 else r.2.occ { ev := 0x61, inst := du, inc := r.1.recs.length }
    ({ recs := a.1.recs ++ r.1.recs, quietIdx := if r.1.recs.isEmpty then a.1.quietIdx ++ [e.1] else a.1.quietIdx,
       bad := a.1.bad || !r.1.ok, addrs := a.1.addrs ++ r.1.addrs }, s2)) ({}, s)

/-- PRESENCE records of a list of handles. -/
def presenceRecs (cap : Nat) (hs : List Nat) : List Rec :=
  (pieces (max 1 (min 255 ((cap - 2) / 4))) hs).map fun l => .plain (leBytes 1 3 ++ leBytes 1 l.length ++ l.flatMap (leBytes 4))

/-- The datagram payload limit of a session's port (R153, R179). -/
def State.payloadMax (s : State) (c : Ctx) : Nat :=
  let mtu := clampNat 576 9194 (s.fld F.PT_GRP_MTU_bytes (s.fld F.PT_PORT_GRP_group c.port 0) 0)
  min (clampNat 256 8972 (s.fld F.DU_PAYLOAD_MAX_bytes 0 0)) (mtu - (if c.v6 then 48 else 28))

/-- A message that is sent once is in a round that is being built or queued (R131, R153). -/
def State.inRound (s : State) (x : Msg) : Bool :=
  (s.st.builds.any fun b => b.ends.any fun e => e.2 == (x.home, x.buf)) ||
  s.pt.egress.any fun p => p.ends.contains (x.home, x.buf)

/-- The title messages due in a round of `m`, by sequence: a reliable one in every round. DEDUCED, unsafe (log 78). -/
def State.dueMsgs (s : State) (i m : Nat) : List Msg :=
  (s.st.msgs.filter fun (x : Msg) => x.ses == i && x.filler.isNone && decide (x.tick ≤ m) && (x.kind == 1 || !s.inRound x)).mergeSort
    fun a b => decide (a.seq ≤ b.seq)

/-- TITLE records of the messages that can be read, with their messages; read under the round's deadline (R158). -/
def State.titleRecs (s : State) (l : List Msg) (due : Nat) : List (Msg × Rec) × State :=
  l.foldl (fun a x =>
    let wa := bufAddr x.home x.buf
    let r := (a.2.lateSpan wa x.len due).worldGet wa x.len 56 (some 0)
    (if r.2.1 = some .clean then a.1 ++ [(x, Rec.title x.kind x.seq r.1)] else a.1, r.2.2)) ([], s)

/-- The buffers that are free once the round is sent, each with the datagram that ends its message; `first` comes before the messages. -/
def msgEnds (cap : Nat) (first : Rec) (l : List (Msg × Rec)) : List (Nat × Nat × Nat) :=
  (l.zipIdx.filter fun e => e.1.1.kind != 1).map fun e =>
    ((fillDgrams cap (first :: (l.take (e.2 + 1)).map (·.2))).length - 1, e.1.1.home, e.1.1.buf)

/-- The departure lists of the ticks after the baseline, `d` ticks before `m`, as far as the ring goes (R152, R106).
DEDUCED, unsafe (log 77). -/
def departLists (m d : Nat) : List Nat :=
  (List.range (min d 16)).map fun k => devAddr 0 (0x860000 + 0x10000 * ((m - (min d 16 - 1 - k)) % 17))

/-- REMOVED records, from the departure lists. -/
def State.removedRecs (s : State) (du m d : Nat) : List Rec × State :=
  let r := (departLists m d).foldl (fun (a : List Nat × State) l =>
    let h := a.2.handles (40 + du) l
    (a.1 ++ h.1, h.2)) ([], s)
  ((r.1.take (s.fld F.DU_CTRL_depart_max 0 0)).map fun h => Rec.plain (leBytes 1 2 ++ leBytes 4 h), r.2)

/-- No record has been written into the session's ring. -/
def Ctx.ringNew (c : Ctx) : Bool := c.wr == 0 && c.rd == 0 && c.newest == 0

/-- The sequence of the newest ring record, read under the round's deadline. -/
def State.newestSeq (s : State) (c : Ctx) (due : Nat) : Nat × State :=
  if c.ringNew then (0, s)
  else
    let r := s.ringGet c (c.newest % 4096) 16 56 (some 0) due
    (leNat ((r.1.drop 4).take 4), r.2.2)

/-- The physical channels that reads of these addresses go to (R158). -/
def State.readChans (s : State) (l : List Nat) : List Nat :=
  (l.filterMap fun wa => match s.place wa with
    | .at k off => (s.route k off).map (·.rd)
    | .backing => none).dedup

/-! ## Building a round (R145 to R150) -/

/-- Slot `x` gives the session a round: in DRAIN only up to the newest tick whose SIMULATE opened (R229). -/
def State.slotServes (s : State) (x : SendSlot) : Bool :=
  s.mode == 3 || (s.mode == 4 && decide (x.tick ≤ s.tk.sim.getD (s.fld F.TK_COMMITTED_tick 0 0)))

/-- The slot whose build is due for session `i`. -/
def State.dueSlot (s : State) (i : Nat) : Option SendSlot :=
  let x := s.sess i
  s.st.slots.find? fun l =>
    decide (x.lastSlot < l.seq) && s.slotServes l && decide (s.tb < s.winClose x.ctx l) &&
    decide (winOpen x.ctx l ≤ s.tb + clampNat 10 5000 (s.fld F.DU_LEAD_us 0 0) * 1000) &&
    (decide (l.base ≤ s.tb) || (!s.noneCommitted && decide (l.tick ≤ s.fld F.TK_COMMITTED_tick 0 0)))

/-- A build may start for session `i` now: it is LIVE, its port distributes, its DU is powered and free, a tick is committed
and no commit is about to open or open (R114, step 1). -/
def State.canBuild (s : State) (i : Nat) : Bool :=
  let c := s.ctx i
  decide (c.st = .live) && s.fldB F.PT_PORT_STATUS_dist c.port 0 && !(s.portDus c.port).isEmpty && s.domOn (77 + s.duOf i) && !s.beingFenced (40 + s.duOf i) && !s.noneCommitted &&
  s.tk.cond.isNone && decide (c.ctr < 2 ^ 31 - 1) && !(s.st.builds.any fun b => b.du == s.duOf i)

/-- The build that begins for slot `l` of session `i`: a delta round or a keyframe (R148). -/
def State.newBuild (s : State) (i : Nat) (l : SendSlot) : Build :=
  let c := (s.sess i).ctx
  let m := s.fld F.TK_COMMITTED_tick 0 0
  let d := (m + 2 ^ 32 - c.base) % 2 ^ 32
  { du := s.duOf i, ses := i, slot := l.seq, tick := m, opens := winOpen c l, closes := s.winClose c l,
    delta := if c.base == noBase || decide (16 < d) || c.keyPend then 0xFFFF else d, since := s.tb, per := l.per }

/-- The records of a round, in their order, and what its reads left. -/
def State.roundRecs (s : State) (b : Build) (c : Ctx) (cap : Nat) : Build × Bool × State :=
  let key := b.delta == 0xFFFF
  let m := b.tick
  let set := s.interest b.du c
  let g := set.2.gather b.du cap (if key then none else some b.delta) set.1.set
  let tl := g.2.titleRecs (g.2.dueMsgs b.ses m) b.opens
  let pres := (g.1.quietIdx.filter fun k => k % 16 == m % 16).map fun k => mkHandle k (entGen (s.entry k))
  let back := if s.fldB F.DU_CTRL_depart 0 0 && c.base != noBase then (m + 2 ^ 32 - c.base) % 2 ^ 32 else 0
  let rm := tl.2.removedRecs b.du m back
  let nq := rm.2.newestSeq c b.opens
  let first := Rec.plain (leBytes 1 8 ++ leBytes 3 0 ++ leBytes 4 (bitsOf c.view 0 20) ++ leBytes 1 (bitsOf c.view 20 8) ++ leBytes 3 0)
  let dg := fillDgrams cap ([first] ++ tl.1.map (·.2) ++ (g.1.recs.map Rec.plain) ++ presenceRecs cap pres ++ rm.1 ++
    [Rec.plain (leBytes 1 5 ++ leBytes 3 0 ++ leBytes 4 nq.1)])
  let addrs := set.1.addrs ++ g.1.addrs ++ tl.1.map (fun x => bufAddr x.1.home x.1.buf) ++ departLists m back ++
    (if c.ringNew then [] else [c.ringAddr + c.newest % 4096]) ++
    (if (s.keyCached b.ses (s.laneOfSes b.ses)).isSome then [] else [s.keyRec b.ses])
  ({ b with dgrams := dg.zipIdx.map fun e => (b2n (e.2 == 0) + 2 * b2n (e.2 + 1 == dg.length), e.1),
            ends := msgEnds cap first tl.1, chans := s.readChans addrs }, g.1.bad, nq.2)

/-- ROUND_BUILD_START (R145 to R153): the build is open from now, and its reads carry its window's opening. Bits K and H of the flags say
a keyframe round and a held frame. DESIGN CHOICE, unsafe (log 76). -/
def State.roundStart (s : State) (i : Nat) : State :=
  match s.dueSlot i with
  | none => s
  | some l =>
    if !s.canBuild i then s
    else if s.st.upset.contains i then s.stLost (40 + s.duOf i) i
    else
      let x := s.sess i
      let b := s.newBuild i l
      let key := b.delta == 0xFFFF
      let r := ({ s with st := { s.st with builds := s.st.builds ++ [b] } }).roundRecs b x.ctx (s.payloadMax x.ctx - 32)
      let base := 4 * b2n key + 16 * b2n (decide (b.tick < l.tick))
      let b1 := { r.1 with dgrams := r.1.dgrams.map fun e => (base + e.1, e.2) }
      let s1 := r.2.2.setSess i { x with lastSlot := l.seq, ctx := { x.ctx with keyPend := (if key then false else x.ctx.keyPend) || r.2.1 } }
      let s2 := { s1 with st := { s1.st with builds := s1.st.builds.map fun (y : Build) => if y.ses = i ∧ y.slot = l.seq then b1 else y } }
      if key then s2.occ { ev := 0x63, inst := b.du } else s2
def execRoundBuildStart (session : BitVec 18) (s : State) : Outcome State Fault Refusal := .next (s.roundStart session.toNat)

/-- Seal one datagram of session `i` and take a packet counter (R143). A counter that has run out closes the session, and so does the
one that takes the last. -/
def State.sealNext (s : State) (i flags ack tick : Nat) (due : Option Nat) (recs : List Byte) : Option (List Byte) × State :=
  let c := s.ctx i
  if 2 ^ 31 - 1 ≤ c.ctr then (none, s.closeSession i 5)
  else
    let k := s.sesKey i (s.laneOfSes i) 0 due
    let bs := sealWorld k.1 (wHeader flags ack (s.sesHandle i) (tick % 2 ^ 32) (2 ^ 31 + c.ctr)) recs
    let s1 := ((k.2.setCtx i { c with ctr := c.ctr + 1 }).occ { ev := 0x53, inst := s.laneOfSes i }).occ
      { ev := 0x62, inst := s.duOf i, inc := recs.length }
    (bs, if c.ctr + 1 = 2 ^ 31 - 1 then s1.closeSession i 5 else s1)

/-- ROUND_BUILD_COMPLETE (R153, R156): the build's datagrams are sealed and queued for the session's port, if its lane has room; the
build of a session that has begun to close gives nothing. -/
def State.roundComplete (s : State) (i : Nat) : State :=
  match s.st.builds.find? fun b => b.ses == i with
  | none => s
  | some b =>
    let lane := s.laneOfSes i
    if !s.laneRoom lane (b.dgrams.map fun d => d.2.length + 32).sum then s
    else
      let s1 := { s with st := { s.st with builds := s.st.builds.filter fun (x : Build) => x.ses != i } }
      if (s.ctx i).st ≠ .live then s1
      else
        b.dgrams.zipIdx.foldl (fun s e =>
          let r := s.sealNext i e.1.1 b.delta b.tick (some b.opens) e.1.2
          match r.1 with
          | none => r.2
          | some bs => r.2.enqueue { lane := lane, q := 1, port := (s.ctx i).port, ses := some i, slot := b.slot,
                                     opens := b.opens, closes := b.closes, last := e.2 + 1 == b.dgrams.length,
                                     ends := (b.ends.filter fun x => x.1 == e.2).map (·.2), bytes := bs }) s1
def execRoundBuildComplete (session : BitVec 18) (s : State) : Outcome State Fault Refusal :=
  .next (s.roundComplete session.toNat)

/-- DU_BUILD_OVERRUN (R360): a build open for longer than a tick period. -/
def State.buildOverrun (s : State) (i : Nat) : State :=
  match s.st.builds.find? fun b => b.ses == i with
  | none => s
  | some b =>
    if b.since + b.per < s.tb then s.raise { group := 47, src := 0, inst := b.du, master := 40 + b.du, addr := i } else s
def execDuBuildOverrun (session : BitVec 18) (s : State) : Outcome State Fault Refusal := .next (s.buildOverrun session.toNat)

/-- DU_ENC_COMMIT (R154): the shadow table applies between rounds. -/
def encFlds : List Fld := [F.DU_ENC_scale, F.DU_ENC_enc, F.DU_ENC_size, F.DU_ENC_offset]
def State.encCommit (s : State) : State := (List.range 16).foldl (fun s c => s.commitFlds encFlds c 63) s
def execDuEncCommit (s : State) : Outcome State Fault Refusal := .next s.encCommit

/-! ## DU panic (R158, R261) -/

/-- DU `du` has a read to channel `ch` whose deadline is within the lead. -/
def State.duNear (s : State) (du ch : Nat) : Bool :=
  s.st.builds.any fun b => b.du == du && b.chans.contains ch &&
    decide (b.opens ≤ s.tb + s.fld F.DU_PANIC_lead_ns 0 0)

def State.duPanic (s : State) (du ch : Nat) (on : Bool) : State :=
  let x := s.chan ch
  if bitOf x.panicDus du = on ∨ s.duNear du ch ≠ on then s
  else if on then
    ((((s.setChan ch { x with panicDus := x.panicDus + 2 ^ du, panicSince := (if x.panicDus = 0 then s.tb else x.panicSince),
                              panicTold := (if x.panicDus = 0 then false else x.panicTold) }).addFld
      F.DU_PANIC_count 0 0 1).addFld F.CH_PANIC_count ch 0 (if x.panicDus = 0 then 1 else 0)).occ { ev := 0x65, inst := du }).setFld
      F.CH_STATUS_panic ch 0 1
  else
    let s1 := s.setChan ch { x with panicDus := x.panicDus - 2 ^ du,
                                    panicNs := if x.panicDus = 2 ^ du then x.panicNs + (s.tb - x.panicSince) else x.panicNs }
    if x.panicDus = 2 ^ du then s1.setFld F.CH_STATUS_panic ch 0 0 else s1
def execDuPanicRaise (du : Fin 16) (ch : Fin 34) (s : State) : Outcome State Fault Refusal := .next (s.duPanic du.val ch.val true)
def execDuPanicDrop (du : Fin 16) (ch : Fin 34) (s : State) : Outcome State Fault Refusal := .next (s.duPanic du.val ch.val false)

/-! ## Join passes (R135) -/

/-- Join slots in use at a DU. -/
def State.joinsAt (s : State) (du : Nat) : Nat := (s.ses.filter fun e => e.2.join.isSome && s.duOf e.1 == du).length

/-- The earlier datagrams of a pass are sealed and enter queue 2 while the lane's buffer has room (R156). -/
def joinFillFrom (i k0 : Nat) : List (List Byte) → State → State
  | [], s => match (s.sess i).join with
    | some j => s.setSess i { s.sess i with join := some { j with todo := [] } }
    | none => s
  | d :: l, s =>
    match (s.sess i).join with
    | none => s
    | some j =>
      if !s.laneRoom (s.laneOfSes i) (d.length + 32) then s.setSess i { s.sess i with join := some { j with todo := d :: l } }
      else
        let r := s.sealNext i 8 0xFFFF k0 none d
        joinFillFrom i k0 l (match r.1 with
          | none => r.2
          | some bs => r.2.enqueue { lane := s.laneOfSes i, q := 2, port := (s.ctx i).port, ses := some i, bytes := bs })
def State.joinFill (s : State) (i : Nat) : State :=
  match (s.sess i).join with
  | some { k0 := some k, todo := d :: l, .. } => joinFillFrom i k (d :: l) s
  | _ => s

/-- A pass begins: its datagrams are built, all but the last are sealed and queued. With no committed tick, or one under way, it waits
for the commit to close (R114, step 1). DESIGN CHOICE, unsafe (log 79). -/
def State.startPass (s : State) (i : Nat) : State :=
  let x := s.sess i
  match x.join with
  | none => s
  | some j =>
    if 2 ^ 31 - 1 ≤ x.ctx.ctr then s
    else if s.noneCommitted || s.tk.cond.isSome || s.beingFenced (40 + s.duOf i) then
      s.setSess i { x with join := some { j with due := true } }
    else
      let du := s.duOf i
      let m := s.fld F.TK_COMMITTED_tick 0 0
      let cap := s.payloadMax x.ctx - 32
      let set := s.interest du x.ctx
      let g := set.2.gather du cap none set.1.set
      let dg := fillDgrams cap ((g.1.recs.map Rec.plain) ++ [Rec.plain (leBytes 1 7 ++ leBytes 3 0 ++ leBytes 4 (m % 2 ^ 32))])
      let s1 := g.2.setSess i { x with
        join := some { pass := j.pass + 1, k0 := some m, todo := dg.dropLast, ended := false, last := dg.getLastD [] }
        ctx := { x.ctx with keyPend := x.ctx.keyPend || g.1.bad } }
      s1.joinFill i

/-- JOIN_REQ (R135): a join slot is taken and a pass begins, or the request is dropped and counted; while a pass runs the request is
ignored, after one ends a new pass begins, up to the limit. -/
def State.joinReq (s : State) (i : Nat) : State :=
  let x := s.sess i
  if x.ctx.st ≠ .joining then s
  else
    match x.join with
    | none => if s.joinsAt (s.duOf i) < 64 then (s.setSess i { x with join := some {} }).startPass i
      else { s with st := { s.st with joinDrops := s.st.joinDrops + 1 } }
    | some j =>
      if j.due || !j.k0.isNone && !j.ended then s
      else if j.k0.isNone then s.startPass i
      else if max 1 (s.fld F.DU_JOIN_passes 0 0) ≤ j.pass then s.closeSession i 3
      else s.startPass i

/-- Passes that waited for a commit to close begin. -/
def State.joinsDue (s : State) : State :=
  ((s.ses.filter fun e => e.2.join.any fun j => j.due).map (·.1)).foldl (fun s i => s.startPass i) s

/-- JOIN_PASS_END (R135): the pass's earlier datagrams have left; the last is queued, with flag L and JOIN_END. -/
def State.joinPassEnd (s : State) (i : Nat) : State :=
  let x := s.sess i
  match x.join with
  | none => s
  | some j =>
    match j.k0 with
    | none => s
    | some k0 =>
      if j.ended || !j.todo.isEmpty || (s.pt.egress.any fun p => p.ses == some i && p.q == 2) ||
          !s.laneRoom (s.laneOfSes i) (j.last.length + 32) then s
      else
        let s1 := s.setSess i { x with join := some { j with ended := true, last := [] } }
        let r := s1.sealNext i 10 0xFFFF k0 none j.last
        match r.1 with
        | none => r.2
        | some bs => r.2.enqueue { lane := s.duOf i / 2, q := 2, port := x.ctx.port, ses := some i, bytes := bs }
def execJoinPassEnd (session : BitVec 18) (s : State) : Outcome State Fault Refusal := .next (s.joinPassEnd session.toNat)

/-- A client's ack tick meets a join (R135): K0 ends the join, or a new pass begins where K0 is more than 16 ticks old. -/
def State.joinAck (s : State) (i a : Nat) : State :=
  let x := s.sess i
  match x.join with
  | none => s
  | some j =>
    match j.k0 with
    | none => s
    | some k0 =>
      if j.due ∨ !j.ended ∨ k0 % 2 ^ 32 ≠ a then s
      else if s.fld F.TK_COMMITTED_tick 0 0 - k0 ≤ 16 then
        (s.setSess i { x with join := none, ctx := { x.ctx with st := .live, base := a } }).stEvent 2 0 i
      else if max 1 (s.fld F.DU_JOIN_passes 0 0) ≤ j.pass then s.closeSession i 3
      else s.startPass i

end Sys2Proof.Machine
end

