-- ==== Sys2Proof/Machine/Engine.lean ====
section
/-!
DEFINITION. Firmware's hold on the engines: CE_CTRL and the instruction window (R43), strand enables (R49), commands to trapped
strands (R48), the wait breaker (R52), migration of a logical engine (R55 to R57), the watchdog (R59), the hang source (R360),
and EVWAIT (R98).
-/

namespace Sys2Proof.Machine
open Host

/-! ## CE_CTRL and instruction SRAM (R43) -/

/-- CE_CTRL_WRITE: `run` can be set only under the old `imem_lock`, `imem_lock` cleared only without the old `run`. -/
def State.ceCtrl (s : State) (e v : Nat) : State :=
  if !s.engOn e then s
  else
    let run := s.fldB F.CE_CTRL_run e 0
    let lock := s.fldB F.CE_CTRL_imem_lock e 0
    let s1 := ((s.setFld F.CE_CTRL_lsq_per_strand e 0 (bitsOf v 8 7)).setFld F.CE_CTRL_break_en e 0 (bitsOf v 3 1)).setFld
      F.CE_CTRL_dl_strict e 0 (bitsOf v 2 1)
    let s2 := if lock || !bitOf v 0 then (s1.setFld F.CE_CTRL_run e 0 (bitsOf v 0 1)).endToken e else s1
    if !run || bitOf v 1 then s2.setFld F.CE_CTRL_imem_lock e 0 (bitsOf v 1 1) else s2
def execCeCtrlWrite (e : Fin 34) (v : Word32) (s : State) : Outcome State Fault Refusal := .next (s.ceCtrl e.val v.toNat)

/-- The place of an instruction in the instruction SRAMs. -/
def imemKey (e n : Nat) : Nat := e * 65536 + n
def State.imemNext (s : State) (e : Nat) : State :=
  s.setFld F.CE_IMEM_ADDR_index e 0 ((s.fld F.CE_IMEM_ADDR_index e 0 + 1) % 65536)

/-- CE_IMEM_DATA_WRITE: refused while locked, with the violation told to group 48. -/
def State.imemWrite (s : State) (e : Nat) (v : Word32) : State :=
  let n := s.fld F.CE_IMEM_ADDR_index e 0
  if !s.engOn e then s
  else if s.fldB F.CE_CTRL_imem_lock e 0 then
    (s.setFld F.CE_STATUS_lock_violation e 0 1).raise { group := 48, src := 2, inst := e, master := 34, access := 1, addr := n }
  else ({ s with imem := smapPut 0 s.imem (imemKey e n) v }).imemNext e
def execCeImemDataWrite (e : Fin 34) (v : Word32) (s : State) : Outcome State Fault Refusal := .next (s.imemWrite e.val v)

/-- CE_IMEM_DATA_READ: the instruction at the window's index; an engine that is off reads 0. -/
def State.imemRead (s : State) (e : Nat) : Nat × State :=
  if s.engOn e then ((smapGet 0 s.imem (imemKey e (s.fld F.CE_IMEM_ADDR_index e 0))).toNat, s.imemNext e) else (0, s)
def execCeImemDataRead (_ : Path) (e : Fin 34) (s : State) : Outcome State Fault Refusal :=
  .next { (s.imemRead e.val).2 with lastRead := (s.imemRead e.val).1 }

def ceRangeFlds : List Fld :=
  [F.CE_RANGE_BASE_base, F.CE_RANGE_LIMIT_limit, F.CE_RANGE_ATTR_valid, F.CE_RANGE_ATTR_fill, F.CE_RANGE_ATTR_atomic,
   F.CE_RANGE_ATTR_write, F.CE_RANGE_ATTR_read]

/-- CE_RANGE_COMMIT (R42). -/
def State.ceRangeCommit (s : State) (e : Nat) : State := if s.engOn e then s.commitFlds ceRangeFlds e 64 else s
def execCeRangeCommit (e : Fin 34) (s : State) : Outcome State Fault Refusal := .next (s.ceRangeCommit e.val)

/-! ## Strand enables (R49) -/

/-- The strand's enable bit goes to 0: it issues nothing further, its waiting request is withdrawn, its record of TICK.DONE is
cleared; when its operations have drained what it holds is reclaimed, and only then does the tick unit cease to wait.
The tick that its CSR shows stays. DESIGN CHOICE, unsafe (log 194). -/
def State.disableStrand (s : State) (e t : Nat) : State :=
  let x := s.strand e t
  let s1 := s.withdrawWait e t
  let y := s1.strand e t
  let s2 := ((s1.setStrand e t { y with st := .disabled, wait := none, report := none, more := false, inWin := false,
                                        everDone := false, start := false }).trapUnpend e t).endToken e
  s2.drainedOff e t

/-- The strand's enable bit goes to 1: it starts at once, or, while operations from before it was disabled are under way, when they
have drained (R49). DESIGN CHOICE, unsafe (log 169). -/
def State.enableStrand (s : State) (e t : Nat) : State :=
  if (s.opsOf e t).isEmpty then s.startStrand e t else s.setStrand e t { s.strand e t with start := true }

/-- CE_STRAND_EN_WRITE. -/
def State.strandEn (s : State) (e v : Nat) : State :=
  if !s.engOn e then s
  else
    let old := s.fld F.CE_STRAND_EN_en e 0
    (List.range 16).foldl (fun s t =>
      if bitOf old t && !bitOf v t then s.disableStrand e t
      else if !bitOf old t && bitOf v t then s.enableStrand e t
      else s) (s.setFld F.CE_STRAND_EN_en e 0 v)
def execCeStrandEnWrite (e : Fin 34) (v : Word32) (s : State) : Outcome State Fault Refusal :=
  .next (s.strandEn e.val (v.toNat % 65536))

/-! ## Commands to a trapped strand (R48) -/

def State.isTrapped (s : State) (e t : Nat) : Bool := s.engOn e && decide ((s.strand e t).st = .trapped)

/-- The strand leaves TRAPPED at `pc`. -/
def State.leaveTrap (s : State) (e t : Nat) (f : Strand → Strand) : State :=
  if s.isTrapped e t then (s.setStrand e t { f (s.strand e t) with st := .ready, wait := none }).trapUnpend e t else s

def execStrandResume (e : Fin 34) (t : Fin 16) (s : State) : Outcome State Fault Refusal :=
  .next (s.leaveTrap e.val t.val id)
def execStrandRedirect (e : Fin 34) (t : Fin 16) (s : State) : Outcome State Fault Refusal :=
  .next (s.leaveTrap e.val t.val fun x => { x with pc := BitVec.ofNat 16 (s.fld F.CE_SPC_index e.val t.val) })
/-- Forward: the title vector with the recorded cause; for a supervisor strand, or without a vector, it is ignored. -/
def execStrandForward (e : Fin 34) (t : Fin 16) (s : State) : Outcome State Fault Refusal :=
  .next (let x := s.strand e.val t.val
    if x.title && x.tvec != 0 then
      s.leaveTrap e.val t.val fun x => { x with tt := x.ts, inHandler := true, pc := x.tvec.setWidth 16 }
    else s)
/-- Stop clears the strand's enable bit. -/
def State.strandStop (s : State) (e t : Nat) : State :=
  s.strandEn e (s.fld F.CE_STRAND_EN_en e 0 - (if bitOf (s.fld F.CE_STRAND_EN_en e 0) t then 2 ^ t else 0))
def execStrandStop (e : Fin 34) (t : Fin 16) (s : State) : Outcome State Fault Refusal := .next (s.strandStop e.val t.val)

/-! ## The wait breaker (R52, R53) -/

/-- Operation `op` asks for a bulk credit of mesh half `h`. -/
def State.asks (s : State) (op h : Nat) : Bool := s.ops.any fun o => o.id == op && decide (o.credit = .asked h)

/-- The strand that holds what a tracked wait is for, if some strand does. DESIGN CHOICE, unsafe (log 91). -/
def State.holderOf (s : State) (e : Nat) (w : Wait) : Option Nat :=
  match w with
  | .lock _ i => (s.strands.find? fun x => x.2.locks.contains i).map (·.1)
  | .slot _ n => (s.strands.find? fun x => x.2.slots.contains n).map (·.1)
  | .dma _ =>
    let l := s.strands.filter fun x => x.1 / 16 == e && x.2.dma != 0
    match l.find? fun x => decide (x.2.st = .waiting) with
    | some x => some x.1
    | none => l.head?.map (·.1)
  | .credit op =>
    let l := s.ops.filter fun o => match o.credit with | .held h => s.asks op h | _ => false
    match l.find? fun o => decide ((s.strand o.e o.t).st = .waiting) with
    | some o => some (skey o.e o.t)
    | none => l.head?.map fun o => skey o.e o.t
  | _ => none

/-- A strand's own waiting request. -/
def Strand.waitOp (x : Strand) : Nat :=
  match x.wait with
  | some (.lock op _) | some (.slot op _) | some (.dma op) => op
  | _ => 0

/-- The context of the engine is in transit (R53). -/
def State.inTransit (s : State) (e : Nat) : Bool :=
  s.engs.any fun x => match x.2.mig with | some m => m.copying && (x.1 == e || m.target == e) | none => false

/-- The least age the breaker examines, in ns. -/
def State.breakAge (s : State) (e : Nat) : Nat := clampNat 10 100000 (s.fld F.CE_BREAK_TIME_age_us e 0) * 1000

/-- The wait is due to be examined: older than CE_BREAK_TIME, and as long after its last examination. -/
def State.breakDue (s : State) (e t : Nat) : Bool :=
  let x := s.strand e t
  let tracked := match x.wait with | some (.lock _ _) | some (.slot _ _) | some (.dma _) | some (.credit _) => true | _ => false
  decide (e < 34) && s.fldB F.CE_CTRL_break_en e 0 && decide (x.st = .waiting) && tracked &&
  decide (x.waitSince + s.breakAge e < s.tb) && (decide (x.examAt ≤ x.waitSince) || decide (x.examAt + s.breakAge e ≤ s.tb)) &&
  !s.inTransit e

/-- Release what a broken holder has: locks without a torn mark, slots with their partial messages, buffers. -/
def State.breakRelease (s : State) (e t : Nat) : State :=
  let x := s.strand e t
  let s1 := x.locks.foldl (fun s i => s.setEntry i (unlocked (s.entry i) e)) s
  let s2 := x.slots.foldl (fun s i => s.loseSlot e t i) s1
  let s3 := s2.setStrand e t { s2.strand e t with locks := [], slots := [] }
  s3.releaseDma e t

/-- What the BREAK trap names: the handle of the entity (subcode 0) or of the session (subcode 1); its address is 0.
DESIGN CHOICE, unsafe (log 195). -/
def State.breakTrap (s : State) (w : Wait) : Trap :=
  match w with
  | .lock _ i => { cause := .brk, sub := 0, info := BitVec.ofNat 64 (mkHandle i (entGen (s.entry i))) }
  | .slot _ n => { cause := .brk, sub := 1, info := BitVec.ofNat 64 (s.sesHandle n) }
  | _ => { cause := .brk }

/-- A holder that waits, and whose other operations have drained, loses its ranked resources and traps BREAK, the instruction that waits
being the faulting one. DESIGN CHOICE, unsafe (log 195). -/
def State.breakHolder (s : State) (w : Wait) (h : Nat) : State :=
  let e := h / 16
  let t := h % 16
  let x := s.strand e t
  let s1 := ((s.finishSample x.waitOp Cause.brk.code).withdrawWait e t).breakRelease e t
  let pc := x.pc.toNat
  ((s1.setStrand e t { s1.strand e t with wait := none }).endToken e).takeTrap e t (s.breakTrap w) pc pc x.report.isSome

/-- Requests of an operation that no channel has admitted. -/
def State.unsent (s : State) (id : Nat) : Nat := (s.reqs.filter fun r => r.op == id).length

/-- The scratch DMA of strand (e, t) stands at a granule boundary: no granule is with a channel, and one is still to come. An SDMA.IN
needs the granules not yet delivered; an SDMA.OUT the copies of its present granule not yet accepted. -/
def State.atBoundary (s : State) (e t : Nat) : Option Op :=
  (s.opsOf e t).find? fun o => decide (o.st = .sent) && ((match o.credit with | .asked _ => true | _ => false) ||
    if o.kind = .sdmaIn then decide (o.need ≠ 0) && decide (o.prog + o.need = o.granules + s.unsent o.id)
     else if o.kind = .sdmaOut then
       decide (o.need ≠ 0) &&
       match s.place (o.addr + 64 * (o.prog - 1)) with
       | .at l off => (match s.route l off with | some r => decide (r.wr.length = s.unsent o.id) | none => false)
       | .backing => false
     else false)

/-- The channel whose preemption table would hold transfer `o`: the one its next granule goes to. -/
def State.xferChan (s : State) (o : Op) : Option Nat :=
  match s.place (o.addr + 64 * (if s.unsent o.id = 0 then o.prog else o.prog - 1)) with
  | .at l off => (s.route l off).map fun r => if o.kind = .sdmaIn then r.rd else r.wr.headD r.rd
  | .backing => none

/-- That table has room (R251). -/
def State.mayPreempt (s : State) (o : Op) : Bool :=
  match s.xferChan o with
  | some c => decide ((s.chan c).preempt.length < 16)
  | none => true

/-- The breaker preempts a transfer of any class through that table. -/
def State.breakPreempt (s : State) (o : Op) : State :=
  match s.xferChan o with
  | some c => s.notePreempt c o.id (engMaster o.e) (s.classOf o.addr)
  | none => s

/-- The holder's transfer `o` is preempted: the granule not yet admitted is withdrawn, its buffers pass to the waiting transfer `w`,
and it is requeued next behind that. -/
def State.preemptDma (s : State) (o : Op) (w : Nat) : State :=
  let back := { o with st := .waiting, credit := .none, prog := if s.unsent o.id = 0 then o.prog else o.prog - 1 }
  let front := (s.ops.filter fun q => q.id == w) ++ [back]
  let s1 := (s.dropReqs o.id).breakPreempt o
  let s2 : State := { s1 with ops := front ++ s1.ops.filter fun q => q.id != w && q.id != o.id }
  s2.releaseDma o.e o.t

/-- The holder's transfer `o` is preempted and its mesh bulk credit passes to the waiting transfer `w`: it keeps its buffers and its
progress count and asks for a credit again, next behind that. -/
def State.preemptCredit (s : State) (o : Op) (w : Nat) : State :=
  match o.credit with
  | .held h =>
    let back := { o with credit := .asked h, need := 0, prog := if s.unsent o.id = 0 then o.prog else o.prog - 1 }
    let front := (s.ops.filter fun q => q.id == w) ++ [back]
    let s1 := (s.dropReqs o.id).breakPreempt o
    let s2 : State := { s1 with ops := front ++ s1.ops.filter fun q => q.id != w && q.id != o.id }
    s2.grantCredits 64
  | _ => s

/-- The strand is in a tracked wait (R28): EVWAIT is none. -/
def Strand.inWait (x : Strand) : Bool :=
  decide (x.st = .waiting) && match x.wait with | some (.event _ _) | none => false | some _ => true

/-- The examination of the wait of strand (e, t): a transfer is preempted at its next granule boundary, a holder broken once its
operations have drained; until then the wait is looked at again. A holder that is in no tracked wait, or whose engine's context is in
transit, keeps what it holds, and `skipped` counts. DESIGN CHOICE, unsafe (log 91). -/
def State.examine (s : State) (e t : Nat) (w : Wait) : State :=
  let s0 := s.setStrand e t { s.strand e t with examAt := s.tb }
  match s.holderOf e w with
  | none => s0.addFld F.CE_BREAK_COUNT_skipped e 0 1
  | some h =>
    let x := s.strand (h / 16) (h % 16)
    if !x.inWait ∨ s.inTransit (h / 16) then s0.addFld F.CE_BREAK_COUNT_skipped e 0 1
    else
      match w with
      | .dma op =>
        match s.atBoundary (h / 16) (h % 16) with
        | some o => if !s.mayPreempt o then s else ((s0.preemptDma o op).addFld F.CE_BREAK_COUNT_transparent e 0 1).occ { ev := 0x0A, inst := e }
        | none => s
      | .credit op =>
        match s.atBoundary (h / 16) (h % 16) with
        | some o => if !s.mayPreempt o then s else ((s0.preemptCredit o op).addFld F.CE_BREAK_COUNT_transparent e 0 1).occ { ev := 0x0A, inst := e }
        | none => s
      | _ =>
        if (s.opsOf (h / 16) (h % 16)).all fun o => o.id == x.waitOp then
          ((s0.breakHolder w h).addFld F.CE_BREAK_COUNT_trapped e 0 1).occ { ev := 0x0A, inst := e }
        else s

/-- WAIT_BREAKER_CHECK. -/
def State.waitBreaker (s : State) (e t : Nat) : State :=
  match (s.strand e t).wait with
  | some w => if s.breakDue e t then s.examine e t w else s
  | none => s
def execWaitBreakerCheck (e : Fin 35) (t : Fin 16) (s : State) : Outcome State Fault Refusal :=
  .next (s.waitBreaker e.val t.val)

/-! ## Migration of a logical engine (R54 to R57) -/

/-- The strands of an engine. -/
def strandsOf : List Nat := List.range 16

/-- Engine `p` is quiet (R54). -/
def State.quiet (s : State) (p : Nat) : Bool :=
  s.lsqUsed p == 0 &&
  strandsOf.all fun t =>
    let x := s.strand p t
    !x.holds &&
    (match x.st, x.wait with
      | .disabled, _ | .trapped, _ => true
      | .waiting, some (.tick _ _) => true
      | _, _ => false)

/-- MIGRATION_START (R55, step 2): toward another channel engine that is present and powered, while none is under way.
DESIGN CHOICE, unsafe (log 92). -/
def State.migStart (s : State) (p q : Nat) : State :=
  if p = q ∨ 34 ≤ q ∨ !s.engOn p ∨ !s.engOn q ∨ (s.eng p).mig.isSome ∨ (s.eng p).fenced ∨ (s.eng q).fenced then s
  else
    let s1 := (s.setFld F.CE_MIG_CTRL_target p 0 q).setFld F.CE_MIG_STATUS_phase p 0 1
    s1.setEng p { s1.eng p with mig := some { target := q, startTick := s.fld F.TK_NEXT_tick 0 0 } }
def execMigrationStart (p q : Fin 34) (s : State) : Outcome State Fault Refusal := .next (s.migStart p.val q.val)

/-- The copy begins (step 4): issue stops. -/
def State.migCopy (s : State) (p : Nat) (m : Mig) : State :=
  ((s.setFld F.CE_MIG_STATUS_phase p 0 2).setEng p { s.eng p with mig := some { m with copying := true, since := s.tb } }).endToken p

/-- The lock owner of every entity locked by p becomes q (R56). -/
def State.renameOwner (s : State) (p q : Nat) : State :=
  s.ed.ent.foldl (fun s x => if entLock x.2 && entOwner x.2 == p then s.setEntry x.1 (withOwner x.2 q) else s) s

/-- p's queue has drained: only requests that wait for a resource are left (R56, R57). -/
def State.migDrained (s : State) (p : Nat) : Bool := s.ops.all fun o => o.e != p || decide (o.st = .waiting)

/-- A forced migration has stopped issue: once the queue has drained the lock owners are renamed and the copy begins (R56, steps 2
to 4). -/
def State.migForced (s : State) (p : Nat) (m : Mig) : State :=
  if s.migDrained p then (s.renameOwner p m.target).migCopy p { m with stopped := true }
  else (s.setEng p { s.eng p with mig := some { m with stopped := true } }).endToken p

/-- MIGRATION_QUIET: the quiet moment has come (R55, step 3), or a forced migration's queue has drained (R56). An engine that is
fenced, or whose target is, is not copied (R58). -/
def State.migQuiet (s : State) (p : Nat) : State :=
  match (s.eng p).mig with
  | some m =>
    if m.copying || (s.eng p).fenced || (s.eng m.target).fenced then s
    else if m.stopped then (if s.migDrained p then s.migForced p m else s)
    else if s.quiet p then s.migCopy p m
    else s
  | none => s
def execMigrationQuiet (p : Fin 34) (s : State) : Outcome State Fault Refusal := .next (s.migQuiet p.val)

/-- MIGRATION_WAIT_EXPIRED (R56): forced, issue stops and the queue drains; else the migration fails. -/
def State.migExpired (s : State) (p : Nat) : State :=
  match (s.eng p).mig with
  | none => s
  | some m =>
    if m.copying || m.stopped || (s.eng p).fenced || (s.eng m.target).fenced ||
        decide (s.fld F.TK_NEXT_tick 0 0 < m.startTick + max 1 (s.fld F.CE_MIG_WAIT_ticks p 0)) then s
    else if s.fldB F.CE_MIG_CTRL_force p 0 then s.migForced p m
    else
      ((s.setFld F.CE_MIG_STATUS_failed p 0 1).setFld F.CE_MIG_STATUS_phase p 0 0).setEng p { s.eng p with mig := none }
def execMigrationWaitExpired (p : Fin 34) (s : State) : Outcome State Fault Refusal := .next (s.migExpired p.val)

/-- The range registers of p, active and shadow, become those of q. -/
def State.copyRanges (s : State) (p q : Nat) : State :=
  ceRangeFlds.foldl (fun s f => (List.range 64).foldl (fun s n =>
    (s.setFld f q n (s.fld f p n)).setShd f q n (s.shd f p n)) s) s

/-- A strand's number moved from engine p to q. -/
def moveKey (p q k : Nat) : Nat := if k / 16 = p then q * 16 + k % 16 else k

/-- What still names strands of p names those of q: operations, requests, the writers of queued writes, the messages being
filled, the strands counted for the open tick and their DONE times (R57). -/
def State.renameParty (s : State) (p q : Nat) : State :=
  { s with
    ops := s.ops.map fun (o : Op) => if o.e = p then { o with e := q } else o
    chans := s.chans.map fun (x : Nat × Chan) => (x.1, { x.2 with wq := x.2.wq.map fun (w : WEnt) =>
      { w with writers := w.writers.map fun (y : Writer) => if y.e = p then { y with e := q } else y } })
    st := { s.st with msgs := s.st.msgs.map fun (m : Msg) =>
      { m with filler := m.filler.map fun f => if f.1 = p then (q, f.2) else f } }
    tk := { s.tk with
      counted := s.tk.counted.map (moveKey p q)
      doneAt := s.tk.doneAt.foldl (fun a x => smapInsert a (moveKey p q x.1) x.2) [] } }

/-- The publication writes that move along with the strands of p, counted as issued by q (R57, R93). -/
def State.pubsMoved (s : State) (p : Nat) : Nat × Nat :=
  s.ops.foldl (fun (a : Nat × Nat) o => match o.pub with
    | some n => if o.e = p then bumpPar a n else a
    | none => a) (0, 0)

/-- Step 5 and 6 of R55: q takes the strands, scratch, ranges, the locks granted meanwhile and the logical number, with a pending bit for
each TRAPPED strand; p is STOPPED with none. -/
def State.migDone (s : State) (p : Nat) (m : Mig) : State :=
  let q := m.target
  let s1 := strandsOf.foldl (fun s t =>
    let x := s.strand p t
    (s.setStrand q t { x with examAt := 0 }).setStrand p t strand0) s
  let span := (smapSlice s1.scratch (p * 131072) ((p + 1) * 131072)).map fun (x : Nat × Byte) => (x.1 + q * 131072 - p * 131072, x.2)
  let base := smapDrop s1.scratch (q * 131072) ((q + 1) * 131072)
  let s2 : State := { s1 with scratch := span.foldl (fun a (x : Nat × Byte) => smapInsert a x.1 x.2) base }
  let s3 := ((s2.copyRanges p q).renameParty p q).renameOwner p q
  let pend := bitSet (strandsOf.filter fun t => decide ((s.strand p t).st = .trapped))
  let s4 := ((((s3.setFld F.CE_STRAND_EN_en q 0 (s.fld F.CE_STRAND_EN_en p 0)).setFld F.CE_STRAND_EN_en p 0 0).setFld
    F.CE_TRAP_PEND_pend q 0 pend).setFld F.CE_TRAP_PEND_pend p 0 0)
  let s5 := (((((if pend = 0 then s4 else s4.svEvent q).svUnevent p).setFld F.CE_CTRL_run q 0 1).setFld F.CE_CTRL_run p 0 0).setFld
    F.CE_ID_logical q 0 (s.fld F.CE_ID_logical p 0)).setFld F.CE_ID_logical p 0 0x3F
  let gp : Eng := { s5.eng p with issued := (0, 0), acked := (0, 0), mig := none, dmaFree := 8, lates := [], tills := [] }
  let gq : Eng := { s5.eng q with issued := s.pubsMoved p, acked := (0, 0), dmaFree := (s5.eng p).dmaFree, lates := [], tills := [] }
  let s6 := (s5.setEng q gq).setEng p gp
  let s7 := (s6.setFld F.CE_MIG_STATUS_phase p 0 3).setFld F.CE_MIG_STATUS_stall p 0 (min 65535 ((s.tb - m.since) / 16))
  (s7.wakeAll q).grantDma q 16

/-- MIGRATION_COPY_COMPLETE (R57): p's queue has drained; only requests that wait for a resource move along. -/
def State.migComplete (s : State) (p : Nat) : State :=
  match (s.eng p).mig with
  | some m => if m.copying && s.migDrained p && !(s.eng p).fenced && !(s.eng m.target).fenced then s.migDone p m else s
  | none => s
def execMigrationCopyComplete (p : Fin 34) (s : State) : Outcome State Fault Refusal := .next (s.migComplete p.val)

/-! ## The watchdog (R59) and the hang source (R360) -/

/-- SV_WDOG_KICK: the count is loaded with the timeout. -/
def State.wdogKick (s : State) : State :=
  { s with wdogAt := s.tb, wdogOut := false, wdogLoad := clampNat 1000 1000000 (s.fld F.SV_WDOG_timeout_us 0 0) }
def execSvWdogKick (s : State) : Outcome State Fault Refusal := .next s.wdogKick

/-- The microseconds left. -/
def State.wdogRemain (s : State) : Nat :=
  if s.fldB F.SV_WDOG_enable 0 0 then s.wdogLoad - (s.tb - s.wdogAt) / 1000 else s.wdogLoad

/-- WATCHDOG_EXPIRE: the count has run out; one event on the SV group. -/
def State.wdogExpire (s : State) : State :=
  if s.fldB F.SV_WDOG_enable 0 0 && s.wdogRemain == 0 && !s.wdogOut then
    ({ s with wdogOut := true }).raise { group := 49, src := 1, inst := 34, master := 34 }
  else s
def execWatchdogExpire (s : State) : Outcome State Fault Refusal := .next s.wdogExpire

/-- ENGINE_HANG_DETECT: the engine runs, a strand is READY, and no token has been issued for 100 µs.
DEDUCED, unsafe (log 90). -/
def State.hangDetect (s : State) (e : Nat) : State :=
  if s.engIssues e && (strandsOf.any fun t => decide (s.stNow e t = .ready)) &&
      decide ((s.eng e).lastTok + 100000 ≤ s.tb) then
    s.raise { group := 48, src := 1, inst := e, master := e }
  else s
def execEngineHangDetect (e : Fin 34) (s : State) : Outcome State Fault Refusal := .next (s.hangDetect e.val)

/-! ## EVWAIT (R98) -/

/-- The management frame a waiting command brings. -/
def mgmtFrame : Instr → Option Frame
  | .identify f | .provisionKey f | .rotateKey f | .regRead f | .regWrite f | .regModify f | .modeSet f | .reset f
  | .imageBegin f | .imageData f | .imageEnd f | .titleKeySet f | .memRead f | .memWrite f | .sesCreate f | .sesClose f
  | .sesMove f | .sesKeyframe f | .sesRead f | .snapKey f | .dumpInfo f | .dumpRead f | .dumpClear f | .eventRead f
  | .chRate f | .poll f | .badCommandFrame f => some f
  | _ => none

/-- Management frames held: those of the commands that wait, and those held behind a slot commit (R197). -/
def State.framesHeld (s : State) : Nat := (s.pending.filter fun c => (mgmtFrame c).isSome).length + s.mg.waitFrames.length

/-- The reasons present: a trap event, a NOTIFY, a management frame, the deadline reached. -/
def State.evReasons (s : State) (dl : Word64) : Nat :=
  b2n (s.fldB F.SV_EVENT_LO_engine 0 0 || s.fldB F.SV_EVENT_HI_engine 0 0) + 2 * b2n s.fc.notify +
  4 * b2n (s.framesHeld != 0) + 8 * b2n (decide (dl.toNat ≤ s.tb))

/-- EVWAIT returns with reasons `r`: strand `t` of the SV goes on; a NOTIFY told of is cleared. -/
def State.evReturn (s : State) (t rd r : Nat) : State :=
  let x := s.strand 34 t
  let s1 := s.setStrand 34 t { x.wg rd (BitVec.ofNat 64 r) with st := .ready, wait := none, pc := x.pc + 1 }
  { s1 with fc := { s1.fc with notify := s1.fc.notify && !bitOf r 1 } }

def execEvwait (i : Iss) (f : FmtX) (s : State) : Outcome State Fault Refusal :=
  .next (issue s i { writes := gN f.rd, mem := true } (illIf (f.rs1 != 0 || decide (8 ≤ f.imm.toNat))) fun s =>
    if i.e.val ≠ 34 then .trap { cause := .illegal, sub := 1 }
    else
      let n := f.imm.toNat % 8
      let r := s.evReasons ((s.me i).rdl n)
      if r = 0 then .go (s.enterWait 34 i.t.val (.event f.rd.toNat n)) else .go (s.evReturn i.t.val f.rd.toNat r))

/-- EVWAIT_WAKE: a reason has come for the strand that waits. -/
def State.evWake (s : State) (t : Nat) : State :=
  match (s.strand 34 t).wait with
  | some (.event rd n) =>
    let r := s.evReasons ((s.strand 34 t).rdl n)
    if r = 0 ∨ (s.strand 34 t).st ≠ .waiting then s else s.evReturn t rd r
  | _ => s
def execEvwaitWake (t : Fin 16) (s : State) : Outcome State Fault Refusal := .next (s.evWake t.val)

end Sys2Proof.Machine
end

