-- ==== Sys2Proof/Machine/Inet.lean ====
section
/-!
DEFINITION. Frame bytes as the standards R162 to R179 name lay them out: Ethernet, 802.1Q, IPv4, IPv6, UDP and PTP fields, the
internet checksum, and the time written into a one-step Sync (R184).
-/

namespace Sys2Proof.Machine

/-- The frame check sequence of Ethernet (CRC-32, reflected), as IEEE 802.3 defines it. -/
def crcEthBit (c : Nat) : Nat := if c % 2 = 1 then c / 2 ^^^ 0xEDB88320 else c / 2
def crcEth (bs : List Byte) : Nat :=
  bs.foldl (fun c b => (List.range 8).foldl (fun a _ => crcEthBit a) (c ^^^ b.toNat)) 0xFFFFFFFF ^^^ 0xFFFFFFFF

/-- `n` bytes from `off`, most significant first. -/
def beAt (bs : List Byte) (off n : Nat) : Nat := ((bs.drop off).take n).foldl (fun a b => 256 * a + b.toNat) 0
/-- `n` bytes of a number, most significant first. -/
def beOut (n v : Nat) : List Byte := (List.range n).map fun k => BitVec.ofNat 8 (v / 256 ^ (n - 1 - k))
/-- Replace bytes from `off`. -/
def patchAt (bs : List Byte) (off : Nat) (x : List Byte) : List Byte := bs.take off ++ x ++ bs.drop (off + x.length)

/-- The place of the EtherType: after one 802.1Q tag where there is one. -/
def etherOff (bs : List Byte) : Nat := if beAt bs 12 2 = 0x8100 then 16 else 12
def etherType (bs : List Byte) : Nat := beAt bs (etherOff bs) 2
def tagVid (bs : List Byte) : Nat := beAt bs 14 2 % 4096
def tagged (bs : List Byte) : Bool := beAt bs 12 2 == 0x8100
/-- Where the network header begins. -/
def netOff (bs : List Byte) : Nat := etherOff bs + 2

/-- The ones' complement sum of 16-bit words, an odd last byte padded with zero; `k` bounds the words. -/
def onesSum : Nat → List Byte → Nat → Nat
  | 0, _, a => a
  | k + 1, bs, a => if bs.isEmpty then a else onesSum k (bs.drop 2) (a + beAt (bs ++ [0]) 0 2)
def fold16 (n : Nat) : Nat := let a := n % 65536 + n / 65536; let b := a % 65536 + a / 65536; b % 65536 + b / 65536
/-- The internet checksum's sum over bytes; a right checksum within them makes it 0xFFFF. -/
def csum (bs : List Byte) : Nat := fold16 (onesSum (bs.length + 1) bs 0)

/-- The IPv4 or IPv6 part of a frame. -/
def isV4 (bs : List Byte) : Bool := etherType bs == 0x0800
def isV6 (bs : List Byte) : Bool := etherType bs == 0x86DD

/-- An IPv6 atomic fragment header stands before the transport (R176, n = 5). -/
def v6Frag (bs : List Byte) : Bool := isV6 bs && beAt bs (netOff bs + 6) 1 == 44
/-- The transport protocol, and where its header begins. -/
def ipProto (bs : List Byte) : Nat :=
  let n := netOff bs
  if isV4 bs then beAt bs (n + 9) 1 else if v6Frag bs then beAt bs (n + 40) 1 else beAt bs (n + 6) 1
/-- The length of the IPv4 header with its options, by its IHL field; a field below 5 counts as 5. -/
def v4Len (bs : List Byte) : Nat := 4 * max 5 (beAt bs (netOff bs) 1 % 16)
def udpOff (bs : List Byte) : Nat := netOff bs + (if isV4 bs then v4Len bs else if v6Frag bs then 48 else 40)

/-- The pseudo-header of UDP over the frame's IP. -/
def pseudo (bs : List Byte) (len : Nat) : List Byte :=
  let n := netOff bs
  if isV4 bs then (bs.drop (n + 12)).take 8 ++ beOut 2 17 ++ beOut 2 len
  else (bs.drop (n + 8)).take 32 ++ beOut 4 len ++ beOut 4 17

/-- The UDP datagram of a frame. -/
def udpBytes (bs : List Byte) : List Byte := (bs.drop (udpOff bs)).take (beAt bs (udpOff bs + 4) 2)
/-- Its checksum is right. -/
def udpSumOk (bs : List Byte) : Bool := csum (pseudo bs (udpBytes bs).length ++ udpBytes bs) == 0xFFFF

/-- Generate the UDP checksum of a frame (R179); 0 is sent as 0xFFFF. -/
def fixUdp (bs : List Byte) : List Byte :=
  if (isV4 bs || isV6 bs) && ipProto bs == 17 then
    let z := patchAt bs (udpOff bs + 6) [0, 0]
    let c := 0xFFFF - csum (pseudo z (udpBytes z).length ++ udpBytes z)
    patchAt z (udpOff bs + 6) (beOut 2 (if c = 0 then 0xFFFF else c))
  else bs

/-- Generate the IPv4 header checksum of a frame (R179). -/
def fixIpv4 (bs : List Byte) : List Byte :=
  if isV4 bs then
    let z := patchAt bs (netOff bs + 10) [0, 0]
    patchAt z (netOff bs + 10) (beOut 2 (0xFFFF - csum ((z.drop (netOff bs)).take (v4Len bs))))
  else bs

/-- The place of the PTP header: Layer 2 (EtherType 0x88F7), or UDP ports 319 and 320 (R163). -/
def ptpOff (bs : List Byte) : Option Nat :=
  if etherType bs = 0x88F7 then some (netOff bs)
  else if (isV4 bs || isV6 bs) && ipProto bs == 17 && (beAt bs (udpOff bs + 2) 2 == 319 || beAt bs (udpOff bs + 2) 2 == 320)
  then some (udpOff bs + 8) else none

/-- A PTP message's sequenceId. -/
def ptpSeq (bs : List Byte) : Nat := match ptpOff bs with | some k => beAt bs (k + 30) 2 | none => 0

/-- A PTP message's type; those below 4 are the event messages, 0 is Sync. -/
def ptpType (bs : List Byte) : Option Nat := (ptpOff bs).map fun k => beAt bs k 1 % 16
def ptpEvent (bs : List Byte) : Bool := (ptpType bs).any fun t => t < 4
def ptpSync (bs : List Byte) : Bool := ptpType bs == some 0

/-- The time of a one-step Sync (R182, R184), given in units of 2^-32 ns: seconds and nanoseconds into originTimestamp, the fraction into
correctionField (units of 2^-16 ns), then the UDP checksum over the result. No other message is changed (R163). -/
def stampSync (time : Nat) (bs : List Byte) : List Byte :=
  match ptpOff bs with
  | some k =>
    let tb := time / 2 ^ 32
    if ptpSync bs then
      fixUdp (patchAt (patchAt bs (k + 34) (beOut 6 (tb / 1000000000) ++ beOut 4 (tb % 1000000000))) (k + 8)
        (beOut 8 (time % 2 ^ 32 / 65536)))
    else bs
  | none => bs

/-- Put a port's tag into a frame (R179). -/
def addTag (pcp vid : Nat) (bs : List Byte) : List Byte := bs.take 12 ++ beOut 2 0x8100 ++ beOut 2 (pcp * 8192 + vid) ++ bs.drop 12
/-- Pad a frame without its FCS to 60 bytes (R179). -/
def padFrame (bs : List Byte) : List Byte := bs ++ List.replicate (60 - bs.length) 0
/-- A frame with the FCS the MAC generates (R179). -/
def withFcs (bs : List Byte) : List Byte := bs ++ leBytes 4 (crcEth bs)

/-- A UDP payload in its headers (R179): from `src` to `dst` over IPv6 or IPv4, MAC addresses, the fields no rule gives (traffic class and
flow label or type of service, identification, hop limit) from `open_`, checksums generated. -/
def udpFrame (v6 : Bool) (macs : List Byte) (src dst : List Byte) (sp dp : Nat) (open_ payload : List Byte) : List Byte :=
  let udp := beOut 2 sp ++ beOut 2 dp ++ beOut 2 (8 + payload.length) ++ [0, 0] ++ payload
  fixUdp (fixIpv4 (macs ++
    (if v6 then
      beOut 2 0x86DD ++ beOut 4 (6 * 2 ^ 28 + beAt open_ 0 4 % 2 ^ 28) ++ beOut 2 udp.length ++ [17] ++ (open_.drop 4).take 1 ++ src ++ dst
    else
      beOut 2 0x0800 ++ [0x45] ++ open_.take 1 ++ beOut 2 (20 + udp.length) ++ (open_.drop 1).take 2 ++ [0, 0] ++ (open_.drop 4).take 1 ++
        [17, 0, 0] ++ src ++ dst) ++ udp))

end Sys2Proof.Machine
end

