-- ==== Sys2Proof/Machine/World.lean ====
section
/-!
DEFINITION. World datagrams in (spec/05, R138 to R144) and packets out: the egress queues, snapshot datagrams (R128), the
Shutter's windows and misses (R156, R157), sessions rebound when a port leaves its group (R159).
-/

namespace Sys2Proof.Machine
open Host

/-! ## Ingress (R138, R139) -/

/-- The group of a port. -/
def State.groupOf (s : State) (port : Nat) : Nat := s.fld F.PT_PORT_GRP_group port 0
/-- The first lane of a port (R160, R178). -/
def State.firstLane (s : State) (port : Nat) : Nat := s.portLanes * port

/-- A datagram is dropped for reason `n`. -/
def State.stDrop (s : State) (port n : Nat) : State :=
  (s.addFld F.ST_DROP_count n 0 1).occ { ev := 0x51, inst := s.firstLane port }

/-- A client counter is accepted (R139): the highest counter and the window after it; none where it is refused. The first counter of a
session is above all that were accepted, of which there are none. DESIGN CHOICE, unsafe (log 180). -/
def replayStep (any : Bool) (h w c : Nat) : Option (Nat × Nat) :=
  if !any then some (c, 0)
  else if h < c then some (c, if 16 < c - h then 0 else (w * 2 + 1) * 2 ^ (c - h - 1) % 2 ^ 16)
  else if c < h ∧ h ≤ c + 16 ∧ !bitOf w (h - 1 - c) then some (h, w + 2 ^ (h - 1 - c))
  else none

/-- The oldest tick whose ingest has not closed (R16, R140). -/
def State.ingestTick (s : State) : Nat :=
  match s.tk.cur with
  | none => s.fld F.TK_NEXT_tick 0 0
  | some n => if s.tb < s.tk.start + s.tk.ing then n else n + 1

/-- An INPUT record of a session that takes inputs is dropped, and the ingest gap is set (R140). -/
def State.dropInput (s : State) (i : Nat) : State :=
  let c := s.ctx i
  if c.st = .live ∨ c.st = .quiet then (s.setCtx i { c with gap := true }).addFld F.ST_DROP_count 6 0 1 else s

/-- An INPUT record is appended to the ring, or dropped: the gap is set where it does not fit, in the ring or in the 10-bit count of
unread records. Inputs of a session that is not LIVE or QUIET are discarded (R133). DESIGN CHOICE, unsafe (log 181). -/
def State.appendInput (s : State) (i port kind seq tick : Nat) (payload : List Byte) : State :=
  let c := (s.ctx i).clearGap
  if !(c.st = .live ∨ c.st = .quiet) then s
  else if c.gap || decide (c.ringSize < c.ringUsed + ringRec payload.length) || decide (1023 ≤ c.unread) then
    (s.setCtx i { c with gap := true }).addFld F.ST_DROP_count 6 0 1
  else
    let body := leBytes 2 payload.length ++ leBytes 1 kind ++ leBytes 1 0 ++ leBytes 4 seq ++ leBytes 4 tick ++
      leBytes 4 (s.tb % 2 ^ 32) ++ payload ++ List.replicate (ringRec payload.length - 16 - payload.length) 0
    ((s.ringPut c body).setCtx i { c with newest := c.wr, wr := ringAdd c.ringSize c.wr (ringRec payload.length),
                                          unread := c.unread + 1 }).occ { ev := 0x52, inst := s.firstLane port }

/-- MSG_ACK (R144): every reliable message up to `seq` is received. -/
def State.msgAck (s : State) (i seq : Nat) : State :=
  let r := s.keyCount i 0x2C
  let a := if laterTick seq r.1 then seq else r.1
  let s1 := r.2.setKeyCount i 0x2C a
  { s1 with st := { s1.st with msgs := s1.st.msgs.filter fun (m : Msg) =>
      !(m.ses == i && m.filler.isNone && m.kind == 1 && !laterTick m.seq a) } }

/-- The records of a datagram, in order (R141). A bad record stops it; once an INPUT record has been dropped for want of room, the
later ones of the datagram are dropped (`cut`, R140). An INPUT longer than a ring record's 2,032 bytes is a bad record. DESIGN CHOICE,
unsafe (log 182). -/
def State.clientRecs (s : State) (i port tick : Nat) (cut : Bool) : Nat → List Byte → State
  | 0, _ => s
  | f + 1, bs =>
    match bs with
    | [] => s
    | k :: r =>
      if k = 0 then s
      else if k = 1 then
        let n := leNat ((r.drop 1).take 2)
        if r.length < 7 + n ∨ 2032 < n then s.addFld F.ST_DROP_count 7 0 1
        else
          let s1 := if cut then s.dropInput i
            else s.appendInput i port (leNat (r.take 1)) (leNat ((r.drop 3).take 4)) tick ((r.drop 7).take n)
          s1.clientRecs i port tick (cut || (s1.ctx i).gap) f (r.drop (7 + n))
      else if k = 5 then
        if r.length < 7 then s.addFld F.ST_DROP_count 7 0 1
        else (s.msgAck i (leNat ((r.drop 3).take 4))).clientRecs i port tick cut f (r.drop 7)
      else if k = 6 then
        if r.length < 3 then s.addFld F.ST_DROP_count 7 0 1
        else (s.closeSession i 1).clientRecs i port tick cut f (r.drop 3)
      else if k = 7 then
        if r.length < 3 then s.addFld F.ST_DROP_count 7 0 1
        else (s.joinReq i).clientRecs i port tick cut f (r.drop 3)
      else s.addFld F.ST_DROP_count 7 0 1

/-- The smoothed round-trip time after a sample (R144). DESIGN CHOICE, unsafe (log 73). -/
def rttStep (rtt sample : Nat) : Nat := (max 0 (min 65535 ((rtt : Int) + ((sample : Int) - rtt) / 8))).toNat

/-- The ack tick of a LIVE or QUIET session (R144). -/
def State.takeAck (s : State) (i a : Nat) : State :=
  let x := s.sess i
  let c := x.ctx
  if (c.st = .live ∨ c.st = .quiet) ∧ (c.base = noBase ∨ laterTick a c.base) ∧ !s.noneCommitted ∧ !laterTick a s.committed32 then
    let rtt := match x.sentAt.find? fun e => e.1 == a with
      | some e => rttStep c.rtt ((s.tb - e.2) / 1000)
      | none => c.rtt
    s.setSess i { x with ctx := { c with base := a, rtt := rtt }, sentAt := x.sentAt.filter fun e => laterTick e.1 a }
  else s

/-- A datagram that has passed authentication and replay (R138, steps 6 to 8). A new source leaves the context's IPv6 bit as it is.
DESIGN CHOICE, unsafe (log 196). -/
def State.acceptWorld (s : State) (i port src srcPort : Nat) (hdr recs : List Byte) (hw : Nat × Nat) : State :=
  let x := s.sess i
  let c := { x.ctx with high := hw.1, replay := hw.2, heard := true,
                        addr := if s.fldB F.ST_CTRL_rebind 0 0 then src else x.ctx.addr,
                        peerPort := if s.fldB F.ST_CTRL_rebind 0 0 then srcPort else x.ctx.peerPort,
                        keyPend := x.ctx.keyPend || bitOf (leNat ((hdr.drop 1).take 1)) 5 }
  let s1 := (s.setSess i { x with anyRx := true, ctx := c }).occ { ev := 0x50, inst := s.firstLane port }
  let s2 := if c.st = .quiet then (s1.setCtx i { c with st := .live }).stEvent 4 0 i else s1
  let tick := leNat ((hdr.drop 8).take 4)
  let delta := leNat ((hdr.drop 2).take 2)
  let a := (tick + 2 ^ 32 - delta) % 2 ^ 32
  let s3 := if delta = 0xFFFF then s2 else (s2.takeAck i a).joinAck i a
  s3.clientRecs i port (s.ingestTick % 2 ^ 32) false (recs.length + 1) recs

/-- WORLD_DATAGRAM_RECEIVE (R138): the checks in order. With `enable` 0, or in HALT, no world datagram is accepted.
DESIGN CHOICE, unsafe (log 74). -/
def State.worldReceive (s : State) (port src srcPort : Nat) (bs : List Byte) : State :=
  let hdr := bs.take 16
  let h := leNat ((hdr.drop 4).take 4)
  let i := h / 2 ^ 14
  let c := s.ctx i
  let ctr := leNat ((hdr.drop 12).take 4)
  if !s.fldB F.ST_CTRL_enable 0 0 ∨ s.mode = 7 then s
  else if bs.length < 32 ∨ leNat (hdr.take 1) ≠ 1 ∨ 2 ^ 31 ≤ ctr then s.stDrop port 0
  else if s.st.upset.contains i then s.stLost 56 i
  else if c.st = .free ∨ c.gen ≠ h % 2 ^ 14 ∨ !s.stOn i then s.stDrop port 1
  else if c.st = .closing then s.stDrop port 2
  else if s.groupOf port ≠ s.groupOf c.port ∨
      ((c.addr ≠ src ∨ c.peerPort ≠ srcPort) ∧ !s.fldB F.ST_CTRL_rebind 0 0) then s.stDrop port 3
  else
    let k := s.sesKey i (s.firstLane port) 2 none
    let s1 := k.2.occ { ev := 0x53, inst := s.firstLane port }
    let body := bs.drop 16
    match k.1.bind fun key => gcmOpen key (toNats (hdr.drop 4)) (toNats hdr) (toNats (body.take (body.length - 16)))
        (toNats (body.drop (body.length - 16))) with
    | none => s1.stDrop port 4
    | some pt =>
      match replayStep (s.sess i).anyRx c.high c.replay ctr with
      | none => s1.stDrop port 5
      | some hw => s1.acceptWorld i port src srcPort hdr (ofNats pt) hw
def execWorldDatagramReceive (port : Fin 8) (src : BitVec 128) (srcPort : BitVec 16) (payload : List Byte) (s : State) :
    Outcome State Fault Refusal := .next (s.worldReceive port.val src.toNat srcPort.toNat payload)

/-! ## Egress (R156, R157) -/

/-- The packet may leave now: its port is up and, for a round, its window is open and its session LIVE (R133); a join stream and an export
at their pace. DEDUCED, unsafe (log 202). -/
def State.pktReady (s : State) (p : Pkt) : Bool :=
  s.fldB F.PT_PORT_STATUS_up p.port 0 &&
  match p.q with
  | 1 => decide (p.opens ≤ s.tb) && decide (s.tb < p.closes) &&
    (match p.ses with | some i => p.isClose || decide ((s.ctx i).st = .live) | none => true)
  | 2 => (match p.ses with | some i => decide ((s.sess i).joinNext ≤ s.tb) | none => true)
  | 3 => decide (s.snap.nextAt ≤ s.tb)
  | _ => true

/-- The packet of a queue that goes next: in order, but queue 1 by the earliest window close. -/
def State.headOf (s : State) (lane q : Nat) : Option Pkt :=
  let l := s.pt.egress.filter fun p => p.lane == lane && p.q == q && s.pktReady p
  if q = 1 then
    l.foldl (fun a p => match a with | none => some p | some b => if p.closes < b.closes then some p else some b) none
  else l.head?

/-- Bytes queues 1 and 2 have sent while queue 2 was not empty: whether queue 2 is below its share. -/
def State.joinOwed (s : State) (lane : Nat) : Bool :=
  let n := smapGet (0, 0) s.pt.share lane
  decide (n.2 * 100 < s.fld F.DU_JOIN_min_pct 0 0 * (n.1 + n.2))

/-- The packet that leaves lane `lane`: strict order of the queues, but queue 2 keeps its share of the port.
DESIGN CHOICE, unsafe (log 80). -/
def State.nextPkt (s : State) (lane : Nat) : Option Pkt :=
  match s.headOf lane 0, s.headOf lane 1, s.headOf lane 2, s.headOf lane 3 with
  | some p, _, _, _ => some p
  | none, some p, some j, _ => if s.joinOwed lane then some j else some p
  | none, some p, none, _ => some p
  | none, none, some j, _ => some j
  | none, none, none, x => x

/-- Bytes of a frame on the line with FCS: a UDP payload in its UDP, IP and Ethernet headers, with the port's tag; padded to 64.
DESIGN CHOICE, safe (log 83). -/
def State.frameBytes (s : State) (p : Pkt) : Nat :=
  if p.q = 0 then max 64 (p.bytes.length + (if s.fldB F.PT_PORT_CTRL_tx_tag p.port 0 then 4 else 0) + 4)
  else
    let v6 := match p.ses with | some i => (s.ctx i).v6 | none => s.fldB F.SNAP_CTRL_ipv6 0 0
    max 64 (p.bytes.length + 8 + (if v6 then 40 else 20) + 14 + (if s.fldB F.PT_PORT_CTRL_tx_tag p.port 0 then 4 else 0) + 4)

/-- Time in ns that `n` bytes take at `mbps`. -/
def paceNs (n mbps : Nat) : Nat := 8 * n * 1000 / max 1 mbps

/-! ### What leaves (R179, R184) -/

/-- The time at the balls of what passes lane `l`'s timestamp point now (R163, R184): the count with its fraction, in units of 2^-32 ns,
and the lane's latency, in tenths of a nanosecond. -/
def State.ballTx (s : State) (l : Nat) : Nat := s.tb * 2 ^ 32 + s.tbFrac + s.fld F.LN_LATENCY_tx l 0 * 2 ^ 32 / 10
def State.ballRx (s : State) (l : Nat) : Nat := s.tb * 2 ^ 32 + s.tbFrac - s.fld F.LN_LATENCY_rx l 0 * 2 ^ 32 / 10

/-- A 16-byte group address from its four registers, first byte first. -/
def State.grpIp (s : State) (f : Fld) (g : Nat) : List Byte := (List.range 4).flatMap fun k => beOut 4 (s.fld f g k)

/-- Where a session's or a snapshot's datagram goes: IPv6, the destination address, the source and destination port. -/
def State.destination (s : State) (p : Pkt) : Bool × List Byte × Nat × Nat :=
  match p.ses with
  | some i =>
    let c := s.ctx i
    let a := leBytes 16 c.addr
    (c.v6, if c.v6 then a else a.drop 12, s.fld F.ST_WORLD_PORT_port 0 0, c.peerPort)
  | none =>
    let a := (List.range 4).flatMap fun k => beOut 4 (s.fld F.SNAP_DADDR_addr k 0)
    let v6 := s.fldB F.SNAP_CTRL_ipv6 0 0
    (v6, if v6 then a else a.take 4, s.fld F.SNAP_PORTS_src 0 0, s.fld F.SNAP_PORTS_dst 0 0)

/-- A datagram of queues 1 to 3 in its UDP, IP and Ethernet headers. The destination's MAC address, and the header fields no rule gives,
are free. DESIGN CHOICE, safe (log 83). -/
def State.datagramFrame (s : State) (p : Pkt) : List Byte :=
  let d := s.destination p
  let g := s.groupOf p.port
  let x := freeBytes s.freeVal 16
  udpFrame d.1 (x.take 6 ++ leBytes 6 (s.fld F.PT_GRP_MAC_mac g 0))
    (if d.1 then s.grpIp F.PT_GRP_IPV6_addr g else beOut 4 (s.fld F.PT_GRP_IPV4_addr g 0)) d.2.1 d.2.2.1 d.2.2.2 (x.drop 6) p.bytes

/-- A firmware frame as it leaves (R179, R184): timed if it is a one-step Sync, its checksums generated. -/
def State.firmwareFrame (s : State) (p : Pkt) : List Byte :=
  fixUdp (fixIpv4 (if p.oneStep then stampSync (s.ballTx p.lane) p.bytes else p.bytes))

/-- What a packet is on the line: tagged where the port tags, padded, with its FCS (R179). -/
def State.txFrame (s : State) (p : Pkt) : List Byte :=
  let f := if p.q = 0 then s.firmwareFrame p else s.datagramFrame p
  withFcs (padFrame (if s.fldB F.PT_PORT_CTRL_tx_tag p.port 0 then
    addTag (s.fld F.PT_PORT_CTRL_pcp p.port 0) (s.fld F.PT_PORT_CTRL_vid p.port 0) f else f))

/-- A packet leaves: it is counted, paced queues wait their time, a round's last packet counts the round and is remembered for
its acknowledgement (R144), and the messages it ends have been sent once (R131). -/
def State.sendPkt (s : State) (p : Pkt) : State :=
  let n := s.frameBytes p
  let joins := s.pt.egress.any fun x => x.lane == p.lane && x.q == 2
  let sh := smapGet (0, 0) s.pt.share p.lane
  let sh1 := if !joins then (0, 0) else if p.q = 1 then (sh.1 + n, sh.2) else if p.q = 2 then (sh.1, sh.2 + n) else sh
  let s1 := ({ s with st := { s.st with msgs := s.st.msgs.filter fun (m : Msg) => !(p.ses == some m.ses && p.ends.contains (m.home, m.buf)) }
                      pt := { s.pt with
      egress := s.pt.egress.erase p, lastTx := smapInsert s.pt.lastTx p.lane (s.txFrame p),
      share := smapPut (0, 0) s.pt.share p.lane sh1 }
                      free := if p.q = 0 then s.free else s.free + 1 }.addFld F.PT_CNT_TXFRM_count p.port 0 1).addFld
    F.PT_CNT_TXBYTE_count p.port 0 n
  match p.q, p.ses with
  | 1, some i =>
    if p.last then
      let tick := leNat ((p.bytes.drop 8).take 4)
      let x := s1.sess i
      (s1.setSess i { x with sentAt := x.sentAt ++ [(tick, p.opens)] }).addFld F.DU_ROUNDS_count 0 0 1
    else s1
  | 2, some i =>
    let x := s1.sess i
    let b := if x.ctx.join = 0 then 50 else min 1000 x.ctx.join
    s1.setSess i { x with joinNext := s.tb + paceNs n b }
  | 3, _ =>
    let rate := min (s.fld F.SNAP_RATE_mbps 0 0) (100000 * s.portLanes)
    ({ s1 with snap := { s1.snap with nextAt := s.tb + paceNs n rate } }).addFld F.SNAP_SENT_count 0 0 1
  | _, _ => s1

/-! ## Snapshot datagrams (R128, R156) -/

/-- The key in SNAP_KEY0 to 7. -/
def State.snapKey (s : State) : List Nat := (List.range 8).flatMap fun k => toNats (leBytes 4 (s.fld F.SNAP_KEY_key k 0))

/-- The nonce of a datagram (R128). -/
def snapNonce (id round sq : Nat) : List Nat := toNats (leBytes 4 id ++ leBytes 4 round ++ leBytes 4 sq)

/-- The 16-byte header of a snapshot datagram (R128). -/
def snapHeader (flags round id sq : Nat) : List Byte :=
  leBytes 4 0x504E534B ++ leBytes 1 1 ++ leBytes 1 flags ++ leBytes 2 round ++ leBytes 4 id ++ leBytes 4 sq

/-- The lane a snapshot leaves by. DESIGN CHOICE, unsafe (log 89). -/
def State.snapLane (s : State) : Nat := s.firstLane (s.fld F.SNAP_CTRL_port 0 0)

/-- The next datagram of the round is sealed and queued. -/
def State.snapSeal (s : State) (flags : Nat) (recs : List Byte) : State :=
  let id := s.fld F.SNAP_ID_id 0 0
  let round := s.fld F.SNAP_STATUS_round 0 0
  let hdr := snapHeader flags round id s.snap.seq
  let body := gcmSeal s.snapKey (snapNonce id round s.snap.seq) (toNats hdr) (toNats recs)
  ({ s with snap := { s.snap with seq := s.snap.seq + 1 } }).enqueue
    { lane := s.snapLane, q := 3, port := s.fld F.SNAP_CTRL_port 0 0, bytes := hdr ++ ofNats body }

/-- Datagrams of the round enter queue 3 while the lane's buffer has room. -/
def snapFillFrom : List (Nat × List Byte) → State → State
  | [], s => { s with snap := { s.snap with todo := [] } }
  | d :: r, s =>
    if 2 ^ 20 < s.queued s.snapLane + d.2.length + 32 then { s with snap := { s.snap with todo := d :: r } }
    else snapFillFrom r (s.snapSeal d.1 d.2)
def State.snapFill (s : State) : State := snapFillFrom s.snap.todo s

/-- A frame of queue 0 leaves (R184): the timestamp at the balls of a PTP event message queued with the two-step flag is captured. -/
def State.stampTx (s : State) (p : Pkt) : State :=
  if !p.twoStep || !ptpEvent p.bytes then s
  else if s.pt.txTs.length < 16 then
    { s with pt := { s.pt with txTs := s.pt.txTs ++ [(s.ballTx p.lane / 2 ^ 32, p.port, ptpSeq p.bytes)] } }
  else s.setFld F.PT_TXTS_ID_lost 0 0 1

/-- Join passes whose datagrams wait for room go on. -/
def State.joinFills (s : State) : State :=
  ((s.ses.filter fun e => e.2.join.any fun j => !j.todo.isEmpty).map (·.1)).foldl (fun s i => s.joinFill i) s

/-- What waits for room in a lane's buffer goes on (R156). -/
def State.refill (s : State) : State := s.snapFill.closeFill.joinFills

/-- EGRESS_TRANSMIT. -/
def State.egress (s : State) (lane : Nat) : State :=
  match s.nextPkt lane with
  | none => s
  | some p => ((s.sendPkt p).stampTx p).refill
def execEgressTransmit (lane : Fin 8) (s : State) : Outcome State Fault Refusal := .next (s.egress lane.val)

/-- A round of a session is missed on a lane (R157). -/
def State.missRound (s : State) (i lane : Nat) : State :=
  (s.addFld F.DU_MISS_rounds lane 0 1).occ { ev := 0x64, inst := s.duOf i }

/-- WINDOW_CLOSE (R157): packets and builds of the session whose window has closed are dropped, and so is a CLOSE that waits for room; each
round counts once. -/
def State.windowClose (s : State) (i : Nat) : State :=
  let old (p : Pkt) : Bool := p.q == 1 && p.ses == some i && decide (p.closes ≤ s.tb)
  let oldB (b : Build) : Bool := b.ses == i && decide (b.closes ≤ s.tb)
  let rounds := ((s.pt.egress.filter fun p => old p && !p.isClose).map fun p => (p.slot, p.lane)).dedup
  let builds := (s.st.builds.filter oldB).map fun b => (b.slot, b.du / 2)
  let s1 := { s with pt := { s.pt with egress := s.pt.egress.filter fun p => !old p }
                     st := { s.st with builds := s.st.builds.filter fun b => !oldB b
                                       closeWait := s.st.closeWait.filter fun d => !(d.ses == i && decide (d.closes ≤ s.tb)) } }
  (((rounds ++ builds).dedup).foldl (fun s r => s.missRound i r.2) s1).refill
def execWindowClose (session : BitVec 18) (s : State) : Outcome State Fault Refusal := .next (s.windowClose session.toNat)

/-! ## A port leaves its group (R159) -/

/-- The distributing ports of a group. -/
def State.members? (s : State) (g : Nat) : List Nat :=
  (List.range s.ports).filter fun p => s.groupOf p == g && s.fldB F.PT_PORT_STATUS_dist p 0

/-- Packets of sessions queued at port `p` are dropped; each round among them is missed. -/
def State.dropQueued (s : State) (p : Nat) : State :=
  let gone := s.pt.egress.filter fun (x : Pkt) => x.port == p && x.q == 1 && !x.isClose
  let rounds := (gone.map fun x => (x.ses.getD 0, x.slot, x.lane)).dedup
  let s1 := { s with pt := { s.pt with egress := s.pt.egress.filter fun (x : Pkt) => !(x.port == p && (x.q == 1 || x.q == 2)) } }
  (rounds.foldl (fun s r => s.missRound r.1 r.2.2) s1).refill

/-- Packets queued at `p` are missed; its sessions move to the remaining members, if there are any. -/
def State.rebindPort (s : State) (p : Nat) : State :=
  let m := s.members? (s.groupOf p)
  let s1 := s.dropQueued p
  if m.isEmpty then s1
  else
    (s1.ses.map (·.1)).foldl (fun s i =>
      if (s.ctx i).st ≠ .free ∧ (s.ctx i).port = p then
        (s.setCtx i { s.ctx i with port := m.getD (i % m.length) 0 }).stEvent 7 0 i
      else s) s1

/-! ## Lanes and their ports (R160, R174) -/

/-- A data lane that is present and powered. -/
def State.laneOn (s : State) (l : Nat) : Bool := l < lanes s.part && s.domOn (68 + l)
def State.portOf (s : State) (l : Nat) : Nat := l / s.portLanes
def State.lanesOf (s : State) (p : Nat) : List Nat := List.range' (s.portLanes * p) s.portLanes
def State.portPresent (s : State) (p : Nat) : Bool := p < s.ports

/-- Port `p` leaves distribution for a reason of R174; its sessions are rebound. -/
def State.portLeave (s : State) (p reason : Nat) : State :=
  if s.fldB F.PT_PORT_STATUS_dist p 0 then
    (((s.setFld F.PT_PORT_STATUS_dist p 0 0).setFld F.PT_PORT_GRP_dist p 0 0).setFld F.PT_PORT_STATUS_leave p 0 reason).rebindPort p
  else s

/-- The port's link is down. -/
def State.portDown (s : State) (p reason : Nat) : State := (s.setFld F.PT_PORT_STATUS_up p 0 0).portLeave p reason

end Sys2Proof.Machine
end

