-- ==== Sys2Proof/Machine/Power.lean ====
section
/-!
DEFINITION. Power domains (R26, R27, R218, R355, R356): what depends on what, what a domain loses when it is switched off, what
it is when it is switched on, and the transitions the power manager runs.
-/

namespace Sys2Proof.Machine
open Host

/-! ## Dependencies (R27) -/

/-- The mesh half of channel `c`, as a domain. -/
def meshDom (c : Nat) : Nat := if c < 16 ∨ c = 32 then 102 else 103

/-- The domains domain `n` depends on. -/
def domDeps (n : Nat) : List Nat :=
  if n < 34 then [34 + n, meshDom n]
  else if n < 68 then [meshDom (n - 34)]
  else if n < 76 then [102, 103, 97, 98, 99, 100]
  else if 77 ≤ n ∧ n < 93 then [102, 103, 93, 94, 95, 96]
  else if n = 93 then [94, 95, 96]
  else []

/-- The domain exists on the part. -/
def domPresent (p : Part) (n : Nat) : Bool :=
  if n < 34 then present p n
  else if n < 68 then present p (n - 34)
  else if n < 76 then n - 68 < lanes p
  else if 77 ≤ n ∧ n < 93 then n - 77 < dus p
  else n < 104

def State.depsOn (s : State) (n : Nat) : Bool := (domDeps n).all fun d => s.domOn d
/-- No domain that depends on `n` is on or in transition. -/
def State.unneeded (s : State) (n : Nat) : Bool :=
  (List.range 104).all fun m => !((s.domOn m || (smapFind s.pwr.trans m).isSome) && (domDeps m).contains n)

/-! ## What is lost and what is drawn (R355) -/

/-- Every register field of a block returns to its reset value, its shadow with it; fuse fields are loaded again (R9). -/
def State.loseRegs (s : State) (lo hi : Nat) : State :=
  { s with regs := smapCopy s.regs s.nv.fuse (lo * 16) (hi * 16), shadow := smapDrop s.shadow (lo * 16) (hi * 16) }

/-- A master's fence ends when its domain is switched (R372); a retired engine's does not. -/
def State.endFence (s : State) (m : Nat) : State :=
  if s.fc.retired.contains m then s
  else
    let f := s.fld F.FC_FENCE_master 0 0
    let s1 := s.setFld F.FC_FENCE_master 0 0 (if bitOf f m then f - 2 ^ m else f)
    if m < 34 then s1.setEng m { s1.eng m with fenced := false } else s1

/-- An engine loses its instruction SRAM, scratch, strands and registers; what its strands held is reclaimed and the tick unit
waits for them no longer (R49). -/
def State.loseEngine (s : State) (e : Nat) : State :=
  let s1 := strandsOf.foldl (fun s t => (s.reclaim e t).noteDone (skey e t)) s
  let s2 := (s1.ops.filter fun o => o.e == e).foldl (fun s o => (s.fillCut o).dropReqs o.id) s1
  let l := s2.fld F.CE_ID_logical e 0
  let g : Eng := { ({} : Eng) with fenced := (s2.eng e).fenced }
  let s3 := (s2.loseRegs (0x2000000 + e * 0x10000) (0x2010000 + e * 0x10000)).setFld F.CE_ID_logical e 0 l
  let s4 : State :=
    { s3 with
      pm := { s3.pm with idle := smapDrop s3.pm.idle (e * 8) (e * 8 + 8), held := smapDrop s3.pm.held (e * 8) (e * 8 + 8)
                         samples := s3.pm.samples.filter fun x => x.e != e }
      ops := s3.ops.filter fun o => o.e != e
      strands := smapDrop s3.strands (e * 16) (e * 16 + 16)
      imem := smapDrop s3.imem (imemKey e 0) (imemKey (e + 1) 0)
      scratch := smapDrop s3.scratch (e * 131072) ((e + 1) * 131072) }
  ((List.range 8).foldl (fun s k => s.setFld F.PM_TD_slots e k 0) (s4.setEng e g)).grantCredits 64

/-- A sequencer loses its training and queues; its soft records and block map stand in retention latches (R236). -/
def State.loseSeq (s : State) (c : Nat) : State :=
  let soft := (List.range 16).map fun n => s.fld F.CH_REPAIR_SOFT_record c n
  let init := (List.range 16).map fun n => s.fld F.CH_FIX_INIT_block c n
  let l := s.fld F.CH_ID_logical c 0
  let r := s.fld F.CH_ID_state c 0
  let s1 := ((s.loseRegs (0x1000000 + c * 0x10000) (0x1010000 + c * 0x10000)).setFld F.CH_ID_logical c 0 l).setFld F.CH_ID_state c 0
    (if r = 4 then 4 else 0)
  let s2 := (List.range 16).foldl (fun s n => (s.setFld F.CH_REPAIR_SOFT_record c n (soft.getD n 0)).setFld F.CH_FIX_INIT_block c n
    (init.getD n 0)) s1
  { s2.setChan c chan0 with trn := smapErase s2.trn c }

/-- A lane loses its training and counters; its port's link is down (R174). -/
def State.loseLane (s0 : State) (l : Nat) : State :=
  let s := s0.portDown (s0.portOf l) 1
  let r := s.fld F.LN_STATUS_retired l 0
  let s1 := (s.loseRegs (0x100000 + l * 0x1000) (0x101000 + l * 0x1000)).setFld F.LN_STATUS_retired l 0 r
  { s1 with pt := { s1.pt with
      trainOp := smapErase s1.pt.trainOp l, level := smapErase s1.pt.level l, fir := smapErase s1.pt.fir l,
      flips := smapErase s1.pt.flips l, slips := smapErase s1.pt.slips l, patAt := smapErase s1.pt.patAt l
      injectAt := smapErase s1.pt.injectAt l, frozen := s1.pt.frozen.filter (· != l) } }

/-- A delta unit loses its buffers: the datagrams under construction and its join slots (R370). -/
def State.loseDu (s : State) (d : Nat) : State :=
  { s with
    st := { s.st with builds := s.st.builds.filter fun b => b.du != d }
    ses := s.ses.map fun (x : Nat × Ses) => if s.duOf x.1 = d then (x.1, { x.2 with join := none }) else x }

/-- A quarter of the directory loses its entries. -/
def State.loseEd (s : State) (q : Nat) : State :=
  { s with ed := { s.ed with ent := smapDrop s.ed.ent (q * 524288) ((q + 1) * 524288), lost := true } }

/-- A quarter of the session table loses its contexts; quarter 0 also the wrapping key. -/
def State.loseSt (s : State) (q : Nat) : State :=
  let s1 := ({ s with ses := smapDrop s.ses (q * 65536) ((q + 1) * 65536) }).keysForget fun i => q == 0 || i / 65536 == q
  if q = 0 then { s1 with st := { s1.st with kek := [] } } else s1

/-- What domain `n` loses. DEDUCED, unsafe (log 93). -/
def State.domLose (s : State) (n : Nat) : State :=
  if n < 34 then s.loseEngine n
  else if n < 68 then s.loseSeq (n - 34)
  else if n < 76 then s.loseLane (n - 68)
  else if 77 ≤ n ∧ n < 93 then s.loseDu (n - 77)
  else if 93 ≤ n ∧ n < 97 then s.loseEd (n - 93)
  else if 97 ≤ n ∧ n < 101 then s.loseSt (n - 97)
  else s

/-- The domain ceases to serve. -/
def State.domOff (s : State) (n : Nat) : State :=
  if s.domOn n && n != 76 && n != 101 then (s.domLose n).setFld F.PWR_DOM_powered n 0 0 else s

/-- The domain serves: an engine's or a delta unit's fence ends, a channel is untrained, quarter 0 of the session table draws
its wrapping key, a free value (R130). -/
def State.domUp (s : State) (n : Nat) : State :=
  if s.domOn n || !domPresent s.part n then s
  else
    let s1 := s.setFld F.PWR_DOM_powered n 0 1
    if n < 34 then s1.endFence n
    else if n < 68 then (if s.fld F.CH_ID_state (n - 34) 0 = 4 then s1 else s1.setFld F.CH_ID_state (n - 34) 0 1)
    else if 77 ≤ n ∧ n < 93 then s1.endFence (40 + n - 77)
    else if n = 97 then { s1.useFree with st := { s1.st with kek := freeBytes s1.freeVal 32 } }
    else s1

/-! ## Transitions (R355, R356) -/

def State.transOf (s : State) (n : Nat) : Option Trans := smapFind s.pwr.trans n
def State.setTrans (s : State) (n : Nat) (t : Option Trans) : State :=
  ({ s with pwr := { s.pwr with trans := match t with
      | some x => smapInsert s.pwr.trans n x
      | none => smapErase s.pwr.trans n } }).setFld F.PWR_DOM_busy n 0 (b2n t.isSome)

/-- Domains in their on-transition. -/
def State.goingOn (s : State) : Nat := (s.pwr.trans.filter fun x => decide (x.2 = .on)).length

/-- A request to switch on: at most four at once, the others wait. -/
def State.startOn (s : State) (n : Nat) : State := s.setTrans n (some (if s.goingOn < 4 then .on else .queued))

/-- A domain begins to go off: it ceases to serve at once. -/
def State.startOff (s : State) (n : Nat) : State := (s.domOff n).setTrans n (some .off)

/-- The next request in ascending number whose dependencies are on starts when a place is free. -/
def State.nextOn (s : State) : State :=
  if s.goingOn < 4 then
    match s.pwr.trans.find? fun x => decide (x.2 = .queued) && s.depsOn x.1 with
    | some x => s.setTrans x.1 (some .on)
    | none => s
  else s

/-- The engine is STOPPED, or FENCED, which its own reset ends (R371, R372). -/
def State.engStopped (s : State) (e : Nat) : Bool :=
  s.engOn e && (!s.fldB F.CE_CTRL_run e 0 || (s.eng e).fenced) && !(match (s.eng e).mig with | some m => m.copying | none => false)

/-- Firmware may switch the domain so, in this mode; in HALT, engines and delta units go off only after step 4 of R233 (R218, R355). DESIGN CHOICE, unsafe (log 94). -/
def State.fwMay (s : State) (n : Nat) (on : Bool) : Bool :=
  let m := s.mode
  if !domPresent s.part n then false
  else if n < 34 then
    if on then 1 ≤ m && m != 5 && m != 7 else (s.engStopped n || !s.domOn n) && s.fc.halt.isNone
  else if n < 68 then !on && s.fld F.CH_ID_state (n - 34) 0 == 4
  else if n < 76 then
    if on then 1 ≤ m && m != 5 && m != 7 else m != 1 && !s.fldB F.LN_CTRL_enable (n - 68) 0
  else if 77 ≤ n ∧ n < 93 then !on && m == 7 && s.fc.halt.isNone
  else false

/-- PWR_DOM_WRITE: refused against R27, R218 or the table; else the transition starts. -/
def State.pwrDom (s : State) (n : Nat) (on : Bool) : Bool × State :=
  if !s.fwMay n on || (if on then !s.depsOn n else !s.unneeded n) then (true, s.setFld F.PWR_DOM_refused n 0 1)
  else
    let s1 := s.setFld F.PWR_DOM_on n 0 (b2n on)
    match s.transOf n, on with
    | some .queued, false => (false, s1.setTrans n none)
    | some _, _ => (false, s1)
    | none, true => (false, if s.domOn n then s1 else s1.startOn n)
    | none, false => (false, if s.domOn n then s1.startOff n else s1)
def execPwrDomWrite (domain : Fin 104) (on : Bool) (s : State) : Outcome State Fault Refusal := .next (s.pwrDom domain.val on).2

/-- The domain a reaction resets: that of the master it fences. -/
def React.dom (r : React) : Nat := if 40 ≤ r.party then 37 + r.party else r.party

/-- RESET_BLOCK follows its domain: off, on, ended (R362). -/
def State.reactStage (s : State) (n : Nat) (frm dst : Stage) : State :=
  { s with fc := { s.fc with reacts := s.fc.reacts.map fun (r : React) =>
      if r.stage = frm ∧ r.dom = n then { r with stage := dst } else r } }

/-- DOMAIN_TRANSITION_COMPLETE. -/
def State.domDone (s : State) (n : Nat) : State :=
  match s.transOf n with
  | some .on =>
    let s1 := ((if s.depsOn n then s.domUp n else s).setTrans n none).reactStage n .on .ended
    (if s1.fldB F.PWR_DOM_on n 0 then s1 else s1.startOff n).nextOn
  | some .queued => s
  | some _ =>
    let s1 := s.setTrans n none
    if s1.fldB F.PWR_DOM_on n 0 then (s1.startOn n).reactStage n .off .on else s1
  | none => s
def execDomainTransitionComplete (domain : Fin 104) (s : State) : Outcome State Fault Refusal := .next (s.domDone domain.val)

/-! ## Domains by mode (R218) -/

/-- The power manager holds a domain on or off for a mode: its transition ends within the command that changes the mode.
DESIGN CHOICE, unsafe (log 206). -/
def State.holdOn (s : State) (n : Nat) : State := ((s.domUp n).setTrans n none).setFld F.PWR_DOM_on n 0 (b2n (domPresent s.part n))
def State.holdOff (s : State) (n : Nat) : State := ((s.domOff n).setTrans n none).setFld F.PWR_DOM_on n 0 0
def State.holdAll (s : State) (on : Bool) (l : List Nat) : State :=
  l.foldl (fun s n => if on then s.holdOn n else s.holdOff n) s

def ceDoms : List Nat := List.range 34
def seqDoms : List Nat := List.range' 34 34
def laneDoms : List Nat := List.range' 68 8
def duDoms : List Nat := List.range' 77 16
def edDoms : List Nat := [94, 95, 96, 93]
def stDoms : List Nat := List.range' 97 4
def meshDoms : List Nat := [102, 103]

/-- The domains as FOCUS, READY, SERVE, DRAIN and MAINT hold them on, in the order of R27. -/
def State.domainsOn (s : State) : State := s.holdAll true (meshDoms ++ seqDoms ++ edDoms ++ stDoms ++ duDoms)

/-- The domains HALT holds on (R218); a retired channel's sequencer stays as it is. -/
def State.domainsHalt (s : State) : State :=
  s.holdAll true (meshDoms ++ (seqDoms.filter fun n => s.fld F.CH_ID_state (n - 34) 0 != 4) ++ edDoms ++ stDoms)

/-- The domains SLEEP and HALT hold off. -/
def State.domainsLow (s : State) (st : Bool) : State :=
  let s1 := s.holdAll false (ceDoms ++ laneDoms ++ duDoms)
  if st then s1.holdAll false stDoms else s1

end Sys2Proof.Machine
end

