-- ==== Sys2Proof/Machine/Trims.lean ====
section
/-!
DEFINITION. Calibration (R333 to R337): the trims and their factory values, the check of RREF, results accepted or discarded, the
evaluation every 10 ms, and what firmware writes.
-/

namespace Sys2Proof.Machine
open Host

/-! ## Trims and their factory values (R334, R335) -/

/-- The key of a trim: item and instance (R334). -/
def trimKey (item inst : Nat) : Nat := item * 256 + inst % 256
/-- The width of an item's trim. -/
def trimBits (item : Nat) : Nat := match item with | 2 | 3 | 5 => 7 | 4 | 6 | 8 => 6 | _ => 8
/-- Items 4 and 5 belong to a pseudo-channel of a channel; other instances lie on the base die. -/
def trimDie (item inst : Nat) : Nat := if item = 4 ∨ item = 5 then diePos (inst / 2) else 0
/-- The items re-evaluated every 10 ms. -/
def trimFollows (item : Nat) : Bool := item == 3 || item == 6 || item == 7 || item == 8
/-- Their instances: the resistor banks, the lanes, the domains, the delay-line monitors. -/
def followInsts : List (Nat × Nat) :=
  [(3, 0)] ++ (List.range 9).map (fun n => (6, n)) ++ (List.range 104).map (fun n => (7, n)) ++ (List.range 35).map (fun n => (8, n))
/-- The division `a / n` rounded to the nearest. -/
def roundDiv (a : Int) (n : Nat) : Int := (2 * a + n) / (2 * n : Nat)
/-- Interpolated values and offsets are held in units of 1 / trimUnit of a trim step, in which they are exact: 35 °C between the points, and
temperatures in units of 2^-20 °C. -/
def trimUnit : Nat := 35 * 1048576

/-- The factory values at temperature `t` (R335), in units of 1 / trimUnit. DESIGN CHOICE, unsafe (log 128). -/
def trimStored (item inst : Nat) (t : Int) : Int :=
  let v (k : Nat) : Int := (Config.trimSet item inst k % 2 ^ trimBits item : Nat)
  let a := v 0
  let b := v 1
  let c := v 2
  if t ≤ 25 * degree then a * trimUnit
  else if 95 * degree ≤ t then c * trimUnit
  else if t ≤ 60 * degree then a * (60 * degree - t) + b * (t - 25 * degree)
  else b * (95 * degree - t) + c * (t - 60 * degree)
def State.storedTrim (s : State) (item inst : Nat) : Int := trimStored item inst (s.reported (trimDie item inst))
/-- A value in units of 1 / trimUnit as a trim: rounded to the nearest step, within the item's bits. -/
def trimClamp (item : Nat) (v : Int) : Nat := (max 0 (min ((2 ^ trimBits item - 1 : Nat) : Int) (roundDiv v trimUnit))).toNat
/-- The trim a temperature asks for: the factory values with the measured offset. -/
def State.wanted (s : State) (item inst : Nat) : Nat :=
  trimClamp item (s.storedTrim item inst + smapGet 0 s.nv.offset (trimKey item inst))
/-- The trim applied. One that is not listed has its fused default: the factory value at the temperature at which the defaults were
taken, at 25 °C for the items that are factory only and where none have been taken since the reset. DESIGN CHOICE, unsafe (log 128). -/
def State.trimOf (s : State) (item inst : Nat) : Nat :=
  (smapFind s.nv.trim (trimKey item inst)).getD
    (trimClamp item (trimStored item inst (if item < 3 then 0 else smapGet 0 s.nv.defT (trimDie item inst))))
def State.trimWin (s : State) (item : Nat) : Nat := (smapFind s.nv.window item).getD (Config.trimWindow item % 256)

/-- TRIM_EVALUATION, every 10 ms: a change of level applies; items that follow temperature move at most one step. -/
def State.trimEval (s : State) : State :=
  let d := s.fldB F.CAL_CTRL_level 0 0
  let move (m : SMap Nat) (x : Nat × Nat) : SMap Nat :=
    let v := s.trimOf x.1 x.2
    let w := s.wanted x.1 x.2
    if v = w then m else smapInsert m (trimKey x.1 x.2) (if v < w then v + 1 else v - 1)
  { s with nv := { s.nv with direct := d, trim := if d then s.nv.trim else followInsts.foldl move s.nv.trim } }
def execTrimEvaluation (s : State) : Outcome State Fault Refusal := .next s.trimEval

/-! ## Calibration (R333, R334, R336) -/

/-- The temperature of each die now. -/
def State.dieTemps (s : State) : SMap Int := (diesOf s.part).foldl (fun m p => smapPut 0 m p (s.reported p)) []

/-- The check of RREF before a calibration: where it fails the fused defaults are used; at level 1 the trims stay as firmware has them. -/
def State.rrefCheck (s : State) (ok : Bool) : State :=
  let s1 := s.setFld F.CAL_STATUS_rref_ok 0 0 (b2n ok)
  if ok then s1
  else
    (if s.nv.direct then s1 else { s1 with nv := { s1.nv with trim := [], offset := [], defT := s.dieTemps } }).raise { group := 52, src := 0 }

/-- A result of a calibration: accepted within the window of the stored value, else the old value stays and an event names the item. At
level 1 nothing is updated (R337). -/
def State.acceptTrim (s : State) (item i value : Nat) : State :=
  if s.nv.direct then s
  else
    let v := value % 2 ^ trimBits item
    let off := (v * trimUnit : Nat) - s.storedTrim item i
    if off.natAbs ≤ s.trimWin item * trimUnit then
      { s with nv := { s.nv with
          trim := smapInsert s.nv.trim (trimKey item i) v
          offset := smapPut 0 s.nv.offset (trimKey item i) off } }
    else
      ((s.addFld F.CAL_STATUS_fails 0 0 1).setFld F.CAL_STATUS_last_item 0 0 item).raise { group := 52, src := 1, addr := item }

/-- One result of a power-up calibration. Items 0 to 2 are never rerun, item 5 belongs to training, item 4 of a channel in service is
left. -/
def State.takeTrim (s : State) (r : TrimResult) : State :=
  let item := r.item.toNat
  if item < 3 ∨ item = 5 ∨ 8 < item ∨ (item = 4 ∧ s.serves (r.inst.toNat / 2)) then s
  else s.acceptTrim item r.inst.toNat r.value.toNat

/-- The listed trims are calibrated: RREF is checked, then each measured; what is found is free.
DESIGN CHOICE, safe (log 20). -/
def State.calibrate (s : State) (l : List (Nat × Nat)) : State :=
  let ok := s.freeVal % 2 == 1
  let s1 := ({ s with free := s.free + 1 + l.length } : State).rrefCheck ok
  if ok then l.zipIdx.foldl (fun a x => a.acceptTrim x.1.1 x.1.2 (Config.freeValue (s.free + 1 + x.2))) s1 else s1

/-- CALIBRATION_RERUN: nothing is recalibrated where the check of RREF fails. -/
def State.calRerun (s : State) (ok : Bool) (rs : List TrimResult) : State :=
  let s1 := s.rrefCheck ok
  if ok then rs.foldl (fun s r => s.takeTrim r) s1 else s1
def execCalibrationRerun (rrefOk : Bool) (results : List TrimResult) (s : State) : Outcome State Fault Refusal :=
  .next (s.calRerun rrefOk results)

/-- The power-up items not bound to a channel in service are calibrated (R223 step 2, R334; a write of CAL_CTRL.run reruns them). -/
def State.calRunFree (s : State) : State :=
  s.calibrate (followInsts ++ ((List.range 68).map fun n => (4, n)).filter fun x => !s.serves (x.2 / 2))

/-- The impedance trims of both PCs of a channel (item 4), its receiver reference levels (item 5), the trim of a lane (item 6). -/
def State.calImpedance (s : State) (c : Nat) : State := s.calibrate [(4, 2 * c), (4, 2 * c + 1)]
def State.refLevels (s : State) (c : Nat) : State := s.calibrate [(5, 2 * c), (5, 2 * c + 1)]
def State.calLane (s : State) (l : Nat) : State := s.calibrate [(6, l)]

/-! ## Firmware's writes (R337) -/

/-- CAL_TRIM_WRITE: the window of the selected item; at level 1 the trim of the selected instance, at once, or for items 4 and 5 of a
channel in service in its next maintenance stall. -/
def State.calTrim (s : State) (v : Nat) : State :=
  let item := s.fld F.CAL_SEL_item 0 0
  let i := s.fld F.CAL_SEL_instance 0 0
  let k := trimKey item i
  let s1 := { s with nv := { s.nv with window := smapInsert s.nv.window item (bitsOf v 24 8) } }
  let t := v % 2 ^ trimBits item
  if !s.nv.direct then s1
  else if (item = 4 ∨ item = 5) ∧ s.serves (i / 2) then { s1 with nv := { s1.nv with later := smapInsert s1.nv.later k t } }
  else { s1 with nv := { s1.nv with trim := smapInsert s1.nv.trim k t } }
def execCalTrimWrite (v : Word32) (s : State) : Outcome State Fault Refusal := .next (s.calTrim v.toNat)

/-- The trims that wait for a stall of channel `c`. -/
def State.lateTrims (s : State) (c : Nat) : State :=
  let mine (e : Nat × Nat) : Bool := (e.1 / 256 == 4 || e.1 / 256 == 5) && e.1 % 256 / 2 == c
  (s.nv.later.filter mine).foldl (fun (s : State) (e : Nat × Nat) =>
      { s with nv := { s.nv with trim := smapInsert s.nv.trim e.1 e.2 } })
    { s with nv := { s.nv with later := s.nv.later.filter fun e => !mine e } }

end Sys2Proof.Machine
end

