-- ==== Sys2Proof/Machine/Ports.lean ====
section
/-!
DEFINITION. Data lanes, ports and the reference clocks (spec/06): port configuration (R161), link up and down (R167, R168, R186),
training commands (R169), bit-slip (R170), patterns and error injection (R171, R172), distribution (R174), frames received
(R175 to R178), firmware frames (R178, R184), counters (R180), clock loss (R183, R374, R411).
-/

namespace Sys2Proof.Machine
open Host

/-! ## Lanes and their ports -/

/-- The port is up when it is enabled and each of its lanes is up. -/
def State.portCheck (s : State) (p : Nat) : State :=
  if s.portPresent p && s.fldB F.PT_PORT_GRP_enable p 0 && (s.lanesOf p).all fun l => s.fldB F.LN_STATUS_up l 0 then
    s.setFld F.PT_PORT_STATUS_up p 0 1
  else s

/-! ## What a lane counts and shows as time passes (R165 to R167, R171, R172) -/

/-- Bits a lane carries in `ns` nanoseconds, at 106.25 Gb/s (R162). -/
def laneBits (ns : Nat) : Nat := ns * 10625 / 100

/-- A counter goes on by a free number. -/
def State.freeAdd (s : State) (f : Fld) (l : Nat) : State := s.useFree.addFld f l 0 s.freeVal

/-- The idle blocks and FEC codewords of a lane that is up since its counts were last brought up to date: free numbers, of 1 to 15 symbols
to a corrected codeword. DESIGN CHOICE, safe (log 188). -/
def State.lineCounts (s : State) (l : Nat) : State :=
  if !s.fldB F.LN_STATUS_up l 0 then s
  else
    let s1 := (((s.freeAdd F.LN_RM_inserted l).freeAdd F.LN_RM_deleted l).freeAdd F.LN_FEC_UNCORR_count l)
    let n := s1.freeVal
    let s2 := s1.useFree.addFld F.LN_FEC_CORR_count l 0 n
    s2.useFree.addFld F.LN_FEC_SYM_count l 0 (n + s2.freeVal % (14 * n + 1))

/-- The bits checked by a locked checker, and a free number of errors among them, since its counts were last brought up to date.
DESIGN CHOICE, safe (log 96). -/
def State.patCounts (s : State) (l : Nat) : State :=
  if !s.fldB F.LN_PAT_STATUS_lock l 0 then s
  else
    let n := laneBits (s.tb - smapGet s.tb s.pt.patAt l)
    let s1 := (s.useFree.addFld F.LN_PAT_BITS_bits l 0 n).addFld F.LN_PAT_ERR_errors l 0 (s.freeVal % (n + 1))
    { s1 with pt := { s1.pt with patAt := smapInsert s1.pt.patAt l s.tb } }

/-- The counts of a lane brought up to date. -/
def State.laneNow (s : State) (l : Nat) : State := (s.lineCounts l).patCounts l
/-- The counts of every lane brought up to date, as an image of the registers shows them. -/
def State.lanesNow (s : State) : State := (List.range 9).foldl (fun s l => s.laneNow l) s

/-- The lane carries no traffic from now, so that it counts no more; `train` is its state of R167. A training start takes the level
written (R20). -/
def State.laneIdle (s : State) (l train reason : Nat) : State :=
  let s := (s.laneNow l).setFld F.LN_PAT_STATUS_lock l 0 0
  let s1 := ((((s.setFld F.LN_STATUS_up l 0 0).setFld F.LN_STATUS_am_lock l 0 0).setFld F.LN_STATUS_cdr_lock l 0 0).setFld
    F.LN_STATUS_signal l 0 0).setFld F.LN_STATUS_train l 0 train
  let s2 := s1.setFld F.LN_ALIGN_locked l 0 0
  if l < 8 then s2.portDown (s.portOf l) reason else s2

/-- Negotiation or training starts. -/
def State.startTraining (s : State) (l reason : Nat) : State :=
  let s1 := s.laneIdle l (if s.fldB F.LN_CTRL_an_en l 0 && l != 8 then 1 else 2) reason
  { s1 with pt := { s1.pt with level := smapPut 0 s1.pt.level l (s1.fld F.LN_CTRL_level l 0),
                               frozen := s1.pt.frozen.filter (· != l)
                               fecLnm := if l = 8 then s1.fldB F.MG_CTRL_fec 0 0 else s1.pt.fecLnm } }

/-- A lane in negotiation or training comes further by a free number of stages, up to adapting, or to deskew for a port of several lanes;
at the expert level it does not adapt on its own (R169). DESIGN CHOICE, safe (log 188). -/
def State.trainShown (s : State) (l : Nat) : State :=
  let t := s.fld F.LN_STATUS_train l 0
  let top := if l < 8 ∧ 1 < s.portLanes then 4 else 3
  if 1 ≤ t ∧ t < top then
    let u := t + s.freeVal % (top - t + 1)
    s.useFree.setFld F.LN_STATUS_train l 0 (if u = 3 ∧ smapGet 0 s.pt.level l = 1 then 2 else u)
  else s

/-- The period in force: one flip in 2^p bits (R172). -/
def injectPeriod (p : Nat) : Nat := clampNat 10 40 p

/-- Flips of a periodic injection since it began, one in each 2^p bits (R172). -/
def State.periodicFlips (s : State) (l : Nat) : Nat :=
  match smapFind s.pt.injectAt l with
  | none => 0
  | some t => laneBits (s.tb - t) / 2 ^ injectPeriod (s.fld F.LN_PAT_CTRL_inject_period l 0)

/-- The lane's transmitter is on: it is powered and, but for LNM, enabled (R418). -/
def State.txOn (s : State) (l : Nat) : Bool := l == 8 || (s.laneOn l && s.fldB F.LN_CTRL_enable l 0)

/-- A flip of one bit is ordered, or a period: what the period before has flipped is counted. -/
def State.addFlips (s : State) (l n : Nat) : State :=
  { s with pt := { s.pt with flips := smapPut 0 s.pt.flips l (smapGet 0 s.pt.flips l + n) } }
/-- A periodic injection begins, where its period is not 0 and the transmitter is on, or ends. -/
def State.periodStart (s : State) (l : Nat) : State :=
  let s1 := s.addFlips l (s.periodicFlips l)
  { s1 with pt := { s1.pt with
      injectAt := if s.fld F.LN_PAT_CTRL_inject_period l 0 ≠ 0 ∧ s.txOn l then smapInsert s1.pt.injectAt l s.tb
        else smapErase s1.pt.injectAt l } }
/-- A period is written: it begins at each write, one that leaves it as it was too. DESIGN CHOICE, unsafe (log 200). -/
def State.setInject (s : State) (l p : Nat) : State :=
  ((s.addFlips l (s.periodicFlips l)).setFld F.LN_PAT_CTRL_inject_period l 0 p |> fun s1 =>
    ({ s1 with pt := { s1.pt with injectAt := smapErase s1.pt.injectAt l } } : State)).periodStart l

/-- Bits of lane `l`'s stream flipped by injection so far (R172). -/
def State.flipped (s : State) (l : Nat) : Nat := smapGet 0 s.pt.flips l + s.periodicFlips l

/-- What a read of a lane register brings up to date first. -/
def State.laneTouch (s : State) (b l : Nat) : State :=
  match b with
  | 0x100004 => s.trainShown l
  | 0x100030 => s.patCounts l | 0x100038 => s.patCounts l
  | 0x100040 => s.lineCounts l | 0x100048 => s.lineCounts l | 0x100050 => s.lineCounts l | 0x100058 => s.lineCounts l
  | _ => s

/-- A lane goes down (R168): it retrains, its flaps count, one event on its group. -/
def State.laneDown (s : State) (l : Nat) : State :=
  if s.fldB F.LN_STATUS_up l 0 then
    ((s.startTraining l 1).addFld F.LN_FLAPS_count l 0 1).raise { group := 34 + l, src := 0, inst := l }
  else s

/-- LANE_LINK_UP: its training has calibrated the lane's drive swing and termination (R334). -/
def State.laneUp (s : State) (l : Nat) : State :=
  if s.laneOn l && s.fldB F.LN_CTRL_enable l 0 && !s.fldB F.LN_STATUS_retired l 0 && !s.fldB F.LN_ALIGN_manual l 0 &&
      !s.fldB F.LN_PAT_CTRL_mode l 0 && !s.pwr.tripped then
    ((((((((s.calLane l).setFld F.LN_STATUS_up l 0 1).setFld F.LN_STATUS_am_lock l 0 1).setFld F.LN_STATUS_cdr_lock l 0 1).setFld
      F.LN_STATUS_signal l 0 1).setFld F.LN_STATUS_train l 0 5).setFld F.LN_ALIGN_locked l 0 1)).portCheck (s.portOf l)
  else s
def execLaneLinkUp (lane : Fin 8) (s : State) : Outcome State Fault Refusal := .next (s.laneUp lane.val)
def execLaneLinkDown (lane : Fin 8) (s : State) : Outcome State Fault Refusal := .next (s.laneDown lane.val)

/-- LANE_ENABLE: a lane that is off ignores it, a retired lane is held disabled, and in FOCUS every lane is (R218). A lane in mode 1
carries its pattern (R171). -/
def State.laneEnable (s : State) (l : Nat) (on : Bool) : State :=
  if !s.laneOn l || s.fldB F.LN_STATUS_retired l 0 || (on && s.mode == 1) then s
  else if on then
    if s.fldB F.LN_CTRL_enable l 0 then s
    else
      let s1 := s.setFld F.LN_CTRL_enable l 0 1
      (if s.fldB F.LN_PAT_CTRL_mode l 0 then s1.laneIdle l 6 1 else s1.startTraining l 1).periodStart l
  else ((s.setFld F.LN_CTRL_enable l 0 0).laneIdle l 0 1).periodStart l
def execLaneEnable (lane : Fin 8) (on : Bool) (s : State) : Outcome State Fault Refusal := .next (s.laneEnable lane.val on)

/-- PMA_RESET: the lane's PMA and PCS are reset and it retrains; in mode 1 the checker seeds again. -/
def State.pmaReset (s : State) (l : Nat) : State :=
  if !s.laneOn l || !s.fldB F.LN_CTRL_enable l 0 then s
  else if s.fldB F.LN_PAT_CTRL_mode l 0 then s.laneIdle l 6 1
  else s.startTraining l 1
def execPmaReset (lane : Fin 8) (s : State) : Outcome State Fault Refusal := .next (s.pmaReset lane.val)

/-- A lane is retired (R372). -/
def State.retireLane (s : State) (l : Nat) : State :=
  let s1 := ((s.setFld F.LN_STATUS_retired l 0 1).setFld F.LN_CTRL_enable l 0 0).setFld F.GLOBAL_STATUS_lane_retired 0 0 1
  (s1.laneIdle l 0 4).periodStart l

/-- LNM_LINK_DOWN and LNM_LINK_UP (R186). -/
def State.lnmDown (s : State) : State :=
  if s.fldB F.LN_STATUS_up 8 0 then
    ((s.startTraining 8 1).addFld F.LN_FLAPS_count 8 0 1).raise { group := 42, src := 0 }
  else s
def execLnmLinkDown (s : State) : Outcome State Fault Refusal := .next s.lnmDown
def State.lnmUp (s : State) : State :=
  if s.pwr.tripped || s.inReset then s
  else
    ((((s.setFld F.LN_STATUS_up 8 0 1).setFld F.LN_STATUS_am_lock 8 0 1).setFld F.LN_STATUS_cdr_lock 8 0 1).setFld
      F.LN_STATUS_signal 8 0 1).setFld F.LN_STATUS_train 8 0 5
def execLnmLinkUp (s : State) : Outcome State Fault Refusal := .next s.lnmUp

/-! ## Port configuration and distribution (R161, R173, R174) -/

/-- PT_CFG_WRITE: applied only while every data lane is disabled; mode 3 is ignored. -/
def State.ptCfg (s : State) (v : Nat) : State :=
  let s1 := if bitOf v 2 then s.setFld F.PT_CFG_err 0 0 0 else s
  if (List.range (lanes s.part)).any fun l => s.fldB F.LN_CTRL_enable l 0 then s1.setFld F.PT_CFG_err 0 0 1
  else if v % 4 = 3 then s1
  else s1.setFld F.PT_CFG_mode 0 0 (v % 4)
def execPtCfgWrite (v : Word32) (s : State) : Outcome State Fault Refusal := .next (s.ptCfg v.toNat)

/-- The VLAN settings of two ports agree. -/
def State.sameVlan (s : State) (p q : Nat) : Bool :=
  s.fld F.PT_PORT_CTRL_vid p 0 == s.fld F.PT_PORT_CTRL_vid q 0 &&
  s.fld F.PT_PORT_CTRL_untagged p 0 == s.fld F.PT_PORT_CTRL_untagged q 0 &&
  s.fld F.PT_PORT_CTRL_tx_tag p 0 == s.fld F.PT_PORT_CTRL_tx_tag q 0

/-- PT_DIST_WRITE: the port enters distribution if it is up and its VLAN setting is its group's. -/
def State.ptDist (s : State) (p : Nat) (on : Bool) : State :=
  if !s.portPresent p then s
  else if !on then (s.portLeave p 2).setFld F.PT_PORT_GRP_dist p 0 0
  else
    let s1 := s.setFld F.PT_PORT_GRP_dist p 0 1
    if s.fldB F.PT_PORT_STATUS_up p 0 && s.fldB F.PT_PORT_GRP_enable p 0 && (s.members? (s.groupOf p)).all fun q => s.sameVlan p q then
      s1.setFld F.PT_PORT_STATUS_dist p 0 1
    else s1
def execPtDistWrite (port : Fin 8) (dist : Bool) (s : State) : Outcome State Fault Refusal := .next (s.ptDist port.val dist)

/-- A write of PT_PORTp_GRP: disabling the port takes it out of its group (reason 3); a distributing port that is given another group leaves
its own (as by `dist` cleared) and enters the other's distribution only under that group's VLAN setting. DEDUCED, unsafe (log 101). -/
def State.ptGrp (s : State) (p v : Nat) : State :=
  if !s.portPresent p then s
  else
    let s0 := if !bitOf v 3 then s.portDown p 3 else if bitsOf v 0 3 ≠ s.groupOf p then s.portLeave p 2 else s
    let s1 := ((s0.setFld F.PT_PORT_GRP_medium p 0 (bitsOf v 5 1)).setFld F.PT_PORT_GRP_enable p 0 (bitsOf v 3 1)).setFld
      F.PT_PORT_GRP_group p 0 (bitsOf v 0 3)
    (s1.portCheck p).ptDist p (bitOf v 4)

/-! ## Expert training (R169) -/

/-- A training command: refused while one runs or at the basic level. DEDUCED, unsafe (log 95). -/
def State.trainCmd (s : State) (l op : Nat) (f : State → State) : State :=
  if !s.laneOn l then s
  else if s.fldB F.LN_TRAIN_CMD_busy l 0 || smapGet 0 s.pt.level l == 0 then s.setFld F.LN_TRAIN_CMD_result l 0 1
  else
    let s1 := f (s.setFld F.LN_TRAIN_CMD_busy l 0 1)
    { s1 with pt := { s1.pt with trainOp := smapInsert s1.pt.trainOp l op } }
def State.freeze (s : State) (l : Nat) (on : Bool) : State :=
  { s with pt := { s.pt with frozen := s.pt.frozen.filter (· != l) ++ (if on then [l] else []) } }
def txfir (s : State) (l : Nat) : Nat :=
  s.fld F.LN_TXFIR_pre2 l 0 + s.fld F.LN_TXFIR_pre1 l 0 * 2 ^ 8 + s.fld F.LN_TXFIR_main l 0 * 2 ^ 16 + s.fld F.LN_TXFIR_post l 0 * 2 ^ 24
def execTrainFreeze (lane : Fin 8) (s : State) : Outcome State Fault Refusal :=
  .next (s.trainCmd lane.val 1 fun s => s.freeze lane.val true)
def execTrainRelease (lane : Fin 8) (s : State) : Outcome State Fault Refusal :=
  .next (s.trainCmd lane.val 2 fun s => s.freeze lane.val false)
/-- One adaptation pass; the receiver is frozen when it ends. -/
def execTrainAdaptPass (lane : Fin 8) (s : State) : Outcome State Fault Refusal :=
  .next (s.trainCmd lane.val 3 fun s => s.freeze lane.val false)
def execTrainApplyTxfir (lane : Fin 8) (s : State) : Outcome State Fault Refusal :=
  .next (s.trainCmd lane.val 4 fun s => { s with pt := { s.pt with fir := smapInsert s.pt.fir lane.val (txfir s lane.val) } })
/-- A preset of 1 to 5 is asked for; any other is refused. -/
def execTrainPreset (lane : Fin 8) (preset : BitVec 4) (s : State) : Outcome State Fault Refusal :=
  .next (if 1 ≤ preset.toNat ∧ preset.toNat ≤ 5 then s.trainCmd lane.val 5 id
    else if s.laneOn lane.val then s.setFld F.LN_TRAIN_CMD_result lane.val 0 1 else s)
def execTrainRestart (lane : Fin 8) (s : State) : Outcome State Fault Refusal :=
  .next (s.trainCmd lane.val 6 fun s => s.startTraining lane.val 1)

/-- TRAIN_COMMAND_COMPLETE: done, or the partner did not respond within 500 ms. -/
def State.trainDone (s : State) (l : Nat) (timeout : Bool) : State :=
  match smapFind s.pt.trainOp l with
  | none => s
  | some op =>
    let s0 := { s with pt := { s.pt with trainOp := smapErase s.pt.trainOp l } }
    let s1 := (s0.setFld F.LN_TRAIN_CMD_busy l 0 0).setFld F.LN_TRAIN_CMD_result l 0 (if timeout then 2 else 0)
    if op = 3 ∧ !timeout then s1.freeze l true else s1
def execTrainCommandComplete (lane : Fin 8) (timeout : Bool) (s : State) : Outcome State Fault Refusal :=
  .next (s.trainDone lane.val timeout)

/-! ## Bit-slip, patterns, error injection (R170 to R172) -/

/-- Slips of lane `l` not yet applied (R170): one is applied in 64 PCS cycles, at 805.664 MHz. -/
def State.slipsLeft (s : State) (l : Nat) : Nat :=
  let x := smapGet (s.tb, 0) s.pt.slips l
  x.2 - (s.tb - x.1) * 805664 / 64000000

/-- BIT_SLIP: the slips go on after those not yet applied; whether markers are found at the new boundary is a free value.
DESIGN CHOICE, safe (log 96). -/
def State.bitSlip (s : State) (l c : Nat) : State :=
  if !s.laneOn l || c == 0 then s
  else if !s.fldB F.LN_ALIGN_manual l 0 || decide (15 < s.slipsLeft l + c) then s.setFld F.LN_ALIGN_err l 0 1
  else
    let x := smapGet (s.tb, 0) s.pt.slips l
    let y := if s.slipsLeft l = 0 then (s.tb, c) else (x.1, x.2 + c)
    { s with pt := { s.pt with slips := smapInsert s.pt.slips l y } }.useFree.setFld F.LN_ALIGN_locked l 0 (s.freeVal % 2)
def execBitSlip (lane : Fin 8) (count : BitVec 4) (s : State) : Outcome State Fault Refusal := .next (s.bitSlip lane.val count.toNat)

/-- PATTERN_MODE_SET: mode 1 only while the lane's port is disabled; set again it changes nothing. With enable = 0 nothing is sent
(R418). -/
def State.patternMode (s : State) (l : Nat) (on : Bool) : State :=
  if !s.laneOn l then s
  else if on && s.fldB F.PT_PORT_GRP_enable (s.portOf l) 0 then s.setFld F.LN_PAT_STATUS_refused l 0 1
  else if on then
    if s.fldB F.LN_PAT_CTRL_mode l 0 then s
    else (((((if s.fldB F.LN_CTRL_enable l 0 then s.laneIdle l 6 1 else s).setFld F.LN_PAT_CTRL_mode l 0 1).setFld F.LN_PAT_ERR_errors l 0 0).setFld F.LN_PAT_BITS_bits l 0 0).setFld
      F.LN_PAT_STATUS_lock l 0 0)
  else if s.fldB F.LN_PAT_CTRL_mode l 0 then
    let s1 := ((s.patCounts l).setFld F.LN_PAT_CTRL_mode l 0 0).setFld F.LN_PAT_STATUS_lock l 0 0
    if s1.fldB F.LN_CTRL_enable l 0 then s1.startTraining l 1 else s1.laneIdle l 0 1
  else s
def execPatternModeSet (lane : Fin 8) (on : Bool) (s : State) : Outcome State Fault Refusal := .next (s.patternMode lane.val on)

/-- CHECKER_LOCK, on a lane that is enabled: the counts run from now on. -/
def State.checkerLock (s : State) (l : Nat) : State :=
  if s.laneOn l && s.fldB F.LN_CTRL_enable l 0 && s.fldB F.LN_PAT_CTRL_mode l 0 && !s.fldB F.LN_PAT_STATUS_lock l 0 then
    { s with pt := { s.pt with patAt := smapInsert s.pt.patAt l s.tb } }.setFld F.LN_PAT_STATUS_lock l 0 1
  else s
def execCheckerLock (lane : Fin 8) (s : State) : Outcome State Fault Refusal := .next (s.checkerLock lane.val)

/-- CHECKER_LOCK_LOSS: the counts stop; the 64 errors that lost the lock are among 64 to 1,024 bits, a free number.
DESIGN CHOICE, safe (log 96). -/
def State.checkerLoss (s : State) (l : Nat) : State :=
  if s.laneOn l && s.fldB F.LN_PAT_STATUS_lock l 0 then
    let s1 := s.patCounts l
    ((s1.useFree.addFld F.LN_PAT_ERR_errors l 0 64).addFld F.LN_PAT_BITS_bits l 0 (64 + s1.freeVal % 961)).setFld
      F.LN_PAT_STATUS_lock l 0 0
  else s
def execCheckerLockLoss (lane : Fin 8) (s : State) : Outcome State Fault Refusal := .next (s.checkerLoss lane.val)

/-- One bit that the lane transmits is flipped. -/
def State.flipOne (s : State) (l : Nat) : State := if s.txOn l then s.addFlips l 1 else s
/-- ERROR_INJECT: one transmitted bit is flipped, in the pattern or after FEC encoding. -/
def execErrorInject (lane : Fin 8) (s : State) : Outcome State Fault Refusal := .next (s.flipOne lane.val)
/-- PERIODIC_ERROR_INJECT: from now on one bit of each period is flipped; 0 stops it. -/
def execPeriodicErrorInject (lane : Fin 8) (p : BitVec 6) (s : State) : Outcome State Fault Refusal :=
  .next (if s.laneOn lane.val then s.setInject lane.val p.toNat else s)

/-! ## Frames received (R175 to R178) -/

def State.ptDrop (s : State) (p n : Nat) : State := s.addFld F.PT_DROP_count p n 1

def bytesOf (l : List Nat) : List Byte := l.map (BitVec.ofNat 8)
/-- ff02::1, and the solicited-node address of an address. -/
def allNodes : List Byte := bytesOf [0xFF, 2, 0, 0, 0, 0, 0, 0, 0, 0, 0, 0, 0, 0, 0, 1]
def solicited (a : List Byte) : List Byte := bytesOf [0xFF, 2, 0, 0, 0, 0, 0, 0, 0, 0, 0, 1, 0xFF] ++ a.drop 13

/-- The IPv6 multicast addresses served. -/
def State.multicasts (s : State) (g : Nat) : List (List Byte) :=
  [allNodes, solicited (s.grpIp F.PT_GRP_IPV6_addr g), solicited (s.grpIp F.PT_GRP_LL_addr g)]

/-- Check 0: the destination MAC. -/
def State.macOk (s : State) (g : Nat) (d : List Byte) : Bool :=
  d == leBytes 6 (s.fld F.PT_GRP_MAC_mac g 0) || d == List.replicate 6 0xFF || d == bytesOf [1, 0x1B, 0x19, 0, 0, 0] ||
  d == bytesOf [1, 0x80, 0xC2, 0, 0, 0x0E] || d == bytesOf [1, 0x80, 0xC2, 0, 0, 2] ||
  ((s.multicasts g).any fun a => d == bytesOf [0x33, 0x33] ++ a.drop 12)

def etherOk (t : Nat) : Bool := t == 0x0800 || t == 0x86DD || t == 0x0806 || t == 0x88F7 || t == 0x8809

/-- Check 2: the VLAN. -/
def State.vlanOk (s : State) (p : Nat) (bs : List Byte) : Bool :=
  if tagged bs && tagVid bs != 0 then tagVid bs == s.fld F.PT_PORT_CTRL_vid p 0 else s.fldB F.PT_PORT_CTRL_untagged p 0

/-- Check 3: the IPv4 header. -/
def v4Ok (bs : List Byte) : Bool :=
  let n := netOff bs
  let tl := beAt bs (n + 2) 2
  beAt bs n 1 == 0x45 && 20 ≤ tl && n + tl ≤ bs.length && csum ((bs.drop n).take 20) == 0xFFFF
/-- Check 4: not a fragment: MF and the offset are 0. -/
def v4Whole (bs : List Byte) : Bool := beAt bs (netOff bs + 6) 2 % 0x4000 == 0
/-- Check 5: the IPv6 header. -/
def v6Ok (bs : List Byte) : Bool :=
  let n := netOff bs
  let nh := beAt bs (n + 6) 1
  beAt bs n 1 / 16 == 6 && n + 40 + beAt bs (n + 4) 2 ≤ bs.length &&
  (nh == 17 || nh == 58 ||
    (nh == 44 && beAt bs (n + 42) 2 / 8 == 0 && !bitOf (beAt bs (n + 42) 2) 0 && (ipProto bs == 17 || ipProto bs == 58)))

/-- The destination address, 4 or 16 bytes. -/
def ipDst (bs : List Byte) : List Byte :=
  if isV4 bs then (bs.drop (netOff bs + 16)).take 4 else (bs.drop (netOff bs + 24)).take 16
/-- The source as a session holds it (R132): an IPv4 address as ::ffff:a.b.c.d. -/
def ipSrc (bs : List Byte) : List Byte :=
  if isV4 bs then List.replicate 10 0 ++ [0xFF, 0xFF] ++ (bs.drop (netOff bs + 12)).take 4 else (bs.drop (netOff bs + 8)).take 16

/-- The frame is addressed to one of the group's own addresses. -/
def State.dstOwn (s : State) (g : Nat) (bs : List Byte) : Bool :=
  if isV4 bs then s.fld F.PT_GRP_IPV4_addr g 0 != 0 && ipDst bs == beOut 4 (s.fld F.PT_GRP_IPV4_addr g 0)
  else ipDst bs == s.grpIp F.PT_GRP_IPV6_addr g || ipDst bs == s.grpIp F.PT_GRP_LL_addr g

def isUdp (bs : List Byte) : Bool := (isV4 bs || isV6 bs) && ipProto bs == 17
def udpDst (bs : List Byte) : Nat := beAt bs (udpOff bs + 2) 2

/-- Check 6: the destination IP. DEDUCED, unsafe (log 99). -/
def State.dstOk (s : State) (g : Nat) (bs : List Byte) : Bool :=
  s.dstOwn g bs ||
  (if isV4 bs then ipDst bs == List.replicate 4 0xFF && !(isUdp bs && udpDst bs == s.fld F.ST_WORLD_PORT_port 0 0)
   else (s.multicasts g).contains (ipDst bs))

/-- Check 7: the UDP length and checksum. -/
def udpOk (bs : List Byte) : Bool :=
  let ln := beAt bs (udpOff bs + 4) 2
  let room := if isV4 bs then beAt bs (netOff bs + 2) 2 - 20 else beAt bs (netOff bs + 4) 2 - (if v6Frag bs then 8 else 0)
  8 ≤ ln && ln ≤ room && ((isV4 bs && beAt bs (udpOff bs + 6) 2 == 0) || (beAt bs (udpOff bs + 6) 2 != 0 && udpSumOk bs))

/-- Where an accepted frame goes (R177): the sessions, or firmware. -/
inductive Dest where
  | world | firmware
  deriving DecidableEq, Repr

def State.destOf (s : State) (g : Nat) (bs : List Byte) : Option Dest :=
  let t := etherType bs
  if t = 0x0806 ∨ t = 0x88F7 ∨ t = 0x8809 then some .firmware
  else if ipProto bs = 17 then
    if udpDst bs = s.fld F.ST_WORLD_PORT_port 0 0 ∧ s.dstOwn g bs then some .world
    else if udpDst bs = 319 ∨ udpDst bs = 320 then some .firmware
    else none
  else if (isV4 bs ∧ ipProto bs = 1) ∨ (isV6 bs ∧ ipProto bs = 58) then some .firmware
  else none

/-- The parser's checks 0 to 8 in order (R176): where the frame goes, or the first that fails.
DEDUCED, unsafe (log 98). -/
def State.parse (s : State) (p : Nat) (bs : List Byte) : Except Nat Dest :=
  let g := s.groupOf p
  if !s.macOk g (bs.take 6) then .error 0
  else if !etherOk (etherType bs) then .error 1
  else if !s.vlanOk p bs then .error 2
  else if isV4 bs && !v4Ok bs then .error 3
  else if isV4 bs && !v4Whole bs then .error 4
  else if isV6 bs && !v6Ok bs then .error 5
  else if (isV4 bs || isV6 bs) && !s.dstOk g bs then .error 6
  else if isUdp bs && !udpOk bs then .error 7
  else match s.destOf g bs with | some d => .ok d | none => .error 8

/-- The policer's tokens of a port, in units of 10^-6 frames: what is missing from the burst of 64 (R178).
DESIGN CHOICE, unsafe (log 97). -/
def State.policeLack (s : State) (p : Nat) : Nat :=
  let x := smapGet (0, 0) s.pt.police p
  x.2 - (s.tb - x.1) * s.fld F.PT_FWQ_rate 0 0

/-- Firmware receive buffers: frames and bytes held by a lane. -/
def State.fwHeld (s : State) (l : Nat) : List (List Byte × Nat × Nat) := smapGet [] s.pt.fwRx l
def State.fwRoom (s : State) (l n : Nat) : Bool :=
  (s.fwHeld l).length < 64 && ((s.fwHeld l).map fun x => x.1.length).sum + n ≤ 32768

/-- A frame for firmware enters the buffer of the port's first lane with its receive timestamp (R178, R184). -/
def State.toFirmware (s : State) (l p : Nat) (bs : List Byte) : State :=
  let q := s.firstLane p
  let lack := s.policeLack p
  if s.fwRoom q bs.length && decide (lack + 1000000 ≤ 64000000) then
    let ts := s.ballRx l / 2 ^ 32
    { s with pt := { s.pt with fwRx := smapInsert s.pt.fwRx q (s.fwHeld q ++ [(bs, ts, p)])
                               police := smapPut (0, 0) s.pt.police p (s.tb, lack + 1000000) } }
  else s.ptDrop p 9

/-- A PAUSE or PFC frame: MAC control, untagged, of opcode 1 or 0x101. -/
def flowControl (bs : List Byte) : Bool := beAt bs 12 2 == 0x8808 && (beAt bs 14 2 == 1 || beAt bs 14 2 == 0x101)

/-- FRAME_RECEIVE: a frame from destination address through FCS arrives at a lane (R175 to R177). -/
def State.frameReceive (s : State) (l : Nat) (raw : List Byte) : State :=
  let p := s.portOf l
  let g := s.groupOf p
  let n := raw.length
  let bs := raw.take (n - 4)
  if !s.laneOn l || !s.fldB F.PT_PORT_STATUS_up p 0 || s.mode == 7 then s
  else if n < 64 then s.addFld F.PT_CNT_UNDER_count p 0 1
  else if 9216 < n ∨ clampNat 576 9194 (s.fld F.PT_GRP_MTU_bytes g 0) + 22 < n then s.addFld F.PT_CNT_OVER_count p 0 1
  else if leNat (raw.drop (n - 4)) ≠ crcEth bs then s.addFld F.PT_CNT_FCSERR_count p 0 1
  else if flowControl bs then s.addFld F.PT_CNT_PAUSE_count p 0 1
  else
    let s1 := (s.addFld F.PT_CNT_RXFRM_count p 0 1).addFld F.PT_CNT_RXBYTE_count p 0 n
    match s1.parse p bs with
    | .error k => s1.ptDrop p k
    | .ok .firmware => s1.toFirmware l p bs
    | .ok .world => s1.worldReceive p (leNat (ipSrc bs)) (beAt bs (udpOff bs) 2) ((udpBytes bs).drop 8)
def execFrameReceive (lane : Fin 8) (frame : List Byte) (s : State) : Outcome State Fault Refusal :=
  .next (s.frameReceive lane.val frame)

/-! ## Firmware frames (R178, R184) -/

/-- FWRX_POP: a write of PT_FWRX_CMD with `pop`. -/
def State.fwrxPop (s : State) (l : Nat) : State :=
  let s1 := s.setFld F.PT_FWRX_CMD_lane 0 0 l
  { s1 with pt := { s1.pt with fwRx := smapPut [] s1.pt.fwRx l (s.fwHeld l).tail, fwPos := 0 } }
def execFwrxPop (lane : Fin 8) (s : State) : Outcome State Fault Refusal := .next (s.fwrxPop lane.val)

/-- A frame of `n` bytes from those written: what has not been written is a free value. -/
def State.fwFrame (s : State) (n : Nat) : List Byte := (s.pt.fwTx ++ freeBytes s.freeVal n).take n

/-- FWTX_SEND: a write of PT_FWTX_CTRL; with `send` the frame enters queue 0 of its port's first lane, if there is room and the
length is one a frame can have. DESIGN CHOICE, unsafe (log 100). A frame that the port's tag makes longer than 9,216 bytes is sent.
DESIGN CHOICE, unsafe (log 197). -/
def State.fwtxSend (s : State) (v : Nat) : State :=
  let s1 := (((s.setFld F.PT_FWTX_CTRL_one_step 0 0 (bitsOf v 29 1)).setFld F.PT_FWTX_CTRL_two_step 0 0 (bitsOf v 28 1)).setFld
    F.PT_FWTX_CTRL_port 0 0 (bitsOf v 14 3)).setFld F.PT_FWTX_CTRL_length 0 0 (bitsOf v 0 14)
  let p := bitsOf v 14 3
  let n := bitsOf v 0 14
  let l := s.firstLane p
  if !bitOf v 31 || !s.portPresent p || decide (n < 60) || decide (9212 < n) || decide (1048576 < s.queued l + n) then s1
  else
    let pkt : Pkt := { lane := l, q := 0, port := p, bytes := s.fwFrame n, oneStep := bitOf v 29, twoStep := bitOf v 28 }
    let s2 := s1.useFree.enqueue pkt
    { s2 with pt := { s2.pt with fwTx := [] } }
def execFwtxSend (v : Word32) (s : State) : Outcome State Fault Refusal := .next (s.fwtxSend v.toNat)

/-- TXTS_POP: a read of the high word of PT_TXTS answers the word held for the path, or the entry's own, and removes the
entry. -/
def State.txtsPop (s : State) (path : Path) : Nat × State :=
  let w := match smapFind s.holdRd (pathKey path) with
    | some (a, hi) => if a = 0x200420 then some hi else none
    | none => none
  let live := match s.pt.txTs with | (t, _, _) :: _ => t / 2 ^ 32 | [] => 0
  (w.getD live, { s with pt := { s.pt with txTs := s.pt.txTs.tail }
                         holdRd := if w.isSome then smapErase s.holdRd (pathKey path) else s.holdRd })
def execTxtsPop (path : Path) (s : State) : Outcome State Fault Refusal :=
  .next { (s.txtsPop path).2 with lastRead := (s.txtsPop path).1 }

/-- PT_PORT_CLR (R180): the port's counters are 0. -/
def State.portClr (s : State) (p : Nat) : State :=
  { s with regs := smapDrop s.regs ((0x201000 + 0x100 * p) * 16) ((0x201080 + 0x100 * p) * 16) }
def execPtPortClr (port : Fin 8) (s : State) : Outcome State Fault Refusal := .next (s.portClr port.val)

/-! ## Reference clocks (R183, R374, R411) -/

/-- The source of group 57 a clock is. -/
def clkCode : Refclk → Nat
  | .tb => 0 | .a => 1 | .b => 2 | .m => 3

/-- The timebase goes on from the backup oscillator, and group 57 has its event (R183, R411). -/
def State.onBackup (s : State) : State :=
  ((s.setFld F.TB_STATUS_backup 0 0 1).setFld F.GLOBAL_STATUS_tb_backup 0 0 1).raise { group := 57, src := 0 }

/-- The link events that a lost clock brings arrive after its own (R374). -/
def State.linkLater (s : State) : State :=
  let now := s.tb + s.fc.tbBack
  { s with faults := s.faults.map fun (v : FaultEv) => if 34 ≤ v.group ∧ v.group ≤ 42 ∧ v.time = now then { v with time := now + 1 } else v }

/-- REFCLK_LOSS: the timebase goes on from the backup oscillator, the lanes a clock feeds go down; one that is lost again has run in
between. In reset it has no effect but that the clock is away when RESET_N rises. DEDUCED, unsafe (log 103). -/
def State.clkLoss (s : State) (c : Refclk) : State :=
  let k := clkCode c
  if (c = .b ∧ s.part = .tkw3209) ∨ (c = .tb ∧ s.clkLost.contains 0) then s
  else
    let s0 := { s with clkLost := if s.clkLost.contains k then s.clkLost else s.clkLost ++ [k] }
    if s.inReset then s0
    else
      match c with
      | .tb => s0.onBackup
      | .a => ((List.range 4).foldl (fun s l => s.laneDown l) (s0.raise { group := 57, src := 1 })).linkLater
      | .b => ((List.range' 4 4).foldl (fun s l => s.laneDown l) (s0.raise { group := 57, src := 2 })).linkLater
      | .m => ((s0.raise { group := 57, src := 3 }).lnmDown).linkLater
def execRefclkLoss (clk : Refclk) (s : State) : Outcome State Fault Refusal := .next (s.clkLoss clk)

/-- REFCLK_TB_RETURN: the timebase changes back without a step. -/
def execRefclkTbReturn (s : State) : Outcome State Fault Refusal :=
  .next ((({ s with clkLost := s.clkLost.filter (· != 0) }).setFld F.TB_STATUS_backup 0 0 0).setFld F.GLOBAL_STATUS_tb_backup 0 0 0)

end Sys2Proof.Machine
end

