-- ==== Sys2Proof/Machine/Snapshot.lean ====
section
/-!
DEFINITION. The Replica export and its restore (R126 to R129, R239, R240): the records of a round, the rounds and the final
round's hold, and the checks, the writing and the rebuilding of a restore.
-/

namespace Sys2Proof.Machine
open Host

/-! ## The records of a round (R126, R128) -/

/-- One record: header and payload. -/
def snapRec (kind tick key : Nat) (body : List Byte) : List Byte :=
  leBytes 1 kind ++ leBytes 1 0 ++ leBytes 2 body.length ++ leBytes 4 tick ++ leBytes 8 key ++ body

/-- Ascending indices as runs of consecutive ones, each of at most `k`. -/
def runsOf (k : Nat) : List Nat → List (List Nat)
  | [] => []
  | i :: r =>
    match runsOf k r with
    | (j :: q) :: rest => if j = i + 1 ∧ q.length + 1 < k then (i :: j :: q) :: rest else [i] :: (j :: q) :: rest
    | _ => [[i]]

/-- Reads of an export: none once one could not be read (R294). -/
abbrev SnapOut := Option (List (List Byte)) × State

/-- The tick unit reads `n` bytes for the export, in class C4 (R249). -/
def State.snapRead (s : State) (wa n : Nat) : Option (List Byte) × State :=
  let r := s.worldGet wa n 57 (some 4)
  (if r.2.1 = some .clean then some r.1 else none, r.2.2)

/-- One more record, made of what a read gives. -/
def SnapOut.add (a : SnapOut) (rd : State → Option (List Byte) × State) (mk : List Byte → List Byte) : SnapOut :=
  match a.1 with
  | none => a
  | some l => match rd a.2 with
    | (some b, s) => (some (l ++ [mk b]), s)
    | (none, s) => (none, s)

/-- Grid link records of a run. -/
def State.snapLinks (s : State) (run : List Nat) : Option (List Byte) × State :=
  run.foldl (fun a i =>
    match a.1 with
    | none => a
    | some l => match a.2.snapRead (a.2.linkAddr i) 16 with
      | (some b, s) => (some (l ++ b), s)
      | (none, s) => (none, s)) (some [], s)

/-- The pieces of 8,192 bytes of the valid title segments: (world address, length). -/
def State.snapSegs (s : State) : List (Nat × Nat) :=
  (List.range 16).flatMap fun n =>
    let b := s.fld F.SNAP_SEG_BASE_base n 0
    let l := s.fld F.SNAP_SEG_LIMIT_limit n 0
    if s.fldB F.SNAP_SEG_LIMIT_valid n 0 && decide (b ≤ l) then
      ((List.range ((l + 1 - b + 1) / 2)).map fun k => (b * 4096 + 8192 * k, min 8192 ((l + 1 - b) * 4096 - 8192 * k)))
    else []

/-- The records of a round over the indices `l`, ascending; with the title segments in round 0. -/
def State.snapGather (s0 : State) (l : List Nat) (segs : Bool) : SnapOut :=
  let s := s0.edScan 57 l.contains
  let tick := s.committed32
  let ents := (runsOf 1024 l).map fun r =>
    snapRec 1 tick (r.headD 0) (r.flatMap fun i => leBytes 8 (s.entry i).toNat)
  let a : SnapOut := (some ents, s)
  let a := (runsOf 512 l).foldl (fun (a : SnapOut) r => a.add (fun s => s.snapLinks r) (snapRec 3 tick (r.headD 0))) a
  let a := (if segs then s.snapSegs else []).foldl (fun (a : SnapOut) g =>
    a.add (fun s => s.snapRead g.1 g.2) (snapRec 4 tick g.1)) a
  (l.filter fun i => entValid (s.entry i)).foldl (fun (a : SnapOut) i =>
    let v := s.entry i
    a.add (fun s => s.snapRead (liveSlot v) (entSize v)) (snapRec 2 tick (mkHandle i (entGen v)))) a

/-- The MTU of the export's port. -/
def State.snapMtu (s : State) : Nat :=
  clampNat 576 9194 (s.fld F.PT_GRP_MTU_bytes (s.groupOf (s.fld F.SNAP_CTRL_port 0 0)) 0)

/-- Whole records into datagrams of at most `cap` bytes of records. -/
def snapPack (cap : Nat) (recs : List (List Byte)) : List (Nat × List Byte) :=
  (recs.foldl (fun (out : List (List Byte)) r =>
    match out with
    | [] => [r]
    | d :: rest => if d.length + r.length ≤ cap then (d ++ r) :: rest else r :: d :: rest) []).reverse.map fun d => (0, d)

/-! ## The rounds (R127) -/

def State.setSnapState (s : State) (n : Nat) : State := s.setFld F.SNAP_STATUS_state 0 0 n

/-- The hold on the commit of T_f + 1 ends; a commit whose other conditions are met has waited for it. -/
def State.snapRelease (s : State) : State :=
  match s.snap.final with
  | none => s
  | some _ =>
    ({ s with tk := { s.tk with waited := s.tk.waited || s.allDrained }
              snap := { s.snap with final := none } }).setFld F.TK_STATUS_snap_hold 0 0 0

/-- What waits in queue 3 and what is not sealed is dropped. -/
def State.snapDrop (s : State) : State :=
  { s with pt := { s.pt with egress := s.pt.egress.filter fun (p : Pkt) => p.q != 3 }
           snap := { s.snap with todo := [] } }

/-- The export ends aborted (R127, R294): no commit record is sent. -/
def State.snapAbort (s : State) : State := if s.snapRuns then (s.snapRelease.snapDrop).setSnapState 5 else s

/-- A dirty bitmap is cleared: the bytes of its marked indices. -/
def State.snapWipe (s : State) (k : Nat) (l : List Nat) : State := l.foldl (fun s i => s.tkWrite (snapBit k i) 1 0) s

/-- A round's datagrams are read and queued, `last` appended to them in a datagram of its own.
DESIGN CHOICE, unsafe (log 85). -/
def State.snapRound (s : State) (l : List Nat) (segs : Bool) (last : List (Nat × List Byte)) : State :=
  let cap := s.snapMtu - (if s.fldB F.SNAP_CTRL_ipv6 0 0 then 48 else 28) - 32
  match s.snapGather l segs with
  | (none, s1) => s1.snapAbort
  | (some recs, s1) => ({ s1 with snap := { s1.snap with todo := snapPack cap recs ++ last } }).snapFill

/-- SNAPSHOT_START (R127, R128): ignored while an export runs. -/
def State.snapStart (s : State) : State :=
  if s.snapRuns then s
  else
    let refuse (n : Nat) : State := (s.setFld F.SNAP_STATUS_error 0 0 n).setSnapState 6
    if s.snapMtu < 9000 then refuse 1
    else if !s.fldB F.PT_PORT_STATUS_up (s.fld F.SNAP_CTRL_port 0 0) 0 then refuse 2
    else
      let s1 := ((s.snapWipe s.snap.active s.snap.dirty).snapWipe (1 - s.snap.active) s.snap.closed)
      let s2 := (((s1.setFld F.SNAP_STATUS_error 0 0 0).setFld F.SNAP_STATUS_round 0 0 0).setFld F.SNAP_SENT_count 0 0 0)
      (({ s2 with snap := { nextAt := s.tb } }).setSnapState 1).snapRound (List.range 2097152) true []
def execSnapshotStart (s : State) : Outcome State Fault Refusal := .next s.snapStart

/-- SNAPSHOT_ABORT. -/
def execSnapshotAbort (s : State) : Outcome State Fault Refusal := .next s.snapAbort

/-- Everything of the round has left. -/
def State.snapSent (s : State) : Bool := s.snap.todo.isEmpty && !(s.pt.egress.any fun p => p.q == 3)

/-- The round number steps; the bitmap `l` is re-exported. DESIGN CHOICE, unsafe (log 86). -/
def State.nextRound (s : State) (l : List Nat) : State :=
  let s1 := (s.setFld F.SNAP_STATUS_round 0 0 (s.fld F.SNAP_STATUS_round 0 0 + 1)).setSnapState 2
  ({ s1 with snap := { s1.snap with closed := l } }).snapRound l false []

/-- The kind-5 record (R128): T_f, the datagram count, the valid entities. DESIGN CHOICE, unsafe (log 87). -/
def snapCommitRec (id tf count valid tick32 : Nat) : List Byte :=
  snapRec 5 tick32 0 (leBytes 4 0x504E534B ++ leBytes 4 id ++ leBytes 8 tf ++ List.replicate 24 0 ++ leBytes 4 count ++
    List.replicate 12 0 ++ leBytes 4 valid ++ leBytes 4 (commitWord tf))

/-- The final round: the last datagram holds the commit record, whose count is the datagrams sealed before it and itself. -/
def State.finalRound (s : State) (l : List Nat) (tf : Nat) : State :=
  let cap := s.snapMtu - (if s.fldB F.SNAP_CTRL_ipv6 0 0 then 48 else 28) - 32
  let s1 := ((s.setFld F.SNAP_STATUS_round 0 0 (s.fld F.SNAP_STATUS_round 0 0 + 1)).setSnapState 3).setFld
    F.TK_STATUS_snap_hold 0 0 1
  let s2 := { s1 with snap := { s1.snap with closed := l, final := some tf, holdAt := s.tb, validN := s.validCount } }
  match s2.snapGather l false with
  | (none, s3) => s3.snapAbort
  | (some recs, s3) =>
    let ds := snapPack cap recs
    let r5 := snapCommitRec (s.fld F.SNAP_ID_id 0 0) tf (s.snap.seq + ds.length + 1) s.validCount (tf % 2 ^ 32)
    ({ s3 with snap := { s3.snap with todo := ds ++ [(1, r5)] } }).snapFill

/-- In DRAIN tick T is committed: the next round is the final one, whatever `SNAP_FINAL` holds (R229). -/
def State.drainFinal (s : State) : Bool := s.mode == 4 && s.tk.sim.isNone

/-- SNAPSHOT_ROUND_END (R127): between commits, the round's datagrams have left; the bitmaps swap. -/
def State.snapRoundEnd (s : State) : State :=
  let st := s.fld F.SNAP_STATUS_state 0 0
  if !((st == 1 || st == 2) && s.snapSent && s.tk.cond.isNone && !s.fldB F.TK_STATUS_commit_open 0 0) then s
  else
    let l := s.snap.dirty.mergeSort
    let old := s.snapWipe (1 - s.snap.active) s.snap.closed
    let s1 := { old with snap := { old.snap with dirty := [], closed := l, active := 1 - s.snap.active } }
    if !s.noneCommitted && (decide (l.length ≤ s.fld F.SNAP_FINAL_indices 0 0) || s.drainFinal) then
      s1.finalRound l (s.fld F.TK_COMMITTED_tick 0 0)
    else s1.nextRound l
def execSnapshotRoundEnd (s : State) : Outcome State Fault Refusal := .next s.snapRoundEnd

/-- SNAPSHOT_HOLD_EXPIRE (R127): the final round has lasted longer than SNAP_HOLD_MAX; what it has not sent is dropped, its
sequence numbers taken back, and its indices go into a further round with those marked since. -/
def State.snapHoldExpire (s : State) : State :=
  if s.fld F.SNAP_STATUS_state 0 0 ≠ 3 ∨ s.snapSent ∨ s.tb ≤ s.snap.holdAt + s.fld F.SNAP_HOLD_MAX_us 0 0 * 1000 then s
  else
    let n := (s.pt.egress.filter fun p => p.q == 3).length
    let s1 := s.snapRelease.snapDrop.snapWipe s.snap.active s.snap.dirty
    let l := (s.snap.closed ++ s.snap.dirty).dedup.mergeSort
    ({ s1 with snap := { s1.snap with seq := s1.snap.seq - n, dirty := [] } }).nextRound l
def execSnapshotHoldExpire (s : State) : Outcome State Fault Refusal := .next s.snapHoldExpire

/-- SNAPSHOT_COMPLETE (R127): the final round and the commit record have left, and the hold is released. -/
def State.snapComplete (s : State) : State :=
  if s.fld F.SNAP_STATUS_state 0 0 = 3 ∧ s.snapSent then s.snapRelease.setSnapState 4 else s
def execSnapshotComplete (s : State) : Outcome State Fault Refusal := .next s.snapComplete

/-! ## Restore (R239, R240) -/

/-- SNAPSHOT_RESTORE_START: refused (7) outside READY or while an engine runs. -/
def State.restoreStart (s : State) : State :=
  if s.fldB F.GLOBAL_RESTORE_CTRL_busy 0 0 then s
  else if s.mode ≠ 2 ∨ !s.allStopped then s.setFld F.GLOBAL_RESTORE_CTRL_result 0 0 7
  else (s.setFld F.GLOBAL_RESTORE_CTRL_result 0 0 0).setFld F.GLOBAL_RESTORE_CTRL_busy 0 0 1
def execSnapshotRestoreStart (s : State) : Outcome State Fault Refusal := .next s.restoreStart

/-- Datagrams of the staging span: each an 8-byte descriptor and the padded payload; a descriptor of 0, or the span's end, ends
the stream. None where a payload runs past the span. -/
def stagedFrom : Nat → List Byte → Option (List (List Byte))
  | 0, _ => some []
  | f + 1, bs =>
    let n := leNat (bs.take 2)
    if leNat (bs.take 8) = 0 then some []
    else if bs.length < 8 + n then none
    else (stagedFrom f (bs.drop (8 + (n + 7) / 8 * 8))).map fun l => ((bs.drop 8).take n) :: l

/-- A datagram opened: its flags and its records; none where its header, sequence, ID or tag is wrong. -/
def State.openDgram (s : State) (id sq : Nat) (bs : List Byte) : Option (Nat × List Byte) :=
  let h := bs.take 16
  let round := leNat ((h.drop 6).take 2)
  if bs.length < 32 ∨ leNat (h.take 4) ≠ 0x504E534B ∨ leNat ((h.drop 4).take 1) ≠ 1 ∨ leNat ((h.drop 8).take 4) ≠ id ∨
      leNat ((h.drop 12).take 4) ≠ sq then none
  else
    let body := (bs.drop 16).take (bs.length - 32)
    (gcmOpen s.snapKey (snapNonce id round sq) (toNats h) (toNats body) (toNats (bs.drop (bs.length - 16)))).map
      fun p => (leNat ((h.drop 5).take 1), ofNats p)

/-- The records of a datagram: (kind, key, payload); a record cut short ends the list. -/
def snapRecsFrom : Nat → List Byte → List (Nat × Nat × List Byte)
  | 0, _ => []
  | f + 1, bs =>
    let n := leNat ((bs.drop 2).take 2)
    if bs.length < 16 ∨ bs.length < 16 + n then []
    else (leNat (bs.take 1), leNat ((bs.drop 8).take 8), (bs.drop 16).take n) :: snapRecsFrom f (bs.drop (16 + n))

/-- Every datagram opened, in order. DESIGN CHOICE, unsafe (log 88). -/
def State.openAll (s : State) (id : Nat) (l : List (List Byte)) : Option (List (Nat × List Byte)) :=
  l.zipIdx.foldr (fun e a => match a, s.openDgram id e.2 e.1 with | some r, some d => some (d :: r) | _, _ => none) (some [])

/-- A whole kind-5 record: T_f and its bytes. -/
def tfOf (recs : List (Nat × Nat × List Byte)) : Option (Nat × List Byte) :=
  (recs.find? fun r => r.1 == 5).bind fun r =>
    let b := r.2.2
    let tf := leNat ((b.drop 8).take 8)
    if b.length = 64 ∧ leNat (b.take 4) = 0x504E534B ∧ leNat ((b.drop 0x3C).take 4) = commitWord tf then some (tf, b) else none

/-- The kind-5 record names the snapshot's ID and the number of its datagrams. -/
def tfFits (id count : Nat) (b : List Byte) : Bool :=
  leNat ((b.drop 4).take 4) == id && leNat ((b.drop 0x28).take 4) == count

/-- Bytes `[wa, wa + n)` meet the staging span or a device area. -/
def State.restoreHit (s : State) (wa n : Nat) : Bool :=
  let b := s.fld F.GLOBAL_RESTORE_BASE_base 0 0 * 64
  let l := s.fld F.GLOBAL_RESTORE_LEN_bytes 0 0
  n != 0 && (spansMeet wa n b l || inDeviceArea wa || inDeviceArea (wa + n - 1))

/-- The granules of `[wa, wa + bs.length)` written whole, in class C4 (R249). -/
def State.restorePut (s : State) (wa : Nat) (bs : List Byte) : State :=
  (granPieces (bs.length / 64 + 2) wa bs).foldl (fun s e =>
    let g := e.1 - e.1 % 64
    let img := match (s.worldRead g 57 (some 4)) with
      | (some d, _) => d.data
      | (none, _) => List.replicate 64 0
    (s.worldWrite g 57 (some 4) (bytesAt 0 (overlay img e.2))).2) s

/-- The whole granules a record of a restore writes, as spans. -/
def State.restoreSpan (s : State) (r : Nat × Nat × List Byte) : List (Nat × Nat) :=
  let sp (wa : Nat) := [(wa / 64 * 64, (wa + r.2.2.length + 63) / 64 * 64)]
  match r.1 with
  | 2 => sp (liveSlot (s.entry (hIndex r.2.1)))
  | 3 => (pieces 16 r.2.2).zipIdx.flatMap fun e =>
    let wa := s.linkAddr (r.2.1 + e.2)
    [(wa / 64 * 64, wa / 64 * 64 + 64)]
  | 4 => sp r.2.1
  | _ => []

/-- Spans with those that touch or overlap joined. -/
def joinSpans (l : List (Nat × Nat)) : List (Nat × Nat) :=
  (l.mergeSort fun a b => decide (a.1 ≤ b.1)).foldl (fun acc x =>
    match acc with
    | y :: r => if x.1 ≤ y.2 then (y.1, max y.2 x.2) :: r else x :: y :: r
    | [] => [x]) []

/-- A restore as far as it has come: the result it stops with, once a record is bad, and the state. What earlier records wrote stands. -/
abbrev Restoring := Option Nat × State

/-- The next part of a restore that has not stopped. -/
def Restoring.andThen (a : Restoring) (f : State → Restoring) : Restoring := if a.1.isSome then a else f a.2

/-- One ED entry: its slots must lie on a present channel and clear of the staging span and the device areas. -/
def State.restoreEntry (s : State) (i : Nat) (v : Word64) : Restoring :=
  let wa := entBase v * 64
  let n := 2 * entSize v
  if entValid v && decide (logicals s.part ≤ wa / 2 ^ 31) then (some 5, s)
  else if entValid v && s.restoreHit wa n then (some 4, s)
  else (none, s.setEntry i (if entValid v then
    withOwner (withLock (withPublished v false) false) 0x3F else v))

/-- One grid link record: its cell, and that of its pending move, must lie in the grid (R121). -/
def State.restoreLink (s : State) (i w : Nat) : Restoring :=
  if linkIn w && decide (s.gridCells ≤ linkCell w) || bitOf w 84 && decide (s.gridCells ≤ bitsOf w 64 20) then (some 6, s)
  else (none, s.restorePut (s.linkAddr i) (leBytes 16 (if linkIn w then w else w / 2 ^ 64 * 2 ^ 64)))

/-- One record (R128, R239). -/
def State.restoreRec (s : State) (r : Nat × Nat × List Byte) : Restoring :=
  match r.1 with
  | 1 => (pieces 8 r.2.2).zipIdx.foldl (fun (a : Restoring) e => a.andThen fun s =>
      s.restoreEntry (r.2.1 + e.2) (BitVec.ofNat 64 (leNat e.1))) (none, s)
  | 3 => (pieces 16 r.2.2).zipIdx.foldl (fun (a : Restoring) e => a.andThen fun s =>
      s.restoreLink (r.2.1 + e.2) (leNat e.1)) (none, s)
  | 2 =>
    let wa := liveSlot (s.entry (hIndex r.2.1))
    if logicals s.part ≤ wa / 2 ^ 31 then (some 5, s)
    else if s.restoreHit wa r.2.2.length then (some 4, s)
    else (none, s.restorePut wa r.2.2)
  | 4 =>
    if logicals s.part ≤ r.2.1 / 2 ^ 31 then (some 5, s)
    else if s.restoreHit r.2.1 r.2.2.length then (some 4, s)
    else (none, s.restorePut r.2.1 r.2.2)
  | _ => (none, s)

/-- The records in stream order up to a bad one, and the spans written whole. -/
def restoreRecs : List (Nat × Nat × List Byte) → State → List (Nat × Nat) → Restoring × List (Nat × Nat)
  | [], s, sp => ((none, s), sp)
  | q :: l, s, sp =>
    let r := s.restoreRec q
    if r.1.isSome then (r, sp) else restoreRecs l r.2 (s.restoreSpan q ++ sp)

/-- Count the granules of `[wa, wa + n)` written at channel `c`: in class `k`, or each in the class of its address (R25). -/
def State.countSpan (s : State) (c wa n : Nat) (k : Option Nat) : State :=
  match k with
  | some k => s.addFld F.RG_CNT_WR_granules c k (n / 64)
  | none => (List.range (n / 4096)).foldl (fun s u => s.addFld F.RG_CNT_WR_granules c (s.classOf (wa + 4096 * u)) 64) s

/-- Zero bytes `[off, off + n)` of the device area of logical channel `l`, whole granules, in class `k` (none: by address); each of its
rows is activated (R276). A channel that is not in service takes none (R13). -/
def State.zeroDev (s : State) (k : Option Nat) (l off n : Nat) : State :=
  match s.route l (0x7E000000 + off) with
  | none => s
  | some r => (r.wr.filter s.carries).foldl (fun s0 c =>
      let lo := (0x7E000000 + off) / 64
      let s := ((s0.rouse c).countSpan c (devAddr l off) n k).sweepRows c (granRow lo) (granRow (lo + n / 64 - 1) + 1)
      let a := dkey c (0x7E000000 + off)
      let g := gkey c ((0x7E000000 + off) / 64)
      let x := s.chan c
      ({ s with dram := smapDrop s.dram a (a + n), gran := smapDrop s.gran g (g + n / 64) }).setChan c
        { x with wq := x.wq.filter fun w => !(decide ((0x7E000000 + off) / 64 ≤ w.gran) &&
                                              decide (w.gran < (0x7E000000 + off + n) / 64)) }) s

/-- Ascending indices as half-open runs. -/
def freeRuns : Nat → List Nat → List (Nat × Nat)
  | lo, [] => if lo < 2097152 then [(lo, 2097152)] else []
  | lo, i :: r => if lo < i then (lo, i) :: freeRuns (i + 1) r else freeRuns (i + 1) r

/-- The ED empty: every entry unused, every index free. -/
def State.clearEd (s : State) : State :=
  { s with ed := { free := freeRuns 0 s.ed.retired.mergeSort, quar := s.ed.quar, retired := s.ed.retired } }

/-- The valid in-grid entities linked anew, the cell heads written first; ascending, each at its cell's head. -/
def State.relink (s : State) : State :=
  let s0 := (List.range (logicals s.part)).foldl (fun s l => s.zeroDev (some 4) l 0x800000 0x40000) s
  ((s.ed.ent.filter fun e => entValid e.2).map (·.1)).foldl (fun s i =>
    let r := s.tkRead (s.linkAddr i) 16 57
    let w := r.1.getD 0
    if linkIn w then ((r.2.setLink i 0).linkHead i (linkCell w)).tkPut (s.linkAddr i + 8) 8 (w / 2 ^ 64) 0 else r.2) s0

/-- A restore's zeros over a span of the device area: it sets the bit of each block wholly within it (R299). -/
def State.zeroRestore (s : State) (l off n : Nat) : State :=
  match s.route l (0x7E000000 + off) with
  | none => s
  | some r => r.wr.foldl (fun s c => s.markInit c (0x7E000000 + off) (0x7E000000 + off + n)) (s.zeroDev (some 4) l off n)

/-- Steps 5 and 6 of R239 after the records: the free list, the cells, the zeroed regions, the commit record, the tick. -/
def State.restoreFinish (s : State) (tf : Nat) (b : List Byte) : State :=
  let used := (((s.ed.ent.filter fun e => entValid e.2).map (·.1)) ++ s.ed.retired).dedup.mergeSort
  let s1 := { s with ed := { s.ed with free := freeRuns 0 used, births := 0, frees := 0, lost := false } }
  let s2 := (List.range (logicals s.part)).foldl (fun s l => s.zeroRestore l 0 0x600000) s1
  let s3 := ((s2.zeroRestore 0 0x850000 0x10000).zeroRestore 0 0x860000 0x110000).relink
  let recd := leBytes 4 0x52434B54 ++ leBytes 2 1 ++ leBytes 2 0 ++ (b.drop 8).take 8 ++ List.replicate 40 0 ++
    leBytes 4 s3.validCount ++ leBytes 4 (commitWord tf)
  let s4 := s3.restorePut (recordAddr tf) recd
  let s5 := { s4 with tk := { s4.tk with cur := none, sim := none, cond := none, counted := [] } }
  ((s5.setFld F.TK_COMMITTED_tick 0 0 tf).setFld F.TK_NEXT_tick 0 0 (tf + 1)).setFld F.TK_STATUS_phase 0 0 0

/-- A restore ends. -/
def State.restoreDone (s : State) (n : Nat) : State :=
  (s.setFld F.GLOBAL_RESTORE_CTRL_result 0 0 n).setFld F.GLOBAL_RESTORE_CTRL_busy 0 0 0

/-- SNAPSHOT_RESTORE_COMPLETE (R239, R240): every check before any write; a bad record ends it with the ED cleared. -/
def State.restoreComplete (s : State) : State :=
  if !s.fldB F.GLOBAL_RESTORE_CTRL_busy 0 0 then s
  else
    let b := s.fld F.GLOBAL_RESTORE_BASE_base 0 0 * 64
    let n := s.fld F.GLOBAL_RESTORE_LEN_bytes 0 0
    let r := s.worldGet b n 57 none
    let s1 := r.2.2
    if r.2.1 ≠ some .clean then s1.restoreDone 2
    else
      match (stagedFrom (n / 8 + 1) r.1).bind fun l => s.openAll (leNat (((l.headD []).drop 8).take 4)) l with
      | none => s1.restoreDone 2
      | some ds =>
        let l := (stagedFrom (n / 8 + 1) r.1).getD []
        let sid := leNat (((l.headD []).drop 8).take 4)
        let recs := ds.flatMap fun d => snapRecsFrom (d.2.length + 1) d.2
        match tfOf recs with
        | none => s1.restoreDone 3
        | some (tf, body) =>
          if !tfFits sid ds.length body then s1.restoreDone 2
          else
            let x := restoreRecs recs s1.clearEd []
            let zeros := (List.range (logicals s.part)).map fun l => (devAddr l 0, devAddr l 0x600000)
            let sp := joinSpans (x.2 ++ if x.1.1.isNone then zeros else [])
            let s2 := x.1.2.wholeBlocks fun a => sp.any fun y => y.1 ≤ a && a + 4096 ≤ y.2
            match x.1.1 with
            | some k => (s2.clearEd.setFld F.TK_COMMITTED_tick 0 0 (2 ^ 64 - 1)).restoreDone k
            | none => (s2.restoreFinish tf body).restoreDone 1
def execSnapshotRestoreComplete (s : State) : Outcome State Fault Refusal := .next s.restoreComplete

end Sys2Proof.Machine
end

