-- ==== Sys2Proof/Machine/Faults.lean ====
section
/-!
DEFINITION. The fault collector (spec/14): events accepted (R358, R363 to R368), reactions (R361, R362, R365 to R367), fencing and
reclaim (R369, R370), retirement (R326, R327, R372), reassignment (R371), entries lost (R373), latches and captures (R359,
R364), FAULT_N (R375), scratch copies (R377), mesh CRC errors (R22); events for the host (R211).
-/

namespace Sys2Proof.Machine
open Host

/-! ## The body of a management frame (R188 to R190) and events for the host (R211) -/

/-- The management key in use: that of the highest committed slot (R192); from the response to ROTATE_KEY on the new one (R193). -/
def State.mgKey (s : State) : Option (List Byte) :=
  match s.nv.keyWrite with
  | some (_ + 1, k) => some k
  | _ => s.nv.keys.getLast?.map (·.2)

/-- A body with its check fields. With no key the HMAC field is 0 and the body is marked unauthenticated. -/
def State.mgBody (s : State) (flags code status seq nonce : Nat) (arg : List Byte) : List Byte :=
  let fl := if s.mgKey.isSome then flags else flags + 4
  let b := leBytes 1 1 ++ leBytes 1 fl ++ leBytes 1 code ++ leBytes 1 status ++ leBytes 2 arg.length ++ leBytes 2 0 ++
    leBytes 8 seq ++ leBytes 8 nonce ++ arg
  let c := b ++ leBytes 4 (crc32c (toNats b))
  c ++ (match s.mgKey with
    | some k => ofNats (hmac256 (toNats k) (toNats c))
    | none => List.replicate 32 0)

/-- The long command that runs ends with a status (R199). -/
def State.longEnd (s : State) (status : Nat) : State :=
  match s.mg.long with
  | none => s
  | some (sq, _) =>
    ({ s with mg := { s.mg with
        long := none, held := false
        polls := s.mg.polls.map fun (p : Polled) => if p.seq = sq then { p with status := status } else p } }).setFld
      F.MG_QUEUE_long_code 0 0 0

/-- What a long command that is cut off would still do is not done (R199): no image is verified, no rate followed, no key slot
committed. -/
def State.cutLong (s : State) : State :=
  { s with mg := { s.mg with verify := none, rate := none }, nv := { s.nv with keyWrite := none } }

/-- A transition is in progress. -/
def State.setBusy (s : State) (c : ModeChange) : State :=
  ({ s with change := some c }.setFld F.GLOBAL_MODE_busy 0 0 1).setFld F.GLOBAL_MODE_target 0 0 c.target

/-- The transition in progress ends: `result` of GLOBAL_MODE, and the status of the MODE_SET that asked for it. -/
def State.changeEnd (s : State) (result status : Nat) : State :=
  let host := s.change.any fun c => c.host
  let s1 := (({ s with change := none }.setFld F.GLOBAL_MODE_busy 0 0 0).setFld F.GLOBAL_MODE_target 0 0 0).setFld
    F.GLOBAL_MODE_result 0 0 result
  if host then s1.longEnd status else s1

/-- The destination of notices. -/
def State.noticeTo (s : State) (body : List Byte) : Sent :=
  { transport := if s.fldB F.MG_NDEST_PORT_udp 0 0 then
      .udp (BitVec.ofNat 32 (s.fld F.MG_NDEST_IP_addr 0 0)) (BitVec.ofNat 16 (s.fld F.MG_NDEST_PORT_port 0 0)) else .ether
    mac := s.fld F.MG_NDEST_MAC_mac 0 0
    body := body }

/-- Firmware queues an event for the host, the newest dropped where 256 are held, and sends its notice.
DESIGN CHOICE, unsafe (log 106). -/
def State.hostEvent (s : State) (kind group d4 d8 : Nat) : State :=
  if !s.fldB F.GLOBAL_BOOT_fw_running 0 0 then s
  else
    let sq := s.mg.evSeq
    let r := leBytes 1 kind ++ leBytes 1 group ++ leBytes 2 sq ++ leBytes 4 d4 ++ leBytes 8 s.tb ++ leBytes 8 d8
    let s1 := { s with mg := { s.mg with evSeq := (sq + 1) % 65536 } }
    let s2 := if s1.mg.events.length < 256 then { s1 with mg := { s1.mg with events := s1.mg.events ++ [r] } }
      else { s1 with mg := { s1.mg with lost := s1.mg.lost + 1 } }
    let s3 := s2.setFld F.MG_EVENTS_queued 0 0 s2.mg.events.length
    let s4 := s3.setFld F.MG_EVENTS_lost 0 0 (min 65535 s2.mg.lost)
    if s.fldB F.MG_CTRL_notice_en 0 0 then
      { s4 with mg := { s4.mg with notices := s4.mg.notices ++ [s4.noticeTo
          (s4.mgBody 2 0x7F 0 sq (s.fld F.MG_NONCE_nonce 0 0) r)] } }
    else s4

/-! ## Status and FAULT_N (R359, R375) -/

/-- FC_STATUS: the real and forced latches of each group. -/
def State.fcStatus (s : State) : Nat :=
  bitSet ((List.range 58).filter fun g => s.fldB F.FC_G_REAL_source g 0 || s.fldB F.FC_G_FORCED_source g 0)

/-- FAULT_N is driven low. -/
def State.faultN (s : State) : Bool := !s.inReset && (s.fcStatus &&& s.fld F.FC_PIN_MASK_group 0 0) != 0

/-- Set bit `src` of a latch register. -/
def State.latch (s : State) (f : Fld) (g src : Nat) : State := s.setFld f g 0 (s.fld f g 0 ||| 2 ^ src)

/-- FAULT_LATCH_CLEAR. -/
def latchFld : LatchKind → Fld
  | .real => F.FC_G_REAL_source
  | .forced => F.FC_G_FORCED_source
  | .severe => F.FC_G_SEVERE_source
  | .conseq => F.FC_G_CONSEQ_source
def execFaultLatchClear (group : Fin 58) (kind : LatchKind) (mask : BitVec 8) (s : State) : Outcome State Fault Refusal :=
  .next (s.setFld (latchFld kind) group.val 0 (s.fld (latchFld kind) group.val 0 &&& (255 - mask.toNat)))

/-- FAULT_CAPTURE_RELEASE. -/
def execFaultCaptureRelease (group : Fin 58) (s : State) : Outcome State Fault Refusal :=
  .next (s.setFld F.FC_G_CAP_INFO_valid group.val 0 0)

/-! ## Retirement of a channel (R326 to R328) -/

/-- Write an entry of the map as it stands, with nothing pending. -/
def State.putMap (s : State) (l phys old st : Nat) : State :=
  let s1 := ((s.setFld F.RG_CHMAP_phys l 0 phys).setFld F.RG_CHMAP_old l 0 old).setFld F.RG_CHMAP_state l 0 st
  [F.RG_CHMAP_phys, F.RG_CHMAP_old, F.RG_CHMAP_state].foldl (fun s f => { s with shadow := smapErase s.shadow (fldKey f l 0) }) s1

/-- The copy into the entry's channel ends: the entry returns to the old channel. -/
def State.abandonCopy (s : State) (l : Nat) : State :=
  let o := s.fld F.RG_CHMAP_old l 0
  ((s.busyNow o).busyNow (s.fld F.RG_CHMAP_phys l 0)).putMap l o 0x3F 0

/-- A rotation under way whose source need not retire: it holds a spare (R328). -/
def State.rotation (s : State) : Option Nat :=
  (List.range 32).find? fun l => s.fld F.RG_CHMAP_state l 0 == 1 && !(s.chan (s.fld F.RG_CHMAP_old l 0)).retiring

/-- Logical channel `l` moves to spare `p` and its granules are copied. -/
def State.moveTo (s : State) (l p c : Nat) : State :=
  let s1 := ((s.putMap l p c 1).setFld F.RG_CHCUR_cursor l 0 0).setFld F.RG_CHMAP_COMMIT_busy 0 0 1
  let s2 := { s1 with copyStopped := s1.copyStopped.filter (· != l), mapMark := s1.nextReq }
  (s2.rebind).c0Holds

/-- No spare is left: logical channel `l` goes ABSENT and the host is told (R327). -/
def State.loseLogical (s : State) (l : Nat) : State :=
  ((((s.putMap l (s.fld F.RG_CHMAP_phys l 0) 0x3F 2).rebind).wentAbsent l).hostEvent 3 0xFF l 0).c0Holds

/-- The old channel of `l` stops reading: the copy stops, and firmware raises a capacity-change event for `l` (R326). -/
def State.sourceFails (s : State) (l : Nat) : State :=
  if s.fld F.RG_CHMAP_state l 0 = 1 ∧ !s.copyStopped.contains l then (s.copySourceFail l).hostEvent 3 0xFF l 0 else s
def execCopySourceFail (l : Fin 32) (s : State) : Outcome State Fault Refusal := .next (s.sourceFails l.val)

/-- A command of channel `c` has failed its parity retry: where `c` is the source of a copy, the sixteenth within 1 ms means that it no
longer reads (R326). -/
def State.sourceParity (s : State) (c : Nat) : State :=
  match (List.range 32).find? fun l => s.fld F.RG_CHMAP_state l 0 == 1 && s.fld F.RG_CHMAP_old l 0 == c && !s.copyStopped.contains l with
  | none => s
  | some l =>
    let t := s.within1ms (s.chan c).srcErr
    if t.length < 16 then s.setChan c { s.chan c with srcErr := t } else (s.setChan c { s.chan c with srcErr := [] }).sourceFails l

/-- CA_PARITY_ERROR (R323, R326). -/
def execCaParityError (ch : Fin 34) (line : BitVec 4) (g : BitVec 25) (master : BitVec 6) (s : State) :
    Outcome State Fault Refusal := .next ((s.lineParity ch.val line.toNat g.toNat master.toNat).sourceParity ch.val)

/-- Retire channel `c`. DEDUCED, unsafe (log 110). -/
def State.retireChannel (s : State) (c : Nat) : State :=
  let s0 := (s.cutBistAt c).setChan c { s.chan c with retiring := true }
  match (List.range 32).find? fun l => s.fld F.RG_CHMAP_phys l 0 == c && s.fld F.RG_CHMAP_state l 0 != 2 with
  | none =>
    if (s.logicalAt c).isSome then s0 else s0.setFld F.CH_ID_state c 0 4
  | some l =>
    if s.fld F.RG_CHMAP_state l 0 = 1 then ((s0.abandonCopy l).rebind).c0Holds
    else
      match s0.idleSpare with
      | some p => s0.moveTo l p c
      | none =>
        match s0.rotation with
        | some r =>
          let s1 := (s0.abandonCopy r).rebind
          (match s1.idleSpare with
            | some p => s1.moveTo l p c
            | none => s1.loseLogical l)
        | none => s0.loseLogical l

/-! ## Parties, fencing and reclaim (R369, R370) -/

/-- The master a reaction on (group, instance) fences; 63 where it fences none. -/
def partyOf (g inst master : Nat) : Nat :=
  if g = 44 then master else if g = 47 then 40 + inst else if g = 48 then inst else if g = 49 then 34 else 63

/-- The block an event names, in one numbering: a master, or a group's own instance. -/
def blockOf (v : FaultEv) : Nat :=
  if partyOf v.group v.inst v.master < 63 then partyOf v.group v.inst v.master else 64 + v.group * 256 + v.inst
def React.block (r : React) : Nat := if r.party < 63 then r.party else 64 + r.group * 256 + r.inst

/-- A fenced engine's state is not copied (R58): a migration from it, or to it, ends FAILED. DESIGN CHOICE, unsafe (log 92). -/
def State.endMigrations (s : State) (m : Nat) : State :=
  (List.range 34).foldl (fun s p => match (s.eng p).mig with
    | some g => if p = m ∨ g.target = m then
        ((s.setFld F.CE_MIG_STATUS_failed p 0 1).setFld F.CE_MIG_STATUS_phase p 0 0).setEng p { s.eng p with mig := none }
      else s
    | none => s) s

/-- The fence of master `m` begins: it issues nothing further and its waiting requests are dropped unacknowledged. An engine that has
reported DRAINED for the open tick stays DRAINED (R111). -/
def State.fenceStart (s : State) (m : Nat) : State :=
  let s1 := { s with reqs := s.reqs.filter fun r => r.master != m && r.e != m }
  let s2 := if m < 35 then ((s1.setEng m { s1.eng m with fenced := true }).endToken m).endMigrations m else s1
  let s3 := if m < 34 && (s.tk.counted.any fun k => k / 16 == m) then
      { s2 with tk := { s2.tk with
        fenced := s2.tk.fenced ++ [m]
        fencedAt := if s.tk.sim.any fun n => s.drained m n then smapInsert s2.tk.fencedAt m (s.tb - s.tk.simAt + 1) else s2.tk.fencedAt } }
    else s2
  s3.setFld F.FC_FENCE_STATUS_busy 0 0 1

/-- No admitted request of the master remains queued in a channel, read or write. -/
def State.fenceClear (s : State) (m : Nat) : Bool :=
  (List.range 34).all fun c => ((s.chan c).rq.all fun r => r.master != m && r.e != m) &&
    (s.chan c).wq.all fun w => w.writers.all fun x => x.master != m

/-- The grant of a burst of master `m` is revoked, and its progress count is discarded (R370). -/
def State.dropGrants (s : State) (m : Nat) : State :=
  (List.range 34).foldl (fun s c => match (s.chan c).hold with
    | some (_, _, n) => if n = m then s.setChan c { s.chan c with hold := none } else s
    | none => s) s

/-- What the master held is reclaimed. -/
def State.reclaimParty (s : State) (m : Nat) : State :=
  if m < 35 then
    let s1 := strandsOf.foldl (fun s t => s.reclaim m t) s
    let s2 := (s1.ops.filter fun o => o.e == m).foldl (fun s o => (s.fillCut o).dropReqs o.id) s1
    let s3 : State := { s2 with ops := s2.ops.filter fun o => o.e != m }
    let s4 := s3.ed.ent.foldl (fun s x => if entLock x.2 && entOwner x.2 == m then s.tearLock x.1 else s) s3
    (s4.dropGrants m).grantCredits 64
  else if 40 ≤ m ∧ m < 56 then
    let d := m - 40
    let lost := (s.st.builds.filter fun b => b.du == d).map (·.ses)
    (lost.foldl (fun s i => s.missRound i (d / 2)) s).loseDu d
  else s

/-- A session freed under group 46 (R373). -/
def State.freeLost (s : State) (i : Nat) : State :=
  let s1 := s.endSends i 1
  let s2 := { s1 with
    st := { s1.st with msgs := s1.st.msgs.filter fun (m : Msg) => m.ses != i
                       builds := s1.st.builds.filter fun (b : Build) => b.ses != i
                       closeWait := s1.st.closeWait.filter fun (d : CloseDue) => d.ses != i } }
  (s2.dropPkts i).freeSession i 4

/-! ## Reactions (R361, R362) -/

/-- A reaction's level as its group takes it: codes 5 to 7 act as 4; group 42 takes nothing above
NOTIFY (R186); the group table of R362. -/
def groupLevel (g src code : Nat) : Nat :=
  let l := min code 4
  if g = 42 then min l 1
  else if l < 2 ∨ l = 4 then l
  else if g < 42 then l
  else if g = 44 ∨ g = 46 ∨ g = 49 then 2
  else if g = 45 then (if l = 3 then 4 else if src = 0 then 2 else 1)
  else if g = 47 ∨ g = 48 then l
  else 1

def State.addReact (s : State) (r : React) : State := { s with fc := { s.fc with reacts := s.fc.reacts ++ [r] } }

/-- HALT must take effect (R367). -/
def State.haltFor (s : State) (c : HaltCause) (noDump : Bool) : State :=
  { s with fc := { s.fc with haltDue := some (s.fc.haltDue.getD c), haltAt := if s.fc.haltDue.isSome then s.fc.haltAt else s.tb
                             noDump := s.fc.noDump || noDump } }

/-- A channel holds a shard of the tick unit's regions: it serves a logical channel (R106). -/
def State.holdsShard (s : State) (c : Nat) : Bool := (s.logicalAt c).isSome

/-- HALT must take effect for a fault: where it is on the ED group or on a channel that holds a shard, an open commit stays open (R116);
where it fences the SV, no Negative is written (R234). -/
def State.haltFault (s : State) (v : FaultEv) (noDump : Bool) : State :=
  let s1 := s.haltFor .fault noDump
  { s1 with fc := { s1.fc with keepOpen := s1.fc.keepOpen || v.group == 45 || (decide (v.group < 34) && s.holdsShard v.inst) } }

/-- The host event of a NOTIFY: of kind 2 for a Fixer poisoning, else of kind 1 with the capture address as detail. -/
def State.notifyHost (s : State) (v : FaultEv) : State :=
  let s1 := { s with fc := { s.fc with notify := true } }
  if v.group < 34 ∧ v.src = 2 then s1.hostEvent 2 v.group (s.classOf v.addr) v.addr else s1.hostEvent 1 v.group 0 v.addr

/-- CONTAIN and RESET_BLOCK in groups that fence no master: retirement of a channel or lane, recalibration, a PMA reset,
quarantine, a session freed. DESIGN CHOICE, unsafe (log 111). DEDUCED, unsafe (log 112). -/
def State.containBlock (s : State) (v : FaultEv) (lvl : Nat) : State :=
  if v.group < 34 then
    if lvl = 2 then s.retireChannel v.group
    else { s with trn := smapInsert s.trn v.group { smapGet trn0 s.trn v.group with recal := 134 } }
  else if v.group < 42 then (if lvl = 2 then s.retireLane (v.group - 34) else s.pmaReset (v.group - 34))
  else if v.group = 45 then
    { s with ed := { s.ed with quar := if s.ed.quar.contains v.addr then s.ed.quar else s.ed.quar ++ [v.addr] } }
  else if v.group = 46 then s.freeLost v.addr
  else s

/-- The reaction to an event: its shadow opens with it. A HALT fences nothing itself; one of the SV watchdog writes no Negative (R234).
DEDUCED, unsafe (log 107). -/
def State.react (s : State) (v : FaultEv) (code : Nat) (severe : Bool) : State :=
  let lvl := groupLevel v.group v.src code
  let p := partyOf v.group v.inst v.master
  let r : React := { group := v.group, inst := v.inst, src := v.src, level := lvl, start := s.tb, party := p, severe := severe }
  if lvl = 0 then s
  else
    let s1 := s.notifyHost v
    if lvl = 1 then s1.addReact { r with party := 63 }
    else if lvl = 4 then (s1.addReact { r with party := 63 }).haltFault v (v.group == 49 && v.src == 1)
    else if p < 62 then
      let s2 := (s1.fenceStart p).addReact { r with stage := .fencing }
      if v.group = 49 then s2.haltFault v true else s2
    else (s1.containBlock v lvl).addReact { r with party := 63, stage := if v.group < 42 then .work else .ended }

/-- What a channel's or lane's reaction does is still under way: a retirement's copy or lines to recalibrate, a lane in training. -/
def State.blockWorks (s : State) (r : React) : Bool :=
  if 34 ≤ r.group then
    let t := s.fld F.LN_STATUS_train (r.group - 34) 0
    r.level == 3 && decide (1 ≤ t) && decide (t < 5)
  else if r.level = 3 then (smapGet trn0 s.trn r.group).recal != 0
  else (List.range 32).any fun l => s.fld F.RG_CHMAP_state l 0 == 1 && s.fld F.RG_CHMAP_old l 0 == r.group

/-- The reaction runs (R365). -/
def State.reactRuns (s : State) (r : React) : Bool :=
  match r.stage with
  | .ended => false
  | .work => s.blockWorks r
  | _ => true

/-- A reaction on a channel or lane has ended once its work is done. -/
def State.settleReacts (s : State) : State :=
  { s with fc := { s.fc with reacts := s.fc.reacts.map fun r => if s.reactRuns r then r else { r with stage := .ended } } }

/-! ## Accepting an event (R358, R363 to R368) -/

/-- The event taken next: the earliest, and of those that arrived together the lowest group, then source.
DESIGN CHOICE, unsafe (log 105). -/
def evBefore (a b : FaultEv) : Bool :=
  a.time < b.time || (a.time == b.time && (a.group < b.group || (a.group == b.group && a.src ≤ b.src)))
def nextEv : List FaultEv → Option FaultEv
  | [] => none
  | v :: l => match nextEv l with
    | none => some v
    | some w => some (if evBefore v w then v else w)

/-- The reaction's shadow is open (R365). -/
def State.shadowOpen (s : State) (r : React) : Bool :=
  s.reactRuns r || decide (s.tb < r.start + clampNat 1 1000 (s.fld F.FC_CFG_shadow_us 0 0) * 1000)

/-- The reaction into which an event merges: one in whose shadow its group is a dependent, or one that runs on the very
instance in the same group (R365, R366). -/
def State.mergesInto (s : State) (v : FaultEv) : Option React :=
  s.fc.reacts.find? fun r =>
    (s.shadowOpen r && bitOf (s.fld F.FC_G_DEPS_group r.group 0) v.group) ||
    (s.reactRuns r && r.group == v.group && r.inst == v.inst)

/-- A consequential or nested event: its latch, and the first error's capture. -/
def State.mergeEv (s : State) (v : FaultEv) (r : React) : State :=
  let s1 := s.latch F.FC_G_CONSEQ_source v.group v.src
  if s1.fldB F.FC_G_CAP_INFO_valid r.group 0 then
    (s1.addFld F.FC_G_CAP_INFO_merged r.group 0 1).setFld F.FC_G_CAP_INFO_origin r.group 0
      (s1.fld F.FC_G_CAP_INFO_origin r.group 0 ||| v.origin)
  else s1

/-- The capture of a group (R364), and the first error of the stack. -/
def State.captureEv (s : State) (v : FaultEv) : State :=
  let g := v.group
  let s1 :=
    if s.fldB F.FC_G_CAP_INFO_valid g 0 then s.addFld F.FC_G_CAP_INFO_more g 0 1
    else
      ((((((((s.setFld F.FC_G_CAP_INFO_valid g 0 1).setFld F.FC_G_CAP_INFO_origin g 0 v.origin).setFld
        F.FC_G_CAP_INFO_access g 0 v.access).setFld F.FC_G_CAP_INFO_source g 0 v.src).setFld F.FC_G_CAP_INFO_master g 0
        v.master).setFld F.FC_G_CAP_INFO_merged g 0 0).setFld F.FC_G_CAP_INFO_more g 0 0).setFld F.FC_G_CAP_ADDR_addr g 0
        v.addr).setFld F.FC_G_CAP_TIME_ns g 0 s.tb
  if s1.fldB F.FC_FIRST_valid 0 0 then s1
  else
    (((s1.setFld F.FC_FIRST_valid 0 0 1).setFld F.FC_FIRST_group 0 0 g).setFld F.FC_FIRST_source 0 0 v.src).setFld
      F.FC_FIRST_TIME_ns 0 0 s.tb

/-- Count an event in its window (R363): whether it is severe. DEDUCED, unsafe (log 113). -/
def State.countEv (s : State) (v : FaultEv) : Bool × State :=
  let k := v.group * 8 + v.src
  let n := max 1 (s.fld F.FC_G_SRC_CFG_n v.group v.src)
  let w := clampNat 1 4000000 (s.fld F.FC_G_SRC_WIN_w_us v.group v.src) * 1000
  let since := smapGet 0 s.fc.win k
  let runs := since != 0 && decide (s.tb ≤ since - 1 + w)
  let c := if runs then s.fld F.FC_G_SRC_COUNT_count v.group v.src + 1 else 1
  if n ≤ c then
    (true, ({ s with fc := { s.fc with win := smapErase s.fc.win k } }.setFld F.FC_G_SRC_COUNT_count v.group v.src 0).latch
      F.FC_G_SEVERE_source v.group v.src)
  else
    (false, { s with fc := { s.fc with win := smapInsert s.fc.win k (if runs then since else s.tb + 1) } }.setFld
      F.FC_G_SRC_COUNT_count v.group v.src c)

/-- The reaction that runs on the very block an event names (R367). -/
def State.runsOn (s : State) (v : FaultEv) : Option React :=
  s.fc.reacts.find? fun r => s.reactRuns r && r.block == blockOf v

/-- A higher level takes over from the point the running reaction has reached (R367). -/
def State.raiseLevel (s : State) (r : React) (v : FaultEv) (lvl : Nat) (severe : Bool) : State :=
  let s1 := s.notifyHost v
  if lvl = 4 then s1.haltFault v (v.group == 49 && v.src == 1)
  else
    { s1 with fc := { s1.fc with reacts := s1.fc.reacts.map fun (x : React) =>
        if x = r then { x with level := lvl, severe := x.severe || severe } else x } }

/-- An event that is neither consequential nor nested: latched, captured, counted, reacted to. -/
def State.takeEv (s : State) (v : FaultEv) : State :=
  let s1 := if bitOf v.origin 0 then s.latch F.FC_G_REAL_source v.group v.src else s
  let s2 := (if bitOf v.origin 1 then s1.latch F.FC_G_FORCED_source v.group v.src else s1).captureEv v
  let c := if bitOf v.origin 0 || s.fldB F.FC_CFG_count_forced 0 0 then s2.countEv v else (false, s2)
  let code := if c.1 then s.fld F.FC_G_SRC_CFG_severe v.group v.src else s.fld F.FC_G_SRC_CFG_event v.group v.src
  match s.runsOn v with
  | none => c.2.react v code c.1
  | some r =>
    let lvl := groupLevel v.group v.src code
    if lvl ≤ r.level then c.2 else c.2.raiseLevel r v lvl c.1

/-- FAULT_EVENT_ACCEPT. -/
def State.acceptEvent (s : State) : State :=
  match nextEv s.faults with
  | none => s
  | some v =>
    let s1 := { s with faults := s.faults.erase v }
    match s.mergesInto v with
    | some r => s1.mergeEv v r
    | none => s1.takeEv v
def execFaultEventAccept (s : State) : Outcome State Fault Refusal := .next s.acceptEvent

/-! ## The end of a fence and of a shadow -/

/-- A fence is in progress. -/
def State.fencing (s : State) : Bool := s.fc.reacts.any fun r => decide (r.stage = .fencing)

/-- FENCE_COMPLETE: the master's bit is set, the tick unit takes it as DRAINED, what it held is reclaimed; then RESET_BLOCK switches
the domain off, unless a HALT is due; an engine fenced by a severe CONTAIN is retired. DEDUCED, unsafe (log 108). -/
def State.fenceDone (s : State) (m : Nat) : State :=
  match s.fc.reacts.find? fun r => decide (r.stage = .fencing) && r.party == m with
  | none => s
  | some r =>
    if !s.fenceClear m then s
    else
      let s1 := if s.tk.fenced.contains m && (smapFind s.tk.fencedAt m).isNone then
          { s with tk := { s.tk with fencedAt := smapInsert s.tk.fencedAt m (s.tb - s.tk.simAt + 1) } } else s
      let s2 := s1.reclaimParty m
      let s3 := s2.setFld F.FC_FENCE_master 0 0 (s2.fld F.FC_FENCE_master 0 0 ||| 2 ^ m)
      let reset := r.level == 3 && m != 34 && s.fc.haltDue.isNone
      let retire := decide (m < 34) && r.severe && r.level == 2
      let s4 := { s3 with fc := { s3.fc with
        reacts := s3.fc.reacts.map fun (x : React) => if x = r then { x with stage := if reset then .off else .ended } else x
        retired := if retire && !s3.fc.retired.contains m then s3.fc.retired ++ [m] else s3.fc.retired } }
      let s5 := if reset then s4.startOff r.dom else s4
      let s6 := if retire then s5.setFld F.GLOBAL_STATUS_engine_fenced 0 0 1 else s5
      s6.setFld F.FC_FENCE_STATUS_busy 0 0 (b2n s6.fencing)
def execFenceComplete (master : BitVec 6) (s : State) : Outcome State Fault Refusal := .next (s.fenceDone master.toNat)

/-- SHADOW_EXPIRE. -/
def execShadowExpire (group : Fin 58) (inst : BitVec 8) (s : State) : Outcome State Fault Refusal :=
  .next { s with fc := { s.fc with reacts := s.fc.reacts.filter fun r =>
    !(r.group == group.val && r.inst == inst.toNat && !s.shadowOpen r) } }

/-! ## Forced events, mesh errors (R368, R22) -/

/-- Master `m` exists on the part and is on (R3, R10). -/
def State.masterOn (s : State) (m : Nat) : Bool :=
  if m < 35 then s.engOn m
  else if 40 ≤ m ∧ m < 56 then m < 40 + dus s.part && s.domOn (37 + m)
  else if m = 56 then s.domOn 97
  else if m = 57 then s.domOn 93
  else decide (58 ≤ m) && decide (m ≤ 61)

/-- The instance a forced event names exists and is on: the ED's and the ST's are their quarters, regulation's and repair's the
channel, power's its domain or rail. DEDUCED, unsafe (log 203). -/
def State.instOn (s : State) (g src inst : Nat) : Bool :=
  if g < 34 then s.chanOn g
  else if g < 42 then s.laneOn (g - 34)
  else if g = 44 then s.masterOn inst
  else if g = 45 then inst < 4 && s.domOn (93 + inst)
  else if g = 46 then inst < 4 && s.domOn (97 + inst)
  else if g = 47 then s.domOn (77 + inst) && inst < dus s.part
  else if g = 48 then inst < 34 && s.engOn inst
  else if g = 51 then
    match src with
    | 0 => inst < 104 && domPresent s.part inst && s.domOn inst
    | 1 => inst < 8
    | _ => true
  else if g = 54 ∨ g = 56 then s.chanOn inst
  else true

/-- The part has the source: the TKW-3209 has no REFCLK_B (R3, R360). -/
def State.srcOn (s : State) (g src : Nat) : Bool := (faultMap g src).isSome && !(decide (s.part = .tkw3209) && g == 57 && src == 2)

/-- The instance number an event of a group carries. -/
def instOf (g inst : Nat) : Nat := if g < 34 then g else if g < 42 then g - 34 else if g = 49 then 34 else inst

/-- FC_INJECT. -/
def State.inject (s : State) (v : Nat) : State :=
  let g := bitsOf v 8 6
  let src := bitsOf v 0 3
  let n := bitsOf v 16 8
  let s1 := ((s.setFld F.FC_INJECT_instance 0 0 n).setFld F.FC_INJECT_group 0 0 g).setFld F.FC_INJECT_source 0 0 src
  if bitOf v 31 && s.srcOn g src && s.instOn g src n then
    let p := partyOf g n n
    s1.raise { group := g, src := src, inst := instOf g n, master := if p < 62 then p else 0x3F,
               addr := s.fld F.FC_INJECT_ADDR_addr 0 0, origin := 2 }
  else s1
def execFcInject (v : Word32) (s : State) : Outcome State Fault Refusal := .next (s.inject v.toNat)

/-- MESH_CRC_ERROR: the third retry of a header or descriptor has failed; three retries are counted (event 0x72). -/
def execMeshCrcError (half : Fin 2) (descriptor : Bool) (master : BitVec 6) (s : State) : Outcome State Fault Refusal :=
  .next (if s.domOn (102 + half.val) then
    (s.occ { ev := 0x72, inst := half.val, inc := 3, master := master.toNat }).raise
      { group := 44, src := b2n descriptor, inst := master.toNat, master := master.toNat, access := 5, addr := master.toNat }
  else s)

/-! ## Reassignment and lost entries (R371, R373) -/

/-- FC_ENG_REASSIGN: the logical number of fenced engine e goes to idle engine t. DEDUCED, unsafe (log 115). -/
def State.reassign (s : State) (v : Nat) : State :=
  let e := bitsOf v 0 6
  let t := bitsOf v 8 6
  let s1 := (s.setFld F.FC_ENG_REASSIGN_fenced 0 0 e).setFld F.FC_ENG_REASSIGN_target 0 0 t
  if !bitOf v 31 then s1
  else if !(decide (e < 34) && bitOf (s.fld F.FC_FENCE_master 0 0) e) then s1.setFld F.FC_ENG_REASSIGN_result 0 0 2
  else if !(decide (t < 34) && s.engStopped t && !(s.eng t).fenced && s.fldB F.CE_CTRL_imem_lock t 0 &&
      s.fld F.CE_ID_logical t 0 == 0x3F) then s1.setFld F.FC_ENG_REASSIGN_result 0 0 1
  else
    (((s1.setFld F.CE_ID_logical t 0 (s.fld F.CE_ID_logical e 0)).setFld F.CE_ID_logical e 0 0x3F).setFld
      F.FC_ENG_REASSIGN_result 0 0 0)
def execFcEngReassign (v : Word32) (s : State) : Outcome State Fault Refusal := .next (s.reassign v.toNat)

/-- ED_FIX_RETIRE: the entry is invalid and its index out of allocation until the next cold reset. -/
def State.edFix (s : State) (i : Nat) (retire : Bool) : State :=
  let s1 := s.setFld F.FC_ED_FIX_index 0 0 i
  let v : Word64 := BitVec.ofNat 64 (s.fld F.FC_ED_FIX_VAL_entry 0 0)
  if !s.ed.quar.contains i then s1.setFld F.FC_ED_FIX_result 0 0 1
  else if !retire && (!entValid v || entK v == 7) then s1.setFld F.FC_ED_FIX_result 0 0 2
  else
    let w := if retire then entPut (s.entry i) 53 1 0 else v
    let s2 := (s1.setEntry i w).setFld F.FC_ED_FIX_result 0 0 0
    { s2 with ed := { s2.ed with
        quar := s2.ed.quar.filter (· != i), free := freeDrop s2.ed.free i
        retired := if retire then s2.ed.retired ++ [i] else s2.ed.retired } }
def execEdFixRetire (index : BitVec 21) (s : State) : Outcome State Fault Refusal := .next (s.edFix index.toNat true)
def execEdFixWrite (index : BitVec 21) (s : State) : Outcome State Fault Refusal := .next (s.edFix index.toNat false)

/-! ## Scratch copies into the Negative (R377) -/

/-- The Negative (R376): device area of logical channel 0, and one word of it. -/
def negAddr (off : Nat) : Nat := devAddr 0 (0x1000000 + off)

/-- SCRATCH_DUMP. -/
def execScratchDump (s : State) : Outcome State Fault Refusal := .next (s.setFld F.FC_DUMP_CTRL_busy 0 0 1)

/-- The scratch of engine `e` is copied into its slot; in HALT every engine that is on has stopped.
DESIGN CHOICE, unsafe (log 114). -/
def State.dumpScratch (s : State) (e : Nat) : State :=
  if s.engStopped e || (s.mode == 7 && s.engOn e) then
    let wa := negAddr (0x200000 + 0x20000 * e)
    s.worldPut wa e (s.rdScratch e 0 131072)
  else s

/-- SCRATCH_DUMP_COMPLETE: every engine that is STOPPED or FENCED has been copied. -/
def execScratchDumpComplete (s : State) : Outcome State Fault Refusal :=
  .next (if s.fldB F.FC_DUMP_CTRL_busy 0 0 then
    ((List.range 34).foldl (fun s e => s.dumpScratch e) s).setFld F.FC_DUMP_CTRL_busy 0 0 0 else s)

end Sys2Proof.Machine
end

