-- ==== Sys2Proof/Machine/Thermal.lean ====
section
/-!
DEFINITION. The power manager (spec/13): temperatures, the model and canary estimates, suspect dies (R338 to R344), the thermal
ladder and the trip (R345, R346), monitors (R340, R341, R385), engine voltages, the power cap (R347, R348) and the deadline
governor (R349 to R354).
-/

namespace Sys2Proof.Machine
open Host

/-! ## What is shown of the temperatures (R338, R339) -/

/-- A temperature as a register shows it: whole degrees, signed, eight bits. -/
def tempByte (t : Int) : Nat := ofSigned 8 (max (-127) (min 127 (t / degree)))

/-- PWR_TEMP of a position. -/
def State.showTemp (s : State) (p : Nat) : State :=
  let d := s.die p
  (((s.setFld F.PWR_TEMP_reported p 0 (tempByte (s.reported p))).setFld F.PWR_TEMP_canary p 0
    (match d.canary with | some k => tempByte (k * degree) | none => 0x80)).setFld F.PWR_TEMP_model p 0 (tempByte d.model)).setFld
    F.PWR_TEMP_sensor p 0 (match d.sensor p with | some v => tempByte v | none => 0x80)
def State.showTemps (s : State) : State := (diesOf s.part).foldl (fun s p => s.showTemp p) s

/-- One reading: outside −40 °C to 150 °C its sensor has failed until the next cold reset. -/
def State.takeReading (s : State) (r : SensorReading) : State :=
  let p := r.die.val
  let k := r.sensor.val
  let d := s.die p
  if !diePresent s.part p || sensorsOf p ≤ k then s
  else if r.quarters < -160 ∨ 600 < r.quarters then
    s.setDie p { d with failed := if d.failed.contains k then d.failed else d.failed ++ [k] }
  else s.setDie p { d with sens := smapPut 0 d.sens k r.quarters }

/-! ## Suspect dies (R344) -/

/-- The die is declared suspect. -/
def State.declare (s : State) (p : Nat) : State :=
  if bitOf (s.fld F.PWR_SUSPECT_die 0 0) p then s
  else (s.setFld F.PWR_SUSPECT_die 0 0 (s.fld F.PWR_SUSPECT_die 0 0 + 2 ^ p)).raise { group := 50, src := 1, addr := p }

/-- A die whose sensors have all failed is suspect at once. -/
def State.declareBlind (s : State) : State :=
  (diesOf s.part).foldl (fun s p => if ((s.die p).sensor p).isNone then s.declare p else s) s

/-- The 1-ms judgment of a die. DESIGN CHOICE, unsafe (log 119). -/
def State.judge (s : State) (p : Nat) : State :=
  let d := s.die p
  match d.sensor p with
  | none => (s.setDie p { d with above := 0, below := 0 }).declare p
  | some v =>
    let e := d.guess - v
    let d1 := { d with above := if 8 * degree < e then d.above + 1 else 0, below := if e ≤ 4 * degree then d.below + 1 else 0 }
    if bitOf (s.fld F.PWR_SUSPECT_die 0 0) p then
      if 1000 ≤ d1.below then
        (s.setDie p { d1 with above := 0, below := 0 }).setFld F.PWR_SUSPECT_die 0 0 (s.fld F.PWR_SUSPECT_die 0 0 - 2 ^ p)
      else s.setDie p d1
    else if 3 ≤ d1.above then (s.setDie p { d1 with below := 0 }).declare p
    else s.setDie p { d1 with below := 0 }

/-! ## The model and the canaries (R342, R343) -/

/-- The temperature a position tends to: between its neighbours, raised by its power (in units of 10 mW). -/
def State.steady (s : State) (p power : Nat) : Int :=
  let up := s.reported (p + 1)
  let dn := s.reported (p - 1)
  let gu : Int := Config.thermUp p
  let gd : Int := Config.thermDown p
  let base := if p = 0 then up else if !diePresent s.part (p + 1) || p = 17 then dn else (gd * dn + gu * up) / (gd + gu)
  base + (Config.thermHeat p * power : Nat)

/-- The power in µW that monitor `i` shows (R341): its current times its rail's voltage. The LDOs are fed from VIN_CORE (R26). -/
def State.monitorUw (s : State) (i : Nat) : Nat :=
  s.pwr.amps.getD i 0 * s.fld F.PWR_RAIL_mv (if i < 104 then 0 else if i < 109 then i - 103 else 6) 0

/-- Stack power in units of 10 mW (R341). DESIGN CHOICE, unsafe (log 121). -/
def State.stackPower (s : State) : Nat := ((List.range 109).map s.monitorUw).sum / 10000

/-- Commands the channels of a die position were given (R342). -/
def State.dieCmds (s : State) (p : Nat) : Nat := ((dieChans p).map fun c => (s.chan c).cmds).sum

/-- The power of a die position in units of 10 mW (R342): the switched logic domains and the always-on domain for the base die; for
a DRAM or spare die its channels' share of VDD_DRAM and VPP by their command counts. -/
def State.diePower (s : State) (p : Nat) : Nat :=
  if p = 0 then (((List.range 104).map s.monitorUw).sum + s.monitorUw 109) / 10000
  else
    let w := s.monitorUw 105 + s.monitorUw 106
    let all := ((diesOf s.part).map s.dieCmds).sum
    if all = 0 then Config.idleShare p (w / 10000) else w * s.dieCmds p / (all * 10000)

/-- One step of 1 ms; a canary estimate not renewed in 256 ms is none. -/
def State.modelStep (s : State) (p : Nat) : Die :=
  let d := s.die p
  { d with
    model := d.model + (s.steady p (s.diePower p) - d.model) / (Config.thermTau p : Nat)
    canary := if d.checked = 0 ∨ d.checked - 1 + 256000000 < s.tb then none else d.canary }

/-- THERMAL_MODEL_UPDATE: `amps` gives the currents measured (R341); every estimate advances by 1 ms, and command counts start anew.
DESIGN CHOICE, unsafe (log 121). -/
def State.thermalModel (s : State) (amps : List Nat) : State :=
  let ps := diesOf s.part
  let s0 : State := { s with pwr := { s.pwr with amps := amps } }
  let s1 := ps.foldl (fun a p => a.setDie p (s0.modelStep p)) s0
  let s2 := s0.chans.foldl (fun a e => a.setChan e.1 { a.chan e.1 with cmds := 0 }) s1
  (ps.foldl (fun s p => s.judge p) s2).showTemps
def execThermalModelUpdate (amps : List Nat) (s : State) : Outcome State Fault Refusal := .next (s.thermalModel amps)

/-- The channels of a die whose canaries are checked: those neither off nor in self-refresh (R343). -/
def State.canaryChans (s : State) (p : Nat) : List Nat := (dieChans p).filter fun c => s.chanOn c && s.fld F.CH_ID_state c 0 != 3

/-- Canary row `i` of one of the channels checked lost a bit; bit i of `lost` speaks of the die's first channel, bit 8 + i of its
second. -/
def State.canaryLost (s : State) (p lost i : Nat) : Bool :=
  (s.canaryChans p).any fun c => bitOf lost (if (dieChans p).head? = some c then i else 8 + i)

/-- CANARY_CHECK: the rows of the channels checked are read and rewritten, in slots of their own (R261), and the highest threshold among
rows that lost a bit is the estimate. DESIGN CHOICE, unsafe (log 117). -/
def State.canaryCheck (s : State) (p lost : Nat) : State :=
  if (s.canaryChans p).isEmpty then s
  else
    let k := (List.range 8).foldl (fun (a : Option Int) (i : Nat) =>
      if s.canaryLost p lost i then some (75 + 5 * (i : Int)) else a) none
    let s1 := (s.canaryChans p).foldl (fun a c => a.setChan c { a.chan c with
      slotsLeft := (a.chan c).slotsLeft + 16, cmds := (a.chan c).cmds + 16 }) s
    (s1.setDie p { s1.die p with canary := k, checked := s.tb + 1 }).showTemp p
def execCanaryCheck (die : Fin 18) (lost : BitVec 16) (s : State) : Outcome State Fault Refusal :=
  .next (s.canaryCheck die.val lost.toNat)

/-! ## Engine voltages (R353, R354): domain 34 is the SV -/

def State.vCode (s : State) (e : Nat) : Nat := if e = 34 then s.fld F.PWR_SV_v_code 0 0 else s.fld F.PWR_CE_v_code e 0
def State.setV (s : State) (e v : Nat) : State :=
  if e = 34 then s.setFld F.PWR_SV_v_code 0 0 v else s.setFld F.PWR_CE_v_code e 0 v
def State.goalOf (s : State) (e : Nat) : Nat := smapGet 15 s.pwr.goal e
def State.setGoal (s : State) (e v : Nat) : State := { s with pwr := { s.pwr with goal := smapPut 15 s.pwr.goal e v } }
def State.forcedLow (s : State) : Bool := s.fldB F.PWR_CAP_forced 0 0
def State.manual (s : State) (e : Nat) : Bool := e == 34 || s.fldB F.PWR_CE_manual e 0

/-- The voltage a domain is held at where the governor does not move it. DEDUCED, unsafe (log 120). -/
def State.heldCode (s : State) (e : Nat) : Nat :=
  if s.forcedLow then 0
  else if e = 34 then (if s.mode = 5 then 0 else min 30 (s.fld F.PWR_SV_set_code 0 0))
  else if s.fldB F.PWR_CE_manual e 0 then min 30 (s.fld F.PWR_CE_set_code e 0)
  else if s.mode = 3 then s.goalOf e
  else 15

/-- Every domain moves to the voltage it is held at; outside SERVE and under a forced cap no burn stands. -/
def State.settleVolts (s : State) : State :=
  let s1 := (List.range 35).foldl (fun s e => s.setGoal e (s.heldCode e)) s
  if s.forcedLow ∨ s.mode ≠ 3 then
    ({ s1 with pwr := { s1.pwr with burns := [], stepping := none } }.setFld F.PWR_GOV_STAT_limit 0 0 0).setFld
      F.GLOBAL_STATUS_gov_limit 0 0 0
  else s1

/-- PWR_CE_SET_CODE_WRITE: a write of PWR_CEee, or of PWR_SV for domain 34; a code above 30 is clamped. A domain made manual is burned no
more. -/
def State.pwrCeWrite (s : State) (e v : Nat) : State :=
  let code := min 30 (bitsOf v 8 5)
  let s1 :=
    if e = 34 then s.setFld F.PWR_SV_set_code 0 0 code
    else ((s.setFld F.PWR_CE_manual e 0 (bitsOf v 18 1)).setFld F.PWR_CE_prio e 0 (bitsOf v 16 2)).setFld F.PWR_CE_set_code e 0 code
  let s2 := s1.setGoal e (s1.heldCode e)
  if s2.manual e then { s2 with pwr := { s2.pwr with burns := s2.pwr.burns.filter fun b => b.e != e } } else s2
def execPwrCeSetCodeWrite (e : Fin 35) (v : Word32) (s : State) : Outcome State Fault Refusal := .next (s.pwrCeWrite e.val v.toNat)

/-! ## The thermal ladder (R345) -/

/-- Above which temperature a step rises, and at or below which it falls. -/
def riseAt (k : Nat) : Int := match k with | 1 => 85 | 2 => 95 | 3 => 100 | _ => 105
def fallAt (k : Nat) : Int := match k with | 1 => 82 | 2 => 92 | _ => 97

/-- Of steps 1 to 3, the one in force for a die at temperature `t` that stood at step `old`. -/
def heatStep (old : Nat) (t : Int) : Nat :=
  ((List.range' 1 3).filter fun k => riseAt k * degree < t || (k ≤ old && fallAt k * degree < t)).foldl max 0

/-- A die's step and its step 4, which does not fall by itself, and one event for each of steps 2, 3 and 4 that has risen.
DEDUCED, unsafe (log 118). -/
def State.ladderDie (s : State) (p : Nat) : State :=
  let d := s.die p
  let n := heatStep d.step (s.reported p)
  let hot := decide (riseAt 4 * degree < s.reported p)
  let risen := (List.range' 2 2).filter (fun k => d.step < k && k ≤ n) ++ (if hot && !d.hot then [4] else [])
  risen.foldl (fun s k => s.raise { group := 50, src := 0, addr := p + 256 * k })
    (s.setDie p { d with step := n, hot := d.hot || hot })

/-- The channels whose classes C4 to C7 the dies throttle. -/
def State.heatThrottle (s : State) : Nat :=
  bitSet ((List.range 34).filter fun c => 2 ≤ (s.die 0).step || 2 ≤ (s.die (diePos c)).step)

/-- The throttle in force, by the ladder and by the cap (R348). DEDUCED, safe (log 58). -/
def State.setThrottle (s : State) : State :=
  let m := if s.pwr.capThrottle then 2 ^ 34 - 1 else s.heatThrottle
  { s with throttle := m }.setFld F.GLOBAL_STATUS_throttled 0 0 (b2n (m != 0))

/-- Step 1: the doubled refresh rate is asked of the die's channels. -/
def State.askDouble (s : State) : State :=
  (List.range 34).foldl (fun s c =>
    s.setChan c { s.chan c with wantDouble := 1 ≤ (s.die (diePos c)).step }) s

/-- The highest of steps 1 to 3 in force, and of all. -/
def State.topHeat (s : State) : Nat := (diesOf s.part).foldl (fun a p => max a (s.die p).step) 0
def State.topStep (s : State) : Nat := if (diesOf s.part).any fun p => (s.die p).hot then 4 else s.topHeat

/-- The position with the highest reported temperature; of equals the lowest. -/
def State.hottest (s : State) : Nat :=
  (diesOf s.part).foldl (fun a p => if s.reported a < s.reported p then p else a) 0

/-- Step 3 forces the cap and every voltage down while it is in force. -/
def State.forceCap (s : State) (on : Bool) : State :=
  if s.forcedLow = on then s else (s.setFld F.PWR_CAP_forced 0 0 (b2n on)).settleVolts

/-- THERM_N is released, where no trip has acted, when every die is at or below 95 °C. -/
def State.thermRelease (s : State) : State :=
  if !s.pwr.tripped && s.fldB F.PWR_LADDER_therm_n 0 0 && (diesOf s.part).all fun p => s.reported p ≤ 95 * degree then
    ((diesOf s.part).foldl (fun s p => s.setDie p { s.die p with hot := false }) s).setFld F.PWR_LADDER_therm_n 0 0 0
  else s

/-- A die stands above 105 °C: THERM_N is asserted, and in any mode from FOCUS on HALT must take effect (R217). -/
def State.overheat (s : State) : State :=
  if (diesOf s.part).any fun p => riseAt 4 * degree < s.reported p then
    let s1 := s.setFld F.PWR_LADDER_therm_n 0 0 1
    if s.mode = 0 ∨ s.mode = 7 then s1 else s1.haltFor .overheat false
  else s

/-- THERMAL_LADDER_EVALUATION, every 100 µs. -/
def State.thermalLadder (s : State) (rs : List SensorReading) : State :=
  if s.inReset then s
  else
    let s1 := (rs.foldl (fun s r => s.takeReading r) s).declareBlind.showTemps
    let s2 := ((diesOf s.part).foldl (fun s p => s.ladderDie p) s1).thermRelease
    let top := s2.topStep
    let s3 := ((s2.askDouble).setThrottle.forceCap (3 ≤ s2.topHeat)).setFld F.PWR_LADDER_hottest 0 0 s2.hottest
    (s3.setFld F.PWR_LADDER_step 0 0 (if s3.pwr.tripped then 5 else top)).overheat
def execThermalLadderEvaluation (readings : List SensorReading) (s : State) : Outcome State Fault Refusal :=
  .next (s.thermalLadder readings)

/-- Row protection is enabled again on the exit from MAINT (R280).
DESIGN CHOICE, unsafe (log 166). -/
def State.leaveMaint (s : State) (m : Nat) : State :=
  if s.mode = 6 ∧ m ≠ 6 then (List.range 34).foldl (fun s c => s.setFld F.CH_RP_CTRL_enable c 0 1) s else s

/-- Every channel goes into self-refresh, whatever ranges it holds (R286, R346). The training of one that trains is given up: it is trained
when it is woken. DEDUCED, unsafe (log 190). -/
def State.sleepAll (s : State) : State :=
  (List.range 34).foldl (fun s c =>
    let st := s.fld F.CH_ID_state c 0
    if s.chanOn c ∧ (st = 2 ∨ st = 5) then s.enterSr c
    else if s.chanOn c ∧ st = 1 then { s with trn := smapPut trn0 s.trn c { smapGet trn0 s.trn c with gathering := false } }.enterSr c
    else s) s

/-- THERMAL_TRIP (R346): every output is quiesced and the stack is in HALT, from any mode, without any step of R233 (R234); the domains
that HALT holds on come on (R218). Where it was in HALT already, that is no entry into it (R376). -/
def State.thermalTrip (s : State) (p : Nat) : State :=
  if s.inReset || s.pwr.tripped || !diePresent s.part p then s
  else
    let s1 := (List.range 9).foldl (fun s l => if l < 8 && !s.laneOn l then s else s.laneIdle l 0 1) s
    let s2 := s1.sleepAll.domainsHalt.leaveMaint 7
    let s3 := (List.range 34).foldl (fun s e => s.setFld F.CE_CTRL_run e 0 0) s2
    let s4 := { s3 with
      fc := { s3.fc with haltDue := none, noDump := false, keepOpen := false, halt := none }
      mg := { s3.mg with reset := s3.mg.reset.filter fun r => r.1 == 0 }
      pwr := { s3.pwr with tripped := true }, ppsHigh := 0, st := { s3.st with builds := [] }, pm := { s3.pm with sheet := none, sheetAsk := none } }
    let s5 := (if s4.change.isSome then s4.changeEnd 3 0x30 else s4).longEnd 0x30
    let s6 := if s.mode = 7 then s5 else s5.setFld F.FC_DUMP_SEQ_seq 0 0 (s5.fld F.FC_DUMP_SEQ_seq 0 0 + 1)
    ((((s6.setFld F.PWR_LADDER_therm_n 0 0 1).setFld F.PWR_LADDER_step 0 0 5).setFld F.GLOBAL_MODE_mode 0 0 7).setFld
      F.GLOBAL_MODE_busy 0 0 0).settleVolts.raise { group := 50, src := 2, addr := p }
def execThermalTrip (die : Fin 18) (s : State) : Outcome State Fault Refusal := .next (s.thermalTrip die.val)

/-! ## Monitors (R340, R341, R385) -/

/-- Idle slots of a category: 2 × idle ns × rate, its thousandths kept for the next measurement. -/
def State.idleSlots (s : State) (e k ns rate : Nat) : State :=
  let key := e * 8 + k
  let n := 2 * ns * rate + smapGet 0 s.pm.idle key
  ({ s with pm := { s.pm with idle := smapPut 0 s.pm.idle key (n % 1000) } }).setFld F.PM_TD_slots e k
    ((s.fld F.PM_TD_slots e k + n / 1000) % 2 ^ 64)

/-- DELAY_LINE_MEASURE: the rate in M tokens/s; the idle ns of categories 2 to 7 since the last measurement, as the strands' states
showed them, become slots (R385). -/
def State.delayLine (s : State) (e rate : Nat) : State :=
  if s.engOn e then
    let s1 := (List.range 6).foldl (fun s k => s.idleSlots e (k + 2) (smapGet 0 s.pm.held (e * 8 + (k + 2))) rate)
      (s.setFld F.PWR_DLM_rate e 0 rate)
    { s1 with pm := { s1.pm with held := smapDrop s1.pm.held (e * 8) (e * 8 + 8) } }
  else s
def execDelayLineMeasure (e : Fin 35) (rate : BitVec 16) (_ : List Nat) (s : State) : Outcome State Fault Refusal :=
  .next (s.delayLine e.val rate.toNat)

/-- LDO_MONITOR: the output of a switched domain that is on has been below 95 % of its setpoint for more than 2 µs. -/
def execLdoMonitor (domain : Fin 104) (s : State) : Outcome State Fault Refusal :=
  .next (if s.domOn domain.val && domPresent s.part domain.val then
    s.raise { group := 51, src := 0, inst := domain.val, addr := domain.val } else s)

/-- The operating window of a rail in mV (R401). -/
def railWindow (r : Nat) : Nat × Nat :=
  match r with
  | 0 => (922, 978)
  | 1 => (825, 875)
  | 2 => (1067, 1133)
  | 3 => (1710, 1890)
  | 4 => (728, 772)
  | 5 => (1164, 1236)
  | 6 => (760, 840)
  | _ => (1710, 1890)

/-- RAIL_MONITOR: one event for a rail that has been outside its window for more than 100 µs. -/
def State.railMonitor (s : State) (r mv : Nat) : State :=
  let s1 := s.setFld F.PWR_RAIL_mv r 0 mv
  let put (x : Option (Nat × Bool)) : State :=
    { s1 with pwr := { s1.pwr with railOut := match x with
        | some y => smapInsert s1.pwr.railOut r y
        | none => smapErase s1.pwr.railOut r } }
  if (railWindow r).1 ≤ mv ∧ mv ≤ (railWindow r).2 then put none
  else
    match smapFind s1.pwr.railOut r with
    | none => put (some (s.tb, false))
    | some (t, told) =>
      if !told && decide (t + 100000 < s.tb) then
        ((put (some (t, true))).setFld F.PWR_RAIL_out r 0 1).raise { group := 51, src := 1, inst := r, addr := r }
      else s1
def execRailMonitor (rail : Fin 8) (mv : BitVec 16) (s : State) : Outcome State Fault Refusal :=
  .next (s.railMonitor rail.val mv.toNat)

/-! ## Dodges and donors (R347, R352) -/

/-- A domain whose voltage can still be taken down by the governor or the cap. -/
def State.dodgeable (s : State) (e : Nat) : Bool := s.engOn e && !s.manual e && 0 < s.goalOf e

/-- One dodge step. -/
def State.dodge (s : State) (e : Nat) : State := (s.setGoal e (s.goalOf e - 1)).occ { ev := 0x7D, inst := e }

/-- Donor `a` is taken before donor `b`: lowest priority, then largest slack, then highest number. -/
def State.donorBefore (s : State) (a b : Nat) : Bool :=
  let pa := s.fld F.PWR_CE_prio a 0
  let pb := s.fld F.PWR_CE_prio b 0
  let sa := smapGet 0 s.pwr.slack a
  let sb := smapGet 0 s.pwr.slack b
  pa < pb || (pa == pb && (sb < sa || (sa == sb && b < a)))

/-- The first of the listed domains in donor order. -/
def State.firstDonor (s : State) (l : List Nat) : Option Nat :=
  l.foldl (fun (a : Option Nat) (e : Nat) => match a with
    | none => some e
    | some b => some (if s.donorBefore e b then e else b)) none

/-- A donor for a burn: its slack at the last commit exceeded the target. -/
def State.burnDonor (s : State) (e : Nat) : Option Nat :=
  s.firstDonor ((List.range 34).filter fun d => d != e && s.dodgeable d &&
    (match smapFind s.pwr.slack d with
      | some x => decide ((s.fld F.PWR_GOV_target_us 0 0 * 1000 : Nat) < x)
      | none => false))

/-- The domain dodged over the cap: a CE in donor order, the SV last. -/
def State.capDonor (s : State) : Option Nat :=
  match s.firstDonor ((List.range 34).filter fun d => s.dodgeable d) with
  | some d => some d
  | none => if 0 < s.goalOf 34 then some 34 else none

/-! ## Burns (R347, R350 to R352, R354) -/

/-- The cap in force, in units of 10 mW. DESIGN CHOICE, unsafe (log 124). -/
def State.capUnits (s : State) : Nat := if s.forcedLow then 4000 else 100 * clampNat 40 90 (s.fld F.PWR_CAP_cap_w 0 0)

/-- The token rate at code `k`, in a common unit: linear between 0.60, 0.75 and 0.90 V. -/
def rateOf (k : Nat) : Nat := if k ≤ 15 then 9300 + 380 * k else 15000 + 300 * (k - 15)

/-- A step from code `k` of a domain that draws `p` µW is admitted: the average plus its predicted increase stays at or below the cap,
both in units of 10 mW (R347). -/
def admits (avg cap p k : Nat) : Bool :=
  let d := (60 + k) ^ 2 * rateOf k
  10000 * avg * d + p * ((61 + k) ^ 2 * rateOf (k + 1) - d) ≤ 10000 * cap * d

/-- `limit` is set while a burn waits or has been refused; it clears when no burn is left. -/
def State.showLimit (s : State) (refused : Bool) : State :=
  let on := s.pwr.burns.length != 0 && (refused || s.fldB F.PWR_GOV_STAT_limit 0 0 || 1 < s.pwr.burns.length)
  (s.setFld F.PWR_GOV_STAT_limit 0 0 (b2n on)).setFld F.GLOBAL_STATUS_gov_limit 0 0 (b2n on)

/-- The burns without those that have no step left, or whose engine stands at the highest code, is manual or is off. -/
def State.burnsLeft (s : State) : List Burn :=
  s.pwr.burns.filter fun b => b.left != 0 && decide (s.goalOf b.e < 30) && !s.manual b.e && s.engOn b.e

/-- The power domain of engine `e` (R355); 34 is the SV. -/
def engDom (e : Nat) : Nat := if e = 34 then 101 else e

/-- The next step of the first burn: admitted by the domain's measured power (R341), or refused and a donor dodged. Outside SERVE the
governor is idle. -/
def State.nextBurn (s : State) : State :=
  if s.pwr.stepping.isSome || s.forcedLow || s.mode != 3 then s
  else
    match s.burnsLeft with
    | [] => { s with pwr := { s.pwr with burns := [] } }.showLimit false
    | b :: rest =>
      let k := s.goalOf b.e
      if admits (s.fld F.PWR_POWER_avg 0 0) s.capUnits (s.monitorUw (engDom b.e)) k then
        ((({ s with pwr := { s.pwr with stepping := some b.e, burns := { b with left := b.left - 1, refused := false } :: rest } }).setGoal
          b.e (k + 1)).occ { ev := 0x7C, inst := b.e }).showLimit false
      else
        let s0 : State := { s with pwr := { s.pwr with burns := { b with refused := true } :: rest } }
        let s1 := (s0.addFld F.PWR_GOV_STAT_refused 0 0 1).showLimit true
        match s1.burnDonor b.e with
        | some d => ({ s1 with pwr := { s1.pwr with stepping := some d } }).dodge d
        | none => s1

/-- Insert a burn in ascending order of slack. -/
def burnInsert (b : Burn) : List Burn → List Burn
  | [] => [b]
  | x :: l => if b.slack < x.slack then b :: x :: l else x :: burnInsert b l

/-- `max_burn`, 0 acting as 1. -/
def State.maxBurn (s : State) : Nat := max 1 (s.fld F.PWR_GOV_max_burn 0 0)

/-- The fewest steps that give the speed `done / room`, at most `most`; `most` where none of them does. -/
def burnSteps (k done room most : Nat) : Nat :=
  ((List.range' 1 most).find? fun n => decide (rateOf k * done ≤ rateOf (k + n) * room)).getD most

/-- What the governor does with one engine. -/
inductive Gov where
  | hold
  | dodge
  | burn (n : Nat) (slack : Int)

/-- What the governor asks of engine `e` after a commit (R349, R350, R352, R353). -/
def State.govern (s : State) (e : Nat) : Gov :=
  let w : Nat := s.tk.dl - s.tk.ing
  let t := s.fld F.PWR_GOV_target_us 0 0 * 1000
  let b := s.fld F.PWR_GOV_band_us 0 0 * 1000
  let done := s.fld F.TK_EDONE_ns e 0
  let slack : Int := (w : Int) - done
  if s.manual e || !s.engOn e then .hold
  else if !s.fldB F.TK_EDONE_counted e 0 then .dodge
  else if s.fldB F.TK_EDONE_fenced e 0 then .hold
  else if slack < t then .burn (burnSteps (s.goalOf e) done (w - t) s.maxBurn) slack
  else if (t + b : Nat) < slack then .dodge
  else .hold

/-- The slack of each counted engine at this commit. -/
def State.takeSlack (s : State) : State :=
  let w : Nat := s.tk.dl - s.tk.ing
  let l := (List.range 34).filter fun e => s.fldB F.TK_EDONE_counted e 0
  { s with pwr := { s.pwr with slack := l.map fun e => (e, (w : Int) - s.fld F.TK_EDONE_ns e 0) } }

/-- GOVERNOR_EVALUATE: after a commit in SERVE. Dodges first, then burns in ascending order of slack; a burn still refused is
dropped, one that waits its turn or is part done stays where its engine is to hold. DESIGN CHOICE, unsafe (log 122). -/
def State.governor (s : State) : State :=
  if !(s.mode == 3 && s.tk.govDue) then s
  else
    let s0 := { s with tk := { s.tk with govDue := false } }
    if !s.fldB F.PWR_CTRL_gov_en 0 0 then s0
    else
      let s1 := s0.takeSlack
      let s2 := (List.range 34).foldl (fun a e => match s1.govern e with
        | .dodge => if a.dodgeable e then a.dodge e else a
        | _ => a) s1
      let burns := (List.range 34).foldl (fun l e => match s1.govern e with
        | .burn n x => if s.forcedLow then l else burnInsert ⟨e, n, x, false⟩ l
        | _ => l) (s1.burnsLeft.filter fun b => !b.refused && (match s1.govern b.e with | .hold => true | _ => false))
      ({ s2 with pwr := { s2.pwr with burns := burns } }).nextBurn
def execGovernorEvaluate (s : State) : Outcome State Fault Refusal := .next s.governor

/-- Deadline burns (R351): each counted engine that has not reported DONE at S(N) + D. -/
def State.deadlineBurn (s : State) : State :=
  if s.mode == 3 && s.fldB F.PWR_CTRL_gov_en 0 0 && !s.forcedLow then
    let l := s.countedEngines.filter fun e => !s.manual e && s.engOn e &&
      (s.tk.counted.any fun k => k / 16 == e && (smapFind s.tk.doneAt k).isNone)
    let x : Int := (s.tk.dl - s.tk.ing : Nat) - ((s.tb - s.tk.simAt : Nat) : Int)
    let burns := l.map (fun e => (⟨e, s.maxBurn, x, false⟩ : Burn)) ++ s.pwr.burns.filter fun b => !l.contains b.e
    let s1 := { s with pwr := { s.pwr with burns := burns } }
    (s1.addFld F.PWR_GOV_STAT_deadline_burns 0 0 l.length).nextBurn
  else s

/-- COMMIT_DEADLINE_MISS (R118, R351). -/
def execCommitDeadlineMiss (s : State) : Outcome State Fault Refusal :=
  .next (if s.missDue && s.tk.slips == 0 then s.deadlineMiss.deadlineBurn else s)

/-- VOLTAGE_STEP_COMPLETE: one 10-mV step of a domain; when the domain has reached its code, the next burn step. -/
def State.voltStep (s : State) (e : Nat) : State :=
  let v := s.vCode e
  let g := s.goalOf e
  let s1 := if v < g then s.setV e (v + 1) else if g < v then s.setV e (v - 1) else s
  if s1.vCode e = g ∧ s1.pwr.stepping = some e then
    ({ s1 with pwr := { s1.pwr with stepping := none } }).nextBurn
  else s1
def execVoltageStepComplete (e : Fin 35) (s : State) : Outcome State Fault Refusal := .next (s.voltStep e.val)

/-! ## The power cap (R347, R348) -/

/-- Every engine domain that is on, and the SV, is at 0.60 V. -/
def State.allLow (s : State) : Bool := (List.range 35).all fun e => !s.engOn e || s.vCode e == 0

/-- The average is over the cap. -/
def State.overCap (s : State) : State :=
  if s.allLow then
    let at' := if s.pwr.overAt = 0 then s.tb + 1 else s.pwr.overAt
    let s1 := ({ s with pwr := { s.pwr with capThrottle := true, overAt := at', underAt := 0 } }).setThrottle
    if at' - 1 + 10000000 ≤ s.tb ∧ (s.pwr.toldAt = 0 ∨ s.pwr.toldAt - 1 + 1000000000 ≤ s.tb) then
      (({ s1 with pwr := { s1.pwr with toldAt := s.tb + 1 } }).setFld F.PWR_CAP_unattainable 0 0 1).raise
        { group := 51, src := 2, addr := 0 }
    else s1
  else { s with pwr := { s.pwr with overAt := 0, toldAt := 0, underAt := 0 } }

/-- The average is not over the cap: the throttle is released after 100 ms at or below the cap less 2 W. -/
def State.underCap (s : State) (avg : Nat) : State :=
  let at' := if s.capUnits < avg + 200 then 0 else if s.pwr.underAt = 0 then s.tb + 1 else s.pwr.underAt
  let s1 := { s with pwr := { s.pwr with overAt := 0, toldAt := 0, underAt := at' } }
  if s.pwr.capThrottle && at' != 0 && decide (at' - 1 + 100000000 ≤ s.tb) then
    ({ s1 with pwr := { s1.pwr with capThrottle := false } }).setThrottle
  else s1

/-- One domain is dodged one step every 200 µs until the average is at or below the cap less 0.5 W.
DESIGN CHOICE, unsafe (log 123). -/
def State.capDodge (s : State) (avg : Nat) : State :=
  let more := s.capUnits < avg || (s.pwr.dodgeAt != 0 && s.capUnits < avg + 50)
  if !more then { s with pwr := { s.pwr with dodgeAt := 0 } }
  else if s.pwr.dodgeAt = 0 ∨ s.pwr.dodgeAt - 1 + 200000 ≤ s.tb then
    match s.capDonor with
    | some d => ({ s with pwr := { s.pwr with dodgeAt := s.tb + 1 } }).dodge d
    | none => s
  else s

/-- The reading of stack power: within ±3 % of it (R341). -/
def State.powerReading (s : State) (v : Nat) : Nat :=
  clampNat (s.stackPower - 3 * s.stackPower / 100) (s.stackPower + 3 * s.stackPower / 100) v

/-- CAP_ENFORCE: the 1-ms average of stack power as it is read, in units of 10 mW. A burn that waits is tried again.
DESIGN CHOICE, unsafe (log 121). -/
def State.capEnforce (s : State) (v : Nat) : State :=
  let avg := s.powerReading v
  let s1 := s.setFld F.PWR_POWER_avg 0 0 avg
  let s2 := if s.capUnits < avg then s1.overCap else s1.underCap avg
  (s2.capDodge avg).nextBurn
def execCapEnforce (avg : BitVec 16) (s : State) : Outcome State Fault Refusal := .next (s.capEnforce avg.toNat)

end Sys2Proof.Machine
end

