-- ==== Sys2Proof/Machine/Training.lean ====
section
/-!
DEFINITION. Stack integrity (spec/12): training and its expert commands (R309 to R315), maintenance stalls (R314), in-place
recalibration (R329, R331), test runs (R316 to R319), repair records and their fuses (R320 to R322).
-/

namespace Sys2Proof.Machine
open Host

/-! ## Eyes and delays (R309, R310) -/

def State.trnOf (s : State) (c : Nat) : Trn := smapGet trn0 s.trn c
def State.setTrn (s : State) (c : Nat) (x : Trn) : State := { s with trn := smapPut trn0 s.trn c x }

/-- eye_min in 1/256 UI, rounded up: 0.34 + 0.003 p + 0.01 ceil(max(0, 95 − t) / 10) of a UI.
DESIGN CHOICE, unsafe (log 125). -/
def State.eyeMin (s : State) (c : Nat) : Nat :=
  let p := diePos c
  let cold := (max 0 (95 * degree - s.reported p)).toNat
  let tens := (cold + 10 * 1048576 - 1) / (10 * 1048576)
  ((340 + 3 * p + 10 * tens) * 256 + 999) / 1000

def eyeOf (m : EyeMeas) : Nat := min m.readEye.toNat m.writeEye.toNat
def eyeKey (m : EyeMeas) : Nat := lineKey (b2n m.pc) m.line.toNat
/-- The timing signals of a PC (R308): clock 44, write strobes 45 and 46, read strobes 47 and 62. DESIGN CHOICE, safe (log 177). -/
def timingLine (n : Nat) : Bool := (44 ≤ n && n < 48) || n == 62

/-- A line passes when both its eyes are at least eye_min. A timing signal passes when both its TSVs live. -/
def State.eyeOk (s : State) (c : Nat) (m : EyeMeas) : Bool :=
  if timingLine m.line.toNat then m.dead == 0 else s.eyeMin c ≤ eyeOf m

/-- Set one delay: its place is `PC × 128 + index` as CH_DLY_SEL has it. -/
def State.setDelay (s : State) (c k v : Nat) : State :=
  let x := s.trnOf c
  s.setTrn c { x with delays := smapPut 0 x.delays k v }
def State.delayOf (s : State) (c k : Nat) : Nat := smapGet 0 (s.trnOf c).delays k

/-- The last measured eye of a line (CH_TRN_EYE). -/
def State.noteEye (s : State) (c : Nat) (m : EyeMeas) : State :=
  let x := s.trnOf c
  ((s.setTrn c { x with eyes := smapInsert x.eyes (eyeKey m) m }).setFld F.CH_TRN_EYE_read c 0 m.readEye.toNat).setFld
    F.CH_TRN_EYE_write c 0 m.writeEye.toNat

/-- Set a line's deskews to the centre of its windows; `rd`, `wr`: which of them. A CA line sets its PC's CA delay. -/
def State.centre (s : State) (c : Nat) (m : EyeMeas) (rd wr : Bool) : State :=
  let n := m.line.toNat
  let k := b2n m.pc * 128
  if n < 44 then
    let old := s.delayOf c (k + n)
    let r := if rd then m.readCentre.toNat else old % 128
    let w := if wr then m.writeCentre.toNat else old / 256
    s.setDelay c (k + n) (w * 256 + r)
  else if 48 ≤ n ∧ n < 62 then (if rd then s.setDelay c (k + 64) (m.readCentre.toNat + 128 * (m.writeCentre.toNat % 2)) else s)
  else s

/-- The read gates of a channel are set: which cycles and steps, the spec does not say. -/
def State.gates (s : State) (c : Nat) : State :=
  ((s.setDelay c 65 (s.freeVal % 1024)).setDelay c 193 (s.freeVal / 1024 % 1024)).useFree

/-! ## What a failing line leads to (R312) -/

def State.lineFails (s : State) (c : Nat) (m : EyeMeas) : State :=
  let n := m.line.toNat
  let pc := b2n m.pc
  if n < 36 then s.lineDead c pc n
  else if n < 44 then s.spareDead c (8 * pc + n - 36)
  else if 48 ≤ n ∧ n < 60 then s.caDead c pc (n - 48)
  else if n = 60 ∨ n = 61 then s.spareDead c (16 + n - 60)
  else if timingLine n then
    (if m.dead.toNat = 1 then (s.steer c (lineKey pc n) n).ladderEvent c n else s.caDead c pc n)
  else s

/-- A spare TSV, data or CA. -/
def spareLine (m : EyeMeas) : Bool := let n := m.line.toNat; (36 ≤ n && n < 44) || n == 60 || n == 61

/-- The lines that fail a training: the spares first, so that no line is steered onto a spare that failed with it. -/
def State.linesFail (s : State) (c : Nat) (bad : List EyeMeas) : State :=
  (bad.filter spareLine ++ bad.filter fun m => !spareLine m).foldl (fun s m => s.lineFails c m) s

/-- The training state shown when a training has measured `ms`. -/
def State.showTraining (s : State) (c : Nat) (ms : List EyeMeas) : State :=
  let worst := (ms.filter fun m => !timingLine m.line.toNat).foldl (fun a m => min a (eyeOf m)) 255
  ((s.setFld F.CH_TRN_STAT_t_train c 0 (tempByte (s.reported (diePos c)))).setFld F.CH_TRN_STAT_worst_eye c 0 worst).setFld
    F.CH_TRN_STAT_eye_min c 0 (min 255 (s.eyeMin c))

/-- The channel has been calibrated (R329). -/
def State.calibrated (s : State) (c : Nat) : State :=
  let t := s.reported (diePos c)
  let d := s.fld F.CAL_DUE_channel 0 0
  ((s.setTrn c { s.trnOf c with calAt := s.tb, tCal := t, recal := 0 }).setFld F.CH_CAL_t_cal c 0 (tempByte t)).setFld
    F.CAL_DUE_channel 0 0 (if bitOf d c then d - 2 ^ c else d)

/-! ## Whole-channel training (R311, R315) -/

/-- A training starts: the level selected takes effect (R20). Expert commands 1, 5 and 6 start one, as does training without software.
DESIGN CHOICE, unsafe (log 178). -/
def State.takeLevel (s : State) (c : Nat) : State :=
  if s.chanOn c && !s.fldB F.CH_TRN_CMD_busy c 0 && !(s.trnOf c).gathering then
    s.setTrn c { s.trnOf c with level := s.fldB F.CH_TRN_CTRL_level c 0 }
  else s

/-- A training begins: the delays of another rate are of no use; `expert`: by CH_TRN_CMD. At the expert level nothing trains without
firmware's command (R311, R313). -/
def State.beginTraining (s : State) (c : Nat) (expert : Bool) : State :=
  let s0 := s.takeLevel c
  let x := s0.trnOf c
  let s1 := s0.setTrn c { x with gathering := expert || !x.level, recal := 0 }
  (s1.setFld F.CH_TRN_STAT_trained c 0 0).setFld F.CH_TRN_CMD_busy c 0 (b2n expert)

/-- A channel outside service takes its place when it is trained: bound, retired or an idle spare. FOCUS binds its channels
itself. -/
def State.takePlace (s : State) (c : Nat) : State :=
  if s.mode = 1 ∨ s.fld F.CH_ID_state c 0 ≠ 1 then s
  else
    let st := if (s.chan c).retiring then 4 else if (s.logicalAt c).isSome then 2 else 5
    (s.setChan c { s.chan c with idleSince := s.tb }).setFld F.CH_ID_state c 0 st

/-- A rate is applied: delays, gates and reference levels of the old rate are discarded, and the channel trains again before it is in
service. -/
def State.applyRate (s : State) (c r : Nat) : State :=
  let x := s.trnOf c
  let k := trimKey 5 (2 * c)
  let s := if s.fld F.CH_ID_state c 0 = 3 then s.exitSr c else s
  let s := if s.fld F.CH_ID_state c 0 = 2 then s.setFld F.CH_ID_state c 0 1 else s
  let s : State := { s with nv := { s.nv with trim := smapErase (smapErase s.nv.trim k) (k + 1),
                                              offset := smapErase (smapErase s.nv.offset k) (k + 1) } }
  (((s.setTrn c { x with held := none, delays := [], eyes := [], slips := [], gathering := false }).setFld
    F.CH_ID_rate c 0 r).setFld F.CH_TRN_STAT_rate_pending c 0 0).beginTraining c false

/-- CHANNEL_TRAINING_COMPLETE: the delays found are set; a line that still fails is dealt with by R312, but not where an expert
command trained. A training without software outside FOCUS, whose step 2 has done it, is followed by the impedance trims (R330,
R334). -/
def State.trainingComplete (s : State) (c : Nat) (ms : List EyeMeas) : State :=
  if !s.chanOn c || !(s.trnOf c).gathering then s
  else
    let expert := s.fldB F.CH_TRN_CMD_busy c 0
    let s1 := ((ms.foldl (fun s m => (s.noteEye c m).centre c m true true) s).gates c).refLevels c
    let bad := ms.filter fun m => !s.eyeOk c m
    let s2 := (if expert then s1 else (if s.mode = 1 then s1 else s1.calImpedance c).linesFail c bad).showTraining c ms
    let s3 := (s2.setFld F.CH_TRN_CMD_busy c 0 0).setFld F.CH_TRN_CMD_result c 0 (if expert && !bad.isEmpty then 2 else 0)
    match (s.trnOf c).held with
    | some r => s3.applyRate c r
    | none =>
      (((s3.setTrn c { s3.trnOf c with gathering := false }).setFld F.CH_TRN_STAT_trained c 0 1).calibrated c).takePlace c

/-! ## Repair records (R320 to R322) -/

/-- A committed record is well formed for channel `c`. -/
def recordOk (c r : Nat) : Bool :=
  let line := bitsOf r 47 6
  bitsOf r 54 6 == c &&
  match bitsOf r 60 3 with
  | 1 => decide (line < 36) && bitsOf r 0 44 == 0
  | 2 => decide (line < 12) && decide (bitsOf r 44 3 < 2) && !bitOf r 53 && bitsOf r 0 44 == 0
  | 3 => bitsOf r 0 26 == 0
  | 4 => bitsOf r 0 54 == 0
  | _ => false

/-- The spare a record claims: a TSV by its place in `Chan.spares`, a spare row of a bank group as 32 + PC × 512 + group × 128 + row. -/
def recordSpare (r : Nat) : Option Nat :=
  match bitsOf r 60 3 with
  | 1 => some (8 * bitsOf r 53 1 + bitsOf r 44 3)
  | 2 => some (16 + bitsOf r 44 3)
  | 3 => some (32 + bitsOf r 53 1 * 512 + bitsOf r 51 2 * 128 + bitsOf r 26 7)
  | _ => none

/-- The 16 granules of the row a record names. -/
def recordRow (r : Nat) : List Nat :=
  let bank := bitsOf r 53 1 * 16 + bitsOf r 51 2 * 4 + bitsOf r 49 2
  (List.range' (bitsOf r 33 16 * 512) 512).filter fun g => bankOf g == bank

/-- A granule of the row is copied into the spare row, corrected as it is read; a bad one is stored poisoned. -/
def State.moveGran (s : State) (c g : Nat) : State :=
  let (d, s1) := (s.touchRow c g).decode c g []
  if d.out.bad then s1.storePoison c g d.data else s1.storeWhole c g (bytesAt 0 d.data)

/-- The line a TSV record names, by its key in the multiplexers, and the spare it runs on. -/
def recordMux (r : Nat) : Nat × Nat :=
  if bitOf r 60 ∧ !bitOf r 61 then (lineKey (bitsOf r 53 1) (bitsOf r 47 6), 36 + bitsOf r 44 3)
  else (lineKey 0 (48 + bitsOf r 47 6), 60 + bitsOf r 44 3)

/-- The record is malformed, or claims what is claimed or retired (R320). -/
def State.recordBad (s : State) (c r : Nat) : Bool :=
  !recordOk c r || (s.chan c).retiring || s.fld F.CH_ID_state c 0 == 4 ||
  (recordSpare r).any fun k => (s.chan c).spares.contains k

/-- A record takes effect; `live`: the channel holds data. -/
def State.repairNow (s : State) (c r : Nat) (live : Bool) : State :=
  if s.recordBad c r then s.raise { group := 56, src := 0, inst := c, addr := c }
  else
    match recordSpare r with
    | none =>
      let s1 := s.setChan c { s.chan c with retiring := true }
      if (s.logicalAt c).isSome ∧ live then s1 else s1.setFld F.CH_ID_state c 0 4
    | some k =>
      let s1 := s.useSpare c k
      if bitsOf r 60 3 = 3 then (if live then (recordRow r).foldl (fun s g => s.moveGran c g) s1 else s1)
      else
        let s2 := s1.setMux c (recordMux r).1 (recordMux r).2
        if bitsOf r 60 3 = 1 ∧ s.erasedLine c (bitsOf r 53 1) = some (bitsOf r 47 6) then s2.setErase c (bitsOf r 53 1) none else s2

/-- Apply a record to channel `c`; `live`: the channel holds data. Without its commit bit it is ignored; one that claims a spare takes
effect in a maintenance stall of a channel in service (R321). -/
def State.applyRecord (s : State) (c r : Nat) (live : Bool) : State :=
  if !bitOf r 63 then s
  else if !s.recordBad c r && (recordSpare r).isSome && live && s.serves c then s.askStall c (.repair r)
  else s.repairNow c r live

/-! ## Expert commands (R313): without effect at the basic level, and while one runs -/

def State.expert (s : State) (c : Nat) : Bool :=
  s.chanOn c && (s.trnOf c).level && !s.fldB F.CH_TRN_CMD_busy c 0 && !(s.trnOf c).gathering
def State.trnResult (s : State) (c r : Nat) : State := s.setFld F.CH_TRN_CMD_result c 0 r

/-- Which lines a basic step trains. -/
def stepLine (step : Nat) (m : EyeMeas) : Bool :=
  let n := m.line.toNat
  if step = 1 then 48 ≤ n && n < 62 else if step = 2 then timingLine n else if step = 4 ∨ step = 5 then n < 44 else step == 6

/-- One basic step over the whole channel, out of service. The eye check passed makes the channel trained. DEDUCED, unsafe (log 126). -/
def State.basicStep (s : State) (c step : Nat) (ms : List EyeMeas) : State :=
  let l := ms.filter (stepLine step)
  if step = 3 then (s.gates c).trnResult c 0
  else if step = 6 then
    let s1 := (l.foldl (fun s m => s.noteEye c m) s).showTraining c l
    if l.any fun m => !s.eyeOk c m then s1.trnResult c 2
    else ((s1.setFld F.CH_TRN_STAT_trained c 0 1).takePlace c).trnResult c 0
  else if step = 2 then s.trnResult c 0
  else
    let s1 := l.foldl (fun s m => (s.noteEye c m).centre c m (step != 5) (step == 5 || step == 1)) s
    (if step = 4 then s1.refLevels c else s1).trnResult c 0

/-- TRN_RUN_STEP (cmd 1). -/
def State.runStep (s : State) (c step : Nat) (ms : List EyeMeas) : State :=
  let s := s.takeLevel c
  if !s.expert c then s
  else if s.serves c || step = 0 || 6 < step then s.trnResult c 1
  else s.basicStep c step ms
def execTrnRunStep (ch : Fin 34) (step : BitVec 3) (meas : List EyeMeas) (s : State) : Outcome State Fault Refusal :=
  .next (s.runStep ch.val step.toNat meas)

/-- A line command ends with its result. -/
def State.trnEnd (s : State) (c r : Nat) : State := (s.setFld F.CH_TRN_CMD_busy c 0 0).trnResult c r

/-- Work of a maintenance stall is done; on a channel out of service it needs none. A line left below eye_min is not dead (R313). -/
def State.doWork (s : State) (c : Nat) (w : StallWork) : State :=
  match w with
  | .steer key tsv _ => s.setMux c key tsv
  | .repair r => s.repairNow c r true
  | .measure m => (s.noteEye c m).trnEnd c (if s.eyeOk c m then 0 else 2)
  | .retrain m => ((s.noteEye c m).centre c m true true).trnEnd c (if s.eyeOk c m then 0 else 2)
  | .centre pc line =>
    (match smapFind (s.trnOf c).eyes (lineKey pc line) with
     | some m => (s.centre c m true true).trnEnd c 0
     | none => s.trnEnd c 1)
  | .slip pc line earlier =>
    let x := s.trnOf c
    let k := lineKey pc line
    (s.setTrn c { x with slips := smapPut 0 x.slips k (smapGet 0 x.slips k + (if earlier then -1 else 1)) }).trnEnd c 0

/-- A line command runs: in a maintenance stall of a channel in service, else at once. -/
def State.lineWork (s : State) (c : Nat) (w : StallWork) : State :=
  if s.serves c then (s.askStall c w).setFld F.CH_TRN_CMD_busy c 0 1 else s.doWork c w

/-- TRN_MEASURE_EYE (cmd 2): no delay changes. -/
def State.measureEye (s : State) (c : Nat) (m : EyeMeas) : State := if !s.expert c then s else s.lineWork c (.measure m)
def execTrnMeasureEye (ch : Fin 34) (m : EyeMeas) (s : State) : Outcome State Fault Refusal := .next (s.measureEye ch.val m)

/-- TRN_CENTRE (cmd 3): the line's deskews go to the centre of its last measured eye; a line without deskews, or never measured, is
refused. DEDUCED, unsafe (log 126). -/
def State.centreLine (s : State) (c pc line : Nat) : State :=
  if !s.expert c then s
  else if line < 44 ∧ (smapFind (s.trnOf c).eyes (lineKey pc line)).isSome then s.lineWork c (.centre pc line)
  else s.trnResult c 1
def execTrnCentre (ch : Fin 34) (pc : Bool) (line : BitVec 6) (s : State) : Outcome State Fault Refusal :=
  .next (s.centreLine ch.val (b2n pc) line.toNat)

/-- TRN_BIT_SLIP (cmd 4): the net slip stays within three beats. -/
def State.slipLine (s : State) (c pc line : Nat) (earlier : Bool) : State :=
  if !s.expert c then s
  else
    let n := smapGet 0 (s.trnOf c).slips (lineKey pc line) + (if earlier then -1 else 1)
    if n < -3 ∨ 3 < n ∨ 44 ≤ line then s.trnResult c 1 else s.lineWork c (.slip pc line earlier)
def execTrnBitSlip (ch : Fin 34) (pc : Bool) (line : BitVec 6) (earlier : Bool) (s : State) : Outcome State Fault Refusal :=
  .next (s.slipLine ch.val (b2n pc) line.toNat earlier)

/-- TRN_RETRAIN_LINE (cmd 5): steps 4 to 6 on one line. -/
def State.retrainLine (s : State) (c : Nat) (m : EyeMeas) : State :=
  let s := s.takeLevel c
  if !s.expert c then s else s.lineWork c (.retrain m)
def execTrnRetrainLine (ch : Fin 34) (m : EyeMeas) (s : State) : Outcome State Fault Refusal := .next (s.retrainLine ch.val m)

/-- TRN_FULL (cmd 6): full training, which CHANNEL_TRAINING_COMPLETE ends. -/
def State.trainFull (s : State) (c : Nat) : State :=
  let s := s.takeLevel c
  if !s.expert c then s
  else if s.serves c then s.trnResult c 1
  else s.beginTraining c true
def execTrnFull (ch : Fin 34) (s : State) : Outcome State Fault Refusal := .next (s.trainFull ch.val)

/-- The work is not an expert command. -/
def StallWork.kept : StallWork → Bool
  | .steer _ _ _ | .repair _ => true
  | .measure _ | .centre _ _ | .slip _ _ _ | .retrain _ => false

/-- A mode change cuts a training command short: result 3. -/
def State.cutTraining (s : State) : State :=
  (List.range 34).foldl (fun s c =>
    if s.fldB F.CH_TRN_CMD_busy c 0 then
      let x := s.chan c
      ((s.setTrn c { s.trnOf c with gathering := false }).setChan c { x with stallQ := x.stallQ.filter StallWork.kept }).trnEnd c 3
    else s) s

/-! ## Recalibration in place, and stalls (R314, R323, R329, R331) -/

/-- The channel is due by age or by drift. -/
def State.calDue (s : State) (c : Nat) : Bool :=
  let x := s.trnOf c
  let h := clampNat 1 24 (s.fld F.CAL_ROT_interval_h 0 0)
  let d : Int := clampNat 5 30 (s.fld F.CAL_ROT_drift_c 0 0)
  let t := s.reported (diePos c)
  decide (x.calAt + h * 3600000000000 ≤ s.tb) || decide (d * degree ≤ t - x.tCal) || decide (d * degree ≤ x.tCal - t)

/-- CALIBRATION_DUE. An idle spare that is due is recalibrated in place, with no stall.
DESIGN CHOICE, unsafe (log 127). -/
def State.calibrationDue (s : State) (c : Nat) : State :=
  if !s.chanOn c || s.fld F.CH_ID_state c 0 == 4 || !s.calDue c then s
  else
    let s1 := s.setFld F.CAL_DUE_channel 0 0 (s.fld F.CAL_DUE_channel 0 0 ||| 2 ^ c)
    if s.fld F.CH_ID_state c 0 = 5 ∧ !(s.trnOf c).gathering then s1.beginTraining c false else s1
def execCalibrationDue (ch : Fin 34) (s : State) : Outcome State Fault Refusal := .next (s.calibrationDue ch.val)

/-- A measured eye whose values are not given: free. -/
def freeEye (v : Nat) (pc : Bool) (line : Nat) : EyeMeas :=
  { pc := pc, line := BitVec.ofNat 6 line, readEye := BitVec.ofNat 16 v, writeEye := BitVec.ofNat 16 (v / 2 ^ 16),
    readCentre := BitVec.ofNat 7 (v / 2 ^ 32), writeCentre := BitVec.ofNat 7 (v / 2 ^ 39), dead := BitVec.ofNat 2 (v / 2 ^ 46) }

/-- One stall of a recalibration in place: the next of 134 positions, the lines of both PCs first, each measured and re-centred, then the
CA delays and read gates, and with the last the impedance trims. What is measured is free; a line that fails is dead (R323). -/
def State.recalStep (s : State) (c : Nat) : State :=
  let n := (s.trnOf c).recal
  let i := 134 - n
  let v := s.freeVal
  let s1 := s.useFree.setTrn c { s.trnOf c with recal := n - 1 }
  let m := freeEye v (i / 44 == 1) (i % 44)
  let s2 :=
    if i < 88 then
      (let s3 := s1.noteEye c m
       if s3.eyeOk c m then s3.centre c m true true else s3.lineFails c m)
    else if i < 132 then s1.setDelay c (i % 2 * 128 + 64) (v % 256)
    else s1.gates c
  if n = 1 then
    let s3 := (s2.calImpedance c).calibrated c
    match (s3.trnOf c).held with
    | some r => s3.applyRate c r
    | none => s3
  else s2

/-- The recalibration a stall works on: the one under way, or one that begins where the channel is due and no spare is idle. -/
def State.recalStart (s : State) (c : Nat) : State :=
  let x := s.trnOf c
  if x.recal = 0 ∧ bitOf (s.fld F.CAL_DUE_channel 0 0) c ∧ s.idleSpare.isNone then s.setTrn c { x with recal := 134 } else s

/-- The interconnect slice asked for by a line's corrected count (R323): its outcome is free; a line that passes stays, and the worst-line
counts start again. DESIGN CHOICE, safe (log 53). -/
def State.suspectSlice (s : State) (c k : Nat) : State :=
  let s1 := s.useFree
  let s2 := s1.setChan c { s1.chan c with suspect := none }
  if s.freeVal % 2 = 0 then s2.clearWorst c (k / 64) else s2.lineDead c (k / 64) (k % 64)

/-- A maintenance stall of the channel may start (R314): at a frame boundary, out of panic, the gap after the last stall. -/
def State.stallFree (s : State) (c : Nat) : Bool :=
  let x := s.chan c
  x.pos % 256 == 0 && !s.fldB F.CH_STATUS_panic c 0 &&
  (x.stallAt == 0 || decide (x.stallAt + clampNat 100 100000 (s.fld F.CH_MAINT_gap_us c 0) * 1000 ≤ s.tb))

/-- A steer of a dead line ignores the gap, and waits at most 100 µs for panic to fall. -/
def State.steerFree (s : State) (c since : Nat) : Bool :=
  (s.chan c).pos % 256 == 0 && (!s.fldB F.CH_STATUS_panic c 0 || decide (since + 100000 ≤ s.tb))

/-- The oldest steer that waits. -/
def Chan.nextSteer (x : Chan) : Option (StallWork × Nat) :=
  x.stallQ.findSome? fun w => match w with | .steer _ _ t => some (w, t) | _ => none

/-- A stall takes one piece of work off the queue and does it. -/
def State.workStall (s : State) (c : Nat) (w : StallWork) : State :=
  let s1 := s.stall c
  ((s1.setChan c { s1.chan c with stallQ := (s1.chan c).stallQ.erase w }).doWork c w).lateTrims c

/-- The next stall of a channel with work for one: a steer, the slice a suspect line asks for, other queued work, a recalibration step, or
trims alone. -/
def State.nextStall (s : State) (c : Nat) : State :=
  let x := s.chan c
  match x.nextSteer with
  | some (w, since) => if s.steerFree c since then s.workStall c w else s
  | none =>
    match x.suspect with
    | some k => if x.pos % 256 == 0 && !s.fldB F.CH_STATUS_panic c 0 then ((s.stall c).suspectSlice c k).lateTrims c else s
    | none =>
      if !s.stallFree c then s
      else
        match x.stallQ with
        | w :: _ => s.workStall c w
        | [] =>
          let s1 := ((s.stall c).lateTrims c).recalStart c
          if (s1.trnOf c).recal = 0 then s1 else s1.recalStep c

/-- MAINTENANCE_STALL (R314): a channel in service that has work for a stall takes one; a sleeper wakes for it (R283). -/
def State.maintenanceStall (s : State) (c : Nat) : State :=
  if !s.chanOn c || !s.serves c || s.mode == 5 || !s.maintDue c then s
  else (if s.fld F.CH_ID_state c 0 = 3 then s.exitSr c else s).nextStall c
/-! ## Test runs (R316 to R319) -/

/-- The run may start in this mode. -/
def State.bistLegal (s : State) (kind : Nat) : Bool :=
  let m := s.mode
  if kind = 3 then m == 6 else (kind == 1 || kind == 2) && (m == 1 || m == 2 || m == 3 || m == 6)

/-- A destructive operation or a fuse repair in MAINT marks its channel (R232). -/
def State.touch (s : State) (c : Nat) : State :=
  if s.mode = 6 then s.setFld F.GLOBAL_MAINT_TOUCHED_channel 0 0 (s.fld F.GLOBAL_MAINT_TOUCHED_channel 0 0 ||| 2 ^ c) else s

/-- The run has ended, at its end or by an abort: its signature is compared with the expected one, which BI has computed for a built-in
pattern and firmware has written for the user pattern (R318, R319). -/
def State.bistEnd (s : State) (complete : Bool) : State :=
  let b := s.nv.bist.getD ⟨1, 0, 0, 0, 0, 1, 0, 0, 0⟩
  let want := if b.pattern < 4 then b.expect else s.fld F.BI_EXPECT_sig 0 0
  let done := s.fld F.BI_DONE_patterns 0 0 == s.fld F.BI_COUNT_patterns 0 0
  let ok := s.fld F.BI_FAIL_count 0 0 == 0 && s.fld F.BI_SIG_sig 0 0 == want
  ((({ s with nv := { s.nv with bist := none } }).setFld F.BI_STATUS_busy 0 0 0).setFld F.BI_STATUS_complete 0 0 (b2n complete)).setFld
    F.BI_STATUS_result 0 0 (if !(complete && done) then 3 else if ok then 1 else 2)

/-- BIST_START. The starting value of the signature is not given: a free value. DESIGN CHOICE, safe (log 129). -/
def State.bistStart (s : State) : State :=
  let kind := s.fld F.BI_CFG_kind 0 0
  let c := s.fld F.BI_CFG_channel 0 0
  let n := max 1 (s.fld F.BI_CFG_per_slice 0 0)
  let k := s.fld F.BI_SLICES_slices 0 0
  if s.nv.bist.isSome || !s.bistLegal kind || !s.chanOn c || s.fld F.CH_ID_state c 0 == 4 then s.setFld F.BI_STATUS_refused 0 0 1
  else
    let b : Bist := ⟨kind, c, s.fld F.BI_CFG_pc 0 0, s.fld F.BI_CFG_group 0 0, s.fld F.BI_CFG_pattern 0 0, n,
      s.fld F.BI_START_granule 0 0 / 64 * 64, k, s.freeVal % 2 ^ 32⟩
    let s1 := ((((s.useFree.setFld F.BI_COUNT_patterns 0 0 (k * n)).setFld F.BI_DONE_patterns 0 0 0).setFld
      F.BI_SIG_sig 0 0 (s.freeVal % 2 ^ 32)).setFld F.BI_FAIL_count 0 0 0).setFld F.BI_STATUS_complete 0 0 0
    let s2 := (s1.setFld F.BI_STATUS_busy 0 0 1).setFld F.BI_STATUS_result 0 0 0
    let s3 := { s2 with nv := { s2.nv with bist := some b } }
    let s4 := if kind = 3 then s3.touch c else s3
    if k = 0 then s4.bistEnd true else s4
def execBistStart (s : State) : Outcome State Fault Refusal := .next s.bistStart

/-- BIST_ABORT: between slices it takes effect at once. -/
def execBistAbort (s : State) : Outcome State Fault Refusal := .next (if s.nv.bist.isSome then s.bistEnd false else s)

/-- A response word folded into a signature. -/
def bistFold (sig word : Nat) : Nat := (toNats (leBytes 4 word)).foldl crcByte sig

/-- The word expected is folded into the expected signature of a built-in pattern: a response that does not fail is the one expected; in
place of one that fails, a free value. DEDUCED, unsafe (log 205). -/
def State.bistExpect (s : State) (r : BistResp) : State :=
  match s.nv.bist with
  | none => s
  | some b =>
    let w := if r.fail then s.freeVal % 2 ^ 32 else r.word.toNat
    let s1 := if r.fail then s.useFree else s
    { s1 with nv := { s1.nv with bist := some { b with expect := bistFold b.expect w } } }

/-- One response: folded into the signature; a failing one counted, the first of them named. -/
def State.bistResp (s : State) (r : BistResp) : State :=
  let s1 := (s.bistExpect r).setFld F.BI_SIG_sig 0 0 (bistFold (s.fld F.BI_SIG_sig 0 0) r.word.toNat)
  if !r.fail then s1
  else
    let s2 := if s1.fld F.BI_FAIL_count 0 0 = 0 then
        ((s1.setFld F.BI_FAIL_pc 0 0 (b2n r.pc)).setFld F.BI_FAIL_line 0 0 (r.line.toNat % 64)).setFld F.BI_FAIL_ADDR_granule 0 0
          r.granule.toNat else s1
    s2.addFld F.BI_FAIL_count 0 0 1

/-- A granule is saved and written back: a bad one, or one whose write-back does not verify, is stored poisoned. -/
def State.saveBack (s : State) (c g : Nat) (bad : Bool) : State :=
  let (d, s1) := (s.touchRow c g).decode c g []
  let s2 := if d.out.bad || bad then s1.storePoison c g d.data else s1.storeWhole c g (bytesAt 0 d.data)
  if bad then
    (s2.setFld F.BI_FAIL_ADDR_granule 0 0 g).raise { group := c, src := 5, inst := c, master := 60, addr := g }
  else s2

/-- A destructive pattern leaves 64 granules undefined. -/
def State.scribble (s : State) (c g : Nat) : State :=
  ((List.range 64).foldl (fun a k => (a.touchRow c (g + k)).storeWhole c (g + k) (bytesAt 0 (freeBytes (s.freeVal / 2 ^ (512 * k)) 64))) s).useFree

/-- The lines an interconnect slice fails on are dead. DESIGN CHOICE, unsafe (log 130). -/
def State.sliceDead (s : State) (c : Nat) (rs : List BistResp) : State :=
  (((rs.filter fun r => r.fail).map fun r => (r.pc, r.line.toNat % 64)).dedup).foldl (fun (s : State) (k : Bool × Nat) =>
    s.lineFails c ⟨k.1, BitVec.ofNat 6 k.2, 0, 0, 0, 0, 2⟩) s

/-- BIST_SLICE: on a channel in service in a maintenance stall, for which a sleeper wakes. -/
def State.bistSlice (s : State) (rs : List BistResp) : State :=
  match s.nv.bist with
  | none => s
  | some b =>
    let s := if s.serves b.ch && s.fld F.CH_ID_state b.ch 0 == 3 && s.mode != 5 then s.exitSr b.ch else s
    if s.serves b.ch && !s.stallFree b.ch then s
    else
      let s1 := rs.foldl (fun s r => s.bistResp r) (if s.serves b.ch then (s.stall b.ch).lateTrims b.ch else s)
      let s2 :=
        if b.kind = 1 then s1.sliceDead b.ch rs
        else if b.kind = 2 then
          (List.range' b.next 64).foldl (fun s g => s.saveBack b.ch g (rs.any fun r => r.verifyFail && r.granule.toNat == g)) s1
        else s1.scribble b.ch b.next
      let s3 := s2.setFld F.BI_DONE_patterns 0 0 (s2.fld F.BI_DONE_patterns 0 0 + b.perSlice)
      match s3.nv.bist with
      | none => s3
      | some y =>
        let b1 := { y with next := (if b.kind = 1 then b.next else (b.next + 64) % 2 ^ 25), left := b.left - 1 }
        let s4 := { s3 with nv := { s3.nv with bist := some b1 } }
        if b.left ≤ 1 then s4.bistEnd true else s4
def execBistSlice (responses : List BistResp) (s : State) : Outcome State Fault Refusal := .next (s.bistSlice responses)

/-! ## Repair records and their fuses (R321, R322) -/

/-- SOFT_REPAIR_APPLY: the record's high word has been written with the commit bit. -/
def execSoftRepairApply (ch : Fin 34) (n : Fin 16) (s : State) : Outcome State Fault Refusal :=
  .next (s.applyRecord ch.val (s.fld F.CH_REPAIR_SOFT_record ch.val n.val) (s.chanOn ch.val && s.fld F.CH_ID_state ch.val 0 != 1))

/-- The fuse records of a channel by slot, and its first free slot. -/
def State.fuseSlot (s : State) (c n : Nat) : Nat := smapGet 0 s.nv.repair (c * 64 + n)
def State.freeSlot (s : State) (c : Nat) : Option Nat := (List.range 64).find? fun n => s.fuseSlot c n == 0

/-- FUSE_PROGRAM. -/
def State.fuseProgram (s : State) (c : Nat) : State :=
  if s.nv.prog.isSome then s
  else if s.mode ≠ 6 then s.setFld F.FUSE_CMD_result 0 0 1
  else
    match s.freeSlot c with
    | none => s.setFld F.FUSE_CMD_result 0 0 2
    | some n =>
      (({ s with nv := { s.nv with prog := some (c, n, s.fld F.FUSE_REC_record 0 0) } }).setFld F.FUSE_CMD_busy 0 0 1).touch c
def execFuseProgram (ch : Fin 34) (s : State) : Outcome State Fault Refusal := .next (s.fuseProgram ch.val)

/-- FUSE_PROGRAM_COMPLETE: after 2 ms the record stands, or its verify failed: the slot is used and not committed, with which bits blown
is a free value. DESIGN CHOICE, safe (log 131). -/
def State.fuseDone (s : State) (ok : Bool) : State :=
  match s.nv.prog with
  | none => s
  | some (c, n, r) =>
    let v := if ok then r else (s.freeVal ||| 1) % 2 ^ 63
    let s1 := (if ok then s else s.useFree).setFld F.FUSE_CMD_busy 0 0 0
    let s2 := ({ s1 with nv := { s1.nv with prog := none, repair := smapPut 0 s1.nv.repair (c * 64 + n) v } }).setFld
      F.FUSE_CMD_result 0 0 (if ok then 0 else 3)
    if ok then s2 else s2.raise { group := 56, src := 1, inst := c, addr := c }
def execFuseProgramComplete (ok : Bool) (s : State) : Outcome State Fault Refusal := .next (s.fuseDone ok)

end Sys2Proof.Machine
end

