-- ==== Sys2Proof/Machine/Images.lean ====
section
/-!
DEFINITION. Images (R207 to R209, R221): their layout and limits, the verification of a firmware and of a title image, what
applying each does.
-/

namespace Sys2Proof.Machine
open Host

/-! ## The layout (R208) -/

def leAt (bs : List Byte) (o n : Nat) : Nat := leNat ((bs.drop o).take n)

/-- A section of an image. -/
structure Section where
  kind : Nat
  target : Nat
  body : List Byte
  deriving DecidableEq, Repr

/-- The sections named by `n` headers, the next at `h`, the next body at `b`. -/
def sectionsFrom (bs : List Byte) : Nat → Nat → Nat → List Section
  | 0, _, _ => []
  | n + 1, h, b =>
    let len := leAt bs (h + 4) 4
    ⟨leAt bs h 4, leAt bs (h + 8) 8, (bs.drop b).take len⟩ :: sectionsFrom bs n (h + 16) (b + len)

/-- The sum of the lengths `n` headers from `h` state. -/
def bodyLen (bs : List Byte) (n h : Nat) : Nat := ((List.range n).map fun k => leAt bs (h + 16 * k + 4) 4).sum

/-- The header is well formed for an image of kind `kind`: magic, kind, format, section count, total length, reserved bytes; the bodies
lie in header order between the headers and the signature. -/
def headerOk (kind : Nat) (bs : List Byte) : Bool :=
  let n := leAt bs 6 2
  decide (0xB0 ≤ bs.length) && leAt bs 0 4 == 0x4D494B54 && leAt bs 4 1 == kind && leAt bs 5 1 == 1 &&
  decide (1 ≤ n) && decide (n ≤ 16) && leAt bs 8 4 == bs.length && (((bs.drop 0x10).take 48).all fun b => b == 0) &&
  0x40 + 16 * n + bodyLen bs n 0x40 + 96 == bs.length

def imageSections (bs : List Byte) : List Section := sectionsFrom bs (leAt bs 6 2) 0x40 (0x40 + 16 * leAt bs 6 2)

/-- A section keeps the limits of its type. -/
def sectionOk (p : Part) (kind : Nat) (x : Section) : Bool :=
  let n := x.body.length
  match x.kind with
  | 1 => n % 4 == 0 && decide (n ≤ 262144) && x.target == 0
  | 2 =>
    n % 64 == 0 && x.target % 64 == 0 &&
    (n == 0 || (decide (x.target / 2 ^ 31 < logicals p) && x.target / 2 ^ 31 == (x.target + n - 1) / 2 ^ 31 &&
      !inDeviceArea x.target && !inDeviceArea (x.target + n - 1)))
  | 3 => n == 4032
  | 4 => kind == 1
  | _ => false

/-- The image is well formed under R208. DEDUCED, unsafe (log 132). -/
def imageOk (p : Part) (kind : Nat) (bs : List Byte) : Bool :=
  headerOk kind bs && (imageSections bs).all fun x => sectionOk p kind x

/-- The signature, big-endian r ‖ s in the last 96 bytes, verifies over all the bytes before it. -/
def imageSigned (key : Nat × Nat) (bs : List Byte) : Bool :=
  let sig := toNats (bs.drop (bs.length - 96))
  ecdsaVerify key (toNats (bs.take (bs.length - 96))) (beNat (sig.take 48)) (beNat (sig.drop 48))

/-! ## Firmware (R220, R221) -/

/-- A ROM key as a point, and its hash as fused. -/
def romPoint (i : Nat) : Nat × Nat := (Config.romKey i / 2 ^ 384 % 2 ^ 384, Config.romKey i % 2 ^ 384)
def romHash (i : Nat) : Nat := beNat (sha384 (beBytes 96 (Config.romKey i % 2 ^ 768)))

/-- GLOBAL_BOOT.result for a firmware image: 1 passed, 2 bad signature, 3 key hash mismatch, 4 version below minimum,
5 malformed. -/
def State.firmwareResult (s : State) (bs : List Byte) : Nat :=
  if !imageOk s.part 1 bs then 5
  else
    match (List.range 4).find? fun i => romHash i == s.nv.keyHash with
    | none => 3
    | some i =>
      if !imageSigned (romPoint i) bs then 2
      else if leAt bs 14 2 < s.fld F.GLOBAL_BOOT_min_version 0 0 then 4
      else 1

/-- The boot ROM locks its own SRAM region (where it lies, and what a write there does, the spec does not say: log 189); each firmware-code
section is loaded to its target, and strand 0 of the SV starts at the first's. PRESUMED, unsafe (log 133). -/
def State.loadFirmware (s : State) (bs : List Byte) : State :=
  let l := (imageSections bs).filter fun x => x.kind == 4
  let s1 := l.foldl (fun s x => s.wrScratch 34 (x.target % 1048576) x.body) s
  let at0 := (l.head?.map fun x => x.target).getD 0
  let x := s1.strand 34 0
  ({ s1 with romLocked := true }.setStrand 34 0 { x with st := .ready, title := false, pc := BitVec.ofNat 16 (at0 / 4) }).setFld
    F.GLOBAL_BOOT_fw_running 0 0 1

/-! ## A title image (R209) -/

/-- Where a title image is staged: the device area of logical channel 1. -/
def titleAddr : Nat := devAddr 1 0x1000000

/-- The staged image: its bytes, and whether every granule of it reads. -/
def State.staged (s : State) (n : Nat) : List Byte × Bool × State :=
  let r := s.worldGet titleAddr n 61 none
  (r.1, decide (r.2.1 = some .clean), r.2.2)

/-- The operator's key as a point. -/
def pointOf (k : List Byte) : Nat × Nat := (beNat (toNats (k.take 48)), beNat (toNats (k.drop 48)))

def State.titleOk (s : State) (bs : List Byte) : Bool :=
  match s.mg.opKey with
  | some k => imageOk s.part 2 bs && imageSigned (pointOf k) bs
  | none => false

/-- The instructions are written to one engine, and it is locked. An engine that runs keeps its instructions (R43). -/
def State.loadEngine (s : State) (e : Nat) (l : List (List Byte)) : State :=
  if !s.engOn e || s.fldB F.CE_CTRL_run e 0 then s
  else
    let s1 := l.foldl (fun (s : State) (b : List Byte) =>
      { s with imem := (pieces 4 b).zipIdx.foldl (fun (m : SMap Word32) (x : List Byte × Nat) =>
          if x.1.isEmpty then m else smapPut 0 m (imemKey e x.2) (BitVec.ofNat 32 (leNat x.1))) s.imem }) s
    s1.setFld F.CE_CTRL_imem_lock e 0 1

/-- The encoder table goes to the shadow and is committed (R154). -/
def State.loadEncoder (s : State) (b : List Byte) : State :=
  ((List.range 1008).foldl (fun s k =>
    let v := leAt b (4 * k) 4
    encFlds.foldl (fun s f => s.setShd f (k / 63) (k % 63) (bitsOf v f.lo f.w)) s) s).encCommit

/-- Firmware applies the sections in the order of R209: instructions, world data, encoder table.
DEDUCED, unsafe (log 134). -/
def State.applyTitle (s : State) (bs : List Byte) : State :=
  let l := imageSections bs
  let code := (l.filter fun x => x.kind == 1).map (·.body)
  let s1 := (List.range 34).foldl (fun s e => s.loadEngine e code) s
  let s2 := (l.filter fun x => x.kind == 2).foldl (fun s x => s.worldPut x.target 61 x.body) s1
  (l.filter fun x => x.kind == 3).foldl (fun s x => s.loadEncoder x.body) s2

end Sys2Proof.Machine
end

