-- ==== Sys2Proof/Machine/Monitor.lean ====
section
/-!
DEFINITION. The performance monitor's counters (R380 to R386), the Loupe and tagging controls (R390 to R393), and the clock:
the timebase (R181 to R185) and what passes with each of its cycles.
-/

namespace Sys2Proof.Machine
open Host

/-! ## Selections (R380, R386) -/

/-- The privilege class of an event. -/
inductive EvClass where
  | o | t | s
  deriving DecidableEq, Repr

/-- An event's class; none where the code is not defined. -/
def evClass (ev : Nat) : Option EvClass :=
  if 0x01 ≤ ev ∧ ev ≤ 0x09 then some .o
  else if ev = 0x0A then some .s
  else if (0x20 ≤ ev ∧ ev ≤ 0x25) ∨ ev = 0x2A ∨ ev = 0x40 ∨ ev = 0x41 then some .t
  else if (0x26 ≤ ev ∧ ev ≤ 0x2B) ∨ ev = 0x42 ∨ ev = 0x43 ∨ (0x50 ≤ ev ∧ ev ≤ 0x53) ∨ (0x60 ≤ ev ∧ ev ≤ 0x65) ∨
      (0x70 ≤ ev ∧ ev ≤ 0x72) ∨ ev = 0x7C ∨ ev = 0x7D then some .s
  else none

/-- The instance of an event is present on the part. -/
def evInst (p : Part) (ev n : Nat) : Bool :=
  if ev < 0x20 ∨ 0x7C ≤ ev then n == 34 || present p n
  else if ev < 0x40 then present p n
  else if ev < 0x50 then n == 0
  else if ev < 0x60 then n < lanes p
  else if ev < 0x70 then n < dus p
  else n < 2

def State.selValid (s : State) (n : Nat) : Bool :=
  (evClass (s.fld F.PM_CNT_SEL_event n 0)).isSome &&
  evInst s.part (s.fld F.PM_CNT_SEL_event n 0) (s.fld F.PM_CNT_SEL_instance n 0)

/-- A counter may carry `title` (R386). -/
def State.titleAllowed (s : State) (n : Nat) : Bool :=
  s.fldB F.PM_CTRL_title_en 0 0 &&
  match evClass (s.fld F.PM_CNT_SEL_event n 0) with
  | some .o => true
  | some .t => s.fld F.PM_FILT_PRIV_priv (s.fld F.PM_CNT_SEL_fset n 0) 0 == 1
  | _ => false

def selFlds : List Fld :=
  [F.PM_CNT_SEL_enable, F.PM_CNT_SEL_title, F.PM_CNT_SEL_fset, F.PM_CNT_SEL_instance, F.PM_CNT_SEL_event,
   F.PM_CNT_SEL_mode, F.PM_CNT_SEL_level]
def filtFlds : List Fld :=
  [F.PM_FILT_PRIV_priv, F.PM_FILT_PRIV_master_hi, F.PM_FILT_PRIV_master_lo, F.PM_FILT_BASE_base, F.PM_FILT_LIMIT_limit,
   F.PM_FILT_CLASS_mask]

/-- Apply the shadow of one counter's selection (R383, R386). -/
def State.commitSel (s : State) (n : Nat) : State :=
  let changed := selFlds.any fun f => s.shd f n 0 != s.fld f n 0
  let s1 := selFlds.foldl (fun s f => s.commitFld f n 0) s
  let s2 := if changed then
      { s1.setFld F.PM_CNT_count n 0 0 with pm := { s1.pm with prev := smapErase s1.pm.prev n } } else s1
  let s3 := if s2.fldB F.PM_CNT_SEL_enable n 0 && !s2.selValid n then
      (s2.setFld F.PM_CNT_SEL_enable n 0 0).setFld F.PM_STATUS_sel_err 0 0 1 else s2
  if s3.fldB F.PM_CNT_SEL_title n 0 && !s3.titleAllowed n then
    (s3.setFld F.PM_CNT_SEL_title n 0 0).setFld F.PM_STATUS_title_err 0 0 1
  else s3

/-- A pending commit applies at an interval boundary: the level (R20), the filter sets, then each counter. DEDUCED, safe (log 191). -/
def State.applyPm (s : State) : State :=
  if s.pm.commitPending then
    let s1 := { s with pm := { s.pm with commitPending := false, level := s.fldB F.PM_CTRL_level 0 0 } }
    let s2 := (List.range 4).foldl (fun s k => filtFlds.foldl (fun s f => s.commitFld f k 0) s) s1
    (List.range 16).foldl (fun s n => s.commitSel n) s2
  else s

/-- PM_COMMIT (R383): the shadow applies at the next interval boundary. -/
def execPmCommit (s : State) : Outcome State Fault Refusal := .next { s with pm := { s.pm with commitPending := true } }

/-- PM_COUNTER_WRITE (R383): the value takes effect at the next interval boundary. -/
def execPmCounterWrite (n : Fin 16) (v : Word64) (s : State) : Outcome State Fault Refusal :=
  .next { s with pm := { s.pm with wrote := smapInsert s.pm.wrote n.val v.toNat } }

/-! ## One interval (R383, R384) -/

/-- The condition of a threshold mode for an interval of `r` (R384). -/
def modeMet (mode level r : Nat) : Bool :=
  match mode with
  | 1 | 3 => decide (level ≤ min r 255)
  | 2 | 4 => decide (min r 255 < level)
  | _ => false

/-- What a counter adds for an interval; `prev`: the interval before it met the condition. -/
def modeAdds (mode level r : Nat) (prev : Bool) : Nat :=
  match mode with
  | 1 | 2 => b2n (modeMet mode level r)
  | 3 | 4 => b2n (modeMet mode level r && !prev)
  | _ => r

/-- Counter `n` at the end of an interval. -/
def State.countInterval (s : State) (n : Nat) : State :=
  let r := smapGet 0 s.pm.acc n
  let mode := s.fld F.PM_CNT_SEL_mode n 0
  let level := s.fld F.PM_CNT_SEL_level n 0
  let old := (smapFind s.pm.wrote n).getD (s.fld F.PM_CNT_count n 0)
  let runs := s.pm.level && s.fldB F.PM_CNT_SEL_enable n 0
  let add := if runs then modeAdds mode level r (smapGet 0 s.pm.prev n == 1) else 0
  let s1 := { s with pm := { s.pm with prev := smapPut 0 s.pm.prev n (b2n (runs && modeMet mode level r)) } }
  s1.setFld F.PM_CNT_count n 0 ((old + add) % 2 ^ 64)

/-- The gauges of an interval: read queue entries held (event 0x25) and panic time (event 0x26). -/
def State.gauges (s : State) : State :=
  s.chans.foldl (fun s e =>
    let s1 := e.2.rq.foldl (fun s r =>
      s.occ { ev := 0x25, inst := e.1, title := r.e < 34 && (s.strand r.e r.t).title, master := r.master, cls := r.cls }) s
    if s.fldB F.CH_STATUS_panic e.1 0 then s1.occ { ev := 0x26, inst := e.1, inc := 16 } else s1) s

/-- What a contact sheet captures: the sixteen counters, zero at level 0, and the top-down counters of 35 engines. -/
def State.sheetCapture (s : State) : List Nat :=
  ((List.range 16).map fun n => if s.pm.level then s.fld F.PM_CNT_count n 0 else 0) ++
  (List.range 35).flatMap fun e => (List.range 8).map fun k => if s.engOn e then s.fld F.PM_TD_slots e k else 0

/-- A contact sheet that fell due captures its counters at an interval boundary (R388). -/
def State.takeCapture (s : State) : State :=
  match s.pm.sheetAsk with
  | none => s
  | some k => { s with pm := { s.pm with sheetAsk := none, sheet := some (s.pm.boundary, k, s.sheetCapture) } }

/-- The modes in which sheets are written (R388). -/
def sheetMode (m : Nat) : Bool := m == 2 || m == 3 || m == 4 || m == 6

/-- A sheet under way is given up (R389). -/
def State.dropSheet (s : State) : State := { s with pm := { s.pm with sheet := none, sheetAsk := none } }

/-- The end of a 16-ns interval: gauges, counters, written values; then a sheet's capture, under the old selection, and after it a
pending commit (R383); two staged records leave (R393). -/
def State.interval (s : State) : State :=
  let s1 := if s.pm.level then s.gauges else s
  let s2 := (List.range 16).foldl (fun s n => s.countInterval n) s1
  ({ s2 with pm := { s2.pm with acc := [], wrote := [], boundary := 16 * s2.units } }).takeCapture.applyPm.drainStaging

/-! ## The Loupe and tagging (R390 to R393) -/

/-- Read a lone record out to the ring, paired with zeros (R392). -/
def State.flushLone (s : State) : State :=
  match s.pm.lone with
  | none => s
  | some r => ({ s with pm := { s.pm with lone := none } }).ringWrite r (List.replicate 32 0)

def loupeEvents : List Nat := [0x03, 0x04, 0x05, 0x07, 0x09]

def State.setLoupe (s : State) (v : Nat) : State :=
  ((((s.setFld F.PM_LOUPE_CTRL_drain 0 0 (bitsOf v 30 1)).setFld F.PM_LOUPE_CTRL_wrap 0 0 (bitsOf v 29 1)).setFld
    F.PM_LOUPE_CTRL_fset 0 0 (bitsOf v 20 2)).setFld F.PM_LOUPE_CTRL_p 0 0 (bitsOf v 16 4)).setFld
    F.PM_LOUPE_CTRL_event 0 0 (bitsOf v 0 8)

/-- The control word as it reads, without `run`. -/
def State.loupeWord (s : State) : Nat :=
  s.fld F.PM_LOUPE_CTRL_drain 0 0 * 2 ^ 30 + s.fld F.PM_LOUPE_CTRL_wrap 0 0 * 2 ^ 29 +
  s.fld F.PM_LOUPE_CTRL_fset 0 0 * 2 ^ 20 + s.fld F.PM_LOUPE_CTRL_p 0 0 * 2 ^ 16 + s.fld F.PM_LOUPE_CTRL_event 0 0

/-- The writable bits of the control word but `run`. -/
def loupeMask : Nat := 0x603F00FF

/-- Recording stops: what waits for the ring is written, samples under way are given up (R392). DESIGN CHOICE, unsafe (log 157). -/
def State.loupeStop (s : State) : State := (s.flushLone.flushStaging).dropSamples fun _ => true

/-- A start finds the kept buffer full, and may not overwrite it (R392). -/
def State.stillFull (s : State) : Bool :=
  !s.fldB F.PM_LOUPE_CTRL_drain 0 0 && !s.fldB F.PM_LOUPE_CTRL_wrap 0 0 && decide (4096 ≤ s.pm.buffer.length)

/-- LOUPE_CTRL_WRITE (R392): fields other than `run` change only while it is 0; an event the Loupe cannot sample stops it.
DESIGN CHOICE, unsafe (log 157). -/
def State.loupeCtrl (s : State) (v : Nat) : State :=
  if s.part = .tkw3209 then s
  else
    let run := bitOf v 31
    let was := s.fldB F.PM_LOUPE_CTRL_run 0 0
    if was && s.loupeWord != v &&& loupeMask then s.setFld F.PM_STATUS_loupe_err 0 0 1
    else
      let s1 := if was then s else s.setLoupe v
      if !run then (if was then (s1.setFld F.PM_LOUPE_CTRL_run 0 0 0).loupeStop else s1)
      else if !loupeEvents.contains (bitsOf v 0 8) then
        (s1.setFld F.PM_LOUPE_CTRL_run 0 0 0).setFld F.PM_STATUS_loupe_err 0 0 1
      else if was then s1
      else
        (({ s1 with pm := { s1.pm with seq := 0, gap := false, loupeCnt := [], lone := none } }).setFld
          F.PM_LOUPE_STAT_lost 0 0 0).setFld F.PM_LOUPE_STAT_full 0 0 (b2n s1.stillFull) |>.setFld F.PM_LOUPE_CTRL_run 0 0 1
def execLoupeCtrlWrite (v : Word32) (s : State) : Outcome State Fault Refusal := .next (s.loupeCtrl v.toNat)

/-- LOUPE_DATA_READ (R392): the next word of the oldest record; its eighth word removes it. An empty buffer reads 0. -/
def State.loupeData (s : State) : Nat × State :=
  match s.pm.buffer with
  | [] => (0, s)
  | r :: rest =>
    let w := leNat ((r.drop (4 * s.pm.word)).take 4)
    if s.pm.word = 7 then
      (w, ({ s with pm := { s.pm with buffer := rest, word := 0 } }).setFld F.PM_LOUPE_STAT_held 0 0 rest.length)
    else (w, { s with pm := { s.pm with word := s.pm.word + 1 } })
/-- The monitor's registers read 0, with no effect, for a channel engine (R379). DEDUCED, unsafe (log 168). -/
def execLoupeDataRead (p : Path) (s : State) : Outcome State Fault Refusal :=
  match p with
  | .ce _ _ => .next { s with lastRead := 0 }
  | _ => .next { s.loupeData.2 with lastRead := s.loupeData.1 }

/-- PM_TAG_WRITE (R393): on the TKW-3209; a start reloads every engine's countdown from the LFSR, whose polynomial the spec does
not give: free values within the range. -/
def State.pmTag (s : State) (v : Nat) : State :=
  if s.part = .tkw6417 then s
  else
    let was := s.fldB F.PM_TAG_run 0 0
    let s1 := ((((s.setFld F.PM_TAG_run 0 0 (bitsOf v 31 1)).setFld F.PM_TAG_kinds 0 0 (bitsOf v 24 4)).setFld
      F.PM_TAG_fset 0 0 (bitsOf v 20 2)).setFld F.PM_TAG_p 0 0 (bitsOf v 16 4)).setFld F.PM_TAG_seed 0 0 (bitsOf v 0 16)
    if bitOf v 31 && !was then
      (List.range 35).foldl (fun s e => { s.useFree with
        pm := { s.pm with tagCnt := smapPut 1 s.pm.tagCnt e (tagReload (bitsOf v 16 4) s.freeVal) } })
        (({ s1 with pm := { s1.pm with seq := 0, gap := false, staging := [] } }).setFld F.PM_LOUPE_STAT_lost 0 0 0)
    else if was && !bitOf v 31 then s1.loupeStop
    else s1
def execPmTagWrite (v : Word32) (s : State) : Outcome State Fault Refusal := .next (s.pmTag v.toNat)

/-! ## The timebase (R181 to R185) -/

/-- The signed slew remainder. -/
def State.slewLeft (s : State) : Int := toSigned 32 (s.fld F.TB_SLEW_LEFT_ns 0 0)
def State.setSlew (s : State) (x : Int) : State := s.setFld F.TB_SLEW_LEFT_ns 0 0 (ofSigned 32 x)

/-- What a cycle adds or takes for the slew, in units of 2^-32 ns: 100 µs per second of the increment (R181). -/
def State.slewStep (s : State) : Nat := s.fld F.TB_INCR_incr 0 0 / 10000

/-- The count after one cycle of the timebase, with its slew: a positive remainder speeds the count up, a negative one slows it
down. -/
def State.tbAdvance (s : State) : State :=
  let incr := s.fld F.TB_INCR_incr 0 0
  let left := s.slewLeft
  let k := if left = 0 then 0 else s.slewStep
  let add := if left < 0 then incr - k else incr + k
  let f := s.tbFrac + add
  let a := s.slewAcc + k
  let s1 := { s with tb := min (s.tb + f / 2 ^ 32) (2 ^ 64 - 1), tbFrac := f % 2 ^ 32, slewAcc := a % 2 ^ 32 }
  if 2 ^ 32 ≤ a then
    let x := if left < 0 then left + 1 else left - 1
    (s1.setSlew x).setFld F.TB_STATUS_slewing 0 0 (if x = 0 then 0 else 1)
  else s1

/-- One timebase cycle; at the end of a 16-ns unit an interval of the performance monitor ends. -/
def State.tbCycle (s : State) : State :=
  let s1 := s.tbAdvance
  if s1.units = s.units then s1 else s1.interval

/-- TB_INCR_WRITE (R181): clamped to nominal ±1,000 ppm. -/
def execTbIncrWrite (v : Word32) (s : State) : Outcome State Fault Refusal :=
  .next (s.setFld F.TB_INCR_incr 0 0 (clampNat 3432537863 3439409811 v.toNat))

/-- TB_STEP (R181): refused where the count would leave its range, or negative in SERVE; the latter is reported on group 43. -/
def State.tbStep (s : State) (v : Word64) : State :=
  let n : Int := s.tb + v.toInt
  if s.mode = 3 ∧ v.toInt < 0 then
    (s.setFld F.TB_STATUS_step_refused 0 0 1).raise { group := 43, src := 0, addr := v.toNat }
  else if n < 0 ∨ 2 ^ 64 ≤ n then s.setFld F.TB_STATUS_step_refused 0 0 1
  else { s with tb := n.toNat, fc := { s.fc with tbBack := s.fc.tbBack + (s.tb - n.toNat) } }
def execTbStep (v : Word64) (s : State) : Outcome State Fault Refusal := .next (s.tbStep v)

/-- TB_SLEW (R181): added to the remainder; the amount and the sum are held to ±1 s. -/
def State.tbSlew (s : State) (v : Word32) : State :=
  let c (x : Int) : Int := max (-1000000000) (min 1000000000 x)
  let n := c (s.slewLeft + c v.toInt)
  let s1 := s.setSlew n
  s1.setFld F.TB_STATUS_slewing 0 0 (if n = 0 then 0 else 1)
def execTbSlew (v : Word32) (s : State) : Outcome State Fault Refusal := .next (s.tbSlew v)

/-- TB_SLEW_COMPLETE (R181): the remainder has reached zero and `slewing` clears. -/
def execTbSlewComplete (s : State) : Outcome State Fault Refusal :=
  .next (if s.slewLeft = 0 then ({ s with slewAcc := 0 }).setFld F.TB_STATUS_slewing 0 0 0 else s)

/-- PPS_OUT (R185): the count has reached a whole second; the pin is high for `width_ms`.
DESIGN CHOICE, unsafe (log 102). -/
def execPpsOut (s : State) : Outcome State Fault Refusal :=
  .next (if s.fldB F.TB_PPS_out_en 0 0 && s.tb % 1000000000 == 0 && !s.pwr.tripped then
    { s with ppsHigh := s.tb + clampNat 1 900 (s.fld F.TB_PPS_width_ms 0 0) * 1000000 } else s)

/-- PPS_IN (R185): an edge is timestamped, unless one was captured in the last 500 ms. -/
def State.ppsEdge (s : State) : State :=
  if (match s.ppsLast with | some t => decide (s.tb < t + 500000000) | none => false) then s
  else ({ s with ppsLast := some s.tb }.setFld F.TB_PPS_IN_ns 0 0 s.tb).setFld F.TB_STATUS_pps_in 0 0 1
def execPpsIn (s : State) : Outcome State Fault Refusal := .next s.ppsEdge

end Sys2Proof.Machine
end

