-- ==== Sys2Proof/Machine/Views.lean ====
section
/-!
DEFINITION. What a read of a register shows (R6 to R9, R212): fields held elsewhere in the state, shadow views, write-only fields,
blocks that are off or absent (R3). A read here has no effect of its own.
-/

namespace Sys2Proof.Machine
open Host

/-! ## Blocks that are off (R3, R212) -/

/-- The block at the address answers: an absent or unpowered one reads 0 and ignores writes. -/
def State.blkLive (s : State) (a : Nat) : Bool :=
  match blkOf a with
  | none => false
  | some .ln => let n := (a - 0x100000) / 0x1000; n == 8 || s.laneOn n
  | some .pt =>
    if 0x200100 ≤ a ∧ a < 0x200180 then s.portPresent ((a - 0x200100) / 0x10)
    else if 0x201000 ≤ a ∧ a < 0x201800 then s.portPresent ((a - 0x201000) / 0x100)
    else true
  | some .tk => s.domOn 93
  | some .st => s.domOn 97
  | some .ch => s.chanOn ((a - 0x1000000) / 0x10000)
  | some .ce => s.engOn ((a - 0x2000000) / 0x10000)
  | some _ => true

/-! ## Shadow views (R8) -/

/-- The block's shadow view is selected for a shadowed field. -/
def State.shadowView (s : State) (f : Fld) (i : Nat) : Bool :=
  if f.base = 0x300008 ∨ f.base = 0x30000C ∨ f.base = 0x300010 then s.fldB F.TK_CTRL_view 0 0
  else if 0x2000100 ≤ f.base ∧ f.base ≤ 0x2000108 then s.fldB F.CE_RANGE_COMMIT_view i 0
  else if f.base = 0x321000 then s.fldB F.DU_ENC_COMMIT_view 0 0
  else if 0x50100 ≤ f.base ∧ f.base ≤ 0x50608 then s.fldB F.RG_COMMIT_view 0 0
  else if f.base = 0x50800 then s.fldB F.RG_CHMAP_COMMIT_view 0 0
  else if f.base = 0x1000010 ∨ f.base = 0x1000014 then s.fldB F.CH_ARB_COMMIT_view i 0
  else if f.base = 0x1000030 ∨ f.base = 0x1000034 ∨ f.base = 0x1000400 ∨ f.base = 0x1000004 then s.fldB F.CH_SLOTCOMMIT_view i 0
  else s.fldB F.PM_COMMIT_view 0 0

/-- A field as its access code shows it. -/
def State.shown (s : State) (f : Fld) (i j : Nat) : Nat :=
  match f.acc with
  | .wo => 0
  | .rws => if s.shadowView f i then s.shd f i j else s.fld f i j
  | _ => s.fld f i j

/-- A register as its fields show it. -/
def State.combine (s : State) (r : RegD) (i j : Nat) : Nat := r.flds.foldl (fun a f => a + s.shown f i j * 2 ^ f.lo) 0

/-! ## Fields held elsewhere -/

/-- GLOBAL_STATUS (R228): each degraded condition that holds, and their OR. DEDUCED, safe (log 25). -/
def State.globalStatus (s : State) : Nat :=
  let chans := (List.range 34).filter fun c => s.chanOn c
  let b := [
    (List.range (logicals s.part)).any fun l => s.fld F.RG_CHMAP_state l 0 == 2,
    chans.any fun c => s.fld F.CH_TSV_STAT_half c 0 != 0,
    chans.any fun c => (s.erasedLine c 0).isSome || (s.erasedLine c 1).isSome,
    decide (2 ≤ s.mode) && s.idleSpare.isNone,
    s.fldB F.GLOBAL_STATUS_lane_retired 0 0,
    (List.range 34).any fun e => (s.eng e).fenced,
    s.fldB F.RG_OVERCOMMIT_channel 0 0,
    s.fldB F.GLOBAL_STATUS_throttled 0 0,
    s.fldB F.GLOBAL_STATUS_gov_limit 0 0,
    s.fldB F.TB_STATUS_backup 0 0,
    s.tornCount != 0 ]
  let v := b.foldr (fun x a => b2n x + 2 * a) 0
  v + (if v = 0 then 0 else 2 ^ 31)

/-- The state an engine shows (CE_STATUS.state). -/
def State.engShown (s : State) (e : Nat) : Nat :=
  if (s.eng e).fenced then 4
  else
    match (s.eng e).mig with
    | some m => if m.copying then 3 else if s.fldB F.CE_CTRL_run e 0 then 2 else 1
    | none => if s.fldB F.CE_CTRL_run e 0 then 2 else 1

/-- SV_EVENT: a bit stays while its engine has a trap pending (R47). -/
def State.svEvents (s : State) : Nat :=
  bitSet ((List.range 34).filter fun e =>
    bitOf (s.fld F.SV_EVENT_LO_engine 0 0 + 2 ^ 32 * s.fld F.SV_EVENT_HI_engine 0 0) e || s.fldB F.CE_TRAP_PEND_pend e 0)

/-- The frame at the head of the selected lane's firmware buffer (R178). -/
def State.fwLoaded (s : State) : Option (List Byte × Nat × Nat) := (s.fwHeld (s.fld F.PT_FWRX_CMD_lane 0 0)).head?
/-- Its next word: frame bytes, then the timestamp. -/
def State.fwWord (s : State) : Nat :=
  match s.fwLoaded with
  | some (bs, t, _) =>
    let pad := bs ++ List.replicate ((4 - bs.length % 4) % 4) 0 ++ leBytes 8 t
    leNat ((pad.drop s.pt.fwPos).take 4)
  | none => 0

/-- The delay CH_DLY_SEL selects, and the fuse slot FUSE_READ_SEL selects. -/
def State.dlySel (s : State) (c : Nat) : Nat := s.fld F.CH_DLY_SEL_pc c 0 * 128 + s.fld F.CH_DLY_SEL_index c 0
def State.fuseSel (s : State) : Nat := s.fuseSlot (s.fld F.FUSE_READ_SEL_channel 0 0) (s.fld F.FUSE_READ_SEL_slot 0 0)
def State.fuseFree (s : State) : Nat :=
  ((List.range 64).filter fun n => s.fuseSlot (s.fld F.FUSE_READ_SEL_channel 0 0) n == 0).length

/-- A register whose value, or part of it, is held elsewhere; `v` is what its fields show. -/
def State.special (s : State) (r : RegD) (i v : Nat) : Nat :=
  match r.base with
  | 0x0 => match s.part with | .tkw6417 => 0x1C0A6417 | .tkw3209 => 0x1C0A3209
  | 0x8 => (match s.part with | .tkw6417 => 2 ^ 24 | .tkw3209 => 0) + dus s.part * 2 ^ 16 + lanes s.part * 2 ^ 8 + logicals s.part
  | 0x18 => s.globalStatus
  | 0x2000008 => putBits (putBits v 8 7 (s.lsqUsed i)) 0 3 (s.engShown i)
  | 0x2000004 => let n := bitsOf v 8 7; if n = 0 ∨ 64 < n then putBits v 8 7 64 else v
  | 0x2000024 => (smapGet 0 s.imem (imemKey i (s.fld F.CE_IMEM_ADDR_index i 0))).toNat
  | 0x20000C0 => (s.eng i).tokens
  | 0x2400010 => s.svEvents % 2 ^ 32
  | 0x2400014 => s.svEvents / 2 ^ 32
  | 0x2400034 => s.wdogRemain
  | 0x300204 => s.validCount
  | 0x300208 => freeCount s.ed.free
  | 0x30020C => s.tornCount
  | 0x300210 => match s.tornAt with | some k => k | none => 2 ^ 31
  | 0x30021C => s.ed.frees * 2 ^ 16 + s.ed.births
  | 0x31000C => (s.ses.filter fun e => decide (e.2.ctx.st = .live)).length
  | 0x3100A0 => s.fwPop.1
  | 0x3100A4 => s.fwPop.2.1
  | 0x100014 => putBits v 4 4 (s.slipsLeft i)
  | 0x100000 => if i = 8 then putBits v 2 1 0 else v
  | 0x200404 => match s.fwLoaded with | some (bs, _, p) => 2 ^ 31 + p * 2 ^ 14 + bs.length | none => 0
  | 0x200408 => s.fwWord
  | 0x200410 => putBits v 30 1 (b2n (decide (1048576 < s.queued (s.firstLane (s.fld F.PT_FWTX_CTRL_port 0 0)) + 9212)))
  | 0x200420 => match s.pt.txTs with | (t, _, _) :: _ => t | [] => 0
  | 0x200428 => match s.pt.txTs with | (_, p, n) :: _ => putBits (putBits (putBits v 31 1 1) 16 3 p) 0 16 n | [] => v
  | 0x10008 => s.tb
  | 0x10010 => s.tbFrac
  | 0x1028 => bitSet (s.nv.keys.map (·.1)) * 2 ^ 8 + (match s.nv.keys.getLast? with | some x => x.1 | none => 7)
  | 0x102C => putBits v 0 4 s.framesHeld
  | 0x1000008 => putBits (putBits v 0 7 (s.chan i).rq.length) 16 7 (s.chan i).wq.length
  | 0x1000044 =>
    min (2 ^ 32 - 1) (((s.chan i).panicNs + (if s.fldB F.CH_STATUS_panic i 0 then s.tb - (s.chan i).panicSince else 0)) / 1000)
  | 0x1000714 => s.delayOf i (s.dlySel i)
  | 0x1000730 => putBits v 0 24 (min (2 ^ 24 - 1) ((s.tb - (s.trnOf i).calAt) / 60000000000))
  | 0x400000C =>
    let item := s.fld F.CAL_SEL_item 0 0
    let n := s.fld F.CAL_SEL_instance 0 0
    s.trimWin item * 2 ^ 24 + trimClamp item (s.storedTrim item n) * 2 ^ 16 + s.trimOf item n
  | 0x5000018 => s.fuseSel
  | 0x5000020 => s.fuseFree
  | 0x40400 => if i = 76 ∨ i = 101 then putBits v 1 1 1 else v
  | 0x20000 => s.fcStatus
  | 0x30400 => match s.part with | .tkw6417 => v | .tkw3209 => 0
  | 0x30408 => s.loupeData.1
  | 0x30420 => match s.part with | .tkw6417 => 0 | .tkw3209 => v
  | _ => v

/-- The whole value of a register, 64 bits for a pair. -/
def State.regValue (s : State) (r : RegD) (i j : Nat) : Nat := s.special r i (s.combine r i j)

/-- The word at a device address, with no effect of the read and no holding copy. -/
def State.regPeek (s : State) (a : Nat) : Nat :=
  if !s.blkLive a then 0
  else
    match regAt a with
    | none => 0
    | some (r, i, j, h) => bitsOf (s.regValue r i j) (32 * h) 32

/-- `n` consecutive words, as bytes. -/
def State.regImage (s : State) (a n : Nat) : List Byte := (List.range n).flatMap fun k => leBytes 4 (s.regPeek (a + 4 * k))

end Sys2Proof.Machine
end

