-- ==== Sys2Proof/Machine/Modes.lean ====
section
/-!
DEFINITION. Operating modes (spec/08): the transitions (R213 to R218), FOCUS (R223 to R225, R232), SERVE (R226, R227), DRAIN (R229,
R230), SLEEP and MAINT (R231, R232), HALT with the Negative (R233, R234, R376 to R378), the resets (R220, R235 to R237).
-/

namespace Sys2Proof.Machine
open Host

/-! ## Modes (R213 to R216) -/

/-- The stack is in mode `m`: test runs and expert training are cut short, voltages follow the mode, a contact sheet is given up
where the mode writes none (R388), the host is told. DESIGN CHOICE, unsafe (log 156). -/
def State.enterMode (s : State) (m : Nat) : State :=
  let s1 := (((s.leaveMaint m).setFld F.GLOBAL_MODE_mode 0 0 m).cutBist.cutTraining).settleVolts
  (if sheetMode m then s1 else s1.dropSheet).hostEvent 4 0xFF m 0

/-- The targets the table of R215 allows MODE_SET from a mode. -/
def modeTargets (m : Nat) : List Nat :=
  match m with
  | 0 => [1] | 1 => [7] | 2 => [1, 3, 5, 6, 7] | 3 => [4, 7] | 4 => [7] | 5 => [2, 7] | 6 => [2, 7] | _ => []

/-! ## FOCUS (R223 to R225, R232) -/

def State.present (s : State) (c : Nat) : Bool := Machine.present s.part c
def State.chansPresent (s : State) : List Nat := (List.range 34).filter fun c => s.present c

/-- Committed fuse records, then soft records, are applied to a channel (R320, R321). DEDUCED, unsafe (log 136). -/
def State.applyRepairs (s : State) (c : Nat) : State :=
  let s1 := (List.range 64).foldl (fun s n => s.applyRecord c (s.fuseSlot c n) false) s
  (List.range 16).foldl (fun s n => s.applyRecord c (s.fld F.CH_REPAIR_SOFT_record c n) false) s1

/-- The rate point FOCUS trains a channel at after a cold reset (R205). -/
def State.coldRate (s : State) (c : Nat) : Nat :=
  let l := List.range (logicals s.part)
  if c < logicals s.part then smapGet 0 s.mg.rates c
  else if l.all fun k => smapGet 0 s.mg.rates k == 1 then 1 else 0

/-- Step 4 begins for a channel: it leaves self-refresh for training. A retired channel is not trained. -/
def State.focusTrain (s : State) (c : Nat) : State :=
  if s.fld F.CH_ID_state c 0 = 4 then s
  else
    let s1 := if s.fld F.CH_ID_state c 0 = 3 then s.exitSr c else s
    (s1.setFld F.CH_ID_state c 0 1).beginTraining c false

/-- The touched channels of MAINT. -/
def State.touched (s : State) : List Nat :=
  (List.range 34).filter fun c => bitOf (s.fld F.GLOBAL_MAINT_TOUCHED_channel 0 0) c

/-- FOCUS is entered: steps 1 to 4 begin; a HALT that SAFELIGHT has not taken is past
(R217). It runs in retention when it follows a warm reset, or is entered from READY or MAINT.
DESIGN CHOICE, unsafe (log 135). -/
def State.focusEnter (s : State) (host : Bool) : State :=
  let was := s.mode
  let keep := was != 0 || s.fld F.GLOBAL_RESET_CAUSE_type 0 0 == 1
  let s1 := (s.enterMode 1).setBusy { target := 2, since := s.tb, host := host, fromMaint := was == 6 }
  let s2 := ((s1.setFld F.GLOBAL_FOCUS_retention 0 0 (b2n keep)).setFld F.GLOBAL_FOCUS_step 0 0 4).setFld F.GLOBAL_FOCUS_FAIL_channel 0 0 0
  let s3 := (s2.domainsOn).holdAll true ((List.range (lanes s.part)).map (68 + ·))
  let s4a := (List.range 8).foldl (fun s l => s.laneEnable l false) s3
  let s4b := if was = 0 then { s4a with fc := { s4a.fc with haltDue := none, noDump := false, keepOpen := false } } else s4a
  let s4 := s4b
  let fix := if was = 0 then s4.chansPresent else if was = 6 then s4.touched else []
  let train := if was = 6 then s4.touched else s4.chansPresent
  let s5 := fix.foldl (fun s c => ((s.setChan c { s.chan c with spares := [] }).spareStat c).applyRepairs c) s4
  let s6 := if keep then s5 else s5.chansPresent.foldl (fun s c => s.setFld F.CH_ID_rate c 0 (s.coldRate c)) s5
  (train.foldl (fun s c => s.focusTrain c) s6).calRunFree

/-- A channel that can serve: on, trained or in service, and not to retire. -/
def State.chanGood (s : State) (c : Nat) : Bool :=
  s.chanOn c && s.fld F.CH_ID_state c 0 != 4 && !(s.chan c).retiring

/-- Step 5 after a cold reset: logical L on physical L, a spare in place of one that failed or is retired, else ABSENT. -/
def State.coldMap (s : State) : State :=
  ((List.range (logicals s.part)).foldl (fun (a : List Nat × State) l =>
    if a.2.chanGood l then (a.1, a.2.putMap l l 0x3F 0)
    else match a.1 with
      | p :: r => (r, a.2.putMap l p 0x3F 0)
      | [] => ([], ((a.2.putMap l l 0x3F 2).wentAbsent l).hostEvent 3 0xFF l 0))
    ([32, 33].filter fun p => s.chanGood p, s)).2

/-- A channel's state and logical number after step 5. -/
def State.placeChan (s : State) (c : Nat) : State :=
  if !s.chanOn c then s
  else
    let l := s.logicalAt c
    (s.setFld F.CH_ID_logical c 0 (l.getD 0x3F)).setFld F.CH_ID_state c 0
      (if s.fld F.CH_ID_state c 0 = 4 ∨ ((s.chan c).retiring ∧ l.isNone) then 4 else if l.isSome then 2 else 5) |>.busyNow c

/-- Zeros in the device area of physical channel `c`, in class C4 (step 7). -/
def State.zeroArea (s : State) (c : Nat) : State :=
  let a := dkey c 0x7E000000
  let g := gkey c (0x7E000000 / 64)
  let x := (s.sweepRows c 0xFC00 0x10000).chan c
  let s1 := ({ s.sweepRows c 0xFC00 0x10000 with dram := smapDrop s.dram a (a + 0x2000000), gran := smapDrop s.gran g (g + 0x80000) }.setChan c
    { x with wq := x.wq.filter fun w => decide (w.gran < 0x7E000000 / 64) }).addFld F.RG_CNT_WR_granules c 4 0x80000
  s1.markInit c 0x7E000000 0x80000000

/-- The ED cleared, and the tick unit as at a cold start. -/
def State.clearWorld (s : State) : State :=
  let s1 := s.clearEd
  ({ s1 with tk := {} }.setFld F.TK_COMMITTED_tick 0 0 (2 ^ 64 - 1)).setFld F.TK_STATUS_phase 0 0 0

/-- Step 7: after a cold reset every device area of a good channel, the ED, the sessions and the tick unit; after MAINT the device areas of
touched channels, spares included, and the world where one of them serves. -/
def State.focusInit (s : State) (keep fromMaint : Bool) : State :=
  if !keep then
    let s1 := ((s.chansPresent.filter fun c => s.chanGood c).foldl (fun s c => s.zeroArea c) s).clearWorld
    { s1 with ses := [] }
  else if fromMaint then
    let s1 := (s.touched.filter fun c => s.chanOn c).foldl (fun s c => s.zeroArea c) s
    if s.touched.any fun c => (s.logicalAt c).isSome then
      let s2 := s1.clearWorld
      { s2 with mg := { s2.mg with title := none } }
    else s1
  else s

/-! ## HALT (R217, R233, R234, R376 to R378) -/

/-- Logical channel 0 is served. -/
def State.served0 (s : State) : Bool := s.fld F.RG_CHMAP_state 0 0 != 2 && (s.logicalAt (s.fld F.RG_CHMAP_phys 0 0)).isSome

/-- Steps 1 to 3 of R233 without the tick unit's: issue stops by the mode; the port pipeline is emptied, data lanes disabled. -/
def State.stopPorts (s : State) : State :=
  let s1 := { s with st := { s.st with builds := [], closeWait := [] }, pt := { s.pt with egress := [] } }
  (List.range 8).foldl (fun s l => s.laneEnable l false) (s1.setFld F.ST_CTRL_enable 0 0 0)

/-- The commit that is open closes (R116, step 1), but for one that a HALT has kept open, or must keep open. -/
def State.closeOpen (s : State) : State :=
  if s.fldB F.TK_STATUS_commit_open 0 0 && s.mode != 7 && !s.fc.keepOpen then s.commitClose else s

/-- HALT is entered for a cause: a running transition and long command are cut off, but for the MODE_SET that asked for HALT.
DESIGN CHOICE, unsafe (log 138). -/
def State.enterHalt (s : State) (cause : HaltCause) (noDump : Bool) : State :=
  let asked := s.change.any fun c => c.target == 7
  let cut := s.change.isSome && !asked
  let s1 := s.closeOpen
  let h : Halting := { cause := cause, was := s.mode, status := s.fcStatus, time := s.tb, dump := !noDump && s.served0 }
  let s2 := (if asked then s1.changeEnd (s1.fld F.GLOBAL_MODE_result 0 0) 0
    else if cut then s1.changeEnd 3 0x30 else s1).longEnd 0x30
  let s3 := (((s2.enterMode 7).domainsHalt).snapAbort).stopPorts
  let s4 := s3.setFld F.FC_DUMP_SEQ_seq 0 0 (s3.fld F.FC_DUMP_SEQ_seq 0 0 + 1)
  { s4 with
    fc := { s4.fc with haltDue := none, noDump := false, keepOpen := false, halt := some h }
    pm := { s4.pm with sheet := none, sheetAsk := none }
    mg := { s4.mg with image := none } }.cutLong

/-- A whole Negative is present: its commit word fits its sequence (R376). -/
def State.negWhole (s : State) : Bool × Nat × State :=
  let r := s.worldGet (negAddr 0) 64 34 none
  let w := leAt r.1 0x3C 4
  (decide (r.2.1 = some .clean) && w == leAt r.1 0x28 4 % 2 ^ 30 * 4 + 3, w, r.2.2)

/-- The 95 CSRs of a strand context, in ascending number. -/
def ctxCsrs : List Nat :=
  List.range 8 ++ List.range' 0x010 8 ++ List.range' 0x020 7 ++ [0x100] ++ List.range' 0x110 5 ++ List.range' 0x800 66

/-- The sections of the Negative, but for the engines' scratch: offset and bytes (R378). -/
def State.negSections (s : State) : List (Nat × List Byte) :=
  let img (off base n : Nat) : Nat × List Byte := (off, s.regImage base (n * 1024))
  [img 0x1000 0x20000 16, img 0x11000 0 1, img 0x12000 0x1000 1, img 0x13000 0x10000 1, img 0x14000 0x40000 1,
   img 0x15000 0x50000 3, img 0x18000 0x200000 2, img 0x1A000 0x300000 1, img 0x1B000 0x310000 1, img 0x1C000 0x320000 2] ++
  ((List.range 34).map fun c => img (0x20000 + 0x1000 * c) (0x1000000 + 0x10000 * c) 1) ++
  ((List.range 9).map fun n => img (0x48000 + 0x1000 * n) (0x100000 + 0x1000 * n) 1) ++
  ((List.range 34).map fun e => img (0x60000 + 0x1000 * e) (0x2000000 + 0x10000 * e) 1) ++
  (((List.range 35).filter fun e => s.engOn e).flatMap fun e => (List.range 16).map fun t =>
    (0x90000 + 0x4000 * e + 0x400 * t, ctxCsrs.flatMap fun n => leBytes 8 (s.readCsr e t n false).toNat)) ++
  [(0x640000, s.rdScratch 34 0 1048576)]

def haltCode : HaltCause → Nat
  | .fault => 1 | .overheat => 2 | .modeSet => 3

/-- Header bytes 0x00 to 0x3B. The firmware log (bit 6) is not written: what firmware logs is its own. -/
def State.negHeader (s : State) (h : Halting) : List Byte :=
  let first := s.fldB F.FC_FIRST_valid 0 0
  leBytes 4 0x5647454E ++ leBytes 2 1 ++ leBytes 2 0x1BF ++ leBytes 8 h.time ++ leBytes 8 (s.fld F.TK_COMMITTED_tick 0 0) ++
  leBytes 8 h.status ++ leBytes 8 (bitSet ((List.range 34).filter fun e => s.engOn e)) ++
  leBytes 4 (s.fld F.FC_DUMP_SEQ_seq 0 0) ++ leBytes 1 (haltCode h.cause) ++
  leBytes 1 (if first then s.fld F.FC_FIRST_group 0 0 else 0xFF) ++ leBytes 1 (if first then s.fld F.FC_FIRST_source 0 0 else 0) ++
  leBytes 1 h.was ++ leBytes 8 s.tb ++ leBytes 4 (s.regPeek 0)

/-- Firmware's write into the Negative. -/
def State.negPut (s : State) (off : Nat) (bs : List Byte) : State := s.worldPut (negAddr off) 34 bs

/-- Step 4 of R233: the commit word 0, the sections, the header, the commit word. -/
def State.writeNegative (s : State) (h : Halting) : State :=
  let s := s.lanesNow
  let w := s.negWhole
  if !h.dump then s
  else if w.1 && s.fldB F.FC_CFG_keep_negative 0 0 then w.2.2
  else
    let l := s.negSections
    let s1 := (w.2.2.negPut 0x3C (leBytes 4 0)).zeroDev none 0 0x1000000 0x1000000
    let s2 := l.foldl (fun s e => s.negPut e.1 e.2) s1
    let s3 := (List.range 34).foldl (fun s e => s.dumpScratch e) s2
    (s3.negPut 0 (s3.negHeader h)).negPut 0x3C (leBytes 4 (s.fld F.FC_DUMP_SEQ_seq 0 0 % 2 ^ 30 * 4 + 3))

/-- Firmware runs: it has started, and neither a fence nor the watchdog has stopped the SV. -/
def State.fwAlive (s : State) : Bool := s.fldB F.GLOBAL_BOOT_fw_running 0 0 && !(s.eng 34).fenced && !s.wdogOut

/-- Steps 4 and 5 of R233. -/
def State.haltFinish (s : State) (h : Halting) : State :=
  let s0 := { s with fc := { s.fc with halt := none } }
  if !s.fwAlive then s0
  else ((List.range 34).foldl (fun s e => s.setFld F.CE_CTRL_run e 0 0) (s0.writeNegative h)).domainsLow false

/-- The engines' operations have drained, or the 20 µs of step 2 have passed. -/
def State.haltDrained (s : State) (h : Halting) : Bool :=
  decide (h.time + 20000 ≤ s.tb) || s.ops.all fun o => decide (o.st = .waiting)

/-- HALT_ENTRY: a HALT that is due takes effect once no fence is in progress, after 10 µs at the latest (R367); in SAFELIGHT it changes nothing (R217). In HALT
steps 4 and 5 follow once the engines have drained. -/
def State.haltEntry (s : State) (cause : HaltCause) : State :=
  match s.fc.halt with
  | some h => if s.haltDrained h then s.haltFinish h else s
  | none =>
    if s.fc.haltDue ≠ some cause ∨ (s.fencing ∧ s.tb < s.fc.haltAt + 10000) then s
    else if s.mode = 0 ∨ s.mode = 7 then { s with fc := { s.fc with haltDue := none, noDump := false, keepOpen := false } }
    else s.enterHalt cause s.fc.noDump
def execHaltEntry (cause : HaltCause) (s : State) : Outcome State Fault Refusal := .next (s.haltEntry cause)

/-! ## The end of FOCUS -/

/-- FOCUS_COMPLETE: every training has ended. DESIGN CHOICE, unsafe (log 137). -/
def State.focusComplete (s : State) : State :=
  if s.mode ≠ 1 ∨ s.fc.haltDue.isSome ∨ (List.range 34).any fun c => (s.trnOf c).gathering then s
  else
    let keep := s.fldB F.GLOBAL_FOCUS_retention 0 0
    let fromMaint := s.change.any fun c => c.fromMaint
    let failed := s.chansPresent.filter fun c => (s.chan c).retiring && s.fld F.CH_ID_state c 0 != 4
    let s1 := s.setFld F.GLOBAL_FOCUS_FAIL_channel 0 0 (bitSet failed)
    let s2 := if keep then s1 else s1.coldMap
    let s3 := s2.chansPresent.foldl (fun s c => s.placeChan c) s2
    let s4 := if keep then failed.foldl (fun s c => s.retireChannel c) s3 else s3.c0Holds
    let s5 := ((s4.focusInit keep fromMaint).setFld F.GLOBAL_FOCUS_step 0 0 0).setFld F.GLOBAL_FOCUS_retention 0 0 0
    if s5.fld F.RG_CHMAP_state 0 0 = 2 then s5.enterHalt .fault true
    else (s5.enterMode 2).changeEnd 0 0
def execFocusComplete (s : State) : Outcome State Fault Refusal := .next s.focusComplete

/-! ## SERVE (R226, R227) -/

/-- An engine that serves a logical channel. -/
def State.serving (s : State) (e : Nat) : Bool :=
  let l := s.fld F.CE_ID_logical e 0
  s.present e && decide (l < logicals s.part) && s.fld F.RG_CHMAP_state l 0 != 2

def State.schedOk (s : State) : Bool :=
  let p := s.fld F.TK_PERIOD_ns 0 0
  let i := s.fld F.TK_INGEST_CLOSE_ns 0 0
  let d := s.fld F.TK_COMMIT_DL_ns 0 0
  decide (1000000 ≤ p) && decide (p ≤ 1000000000) && decide (10000 ≤ i) && decide (i < d) && decide (d ≤ p)

/-- The conditions of R226. -/
def State.serveOk (s : State) : Bool :=
  ((List.range 34).all fun e => !s.serving e ||
    (s.engOn e && s.fldB F.CE_CTRL_imem_lock e 0 && s.fldB F.CE_CTRL_run e 0 && s.fldB F.CE_STRAND_EN_en e 0)) &&
  s.fldB F.TK_CTRL_run 0 0 && s.schedOk &&
  (s.noneCommitted || s.fld F.TK_NEXT_tick 0 0 == s.fld F.TK_COMMITTED_tick 0 0 + 1) &&
  !s.fldB F.TK_WARM_busy 0 0 && !s.fldB F.GLOBAL_RESTORE_CTRL_busy 0 0

/-- The commit ring is emptied, but for the record of the tick committed. -/
def State.emptyRing (s : State) : State :=
  (List.range 64).foldl (fun s k =>
    if !s.noneCommitted && s.fld F.TK_COMMITTED_tick 0 0 % 64 == k then s
    else s.tkWrite (recordAddr k + 60) 4 0xFFFFFFFF) s

/-- The first start of a tick that is not in the past: TK_START moved on by whole periods (R109). -/
def State.firstStart (s : State) : Nat :=
  let t := s.fld F.TK_START_time 0 0
  let p := s.fld F.TK_PERIOD_ns 0 0
  if s.tb ≤ t then t else t + (s.tb - t + p - 1) / p * p

def State.serveEnter (s : State) : State :=
  let s1 := s.emptyRing.setFld F.TK_START_time 0 0 s.firstStart
  let s2 := { s1 with tk := { s1.tk with cur := none, sim := none, cond := none, counted := [], slips := 0 } }
  (s2.setFld F.TK_STATUS_phase 0 0 0).enterMode 3

/-! ## DRAIN (R229, R230) -/

/-- The newest tick whose SIMULATE has opened. -/
def State.drainTick (s : State) : Option Nat :=
  match s.tk.sim with
  | some n => some n
  | none => if s.noneCommitted then none else some (s.fld F.TK_COMMITTED_tick 0 0)

def State.drainEnter (s : State) (host : Bool) : State :=
  let t := s.drainTick
  let at' := match t.bind fun n => s.st.slots.find? fun x => x.tick == n with
    | some x => x.base + 2 * x.per
    | none => s.tb
  (s.enterMode 4).setBusy { target := 2, since := s.tb, host := host, drainT := t, closeAt := at' }

/-- DRAIN_SESSION_CLOSE (R229, step 3). -/
def State.drainClose (s : State) : State :=
  match s.change with
  | some c =>
    if s.mode = 4 ∧ s.fc.haltDue.isNone ∧ !c.closed ∧ c.closeAt ≤ s.tb then
      let s1 := (s.ses.map (·.1)).foldl (fun s i => s.closeSession i 0) s
      { s1 with change := some { c with closed := true } }
    else s
  | none => s
def execDrainSessionClose (s : State) : Outcome State Fault Refusal := .next s.drainClose

/-- The drain ends in READY: `next` is the tick that follows, `forced` the sessions forced FREE.
DESIGN CHOICE, unsafe (log 140). -/
def State.drainEnd (s : State) (next : Option Nat) (forced : Nat) : State :=
  let s1 := s.setFld F.GLOBAL_DRAIN_forced 0 0 (min forced 65535)
  let s2 := match next with | some n => s1.setFld F.TK_NEXT_tick 0 0 n | none => s1
  let s3 := { s2 with tk := { s2.tk with cur := none, sim := none, cond := none, counted := [] } }
  ((s3.setFld F.TK_STATUS_phase 0 0 0).enterMode 2).changeEnd 0 0

def State.allFree (s : State) : Bool := s.ses.all fun x => decide (x.2.ctx.st = .free)

/-- DRAIN_COMPLETE (R229, step 5). -/
def State.drainComplete (s : State) : State :=
  match s.change with
  | some c =>
    if s.mode = 4 && s.fc.haltDue.isNone && c.closed && s.allFree && s.pt.egress.isEmpty && !s.snapRuns && s.tk.sim.isNone then
      s.drainEnd (c.drainT.map (· + 1)) 0
    else s
  | none => s
def execDrainComplete (s : State) : Outcome State Fault Refusal := .next s.drainComplete

/-- A session is forced FREE without a CLOSE datagram. -/
def State.forceFree (s : State) (i : Nat) : State :=
  let s1 := s.endSends i 1
  let s2 := { s1 with
    st := { s1.st with msgs := s1.st.msgs.filter fun (m : Msg) => m.ses != i
                       builds := s1.st.builds.filter fun (b : Build) => b.ses != i }
    pt := { s1.pt with egress := s1.pt.egress.filter fun (p : Pkt) => p.ses != some i } }
  s2.freeSession i 0

/-- DRAIN_TIMEOUT (R230). A tick that is not committed by then is given up: TK_NEXT names the tick after the last committed. -/
def State.drainTimeout (s : State) : State :=
  match s.change with
  | some c =>
    let ms := clampNat 10 60000 (s.fld F.GLOBAL_DRAIN_max_ms 0 0)
    if s.mode = 4 ∧ s.fc.haltDue.isNone ∧ c.since + ms * 1000000 ≤ s.tb then
      let l := (s.ses.filter fun x => decide (x.2.ctx.st ≠ .free)).map (·.1)
      let s1 := ((l.foldl (fun s i => s.forceFree i) s).snapAbort).closeOpen
      s1.drainEnd (if s1.noneCommitted then c.drainT else some (s1.fld F.TK_COMMITTED_tick 0 0 + 1)) l.length
    else s
  | none => s
def execDrainTimeout (s : State) : Outcome State Fault Refusal := .next s.drainTimeout

/-! ## SLEEP and MAINT (R231, R232) -/

def State.sleepEnter (s : State) : State := (s.sleepAll.domainsLow true).enterMode 5

/-- A channel leaves the self-refresh of SLEEP: one that serves into service, a spare to its place, one not trained into training. -/
def State.wakeChan (s : State) (c : Nat) : State :=
  if s.chanOn c ∧ s.fld F.CH_ID_state c 0 = 3 then
    let s1 := s.exitSr c
    if !s.fldB F.CH_TRN_STAT_trained c 0 then (s1.setFld F.CH_ID_state c 0 1).beginTraining c false
    else if (s1.logicalAt c).isSome then s1 else s1.setFld F.CH_ID_state c 0 5
  else s

/-- MODE_SET READY in SLEEP: the domains and the engines of logical channels come on, channels leave self-refresh, the staged title image
is verified again, written and locked. With none that verifies the MODE_SET ends AUTH_FAILED, in READY, with the engines stopped.
DEDUCED, unsafe (log 141). -/
def State.sleepLeave (s : State) : State :=
  let s1 := s.domainsOn.holdAll true ((List.range 34).filter fun e => s.serving e)
  let s2 := (List.range 34).foldl (fun s c => s.wakeChan c) s1
  match s2.mg.title with
  | none => (s2.enterMode 2).changeEnd 0 0x14
  | some n =>
    let r := s2.staged n
    let s3 := r.2.2
    if r.2.1 && s3.titleOk r.1 then
      let code := ((imageSections r.1).filter fun x => x.kind == 1).map (·.body)
      (((List.range 34).foldl (fun s e => s.loadEngine e code) s3).enterMode 2).changeEnd 0 0
    else (s3.enterMode 2).changeEnd 0 0x14

def State.maintEnter (s : State) : State :=
  ((s.setFld F.GLOBAL_MAINT_TOUCHED_channel 0 0 0).setFld F.ST_CTRL_enable 0 0 0).enterMode 6

/-! ## Mode requests -/

/-- The condition of an allowed transition (R215). -/
def State.modeCond (s : State) (target : Nat) : Bool :=
  if s.mode = 0 then s.fldB F.GLOBAL_BOOT_fw_running 0 0
  else if target = 3 then s.serveOk
  else if target = 5 then s.allStopped
  else if target = 6 then s.allStopped && !s.snapRuns
  else true

/-- A transition that the table allows and whose condition holds begins; what needs no further event ends at once. -/
def State.modeBegin (s : State) (target : Nat) (host : Bool) : State :=
  let now (s : State) : State := ({ s with change := some { target := target, since := s.tb, host := host } }).changeEnd 0 0
  if target = 7 then
    let cut := s.change.isSome
    let s1 := (if cut then s.setFld F.GLOBAL_MODE_result 0 0 3 else s.setFld F.GLOBAL_MODE_result 0 0 0).haltFor .modeSet false |>.cutLong
    s1.setBusy { target := 7, since := s.tb, host := host }
  else if target = 1 then
    let s1 := s.focusEnter false
    if host then s1.longEnd 0 else s1
  else if target = 3 then now s.serveEnter
  else if target = 4 then s.drainEnter host
  else if target = 5 then now s.sleepEnter
  else if target = 6 then now s.maintEnter
  else if s.mode = 5 then ({ s with change := some { target := 2, since := s.tb, host := host } }).sleepLeave
  else s.focusEnter host

/-- GLOBAL_MODE_SET (R214): firmware's write is checked against the table, then against the transition's condition. A write while another
transition runs is judged the same way; only HALT is allowed then. DEDUCED, unsafe (log 23). -/
def State.globalModeSet (s : State) (target : Nat) : State :=
  if s.inReset || !s.fldB F.GLOBAL_BOOT_fw_running 0 0 then s
  else if !(modeTargets s.mode).contains target then s.setFld F.GLOBAL_MODE_result 0 0 1
  else if !s.modeCond target then s.setFld F.GLOBAL_MODE_result 0 0 2
  else s.modeBegin target false
def execGlobalModeSet (target : BitVec 3) (s : State) : Outcome State Fault Refusal := .next (s.globalModeSet target.toNat)

/-! ## Boot and the resets (R220, R235 to R237) -/

/-- The power manager powers the SV at 0.75 V; the engines' domains are held there too (R220, step 2). -/
def State.bootVolts (s : State) : State :=
  (((s.setFld F.PWR_SV_set_code 0 0 15).setV 34 15).setGoal 34 15).settleVolts

/-- Steps 1 to 4 of R220: BOOT_SEL and TEST_EN sampled, the SV powered, the boot nonce drawn (a free value), LNM's training started,
SAFELIGHT. A cold reset that a trip preceded is past (R346); with REFCLK_TB away the timebase starts on the backup oscillator (R411). -/
def State.boot (s : State) (bootSel : Nat) (testEn : Bool) : State :=
  let s0 : State := { s with inReset := false, testEn := testEn, wdogAt := s.tb, romLocked := false, pwr := { s.pwr with tripped := false } }
  let s1 := (s0.setFld F.GLOBAL_BOOT_boot_sel 0 0 bootSel).bootVolts
  let s2 := (s1.useFree.setFld F.MG_NONCE_nonce 0 0 s1.freeVal).setFld F.MG_SEQ_seq 0 0 0
  let s3 := (s2.setFld F.GLOBAL_MODE_mode 0 0 0).startTraining 8 1
  if s.clkLost.contains 0 && !s3.fldB F.TB_STATUS_backup 0 0 then s3.onBackup else s3

/-- RESET_N_RISE. -/
def execResetNRise (bootSel : BitVec 2) (testEn : Bool) (s : State) : Outcome State Fault Refusal :=
  .next (if s.inReset then s.boot bootSel.toNat testEn else s)

/-- FUSE after a cold reset: its keys and repair records; a record cut short has no commit bit, and which of its bits are blown is a
free value (R322). -/
def State.fuseKept (s : State) : Nv :=
  { fuse := s.nv.fuse, keys := s.nv.keys, keyHash := s.nv.keyHash
    repair := match s.nv.prog with
      | some (c, n, _) => smapPut 0 s.nv.repair (c * 64 + n) (s.freeVal % 2 ^ 63)
      | none => s.nv.repair }

/-- The source a cold reset records (R407): the hardware trip's if it has acted, whichever pin began it. -/
def State.resetSource (s : State) (src : ResetSource) : Nat :=
  match src with
  | .powerOn => 0
  | .command => 3
  | .resetN => if s.pwr.tripped then 4 else 1
  | .pwrgood => if s.pwr.tripped then 4 else 2
  | .trip => 4

/-- Every domain except FUSE is reset; DRAM is not refreshed and its contents are lost. The clocks that are away are so still (R411), and a
trip holds THERM_N until the reset ends (R346, R409). -/
def State.coldState (s : State) (src : ResetSource) : State :=
  let s0 := { State.reset with
    part := s.part, regs := s.nv.fuse, nv := s.fuseKept, free := s.free + 1, pending := s.pending
    tap := if src = ResetSource.powerOn then {} else s.tap, clkLost := s.clkLost
    pwr := { State.reset.pwr with tripped := s.pwr.tripped && src != ResetSource.powerOn } }
  s0.setFld F.GLOBAL_RESET_CAUSE_source 0 0 (s.resetSource src)

/-- COLD_RESET: the pins and power-on hold the stack in reset until RESET_N rises; a RESET command, 100 µs after its response, restarts
with the straps as they stand. A trip is the source only where one has acted. DESIGN CHOICE, unsafe (log 142). -/
def State.coldReset (s : State) (src : ResetSource) : State :=
  match src with
  | .command =>
    if s.mg.reset.any fun r => r.1 == 0 && decide (r.2 ≤ s.tb) then
      (s.coldState src).boot (s.fld F.GLOBAL_BOOT_boot_sel 0 0) s.testEn
    else s
  | .trip => if s.pwr.tripped then s.coldState src else s
  | _ => s.coldState src
/-- DESIGN CHOICE, safe (log 161). -/
def execColdReset (src : ResetSource) (s : State) : Outcome State Fault Refusal := .next (s.coldReset src)

/-- An atomic that is on its way or queued is performed: the new operand goes to every channel that must hold it (R244, R266). -/
def State.flushAtomic (s : State) (r : Req) (o : Op) (op : Nat) : State :=
  let d := s.decode r.phys r.gran []
  if d.1.out.bad then d.2.demand r.phys r.gran r.waddr r.master 2 d.1
  else
    let img := withOperand d.1.data o.addr o.len (amoNew op o.len (operandOf d.1.data o.addr o.len) o.a1 o.a2)
    let to_ := match s.place o.addr with
      | .at l off => (match s.route l off with | some t => t.wr | none => [r.phys])
      | .backing => [r.phys]
    to_.foldl (fun s c => s.wholeGran c r.gran r.master r.cls r.waddr (bytesAt 0 img)) d.2

/-- A request that is on its way or queued is performed (R236, step 2); a read changes nothing that a reset keeps. -/
def State.flushReq (s : State) (r : Req) : State :=
  match r.kind with
  | .write => if r.poison then s else s.writeGran r.phys r.gran r.master r.cls r.waddr r.wr
  | .atomic => (match s.findOp r.op with
    | some o => (match o.kind with | .amo op _ => s.flushAtomic r o op | _ => s)
    | none => s)
  | .read => s

/-- What an operation still has to do: a bulk transfer that has begun sends its granules that are left, a directory operation that waits for
nothing but its response is performed. -/
def State.flushOp (s : State) (o : Op) : State :=
  match o.st, o.kind with
  | .sent, .fill => ((List.range (o.granules - o.prog)).foldl (fun s _ => s.sendGranule o.id) s).fillMarks o.addr o.len
  | .sent, .sdmaOut => (List.range (o.granules - o.prog)).foldl (fun s _ => s.sendGranule o.id) s
  | .sent, .entLock | .sent, .entUnlock | .sent, .entPub | .sent, .entNew | .sent, .entFree | .sent, .entMove => s.edAnswer o
  | _, _ => s

/-- The queues of a channel empty. -/
def State.flushQueue (s : State) (c : Nat) : State :=
  let x := s.chan c
  let s1 := s.setChan c { x with wq := [], rq := [], locked := [] }
  let s2 := x.wq.foldl (fun s w =>
    let v := w.writers.headD (writerOf 0x3F 0)
    if w.poison then s.storePoison c w.gran (overlay (List.replicate 64 0) w.bytes)
    else s.writeGran c w.gran v.master w.cls v.addr w.bytes) s1
  x.rq.foldl (fun s r => s.flushReq r) s2

/-- What is outstanding drains: operations send what is left of them; the queues empty in their order, then requests not yet admitted. -/
def State.flushAll (s : State) : State :=
  let s1 := s.ops.foldl (fun s o => s.flushOp o) s
  let s2 := (List.range 34).foldl (fun s c => s.flushQueue c) s1
  s2.reqs.foldl (fun s r => s.flushReq r) s2

/-- A register field put back to what it was before a reset. -/
def State.keepFld (s old : State) (f : Fld) (n : Nat) : State := (List.range n).foldl (fun s i => s.setFld f i 0 (old.fld f i 0)) s

/-- Every fence but a retired engine's ends, and the windows of the fault counts restart (R359, R372).
DESIGN CHOICE, unsafe (log 166). -/
def State.warmFaults (s : State) : State :=
  let f := s.fld F.FC_FENCE_master 0 0
  let s1 := (s.setFld F.FC_FENCE_master 0 0 (bitSet ((List.range 63).filter fun m => bitOf f m && s.fc.retired.contains m))).setFld
    F.FC_FENCE_STATUS_busy 0 0 0
  (List.range 58).foldl (fun s g => (List.range 8).foldl (fun s k => s.setFld F.FC_G_SRC_COUNT_count g k 0) s) s1

/-- The registers of the SV, LNM, port, session, delta and regulation blocks return to reset; CH_MAP is kept. -/
def State.warmRegs (s : State) : State :=
  let s1 := [(0x1000, 0x2000), (0x30000, 0x40000), (0x50000, 0x60000), (0x108000, 0x109000), (0x200000, 0x210000),
    (0x310000, 0x330000), (0x2400000, 0x2410000), (0x3000000, 0x5000000)].foldl (fun (s : State) (r : Nat × Nat) => s.loseRegs r.1 r.2) s
  let s2 := [F.RG_CHMAP_phys, F.RG_CHMAP_old, F.RG_CHMAP_state, F.RG_CHCUR_cursor].foldl (fun s' f => s'.keepFld s f 32) s1
  [F.GLOBAL_MODE_mode, F.GLOBAL_MODE_busy, F.GLOBAL_MODE_target, F.GLOBAL_BOOT_result, F.GLOBAL_BOOT_fw_running,
   F.GLOBAL_FOCUS_step, F.GLOBAL_FOCUS_retention, F.GLOBAL_RESTORE_CTRL_busy, F.TK_WARM_busy, F.TK_STATUS_phase,
   F.TK_STATUS_snap_hold, F.TK_STATUS_commit_open, F.SNAP_STATUS_state].foldl (fun s f => s.setFld f 0 0 0) s2

/-- The state that no register holds: what a warm reset loses (R237). -/
def State.warmLose (s : State) : State :=
  { s with
    holdRd := [], holdWr := [], strands := [], engs := s.engs.map fun x => (x.1, { ({} : Eng) with fenced := s.fc.retired.contains x.1 })
    svram := [], ops := [], reqs := [], ses := [], st := {}, snap := {}, pt := {}, pm := {}, mg := {}, change := none
    tk := { s.tk with cur := none, sim := none, cond := none, counted := [], fenced := [], fencedAt := [] }
    nv := { fuse := s.nv.fuse, keys := s.nv.keys, keyHash := s.nv.keyHash, repair := s.nv.repair, prog := s.nv.prog }
    fc := { s.fc with haltDue := none, noDump := false, keepOpen := false, halt := none, notify := false, win := [], reacts := [] }
    wdogAt := s.tb, wdogLoad := 100000, wdogOut := false, copyStopped := [], mapMark := 0 }

/-- WARM_RESET (R236): steps 1 to 3 of R233, the queues emptied, trained channels into self-refresh, the switched domains reset but for the
ED quarters, and the secure boot again. DESIGN CHOICE, unsafe (log 143). -/
def State.warmReset (s : State) : State :=
  if s.pwr.tripped || !(s.mg.reset.any fun r => r.1 == 1 && decide (r.2 ≤ s.tb)) then s
  else
    let s1 := (s.closeOpen.stopPorts.flushAll).sleepAll
    let s2 := s1.holdAll false (ceDoms ++ laneDoms ++ duDoms ++ stDoms ++ seqDoms)
    let s3 := (s2.holdAll false meshDoms).warmRegs.warmFaults.warmLose
    let s4 := ((s3.setFld F.GLOBAL_RESET_CAUSE_type 0 0 1).setFld F.GLOBAL_RESET_CAUSE_source 0 0 3).addFld
      F.GLOBAL_RESET_CAUSE_warm_count 0 0 1
    s4.boot (s.fld F.GLOBAL_BOOT_boot_sel 0 0) s.testEn
def execWarmReset (s : State) : Outcome State Fault Refusal := .next s.warmReset

end Sys2Proof.Machine
end

