-- ==== Sys2Proof/Machine/Rates.lean ====
section
/-!
DEFINITION. CH_RATE (R205, R267, R315, R332) and the events its end hangs on: the end of a training (R311), a granule copied (R244), a
maintenance stall (R314).
-/

namespace Sys2Proof.Machine
open Host

/-! ## CH_RATE -/

/-- The channel gathers training data (R315): it trains, recalibrates, or retrains a line for expert command 5, whose stall may still be
to come. -/
def State.gathers (s : State) (c : Nat) : Bool :=
  (s.trnOf c).gathering || (s.trnOf c).recal != 0 ||
  (s.chan c).stallQ.any fun w => match w with | .retrain _ => true | _ => false

/-- The physical channel of a logical one that is not ABSENT. -/
def State.bound (s : State) (l : Nat) : Option Nat :=
  if s.fld F.RG_CHMAP_state l 0 = 2 then none else some (s.fld F.RG_CHMAP_phys l 0)

/-- In READY and MAINT: the rate is applied in place, or held while the channel gathers training data. -/
def State.rateInPlace (s : State) (r c : Nat) : State :=
  if s.gathers c then
    (s.setTrn c { s.trnOf c with held := some r }).setFld F.CH_TRN_STAT_rate_pending c 0 1
  else s.applyRate c r

/-- In SERVE: a channel that gathers training data shows that a rate is pending. -/
def State.ratePending (s : State) (r c : Nat) : State :=
  s.setFld F.CH_TRN_STAT_rate_pending c 0 (b2n (s.gathers c && s.fld F.CH_ID_rate c 0 != r))

/-- The logical channels of a CH_RATE that have not yet changed. -/
def State.rateLeft (s : State) (r : Nat) (l : List Nat) : List Nat :=
  l.filter fun k => match s.bound k with
    | none => false
    | some c => s.fld F.CH_ID_rate c 0 != r || s.gathers c || (s.trnOf c).held.isSome || s.fld F.RG_CHMAP_state k 0 == 1

/-- In SERVE (R332): the idle spare is trained at the new rate, and the first channel left that gathers nothing is rotated onto it. A
spare that nothing trains, at the expert level, waits for firmware (R313). -/
def State.rateRotate (s : State) (r : Nat) (left : List Nat) : State :=
  match s.idleSpare with
  | none => s
  | some p =>
    if s.gathers p then s
    else if s.fld F.CH_ID_rate p 0 ≠ r then s.applyRate p r
    else if !s.fldB F.CH_TRN_STAT_trained p 0 || left.any fun k => s.fld F.RG_CHMAP_state k 0 == 1 then s
    else
      match left.find? fun k => match s.bound k with | some c => !s.gathers c | none => false with
      | some k => s.moveTo k p (s.fld F.RG_CHMAP_phys k 0)
      | none => s

/-- The status the running CH_RATE shows: held while a channel named gathers data at the old rate. -/
def State.rateShow (s : State) (left : List Nat) (r : Nat) : State :=
  let held := left.any fun k => match s.bound k with
    | some c => s.gathers c && s.fld F.CH_ID_rate c 0 != r
    | none => false
  match s.mg.long with
  | none => s
  | some (sq, _) =>
    { s with mg := { s.mg with
        held := held
        polls := s.mg.polls.map fun (p : Polled) => if p.seq = sq then { p with status := if held then 2 else 1 } else p } }

/-- Firmware goes on with the CH_RATE that runs; it ends DONE when every channel named has changed. -/
def State.rateNext (s : State) : State :=
  match s.mg.rate with
  | none => s
  | some (r, l) =>
    let left := s.rateLeft r l
    if left.isEmpty then
      let s1 := { s with mg := { s.mg with rate := none } }.longEnd 0
      if s1.mode = 3 then s1.rateRotate r [] else s1
    else if s.mode = 3 then
      let s1 := left.foldl (fun s k => match s.bound k with | some c => s.ratePending r c | none => s) s
      (s1.rateRotate r left).rateShow left r
    else s.rateShow left r

/-! ## What it waits for -/

def execChannelTrainingComplete (ch : Fin 34) (meas : List EyeMeas) (s : State) : Outcome State Fault Refusal :=
  .next (s.trainingComplete ch.val meas).rateNext

/-- A channel vacated by a rotation is untrained: it trains, at the rate of the CH_RATE that runs where one does, and is an idle spare when
it is trained and calibrated (R330 steps 5 and 6, R332). -/
def State.vacated (s : State) (c : Nat) : State :=
  let s1 := s.setFld F.CH_ID_state c 0 1
  match s.mg.rate with
  | some (r, _) => s1.applyRate c r
  | none => s1.beginTraining c false

/-- CHANNEL_COPY_GRANULE: the last one of a rotation vacates the old channel. -/
def State.copyStep (s : State) (l : Nat) (ups : List SymErr) : State :=
  let o := s.fld F.RG_CHMAP_old l 0
  let s1 := s.channelCopy l ups
  if s.fld F.RG_CHMAP_state l 0 = 1 ∧ s1.fld F.RG_CHMAP_state l 0 = 0 ∧ s1.fld F.CH_ID_state o 0 = 5 then s1.vacated o else s1

def execChannelCopyGranule (l : Fin 32) (ups : List SymErr) (s : State) : Outcome State Fault Refusal :=
  .next (s.copyStep l.val ups).rateNext

def execMaintenanceStall (ch : Fin 34) (s : State) : Outcome State Fault Refusal := .next (s.maintenanceStall ch.val).rateNext

end Sys2Proof.Machine
end

