-- ==== Sys2Proof/Machine/RegOps.lean ====
section
/-!
DEFINITION. Reads and writes of device registers by address (R6 to R9, R98, R202, R212): what a read changes, what a write sets or
starts. Every path (REGRD and REGWR of an SV strand, the management port) goes through these two operations.
-/

namespace Sys2Proof.Machine
open Host

/-! ## Reads -/

/-- A path reads the register at `a`: the performance monitor is read by SV strands and the management path alone (R379).
DEDUCED, unsafe (log 168). -/
def regSeen (p : Path) (a : Nat) : Bool := match p with | .ce _ _ => a / 0x10000 != 3 | _ => true

/-- The place of a path's captured fraction of the timebase. -/
def fracKey (p : Path) : Nat := 4096 + pathKey p

/-- A read of TB_TIME's low word captures the fraction for the path (R181). DEDUCED, safe (log 162). -/
def State.holdFrac (s : State) (p : Path) (a : Nat) : State :=
  if a = 0x10008 then { s with holdRd := smapInsert s.holdRd (fracKey p) (a, s.tbFrac) } else s

/-- A register of one word whose read has an effect: its value and the state after it. -/
def State.readWord (s : State) (p : Path) (r : RegD) (i j : Nat) : Nat × State :=
  match r.base with
  | 0x2000024 => s.imemRead i
  | 0x3100A0 => (s.fwPop.1, s.fwPop.2.2.holdHigh p 0x3100A0 s.fwPop.2.1)
  | 0x3100A4 =>
    match smapFind s.holdRd (pathKey p) with
    | some (0x3100A0, hi) => (hi, { s with holdRd := smapErase s.holdRd (pathKey p) })
    | _ => (s.regValue r i j, s)
  | 0x200408 => (s.fwWord, { s with pt := { s.pt with fwPos := s.pt.fwPos + 4 } })
  | 0x30408 => s.loupeData
  | 0x10010 => ((match smapFind s.holdRd (fracKey p) with | some x => x.2 | none => 0), s)
  | _ => (s.regValue r i j % 2 ^ 32, s)

/-- A read of one word of a pair (R7): the low word captures the high word, which the path's next read of the high word
answers. Reading PT_TXTS's high word removes its entry (R184). -/
def State.readPair (s : State) (p : Path) (r : RegD) (i j h : Nat) : Nat × State :=
  let v := s.regValue r i j
  let a := r.base + i * r.s1 + j * r.s2
  if h = 0 then (v % 2 ^ 32, (s.holdFrac p a).holdHigh p a (v / 2 ^ 32))
  else if r.base = 0x200420 then s.txtsPop p
  else
    match smapFind s.holdRd (pathKey p) with
    | some (b, hi) => if b = a then (hi, { s with holdRd := smapErase s.holdRd (pathKey p) }) else (v / 2 ^ 32, s)
    | none => (v / 2 ^ 32, s)

/-- A read of the word at `a` on path `p`: 0 where there is no register, where its block is off, or on a path that cannot read it.
DESIGN CHOICE, unsafe (log 14). -/
def State.regRead (s : State) (p : Path) (a : Nat) : Nat × State :=
  if !s.blkLive a || !regSeen p a then (0, s)
  else
    match regAt a with
    | none => (0, s)
    | some (r, i, j, h) =>
      let s1 := if h = 0 then s.laneTouch r.base i else s
      if r.wide then s1.readPair p r i j h else s1.readWord p r i j

/-- PAIR_LOW_READ (R7): a read of a pair's low word. -/
def execPairLowRead (path : Path) (addr : Word32) (s : State) : Outcome State Fault Refusal :=
  .next { (s.regRead path addr.toNat).2 with lastRead := (s.regRead path addr.toNat).1 }

/-! ## Writes of plain fields (R8) -/

/-- The limits of a field whose description clamps what is written. DEDUCED, safe (log 16). -/
def clampOf (f : Fld) : Option (Nat × Nat) :=
  match f.base, f.lo with
  | 0x2C, 0 => some (10, 60000)
  | 0x10030, 1 => some (1, 900)
  | 0x20008, 16 => some (1, 1000)
  | 0x21044, 0 => some (1, 4000000)
  | 0x30010, 0 => some (10, 60000)
  | 0x40004, 0 => some (40, 90)
  | 0x20020C, 0 => some (576, 9194)
  | 0x320004, 0 => some (256, 8972)
  | 0x1000530, 0 => some (1, 10000)
  | 0x1000620, 0 => some (1, 168)
  | 0x100072C, 0 => some (100, 100000)
  | 0x2000040, 0 => some (10, 100000)
  | _, _ => none

def clampFld (f : Fld) (v : Nat) : Nat := match clampOf f with | some (lo, hi) => clampNat lo hi v | none => v

/-- One field of a write of `v`, by its access code; a WO field's action is not here. -/
def State.writeFld (s : State) (f : Fld) (i j v : Nat) : State :=
  let x := bitsOf v f.lo f.w
  match f.acc with
  | .rw => s.setFld f i j (clampFld f x)
  | .rws => s.setShd f i j x
  | .w1c => s.setFld f i j (s.fld f i j &&& (2 ^ f.w - 1 - x))
  | .w1s => s.setFld f i j (s.fld f i j ||| x)
  | .ro => s
  | .wo => s

def State.writeFlds (s : State) (r : RegD) (i j v : Nat) : State := r.flds.foldl (fun s f => s.writeFld f i j v) s

/-- A WO field that sets a value, such as a key word. -/
def State.writeKey (s : State) (r : RegD) (i j v : Nat) : State :=
  r.flds.foldl (fun s f => s.setFld f i j (bitsOf v f.lo f.w)) s

/-! ## Writes with an effect of their own -/

/-- The positions of a channel that training measures: 44 data lines, 14 CA lines and 5 timing signals of either
pseudo-channel. -/
def eyeLines : List (Bool × Nat) := [false, true].flatMap fun pc => (List.range 63).map fun n => (pc, n)

/-- A write of CH_TRN_CMD (R313). What a line's eye measures is a free value. -/
def State.trnCmd (s : State) (c v : Nat) : State :=
  let pc := bitsOf v 16 1
  let n := bitsOf v 10 6
  let m := freeEye s.freeVal (pc == 1) n
  match bitsOf v 0 4 with
  | 1 =>
    let ms := eyeLines.zipIdx.map fun (x : (Bool × Nat) × Nat) => freeEye (Config.freeValue (s.free + x.2)) x.1.1 x.1.2
    ({ s with free := s.free + eyeLines.length }).runStep c (bitsOf v 17 3) ms
  | 2 => s.useFree.measureEye c m
  | 3 => s.centreLine c pc n
  | 4 => s.slipLine c pc n (bitOf v 17)
  | 5 => s.useFree.retrainLine c m
  | 6 => s.trainFull c
  | _ => s

/-- A write of LNn_TRAIN_CMD (R169). -/
def State.laneTrain (s : State) (l v : Nat) : State :=
  match bitsOf v 0 4 with
  | 1 => s.trainCmd l 1 fun s => s.freeze l true
  | 2 => s.trainCmd l 2 fun s => s.freeze l false
  | 3 => s.trainCmd l 3 fun s => s.freeze l false
  | 4 => s.trainCmd l 4 fun s => { s with pt := { s.pt with fir := smapInsert s.pt.fir l (txfir s l) } }
  | 5 =>
    let k := bitsOf v 4 4
    if 1 ≤ k ∧ k ≤ 5 then s.trainCmd l 5 id else if s.laneOn l then s.setFld F.LN_TRAIN_CMD_result l 0 1 else s
  | 6 => s.trainCmd l 6 fun s => s.startTraining l 1
  | _ => s

/-- A write of LNn_CTRL: the management lane has no enable, and a reset of its PMA and PCS retrains it.
DESIGN CHOICE, unsafe (log 19). -/
def State.laneCtrl (s : State) (l v : Nat) : State :=
  let s1 := (s.setFld F.LN_CTRL_level l 0 (bitsOf v 3 1)).setFld F.LN_CTRL_an_en l 0 (bitsOf v 2 1)
  if l = 8 then (if bitOf v 1 then s1.startTraining 8 1 else s1)
  else
    let s2 := s1.laneEnable l (bitOf v 0)
    if bitOf v 1 then s2.pmaReset l else s2

/-- A write of LNn_ALIGN (R170): a lane under software alignment does not count as up; LN_STATUS.train keeps the state it showed.
DESIGN CHOICE, unsafe (log 199). On LNM (block 8) the bit is stored and has no effect, slips too. DESIGN CHOICE, unsafe (log 198). -/
def State.alignWrite (s : State) (l v : Nat) : State :=
  let s1 := if l < 8 && s.fldB F.LN_ALIGN_manual l 0 && s.fldB F.LN_STATUS_up l 0 then
    (s.setFld F.LN_STATUS_up l 0 0).portDown (s.portOf l) 1 else s
  s1.bitSlip l (bitsOf v 0 4)

/-- A write of LNn_PAT_CTRL (R171, R172). -/
def State.patCtrl (s : State) (l v : Nat) : State :=
  let s1 := ((s.setInject l (bitsOf v 16 6)).setFld F.LN_PAT_CTRL_chk l 0 (bitsOf v 8 3)).setFld
    F.LN_PAT_CTRL_gen l 0 (bitsOf v 2 3)
  let s2 := s1.patternMode l (bitOf v 0)
  if bitOf v 15 then s2.flipOne l else s2

/-- A write of TB_PPS (R185): with out_en 0 a pulse under way ends. -/
def State.ppsCtrl (s : State) : State := if s.fldB F.TB_PPS_out_en 0 0 then s else { s with ppsHigh := 0 }

/-- A write of CE_STRAND_CMD (R48). -/
def State.strandCmd (s : State) (e v : Nat) : State :=
  let t := bitsOf v 0 4
  match bitsOf v 8 2 with
  | 0 => s.leaveTrap e t id
  | 1 => s.leaveTrap e t fun x => { x with pc := BitVec.ofNat 16 (s.fld F.CE_SPC_index e t) }
  | 2 =>
    let x := s.strand e t
    if x.title && x.tvec != 0 then s.leaveTrap e t fun x => { x with tt := x.ts, inHandler := true, pc := x.tvec.setWidth 16 }
    else s
  | _ => s.strandStop e t

/-- A write of SV_WDOG (R59): disabling stops the count where it stands. DESIGN CHOICE, unsafe (log 17). -/
def State.wdogWrite (s : State) (v : Nat) : State :=
  let left := s.wdogRemain
  let was := s.fldB F.SV_WDOG_enable 0 0
  let s1 := (s.setFld F.SV_WDOG_enable 0 0 (bitsOf v 30 1)).setFld F.SV_WDOG_timeout_us 0 0 (clampNat 1000 1000000 (bitsOf v 0 20))
  let s2 := if was = bitOf v 30 then s1 else { s1 with wdogLoad := left, wdogAt := s1.tb }
  if bitOf v 31 then s2.wdogKick else s2

/-- A write of ST_CTX_CMD (R133). -/
def State.ctxCmd (s : State) (v : Nat) : State :=
  match bitsOf v 0 3 with
  | 1 => s.ctxRead
  | 2 => s.ctxCreate
  | 3 => s.ctxClose (bitsOf v 8 4)
  | 4 => s.ctxKeyframe
  | 5 => s.ctxMove (bitsOf v 12 3)
  | _ => s

/-- A write of CH_DLY_DATA, at the expert level only. -/
def State.dlyWrite (s : State) (c v : Nat) : State :=
  if (s.trnOf c).level then s.setDelay c (s.dlySel c) (bitsOf v 0 15) else s

/-- A write of CH_REPAIR_SOFT (R321): it applies where its commit bit is set. -/
def State.softWrite (s : State) (c n v : Nat) : State :=
  let s1 := s.setFld F.CH_REPAIR_SOFT_record c n v
  if bitOf v 63 then s1.applyRecord c v (s.chanOn c && s.fld F.CH_ID_state c 0 != 1) else s1

/-- A write of PWR_DOM: the refused bit is cleared by 1; then the domain is switched. Answers whether the switch was refused.
DESIGN CHOICE, unsafe (log 24). -/
def State.domWrite (s : State) (n v : Nat) : Bool × State :=
  (if bitOf v 2 then s.setFld F.PWR_DOM_refused n 0 0 else s).pwrDom n (bitOf v 0)

/-- Whether the operation that a bit of the write starts is asked for. -/
def State.onBit (s : State) (v b : Nat) (f : State → State) : State := if bitOf v b then f s else s

/-- The registers of the always-on blocks and of the tick, session and data-port blocks whose write does more than set fields;
none where it does no more. -/
def State.actLow (s : State) (p : Path) (r : RegD) (i j v : Nat) : Option State :=
  let g := s.writeFlds r i j v
  match r.base with
  | 0x14 => some (match p with | .sv _ => s.globalModeSet (v % 8) | _ => s)
  | 0x48 => some (s.onBit v 0 State.restoreStart)
  | 0x10014 => some (s.setFld F.TB_INCR_incr 0 0 (clampNat 3432537863 3439409811 v))
  | 0x10018 => some (s.tbStep (BitVec.ofNat 64 v))
  | 0x10020 => some (s.tbSlew (BitVec.ofNat 32 v))
  | 0x10030 => some g.ppsCtrl
  | 0x20030 => some (s.inject v)
  | 0x20050 => some (s.reassign v)
  | 0x20058 =>
    some (match bitsOf v 30 2 with | 1 => s.edFix (bitsOf v 0 21) true | 2 => s.edFix (bitsOf v 0 21) false | _ => g)
  | 0x20074 => some (s.onBit v 0 fun s => s.setFld F.FC_DUMP_CTRL_busy 0 0 1)
  | 0x21040 => some (if (faultMap i j).isSome then g else s)
  | 0x21044 => some (if (faultMap i j).isSome then g else s)
  | 0x30008 => some (g.onBit v 0 fun s => { s with pm := { s.pm with commitPending := true } })
  | 0x30200 => some { s with pm := { s.pm with wrote := smapInsert s.pm.wrote i v } }
  | 0x30400 => some (s.loupeCtrl v)
  | 0x30420 => some (s.pmTag v)
  | 0x40100 => some (s.pwrCeWrite i v)
  | 0x40188 => some (s.pwrCeWrite 34 v)
  | 0x50000 => some (g.onBit v 0 State.rgCommit)
  | 0x50010 => some (s.onBit v 0 State.clearCounts)
  | 0x50900 => some (g.onBit v 0 State.chmapCommit)
  | 0x100000 => some (s.laneCtrl i v)
  | 0x100008 => some (s.laneTrain i v)
  | 0x100014 => some (g.alignWrite i v)
  | 0x100020 => some (s.patCtrl i v)
  | 0x200000 => some (s.ptCfg v)
  | 0x200108 => some (s.ptGrp i v)
  | 0x200400 =>
    some (if bitOf v 3 then s.fwrxPop (bitsOf v 0 3) else { g with pt := { g.pt with fwPos := 0 } })
  | 0x200410 => some (s.fwtxSend v)
  | 0x200414 => some { s with pt := { s.pt with fwTx := s.pt.fwTx ++ leBytes 4 v } }
  | 0x201080 => some (s.portClr i)
  | 0x300004 => some (s.onBit v 0 State.schedCommit)
  | 0x300018 => some (if s.mode = 3 ∨ s.mode = 4 then s else g)
  | 0x300020 => some (if s.mode = 3 ∨ s.mode = 4 then s else g)
  | 0x300040 =>
    some (s.onBit v 0 fun s => if s.mode = 3 ∨ s.fldB F.TK_WARM_busy 0 0 then s else s.setFld F.TK_WARM_busy 0 0 1)
  | 0x300200 => some (s.gridWrite v)
  | 0x300218 =>
    let h := s.fld F.ED_RESOLVE_HANDLE_handle 0 0
    some (match v % 4 with | 1 => s.resolveKeep h | 2 => s.resolveFree h | _ => s)
  | 0x300400 => some ((g.onBit v 1 State.snapAbort).onBit v 0 State.snapStart)
  | 0x300430 => some (s.writeKey r i j v)
  | 0x310000 => some (if s.mode = 6 then g.setFld F.ST_CTRL_enable 0 0 0 else g)
  | 0x310014 => some (s.ctxCmd v)
  | 0x310080 => some (s.writeKey r i j v)
  | 0x32001C => some (g.onBit v 0 State.encCommit)
  | _ => none

/-- The same for the channels, the engines, the supervisor, test runs, trims and fuses. -/
def State.actHigh (s : State) (r : RegD) (i j v : Nat) : Option State :=
  let g := s.writeFlds r i j v
  match r.base with
  | 0x1000004 => some (s.chSchedWrite i v)
  | 0x1000018 =>
    some (g.onBit v 0 fun s => s.commitFlds
      [F.CH_ARB_PRIO_c0, F.CH_ARB_PRIO_c1, F.CH_ARB_PRIO_c2, F.CH_ARB_PRIO_c3, F.CH_ARB_PRIO_c4, F.CH_ARB_PRIO_c5,
       F.CH_ARB_PRIO_c6, F.CH_ARB_PRIO_c7, F.CH_ARB_CTRL_burst, F.CH_ARB_CTRL_park] i 1)
  | 0x1000020 => some (g.onBit v 0 fun s => s.setFld F.CH_SLOTCOMMIT_pending i 0 1)
  | 0x100052C => some (s.onBit v 8 fun s => s.manualRefresh i (bitsOf v 0 5))
  | 0x1000540 => some (s.rpCtrl i v)
  | 0x1000610 => some (s.onBit v 0 fun s => s.clearEcc i)
  | 0x1000684 => some (s.onBit v 0 fun s => (s.setFld F.CH_UE_STAT_count i 0 0).setFld F.CH_UE_STAT_overflow i 0 0)
  | 0x1000704 => some (s.trnCmd i v)
  | 0x1000714 => some (s.dlyWrite i v)
  | 0x1000780 => some (s.softWrite i j v)
  | 0x2000004 => some (s.ceCtrl i v)
  | 0x200000C => some (s.strandEn i (bitsOf v 0 16))
  | 0x2000014 => some (s.strandCmd i v)
  | 0x2000024 => some (s.imemWrite i (BitVec.ofNat 32 v))
  | 0x2000050 => some (g.onBit v 8 fun s => s.migStart i (bitsOf v 0 6))
  | 0x20000FC => some (g.onBit v 0 fun s => s.ceRangeCommit i)
  | 0x2400030 => some (s.wdogWrite v)
  | 0x3000000 =>
    some ((s.onBit v 1 fun s => if s.nv.bist.isSome then s.bistEnd false else s).onBit v 0 State.bistStart)
  | 0x4000000 => some (g.onBit v 0 State.calRunFree)
  | 0x400000C => some (s.calTrim v)
  | 0x5000000 => some (s.onBit v 0 fun s => if bitsOf v 8 6 < 34 then s.fuseProgram (bitsOf v 8 6) else s)
  | _ => none

/-- The registers that only the SV writes (R43, R242): CE_IMEM_DATA, the channel map and its commit. DEDUCED, unsafe (log 23). -/
def svOnly (p : Path) (b : Nat) : Bool :=
  match p with
  | .ce _ _ => b == 0x2000024 || b == 0x50800 || b == 0x50900
  | _ => false

/-- A write of a whole register. Answers whether the block refused it.
DESIGN CHOICE, safe (log 18). DEDUCED, safe (log 22). -/
def State.writeReg (s : State) (p : Path) (r : RegD) (i j v : Nat) : Bool × State :=
  if r.base = 0x40400 then s.domWrite i v
  else if svOnly p r.base then (false, s)
  else
    match s.actLow p r i j v with
    | some t => (false, t)
    | none =>
      match s.actHigh r i j v with
      | some t => (false, t)
      | none => (false, s.writeFlds r i j v)

/-- The low word of a pair written with the value that changes nothing (R7): what RW and RWS fields hold, and 0 elsewhere. -/
def State.keepLow (s : State) (r : RegD) (i j : Nat) : Nat :=
  (r.flds.foldl (fun a f =>
    a + (match f.acc with | .rw => s.fld f i j | .rws => s.shd f i j | _ => 0) * 2 ^ f.lo) 0) % 2 ^ 32

/-- A write of the word `v` at `a` on path `p` (R7, R8): the low word of a pair is held for the path, the high word writes the
whole pair. Answers whether the block refused the write. -/
def State.regWrite (s : State) (p : Path) (a v : Nat) : Bool × State :=
  if !s.blkLive a then (false, s)
  else
    match regAt a with
    | none => (false, s)
    | some (r, i, j, h) =>
      if !r.wide then s.writeReg p r i j v
      else if h = 0 then (false, { s with holdWr := smapInsert s.holdWr (pathKey p) (a, v) })
      else
        match smapFind s.holdWr (pathKey p) with
        | some (b, lo) =>
          if b + 4 = a then
            ({ s with holdWr := smapErase s.holdWr (pathKey p) }).writeReg p r i j (v * 2 ^ 32 + lo)
          else s.writeReg p r i j (v * 2 ^ 32 + s.keepLow r i j)
        | none => s.writeReg p r i j (v * 2 ^ 32 + s.keepLow r i j)

/-- REGISTER_WRITE (R8). -/
def execRegisterWrite (path : Path) (addr v : Word32) (s : State) : Outcome State Fault Refusal :=
  .next (s.regWrite path addr.toNat v.toNat).2

/-! ## REGRD and REGWR (R98) -/

/-- The path of a strand that reaches device registers. -/
def pathOf (i : Iss) : Path := if h : i.e.val < 34 then .ce ⟨i.e.val, h⟩ i.t else .sv i.t

/-- REGRD rd, rs1: an unaligned address traps ALIGN, an address of no register reads 0. DESIGN CHOICE, safe (log 37). -/
def execRegrd (i : Iss) (f : FmtX) (s : State) : Outcome State Fault Refusal :=
  .next (issue s i { reads := gN f.rs1, writes := gN f.rd, mem := true } (illIf (f.imm != 0)) fun s =>
    let a := (s.me i).rg f.rs1.toNat
    if s.unprivileged i then .trap { cause := .privilege }
    else if a.toNat % 4 ≠ 0 then .trap { cause := .align, addr := a }
    else if s.fenced i.e.val i.t.val 6 then .stall
    else
      let x := s.regRead (pathOf i) a.toNat
      .go (x.2.retire i fun y => y.wg f.rd.toNat (BitVec.ofNat 64 x.1)))

/-- REGWR rd, rs1: the register at g[rs1] takes g[rd][31:0]. -/
def execRegwr (i : Iss) (f : FmtX) (s : State) : Outcome State Fault Refusal :=
  .next (issue s i { reads := gN f.rs1 ++ gN f.rd, mem := true } (illIf (f.imm != 0)) fun s =>
    let a := (s.me i).rg f.rs1.toNat
    if s.unprivileged i then .trap { cause := .privilege }
    else if a.toNat % 4 ≠ 0 then .trap { cause := .align, addr := a }
    else if s.fenced i.e.val i.t.val 6 then .stall
    else
      let x := s.regWrite (pathOf i) a.toNat (bitsOf ((s.me i).rg f.rd.toNat).toNat 0 32)
      .go (x.2.retire i id))

end Sys2Proof.Machine
end

