-- ==== Sys2Proof/Machine/Mgmt.lean ====
section
/-!
DEFINITION. The management port (spec/07): which frames arrive (R186, R187), the checks of R197 with R219, refusals and failures of
authentication (R196, R198), responses (R190), long commands and POLL (R199), and every command of R201.
-/

namespace Sys2Proof.Machine
open Host

/-! ## Arrival and responses (R187 to R190) -/

/-- LNM receives: it is up and not squelched. -/
def State.lnmHears (s : State) : Bool := !s.inReset && !s.pwr.tripped && s.fldB F.LN_STATUS_up 8 0

/-- The frame comes by a transport that is served, to the address served: by EtherType, broadcast only for IDENTIFY; UDP only where firmware
serves it. DEDUCED, unsafe (log 151). -/
def State.addressed (s : State) (f : Frame) (identify : Bool) : Bool :=
  match f.transport with
  | .ether => f.etherType == 0x88B5 && (if f.broadcast then identify else f.dstMac.toNat == s.fld F.MG_MAC_mac 0 0)
  | .udp _ _ =>
    f.etherType == 0x0800 && !f.broadcast && f.dstMac.toNat == s.fld F.MG_MAC_mac 0 0 && s.fldB F.MG_CTRL_udp_en 0 0 &&
    s.fldB F.MG_IPV4_addr 0 0 && f.dstIp.toNat == s.fld F.MG_IPV4_addr 0 0 &&
    f.dstPort.toNat == s.fld F.MG_UDP_PORT_port 0 0 && s.fldB F.GLOBAL_BOOT_fw_running 0 0
def State.arrives (s : State) (f : Frame) (identify : Bool) : Bool := s.lnmHears && s.addressed f identify

/-- Any other frame is dropped and counted. -/
def State.lnmDrop (s : State) : State := if s.lnmHears then { s with mg := { s.mg with macDrops := s.mg.macDrops + 1 } } else s

/-- A frame is held: a command before it waits for the check of a slot commit, which its channel is still to make (R197, R260). -/
def State.behindSlot (s : State) : Bool := s.mg.slotWaits.any fun w => s.inService w.ch

/-- Bytes 0x00 to the end of the argument, under command code `code`. DEDUCED, unsafe (log 145). -/
def frameHead (code : Nat) (f : Frame) : List Byte :=
  leBytes 1 f.version.toNat ++ leBytes 1 f.flags.toNat ++ leBytes 1 code ++ leBytes 1 f.status.toNat ++ leBytes 2 f.a.toNat ++
  leBytes 2 f.rsvd.toNat ++ leBytes 8 f.seq.toNat ++ leBytes 8 f.nonce.toNat ++ f.arg

/-- The response, signed with the key in use. -/
def State.respond (s : State) (f : Frame) (code status : Nat) (data : List Byte) : Sent :=
  { transport := f.transport, mac := f.srcMac.toNat, body := s.mgBody 1 code status f.seq.toNat f.nonce.toNat data }

def State.sendResp (s : State) (x : Sent) : State := { s with mg := { s.mg with resp := some x } }

/-! ## Refusals (R196, R198) -/

/-- A refusal is counted and recorded. -/
def State.noteReject (s : State) (code status seq : Nat) : State :=
  (((s.addFld F.MG_REJECT_COUNT_count 0 0 1).setFld F.MG_REJECT_LAST_seq 0 0 seq).setFld F.MG_REJECT_LAST_code 0 0 code).setFld
    F.MG_REJECT_LAST_status 0 0 status

/-- One failure of authentication: counted, with an event of source `src` on group 55. DESIGN CHOICE, unsafe (log 146). -/
def State.authFail (s : State) (src seq : Nat) : State :=
  (s.addFld F.MG_AUTH_FAIL_failures 0 0 1).raise { group := 55, src := src, addr := seq }

/-- AUTH_FAILED responses sent in the present second. -/
def State.authSent (s : State) : Nat := if s.mg.auth.1 = s.tb / 1000000000 then s.mg.auth.2 else 0

/-- A frame is refused with a status; AUTH_FAILED is answered at most 100 times a second. -/
def State.refuse (s : State) (f : Frame) (code status : Nat) : State :=
  let s1 := s.noteReject code status f.seq.toNat
  if status ≠ 0x14 then s1.sendResp (s.respond f code status [])
  else
    let s2 := s1.authFail 0 f.seq.toNat
    if 100 ≤ s.authSent then s2.addFld F.MG_AUTH_FAIL_suppressed 0 0 1
    else ({ s2 with mg := { s2.mg with auth := (s.tb / 1000000000, s.authSent + 1) } }).sendResp (s.respond f code status [])

/-- The code under which a frame that no command takes is held. -/
def badCode : Nat := 0x100

/-- A frame is held behind the command that waits; one that finds eight held is answered BUSY, with the code it came with. -/
def State.holdFrame (s : State) (code : Nat) (f : Frame) : State :=
  if 8 ≤ s.framesHeld then s.refuse f (if code = badCode then f.code.toNat else code) 0x21
  else { s with mg := { s.mg with waitFrames := s.mg.waitFrames ++ [(code, f)] } }

/-! ## Checks (R197) -/

/-- A command: its code, whether it is long, whether the argument length fits its layout, whether it is legal in the mode and the
state of its object, whether its argument is bad, whether it names something retired. -/
structure Cmd where
  code : Nat
  long : Bool := false
  lenOk : State → Frame → Bool
  legal : State → Frame → Bool
  bad : State → Frame → Bool := fun _ _ => false
  retired : State → Frame → Bool := fun _ _ => false

/-- Steps 1 to 3: the status of the first that fails. -/
def frameBad (code : Nat) (f : Frame) : Option Nat :=
  if f.len < 60 ∨ 1280 < f.a.toNat ∨ f.len < 60 + f.a.toNat then some 0x12
  else if crc32c (toNats (frameHead code f)) ≠ f.crc.toNat then some 0x13
  else if f.version ≠ 1 then some 0x10
  else none

def unauth (f : Frame) : Bool := bitOf f.flags.toNat 2

/-- Step 4 (R193, R195): the signature, the nonce and the sequence; or a frame that need not be signed. -/
def State.authentic (s : State) (code : Nat) (f : Frame) : Bool :=
  if unauth f then code == 1 || code == 2
  else
    match s.mgKey with
    | none => false
    | some k =>
      beNat (hmac256 (toNats k) (toNats (frameHead code f ++ leBytes 4 f.crc.toNat))) == f.hmac.toNat &&
      f.nonce.toNat == s.fld F.MG_NONCE_nonce 0 0 && decide (s.fld F.MG_SEQ_seq 0 0 < f.seq.toNat)

/-- A frame that passes authentication sets MG_SEQ. -/
def State.consume (s : State) (f : Frame) : State :=
  if unauth f then s else s.setFld F.MG_SEQ_seq 0 0 f.seq.toNat

/-- The modes in which a command is legal (R219); in SAFELIGHT, `fw` says whether firmware runs. Of the image commands, where some
image may be loaded. -/
def legalIn (code mode : Nat) (fw : Bool) : Bool :=
  match code with
  | 0x01 => true | 0x50 => true | 0x11 => true | 0x08 => true
  | 0x02 => mode == 0 || mode == 2
  | 0x03 => mode == 0 || mode == 2 || mode == 3 || mode == 5 || mode == 6
  | 0x09 => mode != 0 || fw
  | 0x0A => mode != 0 || fw
  | 0x40 => mode != 0 || fw
  | 0x10 => mode != 7
  | 0x18 => mode == 0 || mode == 2
  | 0x19 => mode == 0 || mode == 2
  | 0x1A => mode == 0 || mode == 2
  | 0x1B => mode == 2
  | 0x30 => mode == 2 || mode == 3
  | 0x20 => mode == 2 || mode == 3 || mode == 4 || mode == 6 || mode == 7
  | 0x21 => mode == 2 || mode == 3 || mode == 4 || mode == 6
  | 0x28 => mode == 3 | 0x29 => mode == 3 | 0x2A => mode == 3 | 0x2B => mode == 3
  | 0x2C => mode == 3 || mode == 4 || mode == 7
  | 0x38 => mode == 2 || mode == 3 || mode == 4 || mode == 6 || mode == 7
  | 0x39 => mode == 2 || mode == 3 || mode == 4 || mode == 6 || mode == 7
  | 0x3A => mode == 2 || mode == 6 || mode == 7
  | 0x48 => (mode == 0 && fw) || mode == 2 || mode == 3 || mode == 6
  | _ => false

/-- In factory test the boot ROM serves four commands only (R222). -/
def State.factory (s : State) : Bool := s.mode == 0 && decide (2 ≤ s.fld F.GLOBAL_BOOT_boot_sel 0 0)

def State.legalMode (s : State) (code : Nat) : Bool :=
  legalIn code s.mode (s.fldB F.GLOBAL_BOOT_fw_running 0 0) &&
  (!s.factory || code == 0x01 || code == 0x08 || code == 0x50 || code == 0x11)

/-- MODE_SET HALT never conflicts (R217). -/
def haltSet (c : Cmd) (f : Frame) : Bool := c.code == 0x10 && f.arg.head? == some 7

/-- A CH_RATE is held, so that another takes its place (R315). DESIGN CHOICE, unsafe (log 144). -/
def State.rateHeld (s : State) (c : Cmd) : Bool := c.code == 0x48 && s.mg.held && s.mg.long.any fun x => x.2 == 0x48

/-- Steps 6 to 10. -/
def State.cmdBad (s : State) (c : Cmd) (f : Frame) : Option Nat :=
  if !c.lenOk s f then some 0x12
  else if !s.legalMode c.code || !c.legal s f then some 0x20
  else if c.bad s f then some 0x11
  else if c.retired s f then some 0x23
  else if c.long && s.mg.long.isSome && !haltSet c f && !s.rateHeld c then some 0x21
  else none

/-! ## Acceptance (R199) -/

/-- An accepted sequence is kept for POLL: the last 64. -/
def State.notePoll (s : State) (seq code status : Nat) : State :=
  let l := s.mg.polls ++ [⟨seq, code, status⟩]
  { s with mg := { s.mg with polls := l.drop (l.length - 64) } }

/-- A long command starts; one that runs already is cut off, which only MODE_SET HALT does. DEDUCED, unsafe (log 148). -/
def State.longStart (s : State) (seq code : Nat) : State :=
  let s1 := (if s.mg.long.isSome then (s.longEnd 0x30).cutLong else s).notePoll seq code 1
  ({ s1 with mg := { s1.mg with long := some (seq, code), held := false } }).setFld F.MG_QUEUE_long_code 0 0 code

/-- What carrying a command out answers: the status, the response data, the state; or what it waits for. -/
structure Done where
  status : Nat := 0
  data : List Byte := []
  wait : Option SlotWait := none
  state : State

/-- A short command ends: it is answered, refused still where its status is among the refusals, or goes on waiting. -/
def State.shortEnd (s : State) (f : Frame) (code : Nat) (d : Done) : State :=
  match d.wait with
  | some w => { d.state with mg := { d.state.mg with slotWaits := d.state.mg.slotWaits ++ [w] } }
  | none =>
    if 0x10 ≤ d.status ∧ d.status < 0x30 then d.state.refuse f code d.status
    else (d.state.notePoll f.seq.toNat code d.status).sendResp (s.respond f code d.status d.data)

/-- A command is carried out and answered with the key in use when it came; a status among the refusals refuses it still. -/
def State.carryOut (s : State) (c : Cmd) (f : Frame) (run : State → Done) : State :=
  if c.long then
    let d := run (s.longStart f.seq.toNat c.code)
    d.state.sendResp (s.respond f c.code (if d.state.mg.held then 2 else 1) [])
  else s.shortEnd f c.code (run s)

/-- One frame of command `c` (R197): the checks in their order, then `late`, the check of a wrapped key or of what the command meets, then
the command. -/
def State.frame (s : State) (c : Cmd) (f : Frame) (late : State → Option Nat) (run : State → Done) : State :=
  if !s.arrives f (c.code == 1) then s.lnmDrop
  else if s.behindSlot then s.holdFrame c.code f
  else
    match frameBad c.code f with
    | some st => s.refuse f c.code st
    | none =>
      if !s.authentic c.code f then s.refuse f c.code 0x14
      else
        let s1 := s.consume f
        match s1.cmdBad c f with
        | some st => s1.refuse f c.code st
        | none =>
          match late s1 with
          | some st => s1.refuse f c.code st
          | none => s1.carryOut c f run

/-! ## Argument fields -/

def argU (f : Frame) (o n : Nat) : Nat := leAt f.arg o n
/-- The argument bytes from `o` to `o + n` are 0. -/
def argZero (f : Frame) (o n : Nat) : Bool := ((f.arg.drop o).take n).all fun b => b == 0
def lenIs (n : Nat) : State → Frame → Bool := fun _ f => f.a.toNat == n
def always : State → Frame → Bool := fun _ _ => true
def noLate : State → Option Nat := fun _ => none

/-! ## Frames that no command takes (R197) -/

/-- The codes of R201. -/
def codeDefined (n : Nat) : Bool :=
  [0x01, 0x02, 0x03, 0x08, 0x09, 0x0A, 0x10, 0x11, 0x18, 0x19, 0x1A, 0x1B, 0x20, 0x21, 0x28, 0x29, 0x2A, 0x2B, 0x2C, 0x30, 0x38,
   0x39, 0x3A, 0x40, 0x48, 0x50].contains n

/-- An ARP request for LNM's address is answered by firmware (R187): the sender's address is that of `transport`. -/
def State.arpAsked (s : State) (f : Frame) : Bool :=
  s.lnmHears && f.etherType == 0x0806 && s.fldB F.GLOBAL_BOOT_fw_running 0 0 && s.fldB F.MG_IPV4_addr 0 0 &&
  f.dstIp.toNat == s.fld F.MG_IPV4_addr 0 0
def State.arpReply (s : State) (f : Frame) : State :=
  { s with mg := { s.mg with arp := some (f.srcMac.toNat, match f.transport with | .udp ip _ => ip.toNat | .ether => 0) } }

/-- BAD_COMMAND_FRAME: a frame that fails a check of the frame itself, or whose code is not defined; an ARP request.
DESIGN CHOICE, safe (log 150). -/
def State.badFrame (s : State) (f : Frame) : State :=
  let code := f.code.toNat
  if s.arpAsked f then s.arpReply f
  else if !s.arrives f false then s.lnmDrop
  else if s.behindSlot then s.holdFrame badCode f
  else
    match frameBad code f with
    | some st => s.refuse f code st
    | none =>
      if !s.authentic code f then s.refuse f code 0x14
      else if codeDefined code then s
      else (s.consume f).refuse f code 0x10
def execBadCommandFrame (f : Frame) (s : State) : Outcome State Fault Refusal := .next (s.badFrame f)

/-- MGMT_QUEUE_FULL: a frame that comes while eight are held is answered BUSY unchecked. -/
def execMgmtQueueFull (f : Frame) (s : State) : Outcome State Fault Refusal :=
  .next (if s.arrives f (f.code == 1) then s.refuse f f.code.toNat 0x21 else s.lnmDrop)

/-! ## IDENTIFY and POLL -/

def identifyCmd : Cmd := { code := 0x01, lenOk := lenIs 0, legal := always }
def State.identity (s : State) : List Byte :=
  leBytes 4 (s.regPeek 0x0) ++ leBytes 4 (s.regPeek 0x4) ++ leBytes 1 s.mode ++
  leBytes 1 (match s.nv.keys.getLast? with | some x => x.1 | none => 0xFF) ++ leBytes 2 0 ++
  leBytes 8 (s.fld F.MG_NONCE_nonce 0 0) ++ leBytes 8 (s.fld F.MG_SEQ_seq 0 0)
def execIdentify (f : Frame) (s : State) : Outcome State Fault Refusal :=
  .next (s.frame identifyCmd f noLate fun s => { data := s.identity, state := s })

/-- POLL: the status of one of the last 64 accepted sequences; a sequence not among them is a bad argument. What the result word
holds, the spec does not say: a free value. DEDUCED, unsafe (log 147). -/
def pollCmd : Cmd :=
  { code := 0x50, lenOk := lenIs 8, legal := always
    bad := fun s f => !s.mg.polls.any fun p => p.seq == argU f 0 8 }
def execPoll (f : Frame) (s : State) : Outcome State Fault Refusal :=
  .next (s.frame pollCmd f noLate fun s =>
    match s.mg.polls.find? fun p => p.seq == argU f 0 8 with
    | some p =>
      { data := leBytes 1 p.status ++ leBytes 1 p.code ++ leBytes 2 0 ++ leBytes 4 s.freeVal, state := s.useFree }
    | none => { status := 0x11, state := s })

/-! ## Keys (R192 to R194) -/

/-- The key-encryption key. -/
def State.kek (s : State) : List Nat :=
  hmac256 (toNats (s.mgKey.getD [])) ([0x54, 0x4B, 0x57, 0x2D, 0x4B, 0x45, 0x4B] ++ toNats (leBytes 8 (s.fld F.MG_NONCE_nonce 0 0)))

/-- The key in the argument from `o` on, unwrapped. -/
def State.unwrap (s : State) (f : Frame) (o : Nat) : Option (List Byte) := (keyUnwrap s.kek (toNats (f.arg.drop o))).map ofNats
/-- The check of a wrapped key. -/
def State.wrapBad (s : State) (f : Frame) (o : Nat) : Option Nat := if (s.unwrap f o).isNone then some 0x14 else none

def State.nextKeySlot (s : State) : Option Nat := (List.range 4).find? fun k => (smapFind s.nv.keys k).isNone

def State.writeKeySlot (s : State) (k : Nat) (key : List Byte) : State := { s with nv := { s.nv with keyWrite := some (k, key) } }

/-- PROVISION_KEY: only while no slot is committed. -/
def provisionCmd : Cmd := { code := 0x02, long := true, lenOk := lenIs 32, legal := fun s _ => s.nv.keys.isEmpty }
def execProvisionKey (f : Frame) (s : State) : Outcome State Fault Refusal :=
  .next (s.frame provisionCmd f noLate fun s => { state := s.writeKeySlot 0 f.arg })

/-- ROTATE_KEY: the next free slot; none is left when all four are committed. -/
def rotateCmd : Cmd :=
  { code := 0x03, long := true, lenOk := lenIs 40, legal := always, retired := fun s _ => s.nextKeySlot.isNone }
def execRotateKey (f : Frame) (s : State) : Outcome State Fault Refusal :=
  .next (s.frame rotateCmd f (fun s => s.wrapBad f 0) fun s =>
    { state := s.writeKeySlot (s.nextKeySlot.getD 0) ((s.unwrap f 0).getD []) })

/-- KEY_SLOT_COMMIT: the commit bit follows the key. -/
def State.keyCommit (s : State) : State :=
  match s.nv.keyWrite with
  | none => s
  | some (k, key) => ({ s with nv := { s.nv with keys := smapInsert s.nv.keys k key, keyWrite := none } }).longEnd 0
def execKeySlotCommit (s : State) : Outcome State Fault Refusal := .next s.keyCommit

/-! ## Registers (R202, R214, R356) -/

/-- The span of `n` words at `a` is aligned, not empty, of at most 256 words, and a write does not reach GLOBAL_MODE_SET. -/
def regSpanBad (a n : Nat) (write : Bool) : Bool :=
  a % 4 != 0 || n == 0 || decide (256 < n) || (write && decide (a ≤ 0x14) && decide (0x14 < a + 4 * n))

/-- Read `n` words from `a` on, in ascending order. -/
def regWords : Nat → Nat → State → List Byte → List Byte × State
  | 0, _, s, acc => (acc, s)
  | n + 1, a, s, acc => let x := s.regRead .mgmt a; regWords n (a + 4) x.2 (acc ++ leBytes 4 x.1)

/-- The channel whose slot commit a write of `v` at `a` asks for, where a frame boundary is to come (R260). DEDUCED, safe (log 163). -/
def State.slotAsked (s : State) (a v : Nat) : Option Nat :=
  match regAt a with
  | some (r, c, _, _) =>
    if r.base = 0x1000020 ∧ bitOf v 0 ∧ s.blkLive a ∧ (s.fld F.CH_ID_state c 0 = 2 ∨ s.fld F.CH_ID_state c 0 = 3) then some c else none
  | none => none

/-- How a run of register writes ends: all written; one refused; or one waits for the check of channel `ch`'s slot commit, with the words
from `next` on still to come. -/
inductive PutEnd where
  | done | refused
  | waits (ch next : Nat) (words : List Nat)
  deriving DecidableEq, Repr

/-- Write words from `a` on, in ascending order; a refused one ends the command, and what was written stands. -/
def regPuts : List Nat → Nat → State → PutEnd × State
  | [], _, s => (.done, s)
  | v :: vs, a, s =>
    let x := s.regWrite .mgmt a v
    if x.1 then (.refused, x.2)
    else
      match x.2.slotAsked a v with
      | some c => (.waits c (a + 4) vs, x.2)
      | none => regPuts vs (a + 4) x.2

/-- What a register command answers whose writes have ended so. -/
def putDone (f : Frame) (code : Nat) (data : List Byte) (x : PutEnd × State) : Done :=
  match x.1 with
  | .done => { data := data, state := x.2 }
  | .refused => { status := 0x20, state := x.2 }
  | .waits c n ws => { wait := some { frame := f, code := code, ch := c, next := n, words := ws, data := data }, state := x.2 }

def regReadCmd : Cmd :=
  { code := 0x08, lenOk := lenIs 8, legal := always, bad := fun _ f => regSpanBad (argU f 0 4) (argU f 4 2) false || !argZero f 6 2 }
def execRegRead (f : Frame) (s : State) : Outcome State Fault Refusal :=
  .next (s.frame regReadCmd f noLate fun s =>
    let x := regWords (argU f 4 2) (argU f 0 4) s []
    { data := x.1, state := x.2 })

def regWriteCmd : Cmd :=
  { code := 0x09, lenOk := fun _ f => decide (8 ≤ f.a.toNat) && f.a.toNat == 8 + 4 * argU f 4 2, legal := always
    bad := fun _ f => regSpanBad (argU f 0 4) (argU f 4 2) true || !argZero f 6 2 }
def execRegWrite (f : Frame) (s : State) : Outcome State Fault Refusal :=
  .next (s.frame regWriteCmd f noLate fun s =>
    putDone f 0x09 [] (regPuts ((List.range (argU f 4 2)).map fun k => argU f (8 + 4 * k) 4) (argU f 0 4) s))

def regModifyCmd : Cmd :=
  { code := 0x0A, lenOk := lenIs 12, legal := always, bad := fun _ f => regSpanBad (argU f 0 4) 1 true }
/-- (old and not mask) or (value and mask), 32 bits. -/
def maskIn (old mask v : Nat) : Nat := (old &&& (2 ^ 32 - 1 - mask)) ||| (v &&& mask)
def execRegModify (f : Frame) (s : State) : Outcome State Fault Refusal :=
  .next (s.frame regModifyCmd f noLate fun s =>
    let x := s.regRead .mgmt (argU f 0 4)
    putDone f 0x0A (leBytes 4 x.1) (regPuts [maskIn x.1 (argU f 4 4) (argU f 8 4)] (argU f 0 4) x.2))

/-- The check of the slot commit that a register command waits for has been made (R260): the command ends REFUSED_OVERCOMMIT, or goes on
with its words. -/
def State.slotChecked (s : State) (w : SlotWait) : State :=
  if s.fld F.CH_SLOTCOMMIT_result w.ch 0 = 0x22 then s.refuse w.frame w.code 0x22
  else s.shortEnd w.frame w.code (putDone w.frame w.code w.data (regPuts w.words w.next s))

/-! ## MODE_SET and RESET (R206, R216) -/

/-- MODE_SET may name the target: one the table allows, or the present mode; from SAFELIGHT only FOCUS, from FOCUS and DRAIN only HALT. -/
def State.modeNamed (s : State) (t : Nat) : Bool :=
  decide (7 < t) || (modeTargets s.mode).contains t || (t == s.mode && !(s.mode == 0 || s.mode == 1 || s.mode == 4))

def modeSetCmd : Cmd :=
  { code := 0x10, long := true, lenOk := lenIs 4, legal := fun s f => s.modeNamed (argU f 0 1)
    bad := fun _ f => decide (7 < argU f 0 1) || !argZero f 1 3 }
/-- DESIGN CHOICE, unsafe (log 139, 149). -/
def State.modeSet (s : State) (t : Nat) : State :=
  if t = s.mode then s.longEnd 0
  else if !s.modeCond t then (s.setFld F.GLOBAL_MODE_result 0 0 2).longEnd 0x20
  else s.modeBegin t true
def execModeSet (f : Frame) (s : State) : Outcome State Fault Refusal :=
  .next (s.frame modeSetCmd f noLate fun s => { state := s.modeSet (argU f 0 1) })

def resetCmd : Cmd :=
  { code := 0x11, lenOk := lenIs 4, legal := always, bad := fun _ f => decide (1 < argU f 0 1) || !argZero f 1 3 }
def execReset (f : Frame) (s : State) : Outcome State Fault Refusal :=
  .next (s.frame resetCmd f noLate fun s =>
    { state := { s with mg := { s.mg with reset := some (argU f 0 1, s.tb + 100000) } } })

/-! ## Images (R207, R209) -/

/-- The mode in which an image of a kind may be loaded. -/
def State.kindMode (s : State) (kind : Nat) : Bool := if kind = 1 then s.mode == 0 else if kind = 2 then s.mode == 2 else true

/-- IMAGE_BEGIN. A title image needs every engine stopped and the operator's key. -/
def imageBeginCmd : Cmd :=
  { code := 0x18, lenOk := lenIs 8
    legal := fun s f =>
      s.kindMode (argU f 0 1) && (argU f 0 1 != 2 ||
        (s.mg.opKey.isSome && ((List.range 34).all fun e => !s.fldB F.CE_CTRL_run e 0)))
    bad := fun _ f =>
      !argZero f 1 3 || !(argU f 0 1 == 1 && decide (argU f 4 4 ≤ 786432) || argU f 0 1 == 2 && decide (argU f 4 4 ≤ 16777216)) }
def execImageBegin (f : Frame) (s : State) : Outcome State Fault Refusal :=
  .next (s.frame imageBeginCmd f noLate fun s =>
    let k := argU f 0 1
    { state := { s with mg := { s.mg with
        image := some { kind := k, total := argU f 4 4, got := 0, last := s.tb }
        title := if k = 2 then none else s.mg.title } } })

/-- A transfer is open, of a kind legal in the mode. -/
def State.imageOpen (s : State) : Bool := s.mg.image.any fun x => s.kindMode x.kind

def imageDataCmd : Cmd :=
  { code := 0x19, lenOk := fun _ f => decide (8 ≤ f.a.toNat) && decide (f.a.toNat ≤ 1028) && f.a.toNat % 4 == 0
    legal := fun s _ => s.imageOpen
    bad := fun s f => !s.mg.image.any fun x => argU f 0 4 == x.got && decide (x.got + (f.a.toNat - 4) ≤ x.total) }
/-- Where a firmware image is staged in SV SRAM: its upper 768 KiB. DESIGN CHOICE, unsafe (log 189). -/
def stageAt : Nat := 0x40000

/-- Data of an image: firmware in SV SRAM, a title in the device area of logical channel 1. -/
def State.imageData (s : State) (f : Frame) : State :=
  match s.mg.image with
  | none => s
  | some x =>
    let bs := f.arg.drop 4
    let s1 := if x.kind = 1 then s.wrScratch 34 (stageAt + x.got) bs
      else s.worldPut (titleAddr + x.got) 61 bs
    { s1 with mg := { s1.mg with image := some { x with got := x.got + bs.length, last := s.tb } } }
def execImageData (f : Frame) (s : State) : Outcome State Fault Refusal :=
  .next (s.frame imageDataCmd f noLate fun s => { state := s.imageData f })

def imageEndCmd : Cmd := { code := 0x1A, long := true, lenOk := lenIs 0, legal := fun s _ => s.imageOpen }
/-- IMAGE_END before all has arrived is refused BAD_LENGTH. DESIGN CHOICE, unsafe (log 154). -/
def State.imageShort (s : State) : Option Nat := if s.mg.image.any fun x => x.got != x.total then some 0x12 else none
def execImageEnd (f : Frame) (s : State) : Outcome State Fault Refusal :=
  .next (s.frame imageEndCmd f State.imageShort fun s =>
    { state := { s with mg := { s.mg with image := none, verify := s.mg.image.map fun x => (x.kind, x.total) } } })

/-- The image is refused: AUTH_FAILED, with an event on group 55. -/
def State.imageFails (s : State) : State :=
  (s.authFail 1 (match s.mg.long with | some x => x.1 | none => 0)).longEnd 0x14

def State.verifyFirmware (s : State) (n : Nat) : State :=
  let bs := s.rdScratch 34 stageAt n
  let r := s.firmwareResult bs
  let s1 := s.setFld F.GLOBAL_BOOT_result 0 0 r
  if r ≠ 1 then s1.imageFails
  else
    let s2 := (s1.loadFirmware bs).longEnd 0
    if s2.fld F.GLOBAL_BOOT_boot_sel 0 0 = 0 then s2.focusEnter false else s2

def State.verifyTitle (s : State) (n : Nat) : State :=
  let x := s.staged n
  if !x.2.1 then x.2.2.longEnd 0x30
  else if !x.2.2.titleOk x.1 then x.2.2.imageFails
  else
    let s1 := x.2.2.applyTitle x.1
    ({ s1 with mg := { s1.mg with title := some n } }).longEnd 0

/-- IMAGE_VERIFY_COMPLETE: the whole image is verified, then applied. Where the mode has changed meanwhile, nothing is. -/
def State.verifyImage (s : State) : State :=
  match s.mg.verify with
  | none => s
  | some (kind, n) =>
    let s1 := { s with mg := { s.mg with verify := none } }
    if !s.kindMode kind then s1.longEnd 0x20
    else if kind = 1 then s1.verifyFirmware n
    else s1.verifyTitle n
def execImageVerifyComplete (s : State) : Outcome State Fault Refusal := .next s.verifyImage

/-- IMAGE_TRANSFER_TIMEOUT: 10 s without data. -/
def State.imageTimeout (s : State) : State :=
  if s.mg.image.any fun x => decide (x.last + 10000000000 ≤ s.tb) then { s with mg := { s.mg with image := none } } else s
def execImageTransferTimeout (s : State) : Outcome State Fault Refusal := .next s.imageTimeout

def titleKeyCmd : Cmd := { code := 0x1B, lenOk := lenIs 96, legal := always }
def execTitleKeySet (f : Frame) (s : State) : Outcome State Fault Refusal :=
  .next (s.frame titleKeyCmd f noLate fun s => { state := { s with mg := { s.mg with opKey := some f.arg } } })

/-! ## World memory (R203) -/

/-- The span breaks a rule: not in multiples of 8, not 8 to 1,024 bytes, not within one logical channel, of a channel that is absent; a write
into the device area. -/
def State.spanBad (s : State) (wa n : Nat) (write : Bool) : Bool :=
  let l := wa / 2 ^ 31
  wa % 8 != 0 || n % 8 != 0 || decide (n < 8) || decide (1024 < n) || l != (wa + n - 1) / 2 ^ 31 ||
  decide (logicals s.part ≤ l) || s.fld F.RG_CHMAP_state l 0 == 2 || (write && (inDeviceArea wa || inDeviceArea (wa + n - 1)))

/-- The logical channel is present and its channel does not serve: not trained (R13). -/
def State.untrained (s : State) (wa : Nat) : Bool :=
  let l := wa / 2 ^ 31
  let c := s.fld F.RG_CHMAP_phys l 0
  decide (l < logicals s.part) && s.fld F.RG_CHMAP_state l 0 != 2 && !s.carries c

/-- Read `n` bytes from `wa` on, granule by granule, `off` bytes of the span behind: the data, or the offset of the first granule that
does not read. -/
def memBytes : Nat → State → Nat → Nat → Nat → List Byte → Except Nat (List Byte) × State
  | 0, s, _, _, _, acc => (.ok acc, s)
  | k + 1, s, wa, off, n, acc =>
    if n = 0 then (.ok acc, s)
    else
      let j := min n (64 - wa % 64)
      let x := s.worldGet wa j 61 none
      if x.2.1 = some .clean then memBytes k x.2.2 (wa + j) (off + j) (n - j) (acc ++ x.1) else (.error off, x.2.2)

def State.memRead (s : State) (wa n : Nat) : Done :=
  let x := memBytes (n / 64 + 2) s wa 0 n []
  match x.1 with
  | .ok bs => { data := bs, state := x.2 }
  | .error off => { status := 0x30, data := leBytes 4 off, state := x.2 }

def memReadCmd : Cmd :=
  { code := 0x20, lenOk := lenIs 16, legal := fun s f => !s.untrained (argU f 0 8)
    bad := fun s f => s.spanBad (argU f 0 8) (argU f 8 2) false || !argZero f 10 6 }
def execMemRead (f : Frame) (s : State) : Outcome State Fault Refusal :=
  .next (s.frame memReadCmd f noLate fun s => s.memRead (argU f 0 8) (argU f 8 2))

/-- The merge read of a write of `bs` at `wa` meets a poisoned or uncorrectable granule in a channel that must hold it (R203, R296): what
the write and the entry it joins leave of the old granule. -/
def State.mergeBad (s : State) (wa : Nat) (bs : SMap Byte) : Bool :=
  match s.place wa with
  | .backing => false
  | .at l off =>
    match s.route l off with
    | none => false
    | some r => r.wr.any fun c =>
      let held := match (s.chan c).canMerge (off / 64) with | some v => v.bytes | none => []
      let whole := (List.range 64).all fun k => (smapFind bs k).isSome || (smapFind held k).isSome
      !whole && (s.decode c (off / 64) []).1.out.bad

/-- Write the pieces of a span; with the offset of the first granule that no channel serves or, covered in part, whose old data was
bad. -/
def memPuts : List (Nat × SMap Byte) → Nat → State → Option Nat → Option Nat × State
  | [], _, s, o => (o, s)
  | (wa, bs) :: l, off, s, o =>
    let w := s.worldWrite wa 61 none bs
    memPuts l (off + bs.length) w.2 (if o = none ∧ (s.mergeBad wa bs ∨ w.1 = false) then some off else o)

/-- DESIGN CHOICE, unsafe (log 155). -/
def State.memWrite (s : State) (wa : Nat) (bs : List Byte) : Done :=
  let x := memPuts (granPieces (bs.length / 64 + 2) wa bs) 0 s none
  match x.1 with
  | none => { state := x.2 }
  | some off => { status := 0x30, data := leBytes 4 off, state := x.2 }

def memWriteCmd : Cmd :=
  { code := 0x21, lenOk := fun _ f => decide (16 ≤ f.a.toNat) && f.a.toNat == 16 + argU f 8 2
    legal := fun s f => !s.untrained (argU f 0 8)
    bad := fun s f => s.spanBad (argU f 0 8) (argU f 8 2) true || !argZero f 10 6 }
def execMemWrite (f : Frame) (s : State) : Outcome State Fault Refusal :=
  .next (s.frame memWriteCmd f noLate fun s => s.memWrite (argU f 0 8) (f.arg.drop 16))

/-! ## Sessions and snapshot keys (R204) -/

/-- The status of a result of ST_CTX_CMD. -/
def ctxStatus (r : Nat) : Nat := match r with | 0 => 0 | 1 => 0x21 | 2 => 0x20 | _ => 0x11

/-- The first place for a ring of `n` units after `b`, past the rings in use, given in rising order. -/
def ringFit (n : Nat) : Nat → List (Nat × Nat) → Nat
  | b, [] => b
  | b, (lo, hi) :: l => if b + n ≤ lo then b else ringFit n (max b hi) l

/-- A ring of size code `z` in the pool of a home channel, among those of its sessions. -/
def State.ringAlloc (s : State) (home z : Nat) : Option Nat :=
  let l := (s.ses.filter fun x => decide (x.2.ctx.st ≠ .free) && x.2.ctx.home == home).map
    fun x => (x.2.ctx.ringBase, x.2.ctx.ringBase + 2 ^ x.2.ctx.ringZ)
  let b := ringFit (2 ^ z) 0 (l.mergeSort fun x y => decide (x.1 ≤ y.1))
  if b + 2 ^ z ≤ 16384 then some b else none

/-- The context a SES_CREATE carries. -/
def sesCtx (f : Frame) : Ctx := ctxOf ((List.range 16).map fun k => argU f (8 + 4 * k) 4)

/-- The index of the session must be FREE (step 7 of R197); a ring size, home channel or port that cannot be is a bad argument; a port with
a retired lane (R372) or a home channel that is ABSENT is retired (step 9). -/
def sesCreateCmd : Cmd :=
  { code := 0x28
    lenOk := fun _ f => decide (72 ≤ f.a.toNat) && f.a.toNat == (if bitOf (argU f 8 1) 3 then 112 else 96)
    legal := fun s f => decide (262144 ≤ argU f 0 4) || decide ((s.ctx (argU f 0 4)).st = .free)
    bad := fun s f => decide (262144 ≤ argU f 0 4) || !argZero f 4 4 || decide (4 < (sesCtx f).ringZ) ||
      decide (logicals s.part ≤ (sesCtx f).home) || decide (s.ports ≤ (sesCtx f).port)
    retired := fun s f => ((s.lanesOf (sesCtx f).port).any fun l => s.fldB F.LN_STATUS_retired l 0) ||
      s.fld F.RG_CHMAP_state (sesCtx f).home 0 == 2 }

/-- Steps 1 to 7 of R134: a ring, the context and key into the ST's registers, create, read back, and the handle. Refused, it has no side
effect (R198). -/
def State.sesMake (s : State) (i : Nat) (ctx key : List Byte) : Done :=
  let c := ctxOf ((List.range 16).map fun k => leAt ctx (4 * k) 4)
  match s.ringAlloc c.home c.ringZ with
  | none => { status := 0x21, state := s }
  | some b =>
    let w := { c with ringBase := b, newest := 0, wr := 0, rd := 0 }.words
    let s1 := w.zipIdx.foldl (fun (s : State) (e : Nat × Nat) => s.setFld F.ST_CTX_DATA_word e.2 0 e.1)
      (s.setFld F.ST_CTX_INDEX_index 0 0 i)
    let s2 := (List.range 8).foldl (fun (s : State) k => s.setFld F.ST_KEY_key k 0 (leAt key (4 * k) 4)) s1
    let s3 := s2.ctxCreate
    let r := s3.fld F.ST_CTX_CMD_result 0 0
    if r = 0 then { data := leBytes 4 (s3.sesHandle i), state := s3.ctxRead } else { status := ctxStatus r, state := s }
def execSesCreate (f : Frame) (s : State) : Outcome State Fault Refusal :=
  .next (s.frame sesCreateCmd f (fun s => s.wrapBad f 72) fun s =>
    s.sesMake (argU f 0 4) ((f.arg.drop 8).take 64) ((s.unwrap f 72).getD []))

/-- The handle's generation is the session's. -/
def State.handleOk (s : State) (h : Nat) : Bool := s.sesHandle (h / 2 ^ 14) == h

/-- A command of ST_CTX_CMD on the session of handle `h`. Refused, it has no side effect (R198). -/
def State.sesDo (s : State) (h : Nat) (g : State → State) : Done :=
  let s1 := g (s.setFld F.ST_CTX_INDEX_index 0 0 (h / 2 ^ 14))
  let r := s1.fld F.ST_CTX_CMD_result 0 0
  if r = 0 then { state := s1 } else { status := ctxStatus r, state := s }

/-- The session that a handle names, where it is not stale, is in none of the states listed (step 7 of R197). -/
def State.sesState (s : State) (h : Nat) (not_ : List SesSt) : Bool := !s.handleOk h || !not_.contains (s.ctx (h / 2 ^ 14)).st

/-- DESIGN CHOICE, unsafe (log 153). -/
def sesCloseCmd : Cmd :=
  { code := 0x29, lenOk := lenIs 8, legal := fun s f => s.sesState (argU f 0 4) [.free, .closing]
    bad := fun s f => !s.handleOk (argU f 0 4) || decide (15 < argU f 4 1) || !argZero f 5 3 }
def execSesClose (f : Frame) (s : State) : Outcome State Fault Refusal :=
  .next (s.frame sesCloseCmd f noLate fun s => s.sesDo (argU f 0 4) fun s => s.ctxClose (argU f 4 1))

/-- SES_MOVE; a port with a retired lane is retired (R372). -/
def sesMoveCmd : Cmd :=
  { code := 0x2A, lenOk := lenIs 8, legal := fun s f => s.sesState (argU f 0 4) [.free]
    bad := fun s f => !s.handleOk (argU f 0 4) || !s.portPresent (argU f 4 1) || !argZero f 5 3
    retired := fun s f => (s.lanesOf (argU f 4 1)).any fun l => s.fldB F.LN_STATUS_retired l 0 }
def execSesMove (f : Frame) (s : State) : Outcome State Fault Refusal :=
  .next (s.frame sesMoveCmd f noLate fun s => s.sesDo (argU f 0 4) fun s => s.ctxMove (argU f 4 1))

def sesKeyframeCmd : Cmd :=
  { code := 0x2B, lenOk := lenIs 4, legal := fun s f => s.sesState (argU f 0 4) [.free, .closing]
    bad := fun s f => !s.handleOk (argU f 0 4) }
def execSesKeyframe (f : Frame) (s : State) : Outcome State Fault Refusal :=
  .next (s.frame sesKeyframeCmd f noLate fun s => s.sesDo (argU f 0 4) State.ctxKeyframe)

def sesReadCmd : Cmd := { code := 0x2C, lenOk := lenIs 4, legal := always, bad := fun _ f => decide (262144 ≤ argU f 0 4) }
def execSesRead (f : Frame) (s : State) : Outcome State Fault Refusal :=
  .next (s.frame sesReadCmd f noLate fun s =>
    { data := (s.ctx (argU f 0 4)).words.flatMap fun w => leBytes 4 w, state := s })

def snapKeyCmd : Cmd := { code := 0x30, lenOk := lenIs 40, legal := always }
def State.setSnapKey (s : State) (key : List Byte) : State :=
  (List.range 8).foldl (fun (s : State) k => s.setFld F.SNAP_KEY_key k 0 (leAt key (4 * k) 4)) s
def execSnapKey (f : Frame) (s : State) : Outcome State Fault Refusal :=
  .next (s.frame snapKeyCmd f (fun s => s.wrapBad f 0) fun s => { state := s.setSnapKey ((s.unwrap f 0).getD []) })

/-! ## The Negative (R210) and events (R211) -/

/-- DEDUCED, unsafe (log 152). -/
def dumpInfoCmd : Cmd := { code := 0x38, lenOk := lenIs 0, legal := fun s _ => s.served0 }
def execDumpInfo (f : Frame) (s : State) : Outcome State Fault Refusal :=
  .next (s.frame dumpInfoCmd f noLate fun s =>
    { data := leBytes 1 (b2n s.negWhole.1) ++ leBytes 3 0 ++ leBytes 4 s.negWhole.2.1, state := s.negWhole.2.2 })

def dumpReadCmd : Cmd :=
  { code := 0x39, lenOk := lenIs 8, legal := fun s _ => s.served0
    bad := fun _ f => argU f 4 2 % 8 != 0 || decide (argU f 4 2 < 8) || decide (1024 < argU f 4 2) || decide (16777216 < argU f 0 4 + argU f 4 2) ||
      !argZero f 6 2 }
def execDumpRead (f : Frame) (s : State) : Outcome State Fault Refusal :=
  .next (s.frame dumpReadCmd f noLate fun s => s.memRead (negAddr (argU f 0 4)) (argU f 4 2))

def dumpClearCmd : Cmd := { code := 0x3A, lenOk := lenIs 0, legal := fun s _ => s.served0 }
def execDumpClear (f : Frame) (s : State) : Outcome State Fault Refusal :=
  .next (s.frame dumpClearCmd f noLate fun s => { state := s.negPut 0x3C (leBytes 4 0xFFFFFFFF) })

def eventReadCmd : Cmd :=
  { code := 0x40, lenOk := lenIs 4, legal := always, bad := fun _ f => argU f 0 1 == 0 || decide (48 < argU f 0 1) || !argZero f 1 3 }
def State.takeEvents (s : State) (n : Nat) : Done :=
  let l := s.mg.events.take n
  let s1 := { s with mg := { s.mg with events := s.mg.events.drop n } }
  { data := leBytes 1 l.length ++ leBytes 1 (min 255 s.mg.lost) ++ leBytes 2 0 ++ l.flatten
    state := s1.setFld F.MG_EVENTS_queued 0 0 s1.mg.events.length }
def execEventRead (f : Frame) (s : State) : Outcome State Fault Refusal :=
  .next (s.frame eventReadCmd f noLate fun s => s.takeEvents (argU f 0 1))

/-! ## CH_RATE (R205, R267, R332) -/

def rateList (mask : Nat) : List Nat := (List.range 32).filter fun l => bitOf mask l

def chRateCmd : Cmd :=
  { code := 0x48, long := true, lenOk := lenIs 8
    legal := fun s _ => s.mode != 3 || s.idleSpare.isSome
    bad := fun s f => decide (2 ^ logicals s.part ≤ argU f 0 4) || decide (1 < argU f 4 1) || !argZero f 5 3
    retired := fun s f => s.mode != 0 && (rateList (argU f 0 4)).any fun l => (s.bound l).isNone }

/-- In SAFELIGHT the rates are recorded for FOCUS; elsewhere the channels change, in place or by rotation.
DESIGN CHOICE, unsafe (log 144). -/
def State.chRate (s : State) (l : List Nat) (r : Nat) : State :=
  if s.mode = 0 then
    ({ s with mg := { s.mg with rates := l.foldl (fun m k => smapPut 0 m k r) s.mg.rates } }).longEnd 0
  else
    let s1 := l.foldl (fun (s : State) k => match s.bound k with
      | some c => if s.mode = 3 then s.ratePending r c else s.rateInPlace r c
      | none => s) s
    ({ s1 with mg := { s1.mg with rate := some (r, l) } }).rateNext
def execChRate (f : Frame) (s : State) : Outcome State Fault Refusal :=
  .next (s.frame chRateCmd f noLate fun s => { state := s.chRate (rateList (argU f 0 4)) (argU f 4 1) })

/-! ## Frames held behind a slot commit (R197, R260) -/

/-- A frame that was held, under the code of its command. -/
def frameRow (code : Nat) (f : Frame) (s : State) : Outcome State Fault Refusal :=
  match code with
  | 0x01 => execIdentify f s | 0x02 => execProvisionKey f s | 0x03 => execRotateKey f s | 0x08 => execRegRead f s
  | 0x09 => execRegWrite f s | 0x0A => execRegModify f s | 0x10 => execModeSet f s | 0x11 => execReset f s
  | 0x18 => execImageBegin f s | 0x19 => execImageData f s | 0x1A => execImageEnd f s | 0x1B => execTitleKeySet f s
  | 0x20 => execMemRead f s | 0x21 => execMemWrite f s | 0x28 => execSesCreate f s | 0x29 => execSesClose f s
  | 0x2A => execSesMove f s | 0x2B => execSesKeyframe f s | 0x2C => execSesRead f s | 0x30 => execSnapKey f s
  | 0x38 => execDumpInfo f s | 0x39 => execDumpRead f s | 0x3A => execDumpClear f s | 0x40 => execEventRead f s
  | 0x48 => execChRate f s | 0x50 => execPoll f s | _ => execBadCommandFrame f s

/-- The frames held go on in their order until one of them waits in turn. -/
def State.runHeld (s : State) : Nat → State
  | 0 => s
  | n + 1 =>
    if s.behindSlot then s
    else
      match s.mg.waitFrames with
      | [] => s
      | (code, f) :: l =>
        match frameRow code f { s with mg := { s.mg with waitFrames := l } } with
        | .next t => t.runHeld n
        | _ => s

/-- FRAME_BOUNDARY (R260, R261): the channel's frame ends, then the register commands that wait for its check go on, and the frames held
behind them. -/
def State.frameEnd (s : State) (c : Nat) : State :=
  if !s.works c || (s.chan c).pos < 256 then s
  else
    let s1 := s.frameBoundary c
    let s2 : State := { s1 with mg := { s1.mg with slotWaits := s1.mg.slotWaits.filter fun (w : SlotWait) => w.ch != c } }
    ((s1.mg.slotWaits.filter fun (w : SlotWait) => w.ch == c).foldl (fun (s : State) (w : SlotWait) => s.slotChecked w) s2).runHeld 8
def execFrameBoundary (ch : Fin 34) (s : State) : Outcome State Fault Refusal := .next (s.frameEnd ch.val)

end Sys2Proof.Machine
end

