-- ==== Sys2Proof/Machine/Sheets.lean ====
section
/-!
DEFINITION. Contact sheets (R388, R389): when one starts, what it captures, how it is written into the device area of logical
channel 3.
-/

namespace Sys2Proof.Machine
open Host

/-- Sheet `n`: the device area of logical channel 3. -/
def sheetAddr (n off : Nat) : Nat := devAddr 3 (0x1000000 + 0x4000 * (n % 256) + off)

/-- The PM's write, as master 34, classed by address. -/
def State.sheetPut (s : State) (n off : Nat) (bs : List Byte) : State :=
  s.worldPut (sheetAddr n off) 34 bs

/-- Logical channel 3 is served. -/
def State.served3 (s : State) : Bool := s.fld F.RG_CHMAP_state 3 0 != 2 && (s.logicalAt (s.fld F.RG_CHMAP_phys 3 0)).isSome

/-- Before the first sheet after a reset every commit word is set empty. -/
def State.clearSheets (s : State) : State :=
  if s.pm.sheetsCleared then s
  else
    let s1 := (List.range 256).foldl (fun s n => s.sheetPut n 0x3C (leBytes 4 0xFFFFFFFF)) s
    { s1 with pm := { s1.pm with sheetsCleared := true } }

/-- The number of the sheet under way. -/
def State.sheetNo (s : State) : Nat := s.fld F.PM_SHEET_SEQ_seq 0 0 + 1

/-- The period has passed since a sheet last fell due (R388). -/
def State.sheetTime (s : State) : Bool :=
  match s.pm.sheetLast with
  | none => true
  | some x => decide (s.tb < x) || decide (x + s.fld F.PM_SHEET_period_ms 0 0 * 1000000 ≤ s.tb)

/-- CONTACT_SHEET_DUE: the period has passed; the commit word is written 0, and the counters are captured at the next interval
boundary (R383, R388). DESIGN CHOICE, unsafe (log 156). -/
def State.sheetDue (s : State) : State :=
  if !s.fldB F.PM_SHEET_enable 0 0 || !sheetMode s.mode || !s.sheetTime then s
  else
    let s0 := { s with pm := { s.pm with sheetLast := some s.tb } }
    if !s.served3 then s0.setFld F.PM_STATUS_sheet_err 0 0 1
    else if s.pm.sheet.isSome || s.pm.sheetAsk.isSome then
      { s0 with pm := { s0.pm with skippedSince := true } }.addFld F.PM_SHEET_STAT_skipped 0 0 1
    else
      let s1 := s0.clearSheets.sheetPut s.sheetNo 0x3C (leBytes 4 0)
      { s1 with pm := { s1.pm with sheetAsk := some s.pm.skippedSince, skippedSince := false } }
def execContactSheetDue (s : State) : Outcome State Fault Refusal := .next s.sheetDue

/-- Bytes padded with zeros to `n`. -/
def padTo (n : Nat) (bs : List Byte) : List Byte := bs ++ List.replicate (n - bs.length) 0

/-- Words of single registers. -/
def State.peeks (s : State) (l : List Nat) : List Byte := l.flatMap fun a => leBytes 4 (s.regPeek a)

/-- The engines' part: tokens, then the captured top-down slots. -/
def State.sheetEngines (s : State) (l : List Nat) : List Byte :=
  (List.range 35).flatMap fun e =>
    padTo 80 (leBytes 8 (if s.engOn e then (s.eng e).tokens else 0) ++
      ((List.range 8).flatMap fun k => leBytes 8 (l.getD (16 + 8 * e + k) 0)))

/-- The registers of one channel, in the order of the layout. -/
def channelRegs : List Nat :=
  [0x604, 0x608, 0x60C, 0x524, 0x528, 0x544, 0x54C, 0x534, 0x538, 0x40, 0x44, 0x48, 0x1C, 0x62C, 0x680, 0x72C]

/-- Offsets 0x40 to 0x4000 of a sheet. -/
def State.sheetBody (s : State) (l : List Nat) : List Byte :=
  padTo 0xC0 ((List.range 16).flatMap fun n => leBytes 8 (l.getD n 0)) ++
  padTo 0xB00 (s.sheetEngines l) ++
  padTo 0x1400 (s.regImage 0x51000 1088) ++
  padTo 0x900 ((List.range 34).flatMap fun c => s.peeks (channelRegs.map fun a => 0x1000000 + 0x10000 * c + a)) ++
  padTo 0x400 ((List.range 8).flatMap fun p => s.regImage (0x201000 + 0x100 * p) 32) ++
  padTo 0x140 ((List.range 9).flatMap fun n => s.regImage (0x100040 + 0x1000 * n) 8) ++
  padTo 0xC0 (s.peeks [0x300034, 0x300038, 0x30003C, 0x300204, 0x300208, 0x30020C, 0x31000C, 0x320014] ++
    s.regImage 0x320020 2 ++ s.regImage 0x320100 8 ++ s.regImage 0x310100 8) ++
  padTo 0x1100 (s.peeks [0x40008, 0x40014, 0x40380, 0x40384] ++ s.regImage 0x40300 18 ++ s.regImage 0x40100 34 ++
    s.peeks [0x40188])

/-- Header bytes 0x00 to 0x3B. -/
def State.sheetHeader (s : State) (at0 : Nat) (skipped : Bool) : List Byte :=
  leBytes 4 0x54485343 ++ leBytes 2 1 ++
  leBytes 2 (s.fld F.TB_CTRL_locked 0 0 + 2 * b2n s.pm.level + 4 * b2n skipped) ++ leBytes 8 at0 ++ leBytes 8 s.tb ++
  leBytes 8 (s.fld F.TK_COMMITTED_tick 0 0) ++ leBytes 4 s.globalStatus ++ leBytes 1 s.mode ++ leBytes 3 0 ++
  leBytes 4 s.sheetNo ++ leBytes 4 (s.fld F.PM_SHEET_STAT_skipped 0 0) ++ leBytes 12 0

/-- CONTACT_SHEET_COMPLETE: sections, header, and the commit word as the final write. -/
def State.sheetDone (s : State) : State :=
  match s.pm.sheet with
  | none => s
  | some (at0, skipped, l) =>
    let s0 := ({ s with pm := { s.pm with sheet := none } } : State).lanesNow
    if !s.served3 then s0.setFld F.PM_STATUS_sheet_err 0 0 1
    else
      let n := s.sheetNo
      let s1 := s0.sheetPut n 0x40 (s0.sheetBody l)
      let s2 := s1.sheetPut n 0 (s.sheetHeader at0 skipped)
      (s2.sheetPut n 0x3C (leBytes 4 (n % 2 ^ 30 * 4 + 2))).setFld F.PM_SHEET_SEQ_seq 0 0 n
def execContactSheetComplete (s : State) : Outcome State Fault Refusal := .next s.sheetDone

end Sys2Proof.Machine
end

