-- ==== Sys2Proof/Machine/Clock.lean ====
section
/-!
DEFINITION. What passes with a cycle in which no command comes.
-/

namespace Sys2Proof.Machine
open Host

/-- The category of idle time an engine is in (R385), the first that holds for some enabled strand; none while tokens issue.
DEDUCED, unsafe (log 208). -/
def State.idleCat (s : State) (e : Nat) : Option Nat :=
  let l := strandsOf.map fun t => s.strand e t
  let run := e == 34 || s.fldB F.CE_CTRL_run e 0
  let onTick (x : Strand) : Bool := match x.wait with | some (.tick _ _) => true | _ => false
  if run && l.any fun x => decide (x.st = .ready) then none
  else if l.any fun x => decide (x.st = .stalled) && x.stallMem then some 2
  else if l.any fun x => decide (x.st = .stalled) then some 3
  else if l.any fun x => decide (x.st = .waiting) && !onTick x then some 4
  else if l.any fun x => decide (x.st = .trapped) then some 5
  else if l.any fun x => decide (x.st = .waiting) then some 6
  else if !run || l.all fun x => decide (x.st = .disabled) then some 7
  else none

/-- `ns` pass in the categories the engines are in. -/
def State.idlePass (s : State) (ns : Nat) : State :=
  let note (m : SMap Nat) (e : Nat) : SMap Nat :=
    match (if s.engOn e then s.idleCat e else none) with
    | some k => smapPut 0 m (e * 8 + k) (smapGet 0 m (e * 8 + k) + ns)
    | none => m
  { s with pm := { s.pm with held := (List.range 35).foldl note s.pm.held } }

/-- One cycle of the stack: the timebase goes on, and what waited for a commit to close or for room in a lane's buffer does; a reaction
whose work is done has ended. Reset holds it all (R220); HALT stops the delta units and the ports (R233).
DESIGN CHOICE, unsafe (log 2). -/
def State.cycle (s : State) : State :=
  if s.inReset then s
  else
    let s1 := (s.idlePass (s.tbAdvance.tb - s.tb)).tbCycle
    if s.mode = 7 then s1.settleReacts else s1.settleReacts.joinsDue.refill
def tickCycle (s : State) : Outcome State Fault Refusal := .next s.cycle

end Sys2Proof.Machine
end

