-- ==== Sys2Proof/Machine/Branch.lean ====
section
/-!
DEFINITION. Branches (R79), traps raised and left by instructions (R95, R96), YIELD (R97).
-/

namespace Sys2Proof.Machine
open Host

/-- An unconditional transfer may stand at index 65,535 (R79). -/
def uncond (f : FmtB) : Bool := f.pred == 0 && !f.neg

/-- A branch to `target`, taken where the predicate condition holds; `link` writes g31. A taken branch to a target outside
0 to 65,535 traps ILLEGAL, subcode 3. -/
def branch (s : State) (i : Iss) (f : FmtB) (bad link : Bool) (reads : List Nat) (target : Strand → Int) : State :=
  issue s i { reads := reads ++ pN f.pred.toNat, writes := if link then [regG 31] else [], branch := true, last := uncond f }
    (illIf bad) fun s =>
    let x := s.me i
    if !x.guard f.pred f.neg then .go (s.retire i id)
    else if target x < 0 ∨ 65535 < target x then .trap { cause := .illegal, sub := 3 }
    else
      let y := if link then x.wg 31 (BitVec.ofNat 64 (x.pc.toNat + 1)) else x
      .go (s.setStrand i.e.val i.t.val { y with pc := BitVec.ofInt 16 (target x) })

/-- The target of BR and CALL: the branch's own index plus the signed offset. -/
def relTarget (f : FmtB) (x : Strand) : Int := x.pc.toNat + f.imm.toInt

def execBr (i : Iss) (f : FmtB) (s : State) : Outcome State Fault Refusal :=
  .next (branch s i f (f.rs1 != 0) false [] (relTarget f))
def execCall (i : Iss) (f : FmtB) (s : State) : Outcome State Fault Refusal :=
  .next (branch s i f (f.rs1 != 0) true [] (relTarget f))
def execJr (i : Iss) (f : FmtB) (s : State) : Outcome State Fault Refusal :=
  .next (branch s i f (f.imm != 0) false (gN f.rs1) fun x => ((x.rg f.rs1.toNat).toNat : Int))

/-- SYSCALL code, rs1 (R95): the trap PC is the next instruction, `staddr` takes g[rs1] and `stinfo` the code. -/
def execSyscall (i : Iss) (f : FmtX) (s : State) : Outcome State Fault Refusal :=
  .next (issue s i { reads := gN f.rs1, mem := true } (illIf (f.rd != 0)) fun s =>
    let x := s.me i
    let tr : Trap := { cause := .syscall, addr := x.rg f.rs1.toNat, info := f.imm.setWidth 64 }
    .go ((s.takeTrap i.e.val i.t.val tr (x.pc.toNat + 1) x.pc.toNat false).endToken i.e.val))

/-- TRET (R96): outside a handler it traps ILLEGAL, subcode 1. -/
def execTret (i : Iss) (f : FmtX) (s : State) : Outcome State Fault Refusal :=
  .next (issue s i { mem := true, last := true } (illIf (f.rs1 != 0 || f.rd != 0 || f.imm != 1)) fun s =>
    if (s.me i).inHandler then .go ((s.trapReturn i.e.val i.t.val).endToken i.e.val)
    else .trap { cause := .illegal, sub := 1 })

/-- YIELD (R97): the token ends, and round-robin order serves every other READY strand first. -/
def execYield (i : Iss) (f : FmtX) (s : State) : Outcome State Fault Refusal :=
  .next (issue s i { mem := true } (illIf (f.rs1 != 0 || f.rd != 0 || f.imm != 0)) fun s =>
    .go ((s.retire i id).endToken i.e.val))

end Sys2Proof.Machine
end

