-- ==== Sys2Proof/Machine/Float.lean ====
section
/-!
DEFINITION. The FP32 scalar and vector instructions (R70, R71).
-/

namespace Sys2Proof.Machine
open Host

/-! ## FP32 scalar (R70) -/

def execFadd (i : Iss) (f : FmtA) (s : State) : Outcome State Fault Refusal :=
  .next (fpA s i f 4 false fun x => fpAdd x.round (x.rf f.rs1) (x.rf f.rs2))
def execFsub (i : Iss) (f : FmtA) (s : State) : Outcome State Fault Refusal :=
  .next (fpA s i f 4 false fun x => fpSub x.round (x.rf f.rs1) (x.rf f.rs2))
def execFmul (i : Iss) (f : FmtA) (s : State) : Outcome State Fault Refusal :=
  .next (fpA s i f 4 false fun x => fpMul x.round (x.rf f.rs1) (x.rf f.rs2))
/-- rd ← rd + rs1 × rs2, rounded once. -/
def execFmadd (i : Iss) (f : FmtA) (s : State) : Outcome State Fault Refusal :=
  .next (fpA s i f 4 false fun x => fpFma x.round false (x.rf f.rd) (x.rf f.rs1) (x.rf f.rs2))
/-- rd ← rd − rs1 × rs2, rounded once. -/
def execFmsub (i : Iss) (f : FmtA) (s : State) : Outcome State Fault Refusal :=
  .next (fpA s i f 4 false fun x => fpFma x.round true (x.rf f.rd) (x.rf f.rs1) (x.rf f.rs2))
def execFdiv (i : Iss) (f : FmtA) (s : State) : Outcome State Fault Refusal :=
  .next (fpA s i f 12 false fun x => fpDiv x.round (x.rf f.rs1) (x.rf f.rs2))
def execFsqrt (i : Iss) (f : FmtA) (s : State) : Outcome State Fault Refusal :=
  .next (fpA s i f 12 (f.rs2 != 0) fun x => fpSqrt x.round (x.rf f.rs1))
def execFmin (i : Iss) (f : FmtA) (s : State) : Outcome State Fault Refusal :=
  .next (fpA s i f 4 false fun x => fpMinMax false (x.rf f.rs1) (x.rf f.rs2))
def execFmax (i : Iss) (f : FmtA) (s : State) : Outcome State Fault Refusal :=
  .next (fpA s i f 4 false fun x => fpMinMax true (x.rf f.rs1) (x.rf f.rs2))
/-- FABS clears the sign, FNEG inverts it; no flags. -/
def execFabs (i : Iss) (f : FmtA) (s : State) : Outcome State Fault Refusal :=
  .next (fpA s i f 0 (f.rs2 != 0) fun x => (x.rf f.rs1 &&& 0x7FFFFFFF#32, 0))
def execFneg (i : Iss) (f : FmtA) (s : State) : Outcome State Fault Refusal :=
  .next (fpA s i f 0 (f.rs2 != 0) fun x => (x.rf f.rs1 ^^^ 0x80000000#32, 0))
def execFcvtSW (i : Iss) (f : FmtA) (s : State) : Outcome State Fault Refusal :=
  .next (fpA s i f 4 (f.rs2 != 0) fun x => fpOfInt x.round (x.rf f.rs1))
/-- FCVT.W.S: the 32-bit result is sign-extended to 64. -/
def execFcvtWS (i : Iss) (f : FmtA) (s : State) : Outcome State Fault Refusal :=
  .next (issue s i { reads := gN f.rs1 ++ pN f.pred.toNat, writes := gN f.rd, fp := true, lat := s.latIf i f.pred f.neg 4 }
    (fpIll s i (f.rs2 != 0))
    fun s => .go (s.retire i fun x =>
      if x.guard f.pred f.neg then
        (x.wg f.rd.toNat ((fpToInt x.round (x.rf f.rs1)).1.signExtend 64)).sticky (fpToInt x.round (x.rf f.rs1)).2
      else x))
def execFeq (i : Iss) (f : FmtA) (s : State) : Outcome State Fault Refusal := .next (fpCmpA s i f fpEq)
def execFlt (i : Iss) (f : FmtA) (s : State) : Outcome State Fault Refusal := .next (fpCmpA s i f fpLt)
def execFle (i : Iss) (f : FmtA) (s : State) : Outcome State Fault Refusal := .next (fpCmpA s i f fpLe)

/-! ## FP32 vector (R71) -/

def execVadd (i : Iss) (f : FmtA) (s : State) : Outcome State Fault Refusal := .next (vecA s i f fun m _ a b => fpAdd m a b)
def execVsub (i : Iss) (f : FmtA) (s : State) : Outcome State Fault Refusal := .next (vecA s i f fun m _ a b => fpSub m a b)
def execVmul (i : Iss) (f : FmtA) (s : State) : Outcome State Fault Refusal := .next (vecA s i f fun m _ a b => fpMul m a b)
def execVfma (i : Iss) (f : FmtA) (s : State) : Outcome State Fault Refusal :=
  .next (vecA s i f fun m d a b => fpFma m false d a b)
def execVmin (i : Iss) (f : FmtA) (s : State) : Outcome State Fault Refusal :=
  .next (vecA s i f fun _ _ a b => fpMinMax false a b)
def execVmax (i : Iss) (f : FmtA) (s : State) : Outcome State Fault Refusal :=
  .next (vecA s i f fun _ _ a b => fpMinMax true a b)

/-- (p0 + p1) + (p2 + p3), each product rounded, then each sum. -/
def vdot (m : Nat) (a b : Vec128) : Word32 × Nat :=
  let p (k : Nat) := fpMul m (lane a k) (lane b k)
  let u := fpAdd m (p 0).1 (p 1).1
  let v := fpAdd m (p 2).1 (p 3).1
  let r := fpAdd m u.1 v.1
  (r.1, (p 0).2 ||| (p 1).2 ||| (p 2).2 ||| (p 3).2 ||| u.2 ||| v.2 ||| r.2)
def execVdot (i : Iss) (f : FmtA) (s : State) : Outcome State Fault Refusal :=
  .next (issue s i { reads := vN f.rs1 ++ vN f.rs2 ++ pN f.pred.toNat, writes := gN f.rd, fp := true,
                     lat := s.latIf i f.pred f.neg 8 }
    (fpIll s i (!(vOk f.rs1 && vOk f.rs2))) fun s => .go (s.retire i fun x =>
      if x.guard f.pred f.neg then
        let r := vdot x.round (x.rv f.rs1.toNat) (x.rv f.rs2.toNat)
        (x.wg f.rd.toNat (r.1.setWidth 64)).sticky r.2
      else x))
def execVsplat (i : Iss) (f : FmtA) (s : State) : Outcome State Fault Refusal :=
  .next (vecMove s i f (gN f.rs1) (vN f.rd) (f.rs2 != 0 || !vOk f.rd) fun x =>
    x.wv f.rd.toNat (vec4 (x.rf f.rs1) (x.rf f.rs1) (x.rf f.rs1) (x.rf f.rs1)))
/-- The lane number is rs2[1:0]; rs2[4:2] is 0. -/
def execVext (i : Iss) (f : FmtA) (s : State) : Outcome State Fault Refusal :=
  .next (vecMove s i f (vN f.rs1) (gN f.rd) (4 ≤ f.rs2.toNat || !vOk f.rs1) fun x =>
    x.wg f.rd.toNat ((lane (x.rv f.rs1.toNat) f.rs2.toNat).setWidth 64))
def execVins (i : Iss) (f : FmtA) (s : State) : Outcome State Fault Refusal :=
  .next (vecMove s i f (gN f.rs1 ++ vN f.rd) (vN f.rd) (4 ≤ f.rs2.toNat || !vOk f.rd) fun x =>
    x.wv f.rd.toNat (setLane (x.rv f.rd.toNat) f.rs2.toNat (x.rf f.rs1)))
def execVmov (i : Iss) (f : FmtA) (s : State) : Outcome State Fault Refusal :=
  .next (vecMove s i f (vN f.rs1) (vN f.rd) (f.rs2 != 0 || !vOk f.rs1 || !vOk f.rd) fun x =>
    x.wv f.rd.toNat (x.rv f.rs1.toNat))

end Sys2Proof.Machine
end

