-- ==== Sys2Proof/Machine/Int.lean ====
section
/-!
DEFINITION. The integer, immediate, compare and predicate instructions (R67 to R69).
-/

namespace Sys2Proof.Machine
open Host

/-! ## Integer operations (R67) -/

def execAdd (i : Iss) (f : FmtA) (s : State) : Outcome State Fault Refusal := .next (aluA s i f fun a b => a + b)
def execSub (i : Iss) (f : FmtA) (s : State) : Outcome State Fault Refusal := .next (aluA s i f fun a b => a - b)
def execAnd (i : Iss) (f : FmtA) (s : State) : Outcome State Fault Refusal := .next (aluA s i f fun a b => a &&& b)
def execOr (i : Iss) (f : FmtA) (s : State) : Outcome State Fault Refusal := .next (aluA s i f fun a b => a ||| b)
def execXor (i : Iss) (f : FmtA) (s : State) : Outcome State Fault Refusal := .next (aluA s i f fun a b => a ^^^ b)
def execAndn (i : Iss) (f : FmtA) (s : State) : Outcome State Fault Refusal := .next (aluA s i f fun a b => a &&& ~~~b)

/-- Shift counts use bits [5:0] of rs2 (R67). -/
def shCount (b : Word64) : Nat := b.toNat % 64
def execSll (i : Iss) (f : FmtA) (s : State) : Outcome State Fault Refusal := .next (aluA s i f fun a b => a <<< shCount b)
def execSrl (i : Iss) (f : FmtA) (s : State) : Outcome State Fault Refusal := .next (aluA s i f fun a b => a >>> shCount b)
def execSra (i : Iss) (f : FmtA) (s : State) : Outcome State Fault Refusal :=
  .next (aluA s i f fun a b => a.sshiftRight (shCount b))
def execMin (i : Iss) (f : FmtA) (s : State) : Outcome State Fault Refusal :=
  .next (aluA s i f fun a b => if a.slt b then a else b)
def execMax (i : Iss) (f : FmtA) (s : State) : Outcome State Fault Refusal :=
  .next (aluA s i f fun a b => if a.slt b then b else a)
def execMinu (i : Iss) (f : FmtA) (s : State) : Outcome State Fault Refusal :=
  .next (aluA s i f fun a b => if a.ult b then a else b)
def execMaxu (i : Iss) (f : FmtA) (s : State) : Outcome State Fault Refusal :=
  .next (aluA s i f fun a b => if a.ult b then b else a)

/-- SEL: the predicate selects; the instruction always executes (R67). -/
def execSel (i : Iss) (f : FmtA) (s : State) : Outcome State Fault Refusal :=
  .next (issue s i { reads := gN f.rs1 ++ gN f.rs2 ++ pN f.pred.toNat, writes := gN f.rd } none fun s =>
    .go (s.retire i fun x => x.wg f.rd.toNat (if x.guard f.pred f.neg then rs1A f x else rs2A f x)))

/-- Leading zeros of the low `n` bits. -/
def clzBits (v : Nat) : Nat → Nat
  | 0 => 0
  | n + 1 => if bitOf v n then 0 else 1 + clzBits v n
/-- Set bits among the low `n`. -/
def popBits (v : Nat) : Nat → Nat
  | 0 => 0
  | n + 1 => b2n (bitOf v n) + popBits v n
def execClz (i : Iss) (f : FmtA) (s : State) : Outcome State Fault Refusal :=
  .next (aluA1 s i f fun a => BitVec.ofNat 64 (clzBits a.toNat 64))
def execPopc (i : Iss) (f : FmtA) (s : State) : Outcome State Fault Refusal :=
  .next (aluA1 s i f fun a => BitVec.ofNat 64 (popBits a.toNat 64))

def execMul (i : Iss) (f : FmtA) (s : State) : Outcome State Fault Refusal := .next (mulA s i f fun a b => a * b)
def execMulh (i : Iss) (f : FmtA) (s : State) : Outcome State Fault Refusal :=
  .next (mulA s i f fun a b => BitVec.ofInt 64 (a.toInt * b.toInt / 2 ^ 64))
def execMulhu (i : Iss) (f : FmtA) (s : State) : Outcome State Fault Refusal :=
  .next (mulA s i f fun a b => BitVec.ofNat 64 (a.toNat * b.toNat / 2 ^ 64))

/-- Division by zero gives quotient 0 and remainder rs1; the most negative value by −1 gives itself and 0 (R67). -/
def divS (a b : Word64) : Word64 := if b = 0 then 0 else BitVec.ofInt 64 (a.toInt.tdiv b.toInt)
def divU (a b : Word64) : Word64 := if b = 0 then 0 else BitVec.ofNat 64 (a.toNat / b.toNat)
def remS (a b : Word64) : Word64 := if b = 0 then a else BitVec.ofInt 64 (a.toInt.tmod b.toInt)
def remU (a b : Word64) : Word64 := if b = 0 then a else BitVec.ofNat 64 (a.toNat % b.toNat)
def execDiv (i : Iss) (f : FmtA) (s : State) : Outcome State Fault Refusal := .next (divA s i f divS)
def execDivu (i : Iss) (f : FmtA) (s : State) : Outcome State Fault Refusal := .next (divA s i f divU)
def execRem (i : Iss) (f : FmtA) (s : State) : Outcome State Fault Refusal := .next (divA s i f remS)
def execRemu (i : Iss) (f : FmtA) (s : State) : Outcome State Fault Refusal := .next (divA s i f remU)
def execZext32 (i : Iss) (f : FmtA) (s : State) : Outcome State Fault Refusal :=
  .next (aluA1 s i f fun a => (a.setWidth 32).setWidth 64)
def execSext32 (i : Iss) (f : FmtA) (s : State) : Outcome State Fault Refusal :=
  .next (aluA1 s i f fun a => (a.setWidth 32).signExtend 64)

/-! ## Immediates (R68) -/

def execAddi (i : Iss) (f : FmtI) (s : State) : Outcome State Fault Refusal :=
  .next (aluI s i f false fun a => a + f.imm.signExtend 64)
def execAndi (i : Iss) (f : FmtI) (s : State) : Outcome State Fault Refusal :=
  .next (aluI s i f false fun a => a &&& f.imm.signExtend 64)
def execOri (i : Iss) (f : FmtI) (s : State) : Outcome State Fault Refusal :=
  .next (aluI s i f false fun a => a ||| f.imm.signExtend 64)
def execXori (i : Iss) (f : FmtI) (s : State) : Outcome State Fault Refusal :=
  .next (aluI s i f false fun a => a ^^^ f.imm.signExtend 64)

/-- SHI: imm[5:0] the count, imm[7:6] the kind (0 SLL, 1 SRL, 2 SRA), imm[11:8] zero; kind 3 is undefined. -/
def shiKind (imm : BitVec 12) : Nat := bitsOf imm.toNat 6 2
def shiApply (imm : BitVec 12) (a : Word64) : Word64 :=
  let n := bitsOf imm.toNat 0 6
  match shiKind imm with
  | 0 => a <<< n
  | 1 => a >>> n
  | _ => a.sshiftRight n
def execShi (i : Iss) (f : FmtI) (s : State) : Outcome State Fault Refusal :=
  .next (aluI s i f (shiKind f.imm == 3 || 256 ≤ f.imm.toNat) (shiApply f.imm))
def execShor (i : Iss) (f : FmtI) (s : State) : Outcome State Fault Refusal :=
  .next (aluI s i f false fun a => (a <<< 12) ||| f.imm.setWidth 64)

/-! ## Compares and predicate logic (R69) -/

def execCmpEq (i : Iss) (f : FmtA) (s : State) : Outcome State Fault Refusal := .next (cmpA s i f fun a b => a == b)
def execCmpNe (i : Iss) (f : FmtA) (s : State) : Outcome State Fault Refusal := .next (cmpA s i f fun a b => a != b)
def execCmpLt (i : Iss) (f : FmtA) (s : State) : Outcome State Fault Refusal := .next (cmpA s i f fun a b => a.slt b)
def execCmpGe (i : Iss) (f : FmtA) (s : State) : Outcome State Fault Refusal := .next (cmpA s i f fun a b => !a.slt b)
def execCmpLtu (i : Iss) (f : FmtA) (s : State) : Outcome State Fault Refusal := .next (cmpA s i f fun a b => a.ult b)
def execCmpGeu (i : Iss) (f : FmtA) (s : State) : Outcome State Fault Refusal := .next (cmpA s i f fun a b => !a.ult b)
def execCmpBits (i : Iss) (f : FmtA) (s : State) : Outcome State Fault Refusal :=
  .next (cmpA s i f fun a b => (a &&& b) != 0)

def execPand (i : Iss) (f : FmtA) (s : State) : Outcome State Fault Refusal := .next (plogA s i f fun a b => a && b)
def execPor (i : Iss) (f : FmtA) (s : State) : Outcome State Fault Refusal := .next (plogA s i f fun a b => a || b)
def execPxor (i : Iss) (f : FmtA) (s : State) : Outcome State Fault Refusal := .next (plogA s i f fun a b => a != b)
def execPandn (i : Iss) (f : FmtA) (s : State) : Outcome State Fault Refusal := .next (plogA s i f fun a b => a && !b)
def execPset (i : Iss) (f : FmtA) (s : State) : Outcome State Fault Refusal :=
  .next (predA s i f [] (f.rs1 != 0 || f.rs2 != 0) fun _ => true)
def execPclr (i : Iss) (f : FmtA) (s : State) : Outcome State Fault Refusal :=
  .next (predA s i f [] (f.rs1 != 0 || f.rs2 != 0) fun _ => false)
/-- PNZ: rs1 names a general register, rs2 is 0. -/
def execPnz (i : Iss) (f : FmtA) (s : State) : Outcome State Fault Refusal :=
  .next (predA s i f (gN f.rs1) (f.rs2 != 0) fun x => rs1A f x != 0)

end Sys2Proof.Machine
end

