-- ==== Sys2Proof/Machine/Jtag.lean ====
section
/-!
DEFINITION. The test access port (R419 to R421): its instructions, the boundary cells, and what the three outputs then show. It works
in every mode and through every reset.
-/

namespace Sys2Proof.Machine
open Host

/-! ## What the balls show (R421) -/

/-- The boundary register drives the outputs. -/
def TapIr.drives (i : TapIr) : Bool := i == .extest || i == .clamp

/-- PPS_OUT: its level, or none where it is not driven. -/
def State.ppsBall (s : State) : Option Bool :=
  if s.tap.ir.drives then (if s.tap.outputs.getLsbD 1 then some (s.tap.outputs.getLsbD 0) else none)
  else if s.tap.ir = .highz then none
  else if s.fldB F.TB_PPS_out_en 0 0 then some (decide (s.tb < s.ppsHigh))
  else none

/-- FAULT_N is driven low. -/
def State.faultBall (s : State) : Bool :=
  if s.tap.ir.drives then s.tap.outputs.getLsbD 3 && !s.tap.outputs.getLsbD 2
  else if s.tap.ir = .highz then false
  else s.faultN

/-- THERM_N is driven low: by the trip whatever the boundary register holds. -/
def State.thermBall (s : State) : Bool :=
  s.pwr.tripped ||
  (if s.tap.ir.drives then s.tap.outputs.getLsbD 5 && !s.tap.outputs.getLsbD 4
   else if s.tap.ir = .highz then false
   else s.fldB F.PWR_LADDER_therm_n 0 0)

/-! ## Instructions -/

/-- The IDCODE of a part. -/
def idcodeOf (p : Part) : Nat := match p with | .tkw6417 => 0x0641794B | .tkw3209 => 0x0320994B

/-- The twelve cells as SAMPLE takes them: the outputs as the stack drives them, then the inputs. An input the state does not
determine (PPS_IN; in reset, the reset pins and the straps) is a free value. DESIGN CHOICE, safe (log 158). -/
def State.cells (s : State) : List Bool :=
  let v := s.freeVal
  let therm := s.pwr.tripped || s.fldB F.PWR_LADDER_therm_n 0 0
  [ decide (s.tb < s.ppsHigh), s.fldB F.TB_PPS_out_en 0 0, !s.faultN, s.faultN, !therm, therm,
    !s.inReset || bitOf v 0, !s.inReset || bitOf v 1, bitOf v 2,
    if s.inReset then bitOf v 3 else bitOf (s.fld F.GLOBAL_BOOT_boot_sel 0 0) 0,
    if s.inReset then bitOf v 4 else bitOf (s.fld F.GLOBAL_BOOT_boot_sel 0 0) 1,
    if s.inReset then bitOf v 5 else s.testEn ]

def cellWord (l : List Bool) : BitVec 12 := BitVec.ofNat 12 (l.foldr (fun b a => b2n b + 2 * a) 0)

/-- What the instruction register captures (R419). -/
def irCapture : BitVec 8 := 0x01

/-- The instruction of an opcode: every other opcode acts as BYPASS (R419; factory instructions, R422, are no part of the field
interface). -/
def tapOp (op : BitVec 8) : TapIr :=
  if op = 0x01 then .idcode
  else if op = 0x02 then .sample
  else if op = 0x03 then .extest
  else if op = 0x04 then .highz
  else if op = 0x05 then .clamp
  else .bypass

/-- The instructions whose data register is the bypass register. -/
def TapIr.short (i : TapIr) : Bool := i == .highz || i == .clamp || i == .bypass

/-- An opcode is shifted into the instruction register, which had captured its constant, and takes effect (R421). A selected bypass
register captures 0. PRESUMED, unsafe (log 209). -/
def State.loadIr (s : State) (op : BitVec 8) : State :=
  { s with tap := { s.tap with ir := tapOp op, irReg := op, irSeen := irCapture,
                               bypass := if (tapOp op).short then false else s.tap.bypass } }

/-- The boundary register captures its cells. -/
def State.capture (s : State) : State := { s.useFree with tap := { s.tap with sampled := cellWord s.cells } }

/-- TAP_RESET: IDCODE is selected. -/
def execTapReset (s : State) : Outcome State Fault Refusal :=
  .next { s with tap := { s.tap with ir := .idcode, irReg := 0x01 } }

/-- IDCODE: the selected register is read. -/
def execIdcode (s : State) : Outcome State Fault Refusal := .next { s.loadIr 0x01 with lastRead := idcodeOf s.part }

/-- SAMPLE_PRELOAD: the cells are sampled, and the boundary register takes what is shifted in. -/
def execSamplePreload (preload : BitVec 12) (s : State) : Outcome State Fault Refusal :=
  let s1 := (s.loadIr 0x02).capture
  .next { s1 with tap := { s1.tap with outputs := preload } }

/-- EXTEST: the outputs show the boundary register, which then captures its cells; other outputs are shifted in by SAMPLE_PRELOAD.
DESIGN CHOICE, unsafe (log 210). -/
def execExtest (s : State) : Outcome State Fault Refusal := .next (s.loadIr 0x03).capture

/-- HIGHZ: the outputs are released. -/
def execHighz (s : State) : Outcome State Fault Refusal := .next (s.loadIr 0x04)

/-- CLAMP: the outputs hold what the boundary register drives. -/
def execClamp (s : State) : Outcome State Fault Refusal := .next (s.loadIr 0x05)

/-- BYPASS, with its opcode of ones. -/
def execBypass (s : State) : Outcome State Fault Refusal := .next (s.loadIr 0xFF)

end Sys2Proof.Machine
end

