-- ==== Sys2Proof/Machine/Dispatch.lean ====
section
/-!
DEFINITION. One arm per command: each is one call of the command's meaning.
-/

namespace Sys2Proof.Machine
open Host

def exec (i : Instr) (s : State) : Host.Outcome State Fault Refusal :=
  match i with
  | .add iss f => Sys2Proof.Machine.execAdd iss f s
  | .sub iss f => Sys2Proof.Machine.execSub iss f s
  | .and iss f => Sys2Proof.Machine.execAnd iss f s
  | .or iss f => Sys2Proof.Machine.execOr iss f s
  | .xor iss f => Sys2Proof.Machine.execXor iss f s
  | .andn iss f => Sys2Proof.Machine.execAndn iss f s
  | .sll iss f => Sys2Proof.Machine.execSll iss f s
  | .srl iss f => Sys2Proof.Machine.execSrl iss f s
  | .sra iss f => Sys2Proof.Machine.execSra iss f s
  | .min iss f => Sys2Proof.Machine.execMin iss f s
  | .max iss f => Sys2Proof.Machine.execMax iss f s
  | .minu iss f => Sys2Proof.Machine.execMinu iss f s
  | .maxu iss f => Sys2Proof.Machine.execMaxu iss f s
  | .sel iss f => Sys2Proof.Machine.execSel iss f s
  | .clz iss f => Sys2Proof.Machine.execClz iss f s
  | .popc iss f => Sys2Proof.Machine.execPopc iss f s
  | .mul iss f => Sys2Proof.Machine.execMul iss f s
  | .mulh iss f => Sys2Proof.Machine.execMulh iss f s
  | .mulhu iss f => Sys2Proof.Machine.execMulhu iss f s
  | .div iss f => Sys2Proof.Machine.execDiv iss f s
  | .divu iss f => Sys2Proof.Machine.execDivu iss f s
  | .rem iss f => Sys2Proof.Machine.execRem iss f s
  | .remu iss f => Sys2Proof.Machine.execRemu iss f s
  | .zext32 iss f => Sys2Proof.Machine.execZext32 iss f s
  | .sext32 iss f => Sys2Proof.Machine.execSext32 iss f s
  | .addi iss f => Sys2Proof.Machine.execAddi iss f s
  | .andi iss f => Sys2Proof.Machine.execAndi iss f s
  | .ori iss f => Sys2Proof.Machine.execOri iss f s
  | .xori iss f => Sys2Proof.Machine.execXori iss f s
  | .shi iss f => Sys2Proof.Machine.execShi iss f s
  | .shor iss f => Sys2Proof.Machine.execShor iss f s
  | .cmpEq iss f => Sys2Proof.Machine.execCmpEq iss f s
  | .cmpNe iss f => Sys2Proof.Machine.execCmpNe iss f s
  | .cmpLt iss f => Sys2Proof.Machine.execCmpLt iss f s
  | .cmpGe iss f => Sys2Proof.Machine.execCmpGe iss f s
  | .cmpLtu iss f => Sys2Proof.Machine.execCmpLtu iss f s
  | .cmpGeu iss f => Sys2Proof.Machine.execCmpGeu iss f s
  | .cmpBits iss f => Sys2Proof.Machine.execCmpBits iss f s
  | .pand iss f => Sys2Proof.Machine.execPand iss f s
  | .por iss f => Sys2Proof.Machine.execPor iss f s
  | .pxor iss f => Sys2Proof.Machine.execPxor iss f s
  | .pandn iss f => Sys2Proof.Machine.execPandn iss f s
  | .pset iss f => Sys2Proof.Machine.execPset iss f s
  | .pclr iss f => Sys2Proof.Machine.execPclr iss f s
  | .pnz iss f => Sys2Proof.Machine.execPnz iss f s
  | .fadd iss f => Sys2Proof.Machine.execFadd iss f s
  | .fsub iss f => Sys2Proof.Machine.execFsub iss f s
  | .fmul iss f => Sys2Proof.Machine.execFmul iss f s
  | .fmadd iss f => Sys2Proof.Machine.execFmadd iss f s
  | .fmsub iss f => Sys2Proof.Machine.execFmsub iss f s
  | .fdiv iss f => Sys2Proof.Machine.execFdiv iss f s
  | .fsqrt iss f => Sys2Proof.Machine.execFsqrt iss f s
  | .fmin iss f => Sys2Proof.Machine.execFmin iss f s
  | .fmax iss f => Sys2Proof.Machine.execFmax iss f s
  | .fabs iss f => Sys2Proof.Machine.execFabs iss f s
  | .fneg iss f => Sys2Proof.Machine.execFneg iss f s
  | .fcvtSW iss f => Sys2Proof.Machine.execFcvtSW iss f s
  | .fcvtWS iss f => Sys2Proof.Machine.execFcvtWS iss f s
  | .feq iss f => Sys2Proof.Machine.execFeq iss f s
  | .flt iss f => Sys2Proof.Machine.execFlt iss f s
  | .fle iss f => Sys2Proof.Machine.execFle iss f s
  | .vadd iss f => Sys2Proof.Machine.execVadd iss f s
  | .vsub iss f => Sys2Proof.Machine.execVsub iss f s
  | .vmul iss f => Sys2Proof.Machine.execVmul iss f s
  | .vfma iss f => Sys2Proof.Machine.execVfma iss f s
  | .vmin iss f => Sys2Proof.Machine.execVmin iss f s
  | .vmax iss f => Sys2Proof.Machine.execVmax iss f s
  | .vdot iss f => Sys2Proof.Machine.execVdot iss f s
  | .vsplat iss f => Sys2Proof.Machine.execVsplat iss f s
  | .vext iss f => Sys2Proof.Machine.execVext iss f s
  | .vins iss f => Sys2Proof.Machine.execVins iss f s
  | .vmov iss f => Sys2Proof.Machine.execVmov iss f s
  | .ld iss f => Sys2Proof.Machine.execLd iss f s
  | .ldu iss f => Sys2Proof.Machine.execLdu iss f s
  | .st iss f => Sys2Proof.Machine.execSt iss f s
  | .vld iss f => Sys2Proof.Machine.execVld iss f s
  | .vst iss f => Sys2Proof.Machine.execVst iss f s
  | .sld iss f => Sys2Proof.Machine.execSld iss f s
  | .sldu iss f => Sys2Proof.Machine.execSldu iss f s
  | .sst iss f => Sys2Proof.Machine.execSst iss f s
  | .svld iss f => Sys2Proof.Machine.execSvld iss f s
  | .svst iss f => Sys2Proof.Machine.execSvst iss f s
  | .fill iss f => Sys2Proof.Machine.execFill iss f s
  | .sdmaIn iss f => Sys2Proof.Machine.execSdmaIn iss f s
  | .sdmaOut iss f => Sys2Proof.Machine.execSdmaOut iss f s
  | .amoAdd iss d f => Sys2Proof.Machine.execAmoAdd iss d f s
  | .amoAnd iss d f => Sys2Proof.Machine.execAmoAnd iss d f s
  | .amoOr iss d f => Sys2Proof.Machine.execAmoOr iss d f s
  | .amoXor iss d f => Sys2Proof.Machine.execAmoXor iss d f s
  | .amoSmin iss d f => Sys2Proof.Machine.execAmoSmin iss d f s
  | .amoSmax iss d f => Sys2Proof.Machine.execAmoSmax iss d f s
  | .amoUmin iss d f => Sys2Proof.Machine.execAmoUmin iss d f s
  | .amoUmax iss d f => Sys2Proof.Machine.execAmoUmax iss d f s
  | .amoSwap iss d f => Sys2Proof.Machine.execAmoSwap iss d f s
  | .amoCas iss d f => Sys2Proof.Machine.execAmoCas iss d f s
  | .fence iss f => Sys2Proof.Machine.execFence iss f s
  | .br iss f => Sys2Proof.Machine.execBr iss f s
  | .call iss f => Sys2Proof.Machine.execCall iss f s
  | .jr iss f => Sys2Proof.Machine.execJr iss f s
  | .entGetL iss f => Sys2Proof.Machine.execEntGetL iss f s
  | .entGetN iss f => Sys2Proof.Machine.execEntGetN iss f s
  | .entGetE iss f => Sys2Proof.Machine.execEntGetE iss f s
  | .entLock iss f => Sys2Proof.Machine.execEntLock iss f s
  | .entUnlock iss f => Sys2Proof.Machine.execEntUnlock iss f s
  | .entPub iss f => Sys2Proof.Machine.execEntPub iss f s
  | .entNew iss f => Sys2Proof.Machine.execEntNew iss f s
  | .entFree iss f => Sys2Proof.Machine.execEntFree iss f s
  | .entMove iss f => Sys2Proof.Machine.execEntMove iss f s
  | .entityLockGrant index => Sys2Proof.Machine.execEntityLockGrant index s
  | .sesRecv iss f => Sys2Proof.Machine.execSesRecv iss f s
  | .sesSend iss f => Sys2Proof.Machine.execSesSend iss f s
  | .sesInfo iss f => Sys2Proof.Machine.execSesInfo iss f s
  | .sesInfoSet iss f => Sys2Proof.Machine.execSesInfoSet iss f s
  | .sessionSlotGrant home => Sys2Proof.Machine.execSessionSlotGrant home s
  | .tickWait iss f => Sys2Proof.Machine.execTickWait iss f s
  | .tickDone iss f => Sys2Proof.Machine.execTickDone iss f s
  | .csrGet iss f => Sys2Proof.Machine.execCsrGet iss f s
  | .csrPut iss f => Sys2Proof.Machine.execCsrPut iss f s
  | .csrMerge iss f => Sys2Proof.Machine.execCsrMerge iss f s
  | .dlrel iss f => Sys2Proof.Machine.execDlrel iss f s
  | .syscall iss f => Sys2Proof.Machine.execSyscall iss f s
  | .yield iss f => Sys2Proof.Machine.execYield iss f s
  | .tret iss f => Sys2Proof.Machine.execTret iss f s
  | .regrd iss f => Sys2Proof.Machine.execRegrd iss f s
  | .regwr iss f => Sys2Proof.Machine.execRegwr iss f s
  | .xcsrr iss f => Sys2Proof.Machine.execXcsrr iss f s
  | .xcsrw iss f => Sys2Proof.Machine.execXcsrw iss f s
  | .evwait iss f => Sys2Proof.Machine.execEvwait iss f s
  | .evwaitWake t => Sys2Proof.Machine.execEvwaitWake t s
  | .worldLoadComplete id => Sys2Proof.Machine.execWorldLoadComplete id s
  | .storeAcknowledge id => Sys2Proof.Machine.execStoreAcknowledge id s
  | .atomicComplete id => Sys2Proof.Machine.execAtomicComplete id s
  | .fillComplete id => Sys2Proof.Machine.execFillComplete id s
  | .sdmaComplete id => Sys2Proof.Machine.execSdmaComplete id s
  | .directoryResponse id => Sys2Proof.Machine.execDirectoryResponse id s
  | .completionTrap e t => Sys2Proof.Machine.execCompletionTrap e t s
  | .waitBreakerCheck e t => Sys2Proof.Machine.execWaitBreakerCheck e t s
  | .ceCtrlWrite e v => Sys2Proof.Machine.execCeCtrlWrite e v s
  | .ceStrandEnWrite e v => Sys2Proof.Machine.execCeStrandEnWrite e v s
  | .strandResume e t => Sys2Proof.Machine.execStrandResume e t s
  | .strandRedirect e t => Sys2Proof.Machine.execStrandRedirect e t s
  | .strandForward e t => Sys2Proof.Machine.execStrandForward e t s
  | .strandStop e t => Sys2Proof.Machine.execStrandStop e t s
  | .ceImemDataWrite e v => Sys2Proof.Machine.execCeImemDataWrite e v s
  | .ceImemDataRead path e => Sys2Proof.Machine.execCeImemDataRead path e s
  | .ceRangeCommit e => Sys2Proof.Machine.execCeRangeCommit e s
  | .migrationStart p q => Sys2Proof.Machine.execMigrationStart p q s
  | .migrationQuiet p => Sys2Proof.Machine.execMigrationQuiet p s
  | .migrationWaitExpired p => Sys2Proof.Machine.execMigrationWaitExpired p s
  | .migrationCopyComplete p => Sys2Proof.Machine.execMigrationCopyComplete p s
  | .svWdogKick => Sys2Proof.Machine.execSvWdogKick s
  | .watchdogExpire => Sys2Proof.Machine.execWatchdogExpire s
  | .engineHangDetect e => Sys2Proof.Machine.execEngineHangDetect e s
  | .tickStart => Sys2Proof.Machine.execTickStart s
  | .simulateOpen => Sys2Proof.Machine.execSimulateOpen s
  | .commitDeadlineMiss => Sys2Proof.Machine.execCommitDeadlineMiss s
  | .heldFrameRepeat => Sys2Proof.Machine.execHeldFrameRepeat s
  | .commitConditionsMet => Sys2Proof.Machine.execCommitConditionsMet s
  | .commitOpen => Sys2Proof.Machine.execCommitOpen s
  | .commitClose => Sys2Proof.Machine.execCommitClose s
  | .tkSchedCommit => Sys2Proof.Machine.execTkSchedCommit s
  | .tkRunClear => Sys2Proof.Machine.execTkRunClear s
  | .tkRunSet => Sys2Proof.Machine.execTkRunSet s
  | .tkWarmStart => Sys2Proof.Machine.execTkWarmStart s
  | .warmRestartComplete => Sys2Proof.Machine.execWarmRestartComplete s
  | .edResolveKeep handle => Sys2Proof.Machine.execEdResolveKeep handle s
  | .edResolveFree handle => Sys2Proof.Machine.execEdResolveFree handle s
  | .edTornCursorWrite v => Sys2Proof.Machine.execEdTornCursorWrite v s
  | .edGridWrite v => Sys2Proof.Machine.execEdGridWrite v s
  | .snapshotStart => Sys2Proof.Machine.execSnapshotStart s
  | .snapshotAbort => Sys2Proof.Machine.execSnapshotAbort s
  | .snapshotRoundEnd => Sys2Proof.Machine.execSnapshotRoundEnd s
  | .snapshotHoldExpire => Sys2Proof.Machine.execSnapshotHoldExpire s
  | .snapshotComplete => Sys2Proof.Machine.execSnapshotComplete s
  | .snapshotRestoreStart => Sys2Proof.Machine.execSnapshotRestoreStart s
  | .snapshotRestoreComplete => Sys2Proof.Machine.execSnapshotRestoreComplete s
  | .stCtxRead => Sys2Proof.Machine.execStCtxRead s
  | .stCtxCreate => Sys2Proof.Machine.execStCtxCreate s
  | .stCtxClose reason => Sys2Proof.Machine.execStCtxClose reason s
  | .stCtxKeyframe => Sys2Proof.Machine.execStCtxKeyframe s
  | .stCtxMove port => Sys2Proof.Machine.execStCtxMove port s
  | .stFwEventPop path => Sys2Proof.Machine.execStFwEventPop path s
  | .ageSweep => Sys2Proof.Machine.execAgeSweep s
  | .sessionFreed session => Sys2Proof.Machine.execSessionFreed session s
  | .worldDatagramReceive port src srcPort payload => Sys2Proof.Machine.execWorldDatagramReceive port src srcPort payload s
  | .roundBuildStart session => Sys2Proof.Machine.execRoundBuildStart session s
  | .roundBuildComplete session => Sys2Proof.Machine.execRoundBuildComplete session s
  | .egressTransmit lane => Sys2Proof.Machine.execEgressTransmit lane s
  | .windowClose session => Sys2Proof.Machine.execWindowClose session s
  | .duPanicRaise du ch => Sys2Proof.Machine.execDuPanicRaise du ch s
  | .duPanicDrop du ch => Sys2Proof.Machine.execDuPanicDrop du ch s
  | .duBuildOverrun session => Sys2Proof.Machine.execDuBuildOverrun session s
  | .duEncCommit => Sys2Proof.Machine.execDuEncCommit s
  | .ptCfgWrite v => Sys2Proof.Machine.execPtCfgWrite v s
  | .laneLinkUp lane => Sys2Proof.Machine.execLaneLinkUp lane s
  | .laneLinkDown lane => Sys2Proof.Machine.execLaneLinkDown lane s
  | .ptDistWrite port dist => Sys2Proof.Machine.execPtDistWrite port dist s
  | .trainFreeze lane => Sys2Proof.Machine.execTrainFreeze lane s
  | .trainRelease lane => Sys2Proof.Machine.execTrainRelease lane s
  | .trainAdaptPass lane => Sys2Proof.Machine.execTrainAdaptPass lane s
  | .trainApplyTxfir lane => Sys2Proof.Machine.execTrainApplyTxfir lane s
  | .trainPreset lane preset => Sys2Proof.Machine.execTrainPreset lane preset s
  | .trainRestart lane => Sys2Proof.Machine.execTrainRestart lane s
  | .trainCommandComplete lane timeout => Sys2Proof.Machine.execTrainCommandComplete lane timeout s
  | .pmaReset lane => Sys2Proof.Machine.execPmaReset lane s
  | .bitSlip lane count => Sys2Proof.Machine.execBitSlip lane count s
  | .patternModeSet lane on => Sys2Proof.Machine.execPatternModeSet lane on s
  | .errorInject lane => Sys2Proof.Machine.execErrorInject lane s
  | .periodicErrorInject lane p => Sys2Proof.Machine.execPeriodicErrorInject lane p s
  | .frameReceive lane frame => Sys2Proof.Machine.execFrameReceive lane frame s
  | .fwrxPop lane => Sys2Proof.Machine.execFwrxPop lane s
  | .fwtxSend v => Sys2Proof.Machine.execFwtxSend v s
  | .txtsPop path => Sys2Proof.Machine.execTxtsPop path s
  | .ptPortClr port => Sys2Proof.Machine.execPtPortClr port s
  | .tbIncrWrite v => Sys2Proof.Machine.execTbIncrWrite v s
  | .tbStep v => Sys2Proof.Machine.execTbStep v s
  | .tbSlew v => Sys2Proof.Machine.execTbSlew v s
  | .refclkLoss clk => Sys2Proof.Machine.execRefclkLoss clk s
  | .refclkTbReturn => Sys2Proof.Machine.execRefclkTbReturn s
  | .ppsOut => Sys2Proof.Machine.execPpsOut s
  | .ppsIn => Sys2Proof.Machine.execPpsIn s
  | .lnmLinkDown => Sys2Proof.Machine.execLnmLinkDown s
  | .mgmtQueueFull f => Sys2Proof.Machine.execMgmtQueueFull f s
  | .identify f => Sys2Proof.Machine.execIdentify f s
  | .provisionKey f => Sys2Proof.Machine.execProvisionKey f s
  | .rotateKey f => Sys2Proof.Machine.execRotateKey f s
  | .keySlotCommit => Sys2Proof.Machine.execKeySlotCommit s
  | .regRead f => Sys2Proof.Machine.execRegRead f s
  | .regWrite f => Sys2Proof.Machine.execRegWrite f s
  | .regModify f => Sys2Proof.Machine.execRegModify f s
  | .modeSet f => Sys2Proof.Machine.execModeSet f s
  | .reset f => Sys2Proof.Machine.execReset f s
  | .imageBegin f => Sys2Proof.Machine.execImageBegin f s
  | .imageData f => Sys2Proof.Machine.execImageData f s
  | .imageEnd f => Sys2Proof.Machine.execImageEnd f s
  | .imageVerifyComplete => Sys2Proof.Machine.execImageVerifyComplete s
  | .imageTransferTimeout => Sys2Proof.Machine.execImageTransferTimeout s
  | .titleKeySet f => Sys2Proof.Machine.execTitleKeySet f s
  | .memRead f => Sys2Proof.Machine.execMemRead f s
  | .memWrite f => Sys2Proof.Machine.execMemWrite f s
  | .sesCreate f => Sys2Proof.Machine.execSesCreate f s
  | .sesClose f => Sys2Proof.Machine.execSesClose f s
  | .sesMove f => Sys2Proof.Machine.execSesMove f s
  | .sesKeyframe f => Sys2Proof.Machine.execSesKeyframe f s
  | .sesRead f => Sys2Proof.Machine.execSesRead f s
  | .snapKey f => Sys2Proof.Machine.execSnapKey f s
  | .dumpInfo f => Sys2Proof.Machine.execDumpInfo f s
  | .dumpRead f => Sys2Proof.Machine.execDumpRead f s
  | .dumpClear f => Sys2Proof.Machine.execDumpClear f s
  | .eventRead f => Sys2Proof.Machine.execEventRead f s
  | .chRate f => Sys2Proof.Machine.execChRate f s
  | .poll f => Sys2Proof.Machine.execPoll f s
  | .globalModeSet target => Sys2Proof.Machine.execGlobalModeSet target s
  | .drainSessionClose => Sys2Proof.Machine.execDrainSessionClose s
  | .drainComplete => Sys2Proof.Machine.execDrainComplete s
  | .drainTimeout => Sys2Proof.Machine.execDrainTimeout s
  | .focusComplete => Sys2Proof.Machine.execFocusComplete s
  | .haltEntry cause => Sys2Proof.Machine.execHaltEntry cause s
  | .coldReset src => Sys2Proof.Machine.execColdReset src s
  | .warmReset => Sys2Proof.Machine.execWarmReset s
  | .requestAdmit ch => Sys2Proof.Machine.execRequestAdmit ch s
  | .requestOverdue id => Sys2Proof.Machine.execRequestOverdue id s
  | .sequencerSlot ch ready => Sys2Proof.Machine.execSequencerSlot ch ready s
  | .dramReadDecode id upsets => Sys2Proof.Machine.execDramReadDecode id upsets s
  | .mergeReadDecode ch granule upsets => Sys2Proof.Machine.execMergeReadDecode ch granule upsets s
  | .chmapCommit => Sys2Proof.Machine.execChmapCommit s
  | .chmapDrainComplete => Sys2Proof.Machine.execChmapDrainComplete s
  | .channelCopyGranule l upsets => Sys2Proof.Machine.execChannelCopyGranule l upsets s
  | .copySourceFail l => Sys2Proof.Machine.execCopySourceFail l s
  | .rgCommit => Sys2Proof.Machine.execRgCommit s
  | .chArbCommit ch => Sys2Proof.Machine.execChArbCommit ch s
  | .chSchedWrite ch v => Sys2Proof.Machine.execChSchedWrite ch v s
  | .chSlotcommit ch => Sys2Proof.Machine.execChSlotcommit ch s
  | .frameBoundary ch => Sys2Proof.Machine.execFrameBoundary ch s
  | .channelPanicLimit ch => Sys2Proof.Machine.execChannelPanicLimit ch s
  | .rgCntClr => Sys2Proof.Machine.execRgCntClr s
  | .refreshDuePoint ch bank => Sys2Proof.Machine.execRefreshDuePoint ch bank s
  | .manualRefresh ch bank => Sys2Proof.Machine.execManualRefresh ch bank s
  | .chRpCtrlWrite ch v => Sys2Proof.Machine.execChRpCtrlWrite ch v s
  | .selfRefreshEntry ch => Sys2Proof.Machine.execSelfRefreshEntry ch s
  | .selfRefreshExit ch => Sys2Proof.Machine.execSelfRefreshExit ch s
  | .fixerWake ch => Sys2Proof.Machine.execFixerWake ch s
  | .canaryCheck die lost => Sys2Proof.Machine.execCanaryCheck die lost s
  | .fixerRead ch => Sys2Proof.Machine.execFixerRead ch s
  | .fixerReadComplete ch upsets => Sys2Proof.Machine.execFixerReadComplete ch upsets s
  | .chUeClr ch => Sys2Proof.Machine.execChUeClr ch s
  | .chEccClr ch => Sys2Proof.Machine.execChEccClr ch s
  | .caParityError ch line granule master => Sys2Proof.Machine.execCaParityError ch line granule master s
  | .halfWidthConversionStep ch upsets => Sys2Proof.Machine.execHalfWidthConversionStep ch upsets s
  | .trnRunStep ch step meas => Sys2Proof.Machine.execTrnRunStep ch step meas s
  | .trnMeasureEye ch m => Sys2Proof.Machine.execTrnMeasureEye ch m s
  | .trnCentre ch pc line => Sys2Proof.Machine.execTrnCentre ch pc line s
  | .trnBitSlip ch pc line earlier => Sys2Proof.Machine.execTrnBitSlip ch pc line earlier s
  | .trnRetrainLine ch m => Sys2Proof.Machine.execTrnRetrainLine ch m s
  | .trnFull ch => Sys2Proof.Machine.execTrnFull ch s
  | .channelTrainingComplete ch meas => Sys2Proof.Machine.execChannelTrainingComplete ch meas s
  | .maintenanceStall ch => Sys2Proof.Machine.execMaintenanceStall ch s
  | .bistStart => Sys2Proof.Machine.execBistStart s
  | .bistAbort => Sys2Proof.Machine.execBistAbort s
  | .bistSlice responses => Sys2Proof.Machine.execBistSlice responses s
  | .softRepairApply ch n => Sys2Proof.Machine.execSoftRepairApply ch n s
  | .fuseProgram ch => Sys2Proof.Machine.execFuseProgram ch s
  | .fuseProgramComplete ok => Sys2Proof.Machine.execFuseProgramComplete ok s
  | .calibrationDue ch => Sys2Proof.Machine.execCalibrationDue ch s
  | .trimEvaluation => Sys2Proof.Machine.execTrimEvaluation s
  | .calibrationRerun rrefOk results => Sys2Proof.Machine.execCalibrationRerun rrefOk results s
  | .calTrimWrite v => Sys2Proof.Machine.execCalTrimWrite v s
  | .thermalLadderEvaluation readings => Sys2Proof.Machine.execThermalLadderEvaluation readings s
  | .thermalTrip die => Sys2Proof.Machine.execThermalTrip die s
  | .thermalModelUpdate watts => Sys2Proof.Machine.execThermalModelUpdate watts s
  | .delayLineMeasure e rate idle => Sys2Proof.Machine.execDelayLineMeasure e rate idle s
  | .ldoMonitor domain => Sys2Proof.Machine.execLdoMonitor domain s
  | .railMonitor rail mv => Sys2Proof.Machine.execRailMonitor rail mv s
  | .capEnforce avg => Sys2Proof.Machine.execCapEnforce avg s
  | .governorEvaluate => Sys2Proof.Machine.execGovernorEvaluate s
  | .voltageStepComplete e => Sys2Proof.Machine.execVoltageStepComplete e s
  | .pwrDomWrite domain on => Sys2Proof.Machine.execPwrDomWrite domain on s
  | .domainTransitionComplete domain => Sys2Proof.Machine.execDomainTransitionComplete domain s
  | .faultEventAccept => Sys2Proof.Machine.execFaultEventAccept s
  | .fenceComplete master => Sys2Proof.Machine.execFenceComplete master s
  | .shadowExpire group inst => Sys2Proof.Machine.execShadowExpire group inst s
  | .faultLatchClear group kind mask => Sys2Proof.Machine.execFaultLatchClear group kind mask s
  | .faultCaptureRelease group => Sys2Proof.Machine.execFaultCaptureRelease group s
  | .fcInject v => Sys2Proof.Machine.execFcInject v s
  | .fcEngReassign v => Sys2Proof.Machine.execFcEngReassign v s
  | .edFixRetire index => Sys2Proof.Machine.execEdFixRetire index s
  | .edFixWrite index => Sys2Proof.Machine.execEdFixWrite index s
  | .scratchDump => Sys2Proof.Machine.execScratchDump s
  | .scratchDumpComplete => Sys2Proof.Machine.execScratchDumpComplete s
  | .meshCrcError half descriptor master => Sys2Proof.Machine.execMeshCrcError half descriptor master s
  | .pmCommit => Sys2Proof.Machine.execPmCommit s
  | .pmCounterWrite n v => Sys2Proof.Machine.execPmCounterWrite n v s
  | .contactSheetDue => Sys2Proof.Machine.execContactSheetDue s
  | .contactSheetComplete => Sys2Proof.Machine.execContactSheetComplete s
  | .loupeCtrlWrite v => Sys2Proof.Machine.execLoupeCtrlWrite v s
  | .loupeDataRead path => Sys2Proof.Machine.execLoupeDataRead path s
  | .pairLowRead path addr => Sys2Proof.Machine.execPairLowRead path addr s
  | .registerWrite path addr v => Sys2Proof.Machine.execRegisterWrite path addr v s
  | .tapReset => Sys2Proof.Machine.execTapReset s
  | .idcode => Sys2Proof.Machine.execIdcode s
  | .samplePreload preload => Sys2Proof.Machine.execSamplePreload preload s
  | .extest => Sys2Proof.Machine.execExtest s
  | .highz => Sys2Proof.Machine.execHighz s
  | .clamp => Sys2Proof.Machine.execClamp s
  | .bypass => Sys2Proof.Machine.execBypass s
  | .resetNRise bootSel testEn => Sys2Proof.Machine.execResetNRise bootSel testEn s
  | .lnmLinkUp => Sys2Proof.Machine.execLnmLinkUp s
  | .checkerLock lane => Sys2Proof.Machine.execCheckerLock lane s
  | .checkerLockLoss lane => Sys2Proof.Machine.execCheckerLockLoss lane s
  | .joinPassEnd session => Sys2Proof.Machine.execJoinPassEnd session s
  | .tbSlewComplete => Sys2Proof.Machine.execTbSlewComplete s
  | .laneEnable lane on => Sys2Proof.Machine.execLaneEnable lane on s
  | .pmTagWrite v => Sys2Proof.Machine.execPmTagWrite v s
  | .pwrCeSetCodeWrite e v => Sys2Proof.Machine.execPwrCeSetCodeWrite e v s
  | .badCommandFrame f => Sys2Proof.Machine.execBadCommandFrame f s

end Sys2Proof.Machine
end

