-- ==== Sys2Proof/Machine/Step.lean ====
section
/-!
DEFINITION. One step: the command at the front of the queue has its effect; on an empty queue one cycle passes.
-/

namespace Sys2Proof.Machine

/-- Take the command at the front of the queue and give it its effect; with none waiting, one cycle passes.
DESIGN CHOICE, unsafe (log 2). DESIGN CHOICE, safe (log 159, 160). -/
def step (s : State) : Host.Outcome State Fault Refusal :=
  match s.pending with
  | [] => tickCycle s
  | c :: rest => exec c { s with pending := rest }

/-- Put the command a table word spells at the front of the queue; no row of the table gives bits, so none is spelled.
DESIGN CHOICE, safe (log 3). -/
def State.withFetchWord (s : State) (nbits w : Nat) : State :=
  match decodeTableWord nbits w with
  | some c => { s with pending := c :: s.pending }
  | none => s

end Sys2Proof.Machine
end

