-- ==== Sys2Proof/Safety.lean ====
section
/-!
DEFINITION. What counts as a safe step, and the terms claims are stated in: an instruction that issues with nothing in its
way, and what an instruction of a strand leaves alone.
-/

namespace Sys2Proof.Machine

/-- The step answers a next state: no command of the stack stops it. -/
def StepSafe (s : State) : Prop := ∃ t, step s = .next t

/-- An instruction with issue information `d` issues now and reaches its own effect: its strand is READY and can issue, its fetch
is good, it may stand where it stands, and no register it names awaits a result (R28 to R30, R33, R79). -/
def Issues (s : State) (i : Iss) (d : Info) : Prop :=
  (s.me i).st = .ready ∧ s.canIssue i.e.val i.t.val d = true ∧ i.ecc ≠ .double ∧ ((s.me i).pc ≠ 0xFFFF ∨ d.last = true) ∧
  s.hazard i.e.val i.t.val d = false

/-- The state in which an instruction has its effect: the fetch check and the token are accounted. -/
def issued (s : State) (i : Iss) (d : Info) : State :=
  (if i.ecc = .single then s.fetchCorrected i.e.val else s).takeToken i.e.val i.t.val d

/-- The register fields in which issue keeps its accounts. -/
def issueKeys (e : Nat) : List Nat :=
  [fldKey F.PM_TD_slots e 0, fldKey F.PM_TD_slots e 1, fldKey F.CE_IMEM_ECC_corrected e 0, fldKey F.SV_SRAM_ECC_corrected 0 0]

/-- From `s` to `t` nothing has changed but what the issuing strand holds and issue's own accounts: every other strand, every
other register field, every byte of memory and every other unit are as before. -/
def OnlyStrand (s t : State) (i : Iss) : Prop :=
  { t with strands := s.strands, regs := s.regs, engs := s.engs, pm := s.pm } = s ∧
  (∀ e u, u < 16 → (e, u) ≠ (i.e.val, i.t.val) → t.strand e u = s.strand e u) ∧
  (∀ f a b, fldKey f a b ∉ issueKeys i.e.val → t.fld f a b = s.fld f a b) ∧
  (∀ e, e ≠ i.e.val → t.eng e = s.eng e)

end Sys2Proof.Machine
end

