-- ==== Sys2Proof/Certificates/Slice0/Obligations.lean ====
section
/-!
DEFINITION. The statements about the stack: what each command comes to, its frame, the rules of the whole machine.
-/

/-! ## Terms of the statements -/

namespace Sys2Proof.Machine

/-- The registers a format A instruction over g registers reads and writes. -/
def infoA (f : FmtA) : Info := { reads := gN f.rs1 ++ gN f.rs2 ++ pN f.pred.toNat, writes := gN f.rd }

/-- The same of an instruction whose result is usable `n` tokens later where its predicate holds, and of the unit it occupies (R30). -/
def infoN (s : State) (i : Iss) (f : FmtA) (n : Nat) (unit : List Nat) : Info :=
  { reads := gN f.rs1 ++ gN f.rs2 ++ pN f.pred.toNat, writes := gN f.rd ++ unit, lat := s.latIf i f.pred f.neg n }

/-- The strand after an instruction that does `u` where its predicate holds, and nothing where it does not (R64). -/
def guarded (x : Strand) (pred : BitVec 3) (neg : Bool) (u : Strand → Strand) : Strand :=
  (if x.rp pred.toNat != neg then u x else x).next

/-- `c` issued by `i` in `s` goes on to a state in which the issuing strand is `x`, and nothing but that strand and issue's
own accounts has changed. -/
def GoesTo (c : Instr) (s : State) (i : Iss) (x : Strand) : Prop :=
  ∃ t, exec c s = .next t ∧ t.me i = x ∧ OnlyStrand s t i

/-- The integer instructions over two registers, with their results (R67). -/
def intTable : List ((Iss → FmtA → Instr) × (Word64 → Word64 → Word64)) :=
  [ (.add, fun a b => a + b), (.sub, fun a b => a - b), (.and, fun a b => a &&& b), (.or, fun a b => a ||| b),
    (.xor, fun a b => a ^^^ b), (.andn, fun a b => a &&& ~~~b), (.sll, fun a b => a <<< (b.toNat % 64)),
    (.srl, fun a b => a >>> (b.toNat % 64)), (.sra, fun a b => a.sshiftRight (b.toNat % 64)),
    (.min, fun a b => if a.toInt < b.toInt then a else b), (.max, fun a b => if a.toInt < b.toInt then b else a),
    (.minu, fun a b => if a.toNat < b.toNat then a else b), (.maxu, fun a b => if a.toNat < b.toNat then b else a) ]

/-- The multiplies, with their results (R67). -/
def mulTable : List ((Iss → FmtA → Instr) × (Word64 → Word64 → Word64)) :=
  [ (.mul, fun a b => a * b), (.mulh, fun a b => BitVec.ofInt 64 (a.toInt * b.toInt / 2 ^ 64)),
    (.mulhu, fun a b => BitVec.ofNat 64 (a.toNat * b.toNat / 2 ^ 64)) ]

/-- The divides, with their results (R67). -/
def divTable : List ((Iss → FmtA → Instr) × (Word64 → Word64 → Word64)) :=
  [ (.div, fun a b => if b = 0 then 0 else BitVec.ofInt 64 (a.toInt.tdiv b.toInt)),
    (.divu, fun a b => if b = 0 then 0 else BitVec.ofNat 64 (a.toNat / b.toNat)),
    (.rem, fun a b => if b = 0 then a else BitVec.ofInt 64 (a.toInt.tmod b.toInt)),
    (.remu, fun a b => if b = 0 then a else BitVec.ofNat 64 (a.toNat % b.toNat)) ]

/-- The integer instructions over rs1 alone, with their results (R67). -/
def intTable1 : List ((Iss → FmtA → Instr) × (Word64 → Word64)) :=
  [ (.clz, fun a => BitVec.ofNat 64 (clzBits a.toNat 64)), (.popc, fun a => BitVec.ofNat 64 (popBits a.toNat 64)),
    (.zext32, fun a => (a.setWidth 32).setWidth 64), (.sext32, fun a => (a.setWidth 32).signExtend 64) ]

/-- The immediate instructions whose result any imm12 gives (R68). -/
def immTable : List ((Iss → FmtI → Instr) × (Word64 → BitVec 12 → Word64)) :=
  [ (.addi, fun a m => a + m.signExtend 64), (.andi, fun a m => a &&& m.signExtend 64),
    (.ori, fun a m => a ||| m.signExtend 64), (.xori, fun a m => a ^^^ m.signExtend 64),
    (.shor, fun a m => (a <<< 12) ||| m.setWidth 64) ]

def infoI (f : FmtI) : Info := { reads := gN f.rs1 ++ pN f.pred.toNat, writes := gN f.rd }

/-- The compares (R69). -/
def cmpTable : List ((Iss → FmtA → Instr) × (Word64 → Word64 → Bool)) :=
  [ (.cmpEq, fun a b => a == b), (.cmpNe, fun a b => a != b), (.cmpLt, fun a b => decide (a.toInt < b.toInt)),
    (.cmpGe, fun a b => decide (b.toInt ≤ a.toInt)), (.cmpLtu, fun a b => decide (a.toNat < b.toNat)),
    (.cmpGeu, fun a b => decide (b.toNat ≤ a.toNat)), (.cmpBits, fun a b => (a &&& b) != 0) ]

/-- The predicate logic over two predicates (R69). -/
def plogTable : List ((Iss → FmtA → Instr) × (Bool → Bool → Bool)) :=
  [ (.pand, fun a b => a && b), (.por, fun a b => a || b), (.pxor, fun a b => a != b), (.pandn, fun a b => a && !b) ]

/-- The FP32 instructions with a result in rd: the value and flags of a strand's operands, whether rs2 is unused (R70), and the
tokens until the result is usable (R30). -/
def fpTable : List ((Iss → FmtA → Instr) × (Bool × Nat) × (Nat → Word32 → Word32 → Word32 → Word32 × Nat)) :=
  [ (.fadd, (false, 4), fun m _ a b => fpAdd m a b), (.fsub, (false, 4), fun m _ a b => fpSub m a b),
    (.fmul, (false, 4), fun m _ a b => fpMul m a b), (.fmadd, (false, 4), fun m d a b => fpFma m false d a b),
    (.fmsub, (false, 4), fun m d a b => fpFma m true d a b), (.fdiv, (false, 12), fun m _ a b => fpDiv m a b),
    (.fsqrt, (true, 12), fun m _ a _ => fpSqrt m a), (.fmin, (false, 4), fun _ _ a b => fpMinMax false a b),
    (.fmax, (false, 4), fun _ _ a b => fpMinMax true a b), (.fabs, (true, 0), fun _ _ a _ => (a &&& 0x7FFFFFFF#32, 0)),
    (.fneg, (true, 0), fun _ _ a _ => (a ^^^ 0x80000000#32, 0)), (.fcvtSW, (true, 4), fun m _ a _ => fpOfInt m a) ]

def infoFp (s : State) (i : Iss) (f : FmtA) (n : Nat) : Info :=
  { reads := gN f.rs1 ++ gN f.rs2 ++ gN f.rd ++ pN f.pred.toNat, writes := gN f.rd, fp := true,
    lat := s.latIf i f.pred f.neg n }

/-- The FP32 compares (R70). -/
def fpCmpTable : List ((Iss → FmtA → Instr) × (Word32 → Word32 → Bool × Nat)) :=
  [(.feq, fpEq), (.flt, fpLt), (.fle, fpLe)]

/-- The vector instructions that act lane by lane over v[rd], v[rs1] and v[rs2] (R71). -/
def vecTable : List ((Iss → FmtA → Instr) × (Nat → Word32 → Word32 → Word32 → Word32 × Nat)) :=
  [ (.vadd, fun m _ a b => fpAdd m a b), (.vsub, fun m _ a b => fpSub m a b), (.vmul, fun m _ a b => fpMul m a b),
    (.vfma, fun m d a b => fpFma m false d a b), (.vmin, fun _ _ a b => fpMinMax false a b),
    (.vmax, fun _ _ a b => fpMinMax true a b) ]

def infoV (s : State) (i : Iss) (f : FmtA) : Info :=
  { reads := vN f.rs1 ++ vN f.rs2 ++ vN f.rd ++ pN f.pred.toNat, writes := vN f.rd, fp := true,
    lat := s.latIf i f.pred f.neg 4 }

/-- Lane `k` of a vector register of a strand. -/
def vlane (x : Strand) (n : BitVec 5) (k : Nat) : Word32 := lane (x.rv n.toNat) k

/-- Outstanding operations have numbers below the next one (the model's numbering). -/
def Fresh (s : State) : Prop := ∀ o ∈ s.ops, o.id < s.nextOp

/-- A world access of `n` bytes at `a` issues and reaches its channel: no issue-time trap, room in the load/store queue, no
fence in its way, and its address routed (R37, R41, R72, R78, R242); the operations are numbered as the model numbers them. -/
def Reaches (s : State) (i : Iss) (d : Info) (a : Word64) (al n : Nat) (b : RangeBit) (dl : BitVec 3) (kind : OpKind)
    (l off : Nat) (r : Route) : Prop :=
  Issues s i d ∧ (issued s i d).worldChecks i a al n b dl = none ∧ (issued s i d).lsqRoom i.e.val i.t.val = true ∧
  (issued s i d).fenced i.e.val i.t.val kind.fenceBit = false ∧
  s.place a.toNat = .at l off ∧ s.route l off = some r ∧ Fresh s

/-- From `s` to `t` the strand has started an operation and goes on: the operation's kind, destination, address, length and
instruction are recorded under the next number, its destination awaits it, and neither a general register nor a byte of memory
has changed. -/
def Starts (s t : State) (i : Iss) (kind : OpKind) (dst addr len : Nat) : Prop :=
  (∃ o ∈ t.ops, o.id = s.nextOp ∧ o.e = i.e.val ∧ o.t = i.t.val ∧ o.kind = kind ∧ o.dst = dst ∧ o.addr = addr ∧
    o.len = len ∧ o.fpc = (s.me i).pc) ∧
  (t.me i).pc = (s.me i).pc + 1 ∧ (t.me i).st = (s.me i).st ∧
  (t.me i).busy = (if dst = 255 ∨ dst = 0 then (s.me i).busy else dst :: (s.me i).busy) ∧
  (∀ n, (t.me i).rg n = (s.me i).rg n) ∧ (∀ n, (t.me i).rv n = (s.me i).rv n) ∧ (t.me i).p = (s.me i).p ∧
  t.dram = s.dram ∧ t.scratch = s.scratch ∧ t.svram = s.svram

/-- A read or atomic of the operation just started stands in front of the channel that serves it. -/
def SendsRead (s t : State) (i : Iss) (k : ReqKind) (r : Route) (off addr len : Nat) : Prop :=
  ∃ q ∈ t.reqs, q.op = s.nextOp ∧ q.kind = k ∧ q.master = i.e.val ∧ q.phys = r.rd ∧ q.gran = off / 64 ∧ q.waddr = addr ∧
    q.len = len

/-- A write of these bytes stands in front of every channel that must hold it. -/
def SendsWrite (s t : State) (i : Iss) (r : Route) (off addr : Nat) (bs : SMap Byte) : Prop :=
  ∀ c ∈ r.wr, ∃ q ∈ t.reqs, q.op = s.nextOp ∧ q.kind = .write ∧ q.master = i.e.val ∧ q.phys = c ∧ q.gran = off / 64 ∧
    q.waddr = addr ∧ q.wr = bs

/-- The atomics, by their function (R77). -/
def amoTable : List ((Iss → Bool → FmtE → Instr) × Nat) :=
  [(.amoAdd, 0), (.amoAnd, 1), (.amoOr, 2), (.amoXor, 3), (.amoSmin, 4), (.amoSmax, 5), (.amoUmin, 6), (.amoUmax, 7),
   (.amoSwap, 8), (.amoCas, 9)]

def infoMem (f : FmtL) (reads writes : List Nat) : Info := { reads := gN f.rs1 ++ reads, writes := writes, mem := true }
def infoE (f : FmtE) : Info := { reads := gN f.rs1 ++ gN f.rs2 ++ gN f.rd, mem := true }
def infoX (reads writes : List Nat) : Info := { reads := reads, writes := writes, mem := true }
/-- A scratch load: its result is usable after 3 tokens (R30). -/
def infoSld (f : FmtL) (writes : List Nat) : Info := { reads := gN f.rs1, writes := writes, mem := true, lat := 3 }

/-- A scratch access of `n` bytes at `a` is aligned and in the strand's reach (R34, R74). -/
def ScratchOk (s : State) (i : Iss) (a : Word64) (n : Nat) : Prop := a.toNat % n = 0 ∧ a.toNat + n ≤ s.scratchReach i

/-- From `s` to `t` only the strand, issue's accounts and `n` bytes of its engine's scratch at `a` have changed. -/
def OnlyScratch (s t : State) (i : Iss) (a n : Nat) : Prop :=
  { t with strands := s.strands, regs := s.regs, engs := s.engs, pm := s.pm, scratch := s.scratch, svram := s.svram } = s ∧
  (∀ e u, u < 16 → (e, u) ≠ (i.e.val, i.t.val) → t.strand e u = s.strand e u) ∧
  (∀ e k, k < 131072 → (e ≠ i.e.val ∨ k < a ∨ a + n ≤ k) → t.rdScratch e k 1 = s.rdScratch e k 1)

/-- The conditions under which a bulk transfer of `n` bytes at `a` issues (R75, R76). -/
def BulkOk (s : State) (i : Iss) (d : Info) (a : Word64) (n : Nat) (b : RangeBit) (dl : BitVec 3) : Prop :=
  Issues s i d ∧ n % 64 = 0 ∧ 64 ≤ n ∧ a.toNat % 64 = 0 ∧ (issued s i d).rangeBad i a n b = false ∧
  (issued s i d).dlBad i dl = false

/-- The CSRs that a local instruction reads by number are those of the strand itself. -/
def csrValue (s : State) (i : Iss) (d : Info) (n : Nat) : Word64 :=
  (issued s i d).readCsr i.e.val i.t.val n ((s.me i).title && i.e.val < 34)

/-- An instruction with issue information `d` issues, and no fence over directory operations holds it (R78). -/
def IssuesE (s : State) (i : Iss) (d : Info) : Prop :=
  Issues s i d ∧ (issued s i d).fenced i.e.val i.t.val 5 = false

/-- From `s` to `t` the strand waits with an operation of this kind, at its instruction. -/
def Waits (s t : State) (i : Iss) (kind : OpKind) (addr : Nat) (w : Wait) : Prop :=
  (∃ o ∈ t.ops, o.id = s.nextOp ∧ o.e = i.e.val ∧ o.t = i.t.val ∧ o.kind = kind ∧ o.addr = addr) ∧
  (t.me i).st = .waiting ∧ (t.me i).wait = some w ∧ (t.me i).pc = (s.me i).pc ∧
  (∀ n, (t.me i).rg n = (s.me i).rg n) ∧ t.dram = s.dram ∧ { t.ed with upset := s.ed.upset } = s.ed ∧ t.ses = s.ses

/-- The operation has come back: it is found no more, and its destination register holds `v`. -/
def Returns (t : State) (o : Op) (v : Nat) : Prop :=
  t.findOp o.id = none ∧ (0 < o.dst → o.dst < 32 → (t.strand o.e o.t).rg o.dst = BitVec.ofNat 64 v)

/-- The command runs, and the state it leaves satisfies `P`. -/
def Runs (c : Instr) (s : State) (P : State → Prop) : Prop := ∃ t, exec c s = .next t ∧ P t

/-- From `s` to `t` nothing has changed but register fields with these keys. -/
def OnlyRegs (s t : State) (ks : List Nat) : Prop :=
  { t with regs := s.regs } = s ∧ ∀ f i j, fldKey f i j ∉ ks → t.fld f i j = s.fld f i j

/-- An event of this group and source is on its way to the fault collector. -/
def Raised (t : State) (group src : Nat) : Prop := ∃ v ∈ t.faults, v.group = group ∧ v.src = src

/-- The export goes on in state `n`, or a read it needed has failed and it has ended ABORTED (R127, R294). -/
def ExportAt (t : State) (n : Nat) : Prop := t.fld F.SNAP_STATUS_state 0 0 = n ∨ t.fld F.SNAP_STATUS_state 0 0 = 5

/-- The training command numbered `op` is under way at lane `l` (R169). -/
def Training (t : State) (l op : Nat) : Prop := t.fld F.LN_TRAIN_CMD_busy l 0 = 1 ∧ smapFind t.pt.trainOp l = some op

/-- A frame passes every check of command `c` (R197): it arrives while no command before it waits, is well formed, authentic, legal
and well argued, and `late` finds nothing against it. -/
def Accepts (s : State) (c : Cmd) (f : Frame) (late : State → Option Nat) : Prop :=
  s.arrives f (c.code == 1) = true ∧ s.behindSlot = false ∧ frameBad c.code f = none ∧ s.authentic c.code f = true ∧
  (s.consume f).cmdBad c f = none ∧ late (s.consume f) = none

/-- The last response answers the frame with this status and data, under the key in use when it came (R190). -/
def Answers (t u : State) (f : Frame) (code status : Nat) (data : List Byte) : Prop :=
  t.mg.resp = some (u.respond f code status data)

/-- The frame's sequence number is that of the frames accepted (R195), and its status is kept for POLL (R199). -/
def Noted (t u : State) (f : Frame) (code status : Nat) : Prop :=
  t.fld F.MG_SEQ_seq 0 0 = u.fld F.MG_SEQ_seq 0 0 ∧
  t.mg.polls.getLast? = some { seq := f.seq.toNat, code := code, status := status }

/-- From `u` to `t` the frame has been refused: counted, recorded, and answered with the status, which AUTH_FAILED may not be
(R196, R198). -/
def Refused (u t : State) (f : Frame) (code status : Nat) : Prop :=
  t.fld F.MG_REJECT_COUNT_count 0 0 = satAdd 32 (u.fld F.MG_REJECT_COUNT_count 0 0) 1 ∧
  t.fld F.MG_REJECT_LAST_status 0 0 = status % 256 ∧ t.fld F.MG_REJECT_LAST_code 0 0 = code % 256 ∧
  t.fld F.MG_REJECT_LAST_seq 0 0 = f.seq.toNat % 65536 ∧
  (status ≠ 0x14 → Answers t u f code status []) ∧
  (status = 0x14 → t.fld F.MG_AUTH_FAIL_failures 0 0 = satAdd 16 (u.fld F.MG_AUTH_FAIL_failures 0 0) 1 ∧ Raised t 55 0 ∧
    (u.authSent < 100 → Answers t u f code status [])) ∧
  t.strands = u.strands ∧ t.dram = u.dram ∧ t.ses = u.ses ∧ t.nv = u.nv ∧ t.mg.polls = u.mg.polls

/-- `k` is a management command whose checks are `c` (R201). -/
def MgCommand (k : Frame → Instr) (c : Cmd) : Prop :=
  (k, c) ∈ ([ (.identify, identifyCmd), (.poll, pollCmd), (.provisionKey, provisionCmd), (.rotateKey, rotateCmd),
    (.regRead, regReadCmd), (.regWrite, regWriteCmd), (.regModify, regModifyCmd), (.modeSet, modeSetCmd),
    (.reset, resetCmd), (.imageBegin, imageBeginCmd), (.imageData, imageDataCmd), (.imageEnd, imageEndCmd),
    (.titleKeySet, titleKeyCmd), (.memRead, memReadCmd), (.memWrite, memWriteCmd), (.sesCreate, sesCreateCmd),
    (.sesClose, sesCloseCmd), (.sesMove, sesMoveCmd), (.sesKeyframe, sesKeyframeCmd), (.sesRead, sesReadCmd),
    (.snapKey, snapKeyCmd), (.dumpInfo, dumpInfoCmd), (.dumpRead, dumpReadCmd), (.dumpClear, dumpClearCmd),
    (.eventRead, eventReadCmd), (.chRate, chRateCmd) ] : List ((Frame → Instr) × Cmd))

/-- From `s` to `t` the stack begins, or makes, its transition to mode `m`: HALT falls due; FOCUS begins on the way to READY, in
retention unless it follows a cold reset; SERVE, SLEEP and MAINT are entered at once, DRAIN begins, SLEEP is left for READY. -/
def Enters (s t : State) (m : Nat) : Prop :=
  (m = 7 → t.fc.haltDue = some (s.fc.haltDue.getD .modeSet) ∧ t.mode = s.mode ∧ t.fld F.GLOBAL_MODE_busy 0 0 = 1 ∧
    t.fld F.GLOBAL_MODE_target 0 0 = 7) ∧
  (m = 1 ∨ (m = 2 ∧ s.mode = 6) → t.mode = 1 ∧ t.fld F.GLOBAL_FOCUS_step 0 0 = 4 ∧
    t.fld F.GLOBAL_FOCUS_retention 0 0 = (if s.mode = 0 ∧ s.fld F.GLOBAL_RESET_CAUSE_type 0 0 ≠ 1 then 0 else 1) ∧
    t.fld F.GLOBAL_MODE_busy 0 0 = 1 ∧ t.fld F.GLOBAL_MODE_target 0 0 = 2) ∧
  (m = 3 → t.mode = 3 ∧ t.fld F.TK_STATUS_phase 0 0 = 0 ∧ t.fld F.TK_START_time 0 0 = s.firstStart % 2 ^ 64 ∧
    t.tk.cur = none ∧ t.fld F.GLOBAL_MODE_busy 0 0 = 0 ∧ t.fld F.GLOBAL_MODE_result 0 0 = 0) ∧
  (m = 4 → t.mode = 4 ∧ t.fld F.GLOBAL_MODE_busy 0 0 = 1 ∧ t.fld F.GLOBAL_MODE_target 0 0 = 2 ∧
    ∃ c, t.change = some c ∧ c.drainT = s.drainTick ∧ c.since = s.tb ∧ c.closed = false) ∧
  (m = 5 → t.mode = 5 ∧ t.fld F.GLOBAL_MODE_busy 0 0 = 0 ∧ t.fld F.GLOBAL_MODE_result 0 0 = 0) ∧
  (m = 6 → t.mode = 6 ∧ t.fld F.GLOBAL_MAINT_TOUCHED_channel 0 0 = 0 ∧ t.fld F.ST_CTRL_enable 0 0 = 0 ∧
    t.fld F.GLOBAL_MODE_busy 0 0 = 0 ∧ t.fld F.GLOBAL_MODE_result 0 0 = 0) ∧
  (m = 2 ∧ s.mode = 5 → t.mode = 2 ∧ t.fld F.GLOBAL_MODE_busy 0 0 = 0 ∧ t.fld F.GLOBAL_MODE_result 0 0 = 0)

/-- The fields that are loaded from FUSE (R9). -/
def fuseFields : List Fld :=
  [F.GLOBAL_ID_part, F.GLOBAL_CAP_loupe, F.GLOBAL_CAP_dus, F.GLOBAL_CAP_lanes, F.GLOBAL_CAP_channels, F.GLOBAL_BOOT_min_version,
   F.GLOBAL_BOOT_boot_sel, F.CE_ID_logical, F.CE_ID_physical, F.LN_TXFIR_post, F.LN_TXFIR_main, F.LN_TXFIR_pre1, F.LN_TXFIR_pre2,
   F.LN_LATENCY_tx, F.LN_LATENCY_rx, F.PT_GRP_MAC_mac, F.MG_CTRL_fec, F.MG_MAC_mac, F.MG_KEY_committed, F.MG_KEY_in_use,
   F.CH_ID_physical, F.CAL_TRIM_window, F.CAL_TRIM_stored, F.CAL_TRIM_value, F.FUSE_READ_record, F.FUSE_FREE_slots]

/-- What FUSE loads into registers lies in fields that are loaded from it. -/
def FuseForm (s : State) : Prop := ∀ e ∈ s.nv.fuse, ∃ f ∈ fuseFields, ∃ i, i < 34 ∧ e.1 = fldKey f i 0

/-- `t` is the stack of `s` right after a cold reset whose source is `n`, still held in reset: what FUSE holds is kept and loaded,
every other domain is as at power-on, but that a clock that is away is so still. -/
def ColdHeld (s t : State) (n : Nat) : Prop :=
  t.inReset = true ∧ t.part = s.part ∧ t.nv.keys = s.nv.keys ∧ (s.nv.prog = none → t.nv.repair = s.nv.repair) ∧
  t.fld F.GLOBAL_RESET_CAUSE_source 0 0 = n ∧
  (∀ f i j, fldKey f i j ≠ fldKey F.GLOBAL_RESET_CAUSE_source 0 0 →
    t.fld f i j = smapGet (rstVal f i j) s.nv.fuse (fldKey f i j)) ∧
  t.strands = [] ∧ t.engs = [] ∧ t.dram = [] ∧ t.imem = [] ∧ t.scratch = [] ∧ t.svram = [] ∧ t.ses = [] ∧ t.ops = [] ∧
  t.reqs = [] ∧ t.faults = [] ∧ t.tb = 0 ∧ t.clkLost = s.clkLost

/-- A commit has applied the shadow of a field: it holds what was pending, or what it held where nothing was (R8). -/
def Applied (s t : State) (f : Fld) (i j : Nat) : Prop :=
  (∀ v, smapFind s.shadow (fldKey f i j) = some v → t.fld f i j = v % 2 ^ f.w) ∧
  (smapFind s.shadow (fldKey f i j) = none → t.fld f i j = s.fld f i j)

/-- The strand stops TRAPPED at its own instruction (R45, R47): the supervisor trap CSRs hold the code of the cause with its
subcode, the instruction's index as trap PC and faulting PC, and the address; a channel engine's pending bit is set; no
register but these has changed and no operation has started. -/
def TrapsAt (s t : State) (i : Iss) (cause sub : Nat) (addr : Word64) : Prop :=
  (t.me i).st = .trapped ∧
  (t.me i).ts = { cause := BitVec.ofNat 64 (cause + sub * 4096), epc := (s.me i).pc.setWidth 64,
                  fpc := (s.me i).pc.setWidth 64, addr := addr, info := 0 } ∧
  (t.me i).pc = (s.me i).pc ∧ (t.me i).g = (s.me i).g ∧ (t.me i).v = (s.me i).v ∧ (t.me i).p = (s.me i).p ∧
  (t.me i).tt = (s.me i).tt ∧ t.ops = s.ops ∧ t.scratch = s.scratch ∧
  (i.e.val < 34 → bitOf (t.fld F.CE_TRAP_PEND_pend i.e.val 0) i.t.val = true)

/-- An instruction of a READY strand that can issue, with a good fetch (R28, R29, R33). -/
def Fetched (s : State) (i : Iss) (d : Info) : Prop :=
  (s.me i).st = .ready ∧ s.canIssue i.e.val i.t.val d = true ∧ i.ecc ≠ .double

/-- From `t` to `u` the strand has STALLED at its instruction on results that come at token time `n` or later (R28, R30). -/
def StallsTill (t u : State) (i : Iss) (n : Nat) : Prop :=
  (∃ m, u.me i = { t.me i with st := .stalled, stallMem := m }) ∧ u.ops = t.ops ∧ u.dram = t.dram ∧
  ∃ k, smapFind (u.eng i.e.val).tills i.t.val = some k ∧ n ≤ k

/-- The fields of CE_CTRL of engine `e`. -/
def ceCtrlKeys (e : Nat) : List Nat :=
  [fldKey F.CE_CTRL_run e 0, fldKey F.CE_CTRL_imem_lock e 0, fldKey F.CE_CTRL_dl_strict e 0, fldKey F.CE_CTRL_break_en e 0,
   fldKey F.CE_CTRL_lsq_per_strand e 0]

/-- Memory, scratch, the SV's SRAM and the instruction SRAMs hold their canonical form. -/
def MemoryForm (s : State) : Prop :=
  smapWf 0 s.dram = true ∧ smapWf 0 s.scratch = true ∧ smapWf 0 s.svram = true ∧ smapWf 0 s.imem = true

/-- The directory's entries hold their canonical form. -/
def DirectoryForm (s : State) : Prop := smapWf entry0 s.ed.ent = true

/-- Outstanding operations are numbered apart, below the next number. -/
def OperationNumbers (s : State) : Prop := Fresh s ∧ (s.ops.map Op.id).Nodup

/-- Register fields with a reset value of their own, by how many instances stand in the first index (R9 and the register tables
of spec/02 to spec/15). -/
def resetFields : List ((Nat × Fld) × Nat) :=
  [ ((1, F.GLOBAL_ID_vendor), 0x1C0A), ((1, F.GLOBAL_DRAIN_max_ms), 1000), ((34, F.CE_CTRL_run), 0),
    ((34, F.CE_CTRL_lsq_per_strand), 64), ((34, F.CE_CTRL_break_en), 1), ((34, F.CE_SCRATCH_SPLIT_title_kib), 128),
    ((34, F.CE_BREAK_TIME_age_us), 1000), ((34, F.CE_MIG_WAIT_ticks), 4), ((1, F.SV_WDOG_timeout_us), 100000),
    ((1, F.TK_PERIOD_ns), 7812500), ((1, F.TK_INGEST_CLOSE_ns), 500000), ((1, F.TK_COMMIT_DL_ns), 6000000),
    ((1, F.TK_COMMITTED_tick), 2 ^ 64 - 1), ((1, F.ED_FREE_free), 2097152), ((1, F.SNAP_RATE_mbps), 100000),
    ((1, F.ST_AGE_period_ms), 500), ((1, F.DU_PAYLOAD_MAX_bytes), 1200), ((1, F.DU_WINDOW_us), 2000),
    ((1, F.PT_GRP_MTU_bytes), 1500), ((1, F.TB_INCR_incr), 0xCCCCCCCD), ((1, F.MG_UDP_PORT_port), 47104),
    ((34, F.CH_SCHED_wq_high), 48), ((34, F.CH_SCHED_wq_low), 16), ((34, F.CH_REF_policy), 1), ((34, F.CH_SR_idle_us), 20),
    ((34, F.CH_RP_CTRL_threshold), 1024), ((34, F.CH_FIX_CTRL_pass_h), 24), ((1, F.BI_CFG_kind), 1),
    ((1, F.CAL_ROT_interval_h), 4), ((1, F.CAL_ROT_drift_c), 15), ((1, F.PWR_CAP_cap_w), 70), ((1, F.PWR_GOV_target_us), 500),
    ((1, F.FC_CFG_shadow_us), 10), ((1, F.PM_SHEET_period_ms), 1000) ]

/-- The scratch forms (R74), each with the bytes it moves and what it reads and writes. -/
def scratchTable : List ((Iss → FmtL → Instr) × (FmtL → Nat) × (FmtL → Info)) :=
  [ (.sld, bytesL, fun f => infoSld f (gN f.rt)), (.sldu, bytesL, fun f => infoSld f (gN f.rt)),
    (.sst, bytesL, fun f => infoMem f (gN f.rt) []), (.svld, fun _ => 16, fun f => infoSld f (vN f.rt)),
    (.svst, fun _ => 16, fun f => infoMem f (vN f.rt) []) ]

/-- Nothing waits for room in a lane's buffer: no datagram of an export, no CLOSE, no datagram of a join pass. -/
def State.NothingWaits (s : State) : Prop :=
  s.snap.todo = [] ∧ s.st.closeWait = [] ∧ ∀ e ∈ s.ses, ∀ j, e.2.join = some j → j.todo = []

/-- LN_STATUS.train of a lane that starts: its pattern in mode 1, else negotiation or training. -/
def startState (s : State) (l : Nat) : Nat :=
  if s.fld F.LN_PAT_CTRL_mode l 0 ≠ 0 then 6 else if s.fld F.LN_CTRL_an_en l 0 = 0 then 2 else 1

/-- The 8-bit instruction register holds `op`, which selects `ir`, and had captured 0x01 (R419). -/
def Loaded (t : State) (op : BitVec 8) (ir : TapIr) : Prop :=
  t.tap.ir = ir ∧ tapOp op = ir ∧ t.tap.irReg = op ∧ t.tap.irSeen = 0x01 ∧ (ir.short = true → t.tap.bypass = false)

/-- The outputs show what the boundary register of `s` holds. -/
def ShowsOutputs (s t : State) : Prop :=
  t.tap.outputs = s.tap.outputs ∧
  t.ppsBall = (if s.tap.outputs.getLsbD 1 then some (s.tap.outputs.getLsbD 0) else none) ∧
  t.faultBall = (s.tap.outputs.getLsbD 3 && !s.tap.outputs.getLsbD 2)

/-- The codes of the trap causes (R428). -/
def causeTable : List (Cause × Nat) :=
  [ (.illegal, 1), (.privilege, 2), (.range, 3), (.align, 4), (.order, 5), (.deadline, 6), (.check, 7), (.syscall, 8),
    (.poison, 9), (.uncorrectable, 10), (.absent, 11), (.stale, 12), (.torn, 13), (.budget, 14), (.brk, 15) ]

end Sys2Proof.Machine

open Sys2Proof Sys2Proof.Machine

/-! ## Sillar: registers -/

/-- ADD to REMU and SEL (R67): where the predicate holds rd takes the result of rs1 and rs2 modulo 2^64, division by
zero and the most negative dividend included; g0 stays 0; SEL always executes, its predicate the selector. Nothing
else of the machine changes. ADDI to SHOR (R68): rd takes the result of rs1 and the immediate. SHI's count is
imm[5:0] and its kind imm[7:6]. -/
def Obligations.IntegerResult : Prop :=
  ((∀ p ∈ intTable, ∀ (i : Iss) (f : FmtA) (s : State), Issues s i (infoA f) →
     GoesTo (p.1 i f) s i (guarded (s.me i) f.pred f.neg fun x =>
       x.wg f.rd.toNat (p.2 (x.rg f.rs1.toNat) (x.rg f.rs2.toNat)))) ∧
   (∀ p ∈ mulTable, ∀ (i : Iss) (f : FmtA) (s : State), Issues s i (infoN s i f 3 []) →
     GoesTo (p.1 i f) s i (guarded (s.me i) f.pred f.neg fun x =>
       x.wg f.rd.toNat (p.2 (x.rg f.rs1.toNat) (x.rg f.rs2.toNat)))) ∧
   (∀ p ∈ divTable, ∀ (i : Iss) (f : FmtA) (s : State), Issues s i (infoN s i f 18 [regDiv]) →
     GoesTo (p.1 i f) s i (guarded (s.me i) f.pred f.neg fun x =>
       x.wg f.rd.toNat (p.2 (x.rg f.rs1.toNat) (x.rg f.rs2.toNat)))) ∧
   (∀ p ∈ intTable1, ∀ (i : Iss) (f : FmtA) (s : State), f.rs2 = 0 → Issues s i (infoA f) →
     GoesTo (p.1 i f) s i (guarded (s.me i) f.pred f.neg fun x => x.wg f.rd.toNat (p.2 (x.rg f.rs1.toNat)))) ∧
   (∀ (i : Iss) (f : FmtA) (s : State), Issues s i (infoA f) →
     GoesTo (.sel i f) s i ((s.me i).wg f.rd.toNat
       (if (s.me i).rp f.pred.toNat != f.neg then (s.me i).rg f.rs1.toNat else (s.me i).rg f.rs2.toNat)).next)) ∧
  ((∀ p ∈ immTable, ∀ (i : Iss) (f : FmtI) (s : State), Issues s i (infoI f) →
     GoesTo (p.1 i f) s i (guarded (s.me i) f.pred false fun x => x.wg f.rd.toNat (p.2 (x.rg f.rs1.toNat) f.imm))) ∧
   (∀ (i : Iss) (f : FmtI) (s : State), f.imm.toNat < 192 → Issues s i (infoI f) →
     GoesTo (.shi i f) s i (guarded (s.me i) f.pred false fun x =>
       let a := x.rg f.rs1.toNat
       let n := f.imm.toNat % 64
       x.wg f.rd.toNat (if f.imm.toNat < 64 then a <<< n else if f.imm.toNat < 128 then a >>> n else a.sshiftRight n))))

/-- The compares and the predicate logic (R69): where the predicate holds pd (p1 to p7) takes the condition, and every
other register is as before; a source field out of its range traps ILLEGAL, subcode 0; the function codes are those
of the tables. -/
def Obligations.PredicateResult : Prop :=
  (∀ p ∈ cmpTable, ∀ (i : Iss) (f : FmtA) (s : State), 0 < f.rd.toNat → f.rd.toNat < 8 →
    Issues s i { reads := gN f.rs1 ++ gN f.rs2 ++ pN f.pred.toNat, writes := pN f.rd.toNat } →
    GoesTo (p.1 i f) s i (guarded (s.me i) f.pred f.neg fun x =>
      x.wp f.rd.toNat (p.2 (x.rg f.rs1.toNat) (x.rg f.rs2.toNat)))) ∧
  (∀ p ∈ plogTable, ∀ (i : Iss) (f : FmtA) (s : State), 0 < f.rd.toNat → f.rd.toNat < 8 → f.rs1.toNat < 8 →
    f.rs2.toNat < 8 →
    Issues s i { reads := pN f.rs1.toNat ++ pN f.rs2.toNat ++ pN f.pred.toNat, writes := pN f.rd.toNat } →
    GoesTo (p.1 i f) s i (guarded (s.me i) f.pred f.neg fun x =>
      x.wp f.rd.toNat (p.2 (x.rp f.rs1.toNat) (x.rp f.rs2.toNat)))) ∧
  (∀ (i : Iss) (f : FmtA) (s : State), 0 < f.rd.toNat → f.rd.toNat < 8 → f.rs1 = 0 → f.rs2 = 0 →
    Issues s i { reads := pN f.pred.toNat, writes := pN f.rd.toNat } →
    GoesTo (.pset i f) s i (guarded (s.me i) f.pred f.neg fun x => x.wp f.rd.toNat true) ∧
    GoesTo (.pclr i f) s i (guarded (s.me i) f.pred f.neg fun x => x.wp f.rd.toNat false)) ∧
  (∀ (i : Iss) (f : FmtA) (s : State), 0 < f.rd.toNat → f.rd.toNat < 8 → f.rs2 = 0 →
    Issues s i { reads := gN f.rs1 ++ pN f.pred.toNat, writes := pN f.rd.toNat } →
    GoesTo (.pnz i f) s i (guarded (s.me i) f.pred f.neg fun x => x.wp f.rd.toNat (x.rg f.rs1.toNat != 0))) ∧
  (∀ p ∈ plogTable, ∀ (i : Iss) (f : FmtA) (s : State), 8 ≤ f.rs1.toNat ∨ 8 ≤ f.rs2.toNat →
    Fetched s i { reads := pN f.rs1.toNat ++ pN f.rs2.toNat ++ pN f.pred.toNat, writes := pN f.rd.toNat } →
    Runs (p.1 i f) s fun t => TrapsAt s t i 1 0 0) ∧
  (∀ (i : Iss) (f : FmtA) (s : State), f.rs1 ≠ 0 ∨ f.rs2 ≠ 0 →
    Fetched s i { reads := pN f.pred.toNat, writes := pN f.rd.toNat } →
    Runs (.pset i f) s (fun t => TrapsAt s t i 1 0 0) ∧ Runs (.pclr i f) s (fun t => TrapsAt s t i 1 0 0)) ∧
  (∀ (i : Iss) (f : FmtA) (s : State), f.rs2 ≠ 0 →
    Fetched s i { reads := gN f.rs1 ++ pN f.pred.toNat, writes := pN f.rd.toNat } →
    Runs (.pnz i f) s fun t => TrapsAt s t i 1 0 0) ∧
  (∀ (i : Iss) (f : FmtA),
    (∀ p ∈ cmpTable.zipIdx, encodeSillar (p.1.1 i f) = some (f.word 0x02 (BitVec.ofNat 6 p.2))) ∧
    (∀ p ∈ plogTable.zipIdx, encodeSillar (p.1.1 i f) = some (f.word 0x03 (BitVec.ofNat 6 p.2))) ∧
    encodeSillar (.pset i f) = some (f.word 0x03 4) ∧ encodeSillar (.pclr i f) = some (f.word 0x03 5) ∧
    encodeSillar (.pnz i f) = some (f.word 0x03 6))

/-- The FP32 instructions (R70) with `fpstat.round` 0 to 3: where the predicate holds rd takes the result with bits
[63:32] 0 (FCVT.W.S: sign-extended), the compares write pd, and the flags gather in `fpstat`. The vector
instructions (R71): lane by lane, the flags of the lanes ORed; VDOT, VSPLAT, VEXT, VINS and VMOV as the table says. -/
def Obligations.FloatResult : Prop :=
  ((∀ p ∈ fpTable, ∀ (i : Iss) (f : FmtA) (s : State), (p.2.1.1 = true → f.rs2 = 0) → (s.me i).round < 4 →
     Issues s i (infoFp s i f p.2.1.2) →
     GoesTo (p.1 i f) s i (guarded (s.me i) f.pred f.neg fun x =>
       let r := p.2.2 x.round (x.rf f.rd) (x.rf f.rs1) (x.rf f.rs2)
       (x.wg f.rd.toNat (r.1.setWidth 64)).sticky r.2)) ∧
   (∀ (i : Iss) (f : FmtA) (s : State), f.rs2 = 0 → (s.me i).round < 4 →
     Issues s i { reads := gN f.rs1 ++ pN f.pred.toNat, writes := gN f.rd, fp := true, lat := s.latIf i f.pred f.neg 4 } →
     GoesTo (.fcvtWS i f) s i (guarded (s.me i) f.pred f.neg fun x =>
       let r := fpToInt x.round (x.rf f.rs1)
       (x.wg f.rd.toNat (r.1.signExtend 64)).sticky r.2)) ∧
   (∀ p ∈ fpCmpTable, ∀ (i : Iss) (f : FmtA) (s : State), 0 < f.rd.toNat → f.rd.toNat < 8 → (s.me i).round < 4 →
     Issues s i { reads := gN f.rs1 ++ gN f.rs2 ++ pN f.pred.toNat, writes := pN f.rd.toNat, fp := true,
                  lat := s.latIf i f.pred f.neg 4 } →
     GoesTo (p.1 i f) s i (guarded (s.me i) f.pred f.neg fun x =>
       let r := p.2 (x.rf f.rs1) (x.rf f.rs2)
       (x.wp f.rd.toNat r.1).sticky r.2))) ∧
  ((∀ p ∈ vecTable, ∀ (i : Iss) (f : FmtA) (s : State), f.rd.toNat < 16 → f.rs1.toNat < 16 → f.rs2.toNat < 16 →
     (s.me i).round < 4 → Issues s i (infoV s i f) →
     GoesTo (p.1 i f) s i (guarded (s.me i) f.pred f.neg fun x =>
       let r := fun k => p.2 x.round (vlane x f.rd k) (vlane x f.rs1 k) (vlane x f.rs2 k)
       (x.wv f.rd.toNat (vec4 (r 0).1 (r 1).1 (r 2).1 (r 3).1)).sticky ((r 0).2 ||| (r 1).2 ||| (r 2).2 ||| (r 3).2))) ∧
   (∀ (i : Iss) (f : FmtA) (s : State), f.rs1.toNat < 16 → f.rs2.toNat < 16 → (s.me i).round < 4 →
     Issues s i { reads := vN f.rs1 ++ vN f.rs2 ++ pN f.pred.toNat, writes := gN f.rd, fp := true,
                  lat := s.latIf i f.pred f.neg 8 } →
     GoesTo (.vdot i f) s i (guarded (s.me i) f.pred f.neg fun x =>
       let p := fun k => fpMul x.round (vlane x f.rs1 k) (vlane x f.rs2 k)
       let u := fpAdd x.round (p 0).1 (p 1).1
       let v := fpAdd x.round (p 2).1 (p 3).1
       let r := fpAdd x.round u.1 v.1
       (x.wg f.rd.toNat (r.1.setWidth 64)).sticky
         ((p 0).2 ||| (p 1).2 ||| (p 2).2 ||| (p 3).2 ||| u.2 ||| v.2 ||| r.2))) ∧
   (∀ (i : Iss) (f : FmtA) (s : State), f.rd.toNat < 16 → f.rs2 = 0 → (s.me i).round < 4 →
     Issues s i { reads := gN f.rs1 ++ pN f.pred.toNat, writes := vN f.rd, fp := true } →
     GoesTo (.vsplat i f) s i (guarded (s.me i) f.pred f.neg fun x =>
       x.wv f.rd.toNat (vec4 (x.rf f.rs1) (x.rf f.rs1) (x.rf f.rs1) (x.rf f.rs1)))) ∧
   (∀ (i : Iss) (f : FmtA) (s : State), f.rs1.toNat < 16 → f.rs2.toNat < 4 → (s.me i).round < 4 →
     Issues s i { reads := vN f.rs1 ++ pN f.pred.toNat, writes := gN f.rd, fp := true } →
     GoesTo (.vext i f) s i (guarded (s.me i) f.pred f.neg fun x =>
       x.wg f.rd.toNat ((vlane x f.rs1 f.rs2.toNat).setWidth 64))) ∧
   (∀ (i : Iss) (f : FmtA) (s : State), f.rd.toNat < 16 → f.rs2.toNat < 4 → (s.me i).round < 4 →
     Issues s i { reads := gN f.rs1 ++ vN f.rd ++ pN f.pred.toNat, writes := vN f.rd, fp := true } →
     GoesTo (.vins i f) s i (guarded (s.me i) f.pred f.neg fun x =>
       let r := fun k => if f.rs2.toNat = k then x.rf f.rs1 else vlane x f.rd k
       x.wv f.rd.toNat (vec4 (r 0) (r 1) (r 2) (r 3)))) ∧
   (∀ (i : Iss) (f : FmtA) (s : State), f.rd.toNat < 16 → f.rs1.toNat < 16 → f.rs2 = 0 → (s.me i).round < 4 →
     Issues s i { reads := vN f.rs1 ++ pN f.pred.toNat, writes := vN f.rd, fp := true } →
     GoesTo (.vmov i f) s i (guarded (s.me i) f.pred f.neg fun x => x.wv f.rd.toNat (x.rv f.rs1.toNat))))

/-- Results that come tokens later (R30): where its predicate holds, the result of a multiply comes 3 tokens, of a divide 18 and of
FP32 arithmetic 4 or 12 after its token: an ADD that reads it stalls until then, its strand unchanged but for the state. A second
divide of the strand stalls while the first has not written its result. A strand STALLED on a result issues at the token that
brings it as if READY. -/
def Obligations.LateResults : Prop :=
  (∀ p ∈ mulTable.map (fun p => (p.1, 3, [])) ++ divTable.map (fun p => (p.1, 18, [regDiv])),
    ∀ (i j : Iss) (f g : FmtA) (s : State) (d : Info), d = infoN s i f p.2.1 p.2.2 → Issues s i d →
      ((s.me i).rp f.pred.toNat != f.neg) = true → f.rd ≠ 0 → (s.me i).busy = [] → (s.me i).pc + 1 ≠ 0xFFFF →
      j.e = i.e → j.t = i.t → j.ecc ≠ .double → g.rs1 = f.rd →
      Runs (p.1 i f) s fun t => t.canIssue j.e.val j.t.val (infoA g) = true → Runs (.add j g) t fun u =>
        StallsTill t u j (s.tokenTime i.e.val i.t.val d + p.2.1)) ∧
  (∀ p ∈ fpTable, ∀ (i j : Iss) (f g : FmtA) (s : State) (d : Info), d = infoFp s i f p.2.1.2 → Issues s i d →
      (p.2.1.1 = true → f.rs2 = 0) → (s.me i).round < 4 → 0 < p.2.1.2 →
      ((s.me i).rp f.pred.toNat != f.neg) = true → f.rd ≠ 0 → (s.me i).busy = [] → (s.me i).pc + 1 ≠ 0xFFFF →
      j.e = i.e → j.t = i.t → j.ecc ≠ .double → g.rs1 = f.rd →
      Runs (p.1 i f) s fun t => t.canIssue j.e.val j.t.val (infoA g) = true → Runs (.add j g) t fun u =>
        StallsTill t u j (s.tokenTime i.e.val i.t.val d + p.2.1.2)) ∧
  (∀ p ∈ divTable, ∀ q ∈ divTable, ∀ (i j : Iss) (f g : FmtA) (s : State) (d : Info), d = infoN s i f 18 [regDiv] →
      Issues s i d → ((s.me i).rp f.pred.toNat != f.neg) = true → (s.me i).busy = [] → (s.me i).pc + 1 ≠ 0xFFFF →
      j.e = i.e → j.t = i.t → j.ecc ≠ .double →
      Runs (p.1 i f) s fun t => t.canIssue j.e.val j.t.val (infoN t j g 18 [regDiv]) = true → Runs (q.1 j g) t fun u =>
        StallsTill t u j (s.tokenTime i.e.val i.t.val d + 18)) ∧
  (∀ (i : Iss) (f : FmtA) (s : State), s.resultCome i.e.val i.t.val = true →
      s.canIssue i.e.val i.t.val (infoA f) = true → (s.wakeCome i.e.val i.t.val).canIssue i.e.val i.t.val (infoA f) = true →
      ((s.wakeCome i.e.val i.t.val).me i).st = .ready ∧
      exec (.add i f) s = exec (.add i f) (s.wakeCome i.e.val i.t.val))

/-! ## Sillar: memory -/

/-- LD, LDU, VLD and the atomics (R36, R37, R73, R77): the operation is recorded, its destination awaits it, and a read
or an atomic stands in front of the channel that the address is routed to. ST and VST (R73, R242): the operation is
recorded and a write of the register's bytes, lowest byte first, stands in front of every channel that must hold the
address. -/
def Obligations.MemoryAccessesStart : Prop :=
  ((∀ (i : Iss) (f : FmtL) (s : State) (l off : Nat) (r : Route) (a : Word64), a = eaL f (s.me i) (bytesL f) →
     (Reaches s i (infoMem f [] (gN f.rt)) a (bytesL f) (bytesL f) .read f.dl .ld l off r →
       ∃ t, exec (.ld i f) s = .next t ∧ Starts s t i .ld f.rt.toNat a.toNat (bytesL f) ∧
         SendsRead s t i .read r off a.toNat (bytesL f)) ∧
     (Reaches s i (infoMem f [] (gN f.rt)) a (bytesL f) (bytesL f) .read f.dl .ldu l off r →
       ∃ t, exec (.ldu i f) s = .next t ∧ Starts s t i .ldu f.rt.toNat a.toNat (bytesL f) ∧
         SendsRead s t i .read r off a.toNat (bytesL f))) ∧
   (∀ (i : Iss) (f : FmtL) (s : State) (l off : Nat) (r : Route) (a : Word64), a = eaL f (s.me i) 16 → f.size = 0 →
     f.rt.toNat < 16 → Reaches s i (infoMem f [] (vN f.rt)) a 16 16 .read f.dl .vld l off r →
       ∃ t, exec (.vld i f) s = .next t ∧ Starts s t i .vld (32 + f.rt.toNat) a.toNat 16 ∧
         SendsRead s t i .read r off a.toNat 16) ∧
   (∀ p ∈ amoTable, ∀ (i : Iss) (d : Bool) (f : FmtE) (s : State) (l off n : Nat) (r : Route),
     n = (if d then 8 else 4) →
     Reaches s i { reads := gN f.rs1 ++ gN f.rs2 ++ gN f.rd, writes := gN f.rd, mem := true } ((s.me i).rg f.rs1.toNat) n n
       .atomic f.dl (.amo p.2 d) l off r →
       ∃ t, exec (p.1 i d f) s = .next t ∧ Starts s t i (.amo p.2 d) f.rd.toNat ((s.me i).rg f.rs1.toNat).toNat n ∧
         SendsRead s t i .atomic r off ((s.me i).rg f.rs1.toNat).toNat n)) ∧
  ((∀ (i : Iss) (f : FmtL) (s : State) (l off : Nat) (r : Route) (a : Word64), a = eaL f (s.me i) (bytesL f) →
     Reaches s i (infoMem f (gN f.rt) []) a (bytesL f) (bytesL f) .write f.dl .st l off r →
       ∃ t, exec (.st i f) s = .next t ∧ Starts s t i .st 255 a.toNat (bytesL f) ∧
         SendsWrite s t i r off a.toNat (bytesAt (a.toNat % 64) (leBytes (bytesL f) ((s.me i).rg f.rt.toNat).toNat))) ∧
   (∀ (i : Iss) (f : FmtL) (s : State) (l off : Nat) (r : Route) (a : Word64), a = eaL f (s.me i) 16 → f.size = 0 →
     f.rt.toNat < 16 → Reaches s i (infoMem f (vN f.rt) []) a 16 16 .write f.dl .vst l off r →
       ∃ t, exec (.vst i f) s = .next t ∧ Starts s t i .vst 255 a.toNat 16 ∧
         SendsWrite s t i r off a.toNat (bytesAt (a.toNat % 64) (leBytes 16 ((s.me i).rv f.rt.toNat).toNat))))

/-- The scratch loads (R34, R35, R74): the register takes the bytes at the address, lowest first; SLD sign-extends.
Nothing else changes. The scratch stores (R35, R74): the bytes at the address are those of the register, lowest
first; every other byte of scratch and of memory, and every register, is as before. What stops a scratch access
(R34, R74): a deadline field that is not 0 traps ILLEGAL; a misaligned address ALIGN, before RANGE; an address at or
above 131,072, or for a title strand at or above the title share, RANGE. -/
def Obligations.ScratchResult : Prop :=
  ((∀ (i : Iss) (f : FmtL) (s : State) (a : Word64), a = eaL f (s.me i) (bytesL f) → f.dl = 0 →
     ScratchOk s i a (bytesL f) → Issues s i (infoSld f (gN f.rt)) →
     GoesTo (.sld i f) s i ((s.me i).wg f.rt.toNat
       (BitVec.ofNat 64 (signExt (8 * bytesL f) 64 (leNat (s.rdScratch i.e.val a.toNat (bytesL f)))))).next ∧
     GoesTo (.sldu i f) s i ((s.me i).wg f.rt.toNat
       (BitVec.ofNat 64 (leNat (s.rdScratch i.e.val a.toNat (bytesL f))))).next) ∧
   (∀ (i : Iss) (f : FmtL) (s : State) (a : Word64), a = eaL f (s.me i) 16 → f.dl = 0 → f.size = 0 → f.rt.toNat < 16 →
     ScratchOk s i a 16 → Issues s i (infoSld f (vN f.rt)) →
     GoesTo (.svld i f) s i ((s.me i).wv f.rt.toNat
       (BitVec.ofNat 128 (leNat (s.rdScratch i.e.val a.toNat 16)))).next)) ∧
  ((∀ (i : Iss) (f : FmtL) (s : State) (a : Word64), a = eaL f (s.me i) (bytesL f) → f.dl = 0 →
     ScratchOk s i a (bytesL f) → Issues s i (infoMem f (gN f.rt) []) →
     ∃ t, exec (.sst i f) s = .next t ∧ t.me i = (s.me i).next ∧ OnlyScratch s t i a.toNat (bytesL f) ∧
       t.rdScratch i.e.val a.toNat (bytesL f) = leBytes (bytesL f) ((s.me i).rg f.rt.toNat).toNat) ∧
   (∀ (i : Iss) (f : FmtL) (s : State) (a : Word64), a = eaL f (s.me i) 16 → f.dl = 0 → f.size = 0 → f.rt.toNat < 16 →
     ScratchOk s i a 16 → Issues s i (infoMem f (vN f.rt) []) →
     ∃ t, exec (.svst i f) s = .next t ∧ t.me i = (s.me i).next ∧ OnlyScratch s t i a.toNat 16 ∧
       t.rdScratch i.e.val a.toNat 16 = leBytes 16 ((s.me i).rv f.rt.toNat).toNat)) ∧
  (∀ p ∈ scratchTable, ∀ (i : Iss) (f : FmtL) (s : State) (n : Nat) (d : Info) (a : Word64), n = p.2.1 f → d = p.2.2 f →
     a = eaL f (s.me i) n →
     (f.dl ≠ 0 → Fetched s i d → Runs (p.1 i f) s fun t => TrapsAt s t i 1 0 0) ∧
     (f.dl = 0 → (n = 16 → f.size = 0 ∧ f.rt.toNat < 16) → Issues s i d →
       (a.toNat % n ≠ 0 → Runs (p.1 i f) s fun t => TrapsAt s t i 4 0 a) ∧
       (a.toNat % n = 0 → 131072 ≤ a.toNat ∨ (s.unprivileged i = true ∧ s.titleShare i.e.val ≤ a.toNat) →
         Runs (p.1 i f) s fun t => TrapsAt s t i 3 0 a)))

/-- FILL and scratch DMA (R75, R76): with a good length and address the transfer is recorded and the strand goes on; a
DMA transfer takes one buffer of its engine up to 16,384 bytes and two above. -/
def Obligations.BulkStarts : Prop :=
  (∀ (i : Iss) (f : FmtE) (s : State) (a : Word64) (n : Nat), a = (s.me i).rg f.rs1.toNat →
    n = ((s.me i).rg f.rs2.toNat).toNat → Fresh s → BulkOk s i (infoE f) a n .fill f.dl → n ≤ 2 ^ 31 →
    a.toNat / 2 ^ 31 = (a.toNat + n - 1) / 2 ^ 31 → (issued s i (infoE f)).lsqRoom i.e.val i.t.val = true →
    (issued s i (infoE f)).fenced i.e.val i.t.val 3 = false →
    (∃ l off r, s.place a.toNat = .at l off ∧ s.route l off = some r) →
    ∃ t, exec (.fill i f) s = .next t ∧ Starts s t i .fill 255 a.toNat n) ∧
  (∀ p ∈ [((.sdmaIn : Iss → FmtE → Instr), OpKind.sdmaIn, RangeBit.read), (.sdmaOut, .sdmaOut, .fill)],
    ∀ (i : Iss) (f : FmtE) (s : State) (a sc : Word64) (n : Nat), a = (s.me i).rg f.rs1.toNat →
    n = ((s.me i).rg f.rs2.toNat).toNat → sc = (s.me i).rg f.rd.toNat → Fresh s → BulkOk s i (infoE f) a n p.2.2 f.dl →
    n ≤ 32768 → sc.toNat % 64 = 0 → sc.toNat + n ≤ s.scratchReach i → (s.me i).dma = 0 →
    (issued s i (infoE f)).fenced i.e.val i.t.val 4 = false → dmaBufs n ≤ (s.eng i.e.val).dmaFree →
    (∃ l off r, s.place a.toNat = .at l off ∧ s.route l off = some r) →
    (∀ h, s.creditFree h = true) → (∀ o ∈ s.ops, ∀ h, o.credit ≠ .asked h) →
    ∃ t, exec (p.1 i f) s = .next t ∧
      (∃ o ∈ t.ops, o.id = s.nextOp ∧ o.kind = p.2.1 ∧ o.addr = a.toNat ∧ o.a1 = sc.toNat ∧ o.len = n) ∧
      (t.me i).pc = (s.me i).pc + 1 ∧ (t.me i).dma = dmaBufs n ∧
      (t.eng i.e.val).dmaFree = (s.eng i.e.val).dmaFree - dmaBufs n ∧ t.dram = s.dram)

/-! ## Sillar: control, CSRs, traps -/

/-- BR, CALL and JR (R79): taken where the condition holds, to a target of 0 to 65,535; CALL writes g31. Not taken, the
strand goes on at the next instruction. Nothing else changes. -/
def Obligations.BranchResult : Prop :=
  ∀ (i : Iss) (f : FmtB) (s : State),
    let x := s.me i
    let takes := x.rp f.pred.toNat != f.neg
    let rel : Int := x.pc.toNat + f.imm.toInt
    (f.rs1 = 0 → (takes = true → 0 ≤ rel ∧ rel ≤ 65535) →
      (Issues s i { reads := pN f.pred.toNat, branch := true, last := uncond f } →
        GoesTo (.br i f) s i (if takes then { x with pc := BitVec.ofInt 16 rel } else x.next)) ∧
      (Issues s i { reads := pN f.pred.toNat, writes := [31], branch := true, last := uncond f } →
        GoesTo (.call i f) s i
          (if takes then { x.wg 31 (BitVec.ofNat 64 (x.pc.toNat + 1)) with pc := BitVec.ofInt 16 rel } else x.next))) ∧
    (f.imm = 0 → (takes = true → (x.rg f.rs1.toNat).toNat ≤ 65535) →
      Issues s i { reads := gN f.rs1 ++ pN f.pred.toNat, branch := true, last := uncond f } →
        GoesTo (.jr i f) s i (if takes then { x with pc := (x.rg f.rs1.toNat).setWidth 16 } else x.next))

/-- FENCE (R78): the strand goes on, and the fence is in force while an earlier operation of a kind it names is
outstanding; with none it holds nothing. Nothing else changes. While a fence that names their kind is in force, LD, LDU
and ST do not issue: the strand stalls at them. YIELD (R97): the strand goes on, and its engine selects it again only
where no other strand may run. No other strand changes. YIELD's premise: an instruction joins the token of the strand
selected last. -/
def Obligations.FenceAndYieldResult : Prop :=
  (∀ (i : Iss) (f : FmtX) (s : State), f.rs1 = 0 → f.rd = 0 → f.imm.toNat < 128 → Issues s i (infoX [] []) →
     ∃ t, exec (.fence i f) s = .next t ∧ OnlyStrand s t i ∧ (∃ g, t.me i = { (s.me i).next with fences := g }) ∧
       (∀ bit, bit < 7 → (t.fenced i.e.val i.t.val bit = true ↔
         s.fenced i.e.val i.t.val bit = true ∨
         ((f.imm.toNat = 0 ∨ bitOf f.imm.toNat bit = true) ∧
           ∃ o ∈ s.ops, o.e = i.e.val ∧ o.t = i.t.val ∧ (f.imm.toNat = 0 ∨ bitOf f.imm.toNat o.kind.fenceBit = true))))) ∧
  (∀ (i : Iss) (f : FmtX) (s : State), f.rs1 = 0 → f.rd = 0 → f.imm = 0 → Issues s i (infoX [] []) →
     (s.pairs i.e.val i.t.val (infoX [] []) = true → (s.eng i.e.val).rr = i.t.val) →
     ∃ t, exec (.yield i f) s = .next t ∧ t.me i = (s.me i).next ∧ OnlyStrand s t i ∧ (t.eng i.e.val).token = none ∧
       (t.eng i.e.val).rr = i.t.val ∧
       ∀ u, u < 16 → u ≠ i.t.val → t.mayRun i.e.val u = true → t.selected i.e.val i.t.val = false) ∧
  (∀ p ∈ [((.ld : Iss → FmtL → Instr), RangeBit.read, 0), (.ldu, .read, 0), (.st, .write, 1)],
    ∀ (i : Iss) (f : FmtL) (s : State) (d : Info),
      d = (if p.2.2 = 0 then infoMem f [] (gN f.rt) else infoMem f (gN f.rt) []) → Issues s i d →
      (issued s i d).worldChecks i (eaL f (s.me i) (bytesL f)) (bytesL f) (bytesL f) p.2.1 f.dl = none →
      s.fenced i.e.val i.t.val p.2.2 = true →
      Runs (p.1 i f) s fun t => t.me i = { s.me i with st := .stalled, stallMem := true } ∧ t.ops = s.ops ∧ t.reqs = s.reqs ∧ t.dram = s.dram)

/-- CSR.GET, CSR.PUT, CSR.MERGE and DLREL (R94, R99), for a CSR that the strand may reach: the value read, the value
written, the bits merged under g[rd], the timebase plus g[rs1]. Nothing else changes. REGRD, REGWR, XCSRR and XCSRW of a
supervisor strand (R98): rd takes the word the register answers on the strand's path, or the CSR of the strand named, 0
where its engine is absent or off; REGWR and XCSRW write: an XCSRW a strand that is TRAPPED or DISABLED; of any other it
traps ILLEGAL, subcode 1, and one to an absent or powered-off engine writes nothing. -/
def Obligations.CsrAndRegisterResult : Prop :=
  ((∀ (i : Iss) (f : FmtX) (s : State), f.rs1 = 0 → csrIll f.imm.toNat false = false →
     s.csrDenied i f.imm.toNat = false → Issues s i (infoX (csrP f.imm.toNat) (gN f.rd)) →
     GoesTo (.csrGet i f) s i
       ((s.me i).wg f.rd.toNat (csrValue s i (infoX (csrP f.imm.toNat) (gN f.rd)) f.imm.toNat)).next) ∧
   (∀ (i : Iss) (f : FmtX) (s : State), f.rd = 0 → csrIll f.imm.toNat true = false →
     s.csrDenied i f.imm.toNat = false → Issues s i (infoX (gN f.rs1) (csrP f.imm.toNat)) →
     GoesTo (.csrPut i f) s i ((s.me i).writeCsr f.imm.toNat ((s.me i).rg f.rs1.toNat)).next) ∧
   (∀ (i : Iss) (f : FmtX) (s : State), csrIll f.imm.toNat true = false →
     s.csrDenied i f.imm.toNat = false → Issues s i (infoX (gN f.rs1 ++ gN f.rd) (csrP f.imm.toNat)) →
     GoesTo (.csrMerge i f) s i ((s.me i).writeCsr f.imm.toNat
       ((csrValue s i (infoX (gN f.rs1 ++ gN f.rd) (csrP f.imm.toNat)) f.imm.toNat &&& ~~~ (s.me i).rg f.rd.toNat) |||
         ((s.me i).rg f.rs1.toNat &&& (s.me i).rg f.rd.toNat))).next) ∧
   (∀ (i : Iss) (f : FmtX) (s : State), f.imm = 0 → f.rd.toNat < 8 →
     Issues s i (infoX (gN f.rs1) [56 + f.rd.toNat]) →
     GoesTo (.dlrel i f) s i ((s.me i).wdl f.rd.toNat (BitVec.ofNat 64 s.tb + (s.me i).rg f.rs1.toNat)).next)) ∧
  ((∀ (i : Iss) (f : FmtX) (s : State) (d : Info), d = infoX (gN f.rs1) (gN f.rd) → f.imm = 0 →
     s.unprivileged i = false → ((s.me i).rg f.rs1.toNat).toNat % 4 = 0 →
     (issued s i d).fenced i.e.val i.t.val 6 = false → Issues s i d →
     let r := (issued s i d).regRead (pathOf i) ((s.me i).rg f.rs1.toNat).toNat
     exec (.regrd i f) s = .next (r.2.retire i fun y => y.wg f.rd.toNat (BitVec.ofNat 64 r.1))) ∧
   (∀ (i : Iss) (f : FmtX) (s : State) (d : Info), d = infoX (gN f.rs1 ++ gN f.rd) [] → f.imm = 0 →
     s.unprivileged i = false → ((s.me i).rg f.rs1.toNat).toNat % 4 = 0 →
     (issued s i d).fenced i.e.val i.t.val 6 = false → Issues s i d →
     exec (.regwr i f) s = .next (((issued s i d).regWrite (pathOf i) ((s.me i).rg f.rs1.toNat).toNat
       (((s.me i).rg f.rd.toNat).toNat % 2 ^ 32)).2.retire i id)) ∧
   (∀ (i : Iss) (f : FmtX) (s : State) (d : Info) (e u : Nat), d = infoX (gN f.rs1) (gN f.rd) →
     (csrKind f.imm.toNat).isSome = true → s.unprivileged i = false → (issued s i d).fenced i.e.val i.t.val 6 = false →
     e = ((s.me i).rg f.rs1.toNat).toNat % 64 → u = ((s.me i).rg f.rs1.toNat).toNat / 256 % 16 → Issues s i d →
     GoesTo (.xcsrr i f) s i ((s.me i).wg f.rd.toNat
       (if (issued s i d).remoteOn e then (issued s i d).readCsr e u f.imm.toNat false else 0)).next) ∧
   (∀ (i : Iss) (f : FmtX) (s : State) (d : Info) (e u : Nat), d = infoX (gN f.rs1 ++ gN f.rd) [] →
     (csrKind f.imm.toNat).map (·.2) = some true → s.unprivileged i = false →
     (issued s i d).fenced i.e.val i.t.val 6 = false → e = ((s.me i).rg f.rs1.toNat).toNat % 64 →
     u = ((s.me i).rg f.rs1.toNat).toNat / 256 % 16 → (issued s i d).remoteOn e = true →
     ((s.strand e u).st = .trapped ∨ (s.strand e u).st = .disabled) → Issues s i d →
     ∃ t, exec (.xcsrw i f) s = .next t ∧
       t.strand e u = (s.strand e u).writeCsr f.imm.toNat ((s.me i).rg f.rd.toNat) ∧ t.me i = (s.me i).next ∧
       { t with strands := s.strands, regs := s.regs, engs := s.engs, pm := s.pm } = s) ∧
   (∀ (i : Iss) (f : FmtX) (s : State) (d : Info) (e u : Nat), d = infoX (gN f.rs1 ++ gN f.rd) [] →
     (csrKind f.imm.toNat).map (·.2) = some true → e = ((s.me i).rg f.rs1.toNat).toNat % 64 →
     u = ((s.me i).rg f.rs1.toNat).toNat / 256 % 16 → Issues s i d →
     ((issued s i d).remoteOn e = true → (s.strand e u).st ≠ .trapped → (s.strand e u).st ≠ .disabled →
       Runs (.xcsrw i f) s fun t => TrapsAt s t i 1 1 0) ∧
     ((issued s i d).remoteOn e = false → s.unprivileged i = false → (issued s i d).fenced i.e.val i.t.val 6 = false →
       GoesTo (.xcsrw i f) s i (s.me i).next)))

/-- SYSCALL (R95): the strand stops TRAPPED with the supervisor trap CSRs written: the code and g[rs1] recorded, `stepc`
and the `pc` CSR the next instruction, `stfpc` its own index; a channel engine's pending bit is set. A
completion-time trap (R46, R47) that a strand's title vector does not take stops it: TRAPPED, the supervisor trap
CSRs hold the cause, the next instruction not yet issued and the faulting one, and "more" where a second report
came. One that the vector takes enters it, marked in-handler. -/
def Obligations.TrapsTaken : Prop :=
  (∀ (i : Iss) (f : FmtX) (s : State), f.rd = 0 → Issues s i (infoX (gN f.rs1) []) →
     ∃ t, exec (.syscall i f) s = .next t ∧ (t.me i).st = .trapped ∧
       (t.me i).ts = { cause := 8, epc := BitVec.ofNat 64 ((s.me i).pc.toNat + 1), fpc := (s.me i).pc.setWidth 64,
                       addr := (s.me i).rg f.rs1.toNat, info := f.imm.setWidth 64 } ∧
       (t.me i).pc = (s.me i).pc + 1 ∧ (∀ n, (t.me i).rg n = (s.me i).rg n) ∧ (t.me i).tt = (s.me i).tt ∧
       t.ops = s.ops ∧ t.scratch = s.scratch ∧ (i.e.val < 34 → bitOf (t.fld F.CE_TRAP_PEND_pend i.e.val 0) i.t.val = true)) ∧
  (∀ (e : Fin 35) (u : Fin 16) (s : State) (x : Strand) (r : Report), x = s.strand e.val u.val → x.report = some r →
     x.st ≠ .trapped → x.st ≠ .disabled → x.wait = none →
     (x.takesTitle r.trap.cause = false →
       ∃ t, exec (.completionTrap e u) s = .next t ∧ (t.strand e.val u.val).st = .trapped ∧
         (t.strand e.val u.val).ts = trapRegs r.trap x.pc.toNat r.fpc.toNat x.more ∧
         (t.strand e.val u.val).report = none ∧ (∀ n, (t.strand e.val u.val).rg n = x.rg n) ∧
         (e.val < 34 → bitOf (t.fld F.CE_TRAP_PEND_pend e.val 0) u.val = true) ∧
         (e.val < 32 → bitOf (t.fld F.SV_EVENT_LO_engine 0 0) e.val = true) ∧
         (32 ≤ e.val → e.val < 34 → bitOf (t.fld F.SV_EVENT_HI_engine 0 0) (e.val - 32) = true)) ∧
     (x.takesTitle r.trap.cause = true →
       ∃ t, exec (.completionTrap e u) s = .next t ∧ (t.strand e.val u.val).st = .ready ∧
         (t.strand e.val u.val).inHandler = true ∧ (t.strand e.val u.val).pc = x.tvec.setWidth 16 ∧
         (t.strand e.val u.val).tt = trapRegs r.trap x.pc.toNat r.fpc.toNat x.more ∧
         ∀ n, (t.strand e.val u.val).rg n = x.rg n))

/-- TRET (R96): in a handler the in-handler mark is cleared and the strand continues at `tepc`; outside one it traps
ILLEGAL, subcode 1. No other strand changes. -/
def Obligations.TretResult : Prop :=
  ∀ (i : Iss) (f : FmtX) (s : State), f.rs1 = 0 → f.rd = 0 → f.imm = 1 → Issues s i { mem := true, last := true } →
    ((s.me i).inHandler = true → ∃ t, exec (.tret i f) s = .next t ∧
      t.me i = { s.me i with inHandler := false, pc := (s.me i).tt.epc.setWidth 16 } ∧ OnlyStrand s t i) ∧
    ((s.me i).inHandler = false → Runs (.tret i f) s fun t => TrapsAt s t i 1 1 0)

/-- EVWAIT on the SV and its wake (R98): with a reason present it goes on at once, g[rd] the reasons; else the strand
waits, and wakes when one comes. On a channel engine it traps ILLEGAL, subcode 1. -/
def Obligations.EvwaitResult : Prop :=
  (∀ (i : Iss) (f : FmtX) (s : State) (d : Info) (r : Nat), d = infoX [] (gN f.rd) → f.rs1 = 0 → f.imm.toNat < 8 →
    i.e.val = 34 → r = (issued s i d).evReasons ((s.me i).rdl f.imm.toNat) → Issues s i d →
    ∃ t, exec (.evwait i f) s = .next t ∧
      (r ≠ 0 → t.me i = { (s.me i).wg f.rd.toNat (BitVec.ofNat 64 r) with
        st := .ready, wait := none, pc := (s.me i).pc + 1 }) ∧
      (r = 0 → (t.me i).st = .waiting ∧ (t.me i).wait = some (.event f.rd.toNat f.imm.toNat) ∧ (t.me i).pc = (s.me i).pc)) ∧
  (∀ (i : Iss) (f : FmtX) (s : State), f.rs1 = 0 → f.imm.toNat < 8 → i.e.val ≠ 34 → Issues s i (infoX [] (gN f.rd)) →
    ∃ t, exec (.evwait i f) s = .next t ∧ (t.me i).st = .trapped ∧ (t.me i).ts.cause = 0x1001 ∧
      (t.me i).pc = (s.me i).pc) ∧
  (∀ (u : Fin 16) (s : State) (rd n r : Nat), (s.strand 34 u.val).st = .waiting →
    (s.strand 34 u.val).wait = some (.event rd n) → r = s.evReasons ((s.strand 34 u.val).rdl n) → r ≠ 0 →
    ∃ t, exec (.evwaitWake u) s = .next t ∧ t.strand 34 u.val = { (s.strand 34 u.val).wg rd (BitVec.ofNat 64 r) with
      st := .ready, wait := none, pc := (s.strand 34 u.val).pc + 1 })

/-! ## Sillar: entities, sessions, ticks -/

/-- The entity instructions start (R80 to R86): the request is on its way to the directory and the strand goes on;
ENT.UNLOCK and ENT.FREE give the strand's hold on the lock up. The session instructions start (R87 to R90):
SES.RECV, SES.INFO, SES.INFO.SET and a further part of SES.SEND go on; a first part waits for its slot. -/
def Obligations.DirectoryOperationsStart : Prop :=
  ((∀ p ∈ [((.entGetL : Iss → FmtE → Instr), OpKind.entGetL), (.entGetN, .entGetN), (.entGetE, .entGetE)],
     ∀ (i : Iss) (f : FmtE) (s : State), f.rs2 = 0 → f.dl = 0 →
       IssuesE s i { reads := gN f.rs1, writes := gN f.rd, mem := true } →
       ∃ t, exec (p.1 i f) s = .next t ∧ Starts s t i p.2 f.rd.toNat ((s.me i).rg f.rs1.toNat).toNat 0 ∧
         (t.me i).locks = (s.me i).locks) ∧
   (∀ (i : Iss) (f : FmtE) (s : State) (h : Nat), h = ((s.me i).rg f.rs1.toNat).toNat → f.dl = 0 → f.rd = 0 →
     ((s.me i).locks.contains (hIndex h) = true → f.rs2 = 0 →
       IssuesE s i { reads := gN f.rs1, mem := true } →
       (∃ t, exec (.entUnlock i f) s = .next t ∧ Starts s t i .entUnlock 255 h 0 ∧
         (t.me i).locks = (s.me i).locks.filter (· != hIndex h)) ∧
       ((issued s i { reads := gN f.rs1, mem := true }).entState i = false →
         ∃ t, exec (.entFree i f) s = .next t ∧ Starts s t i .entFree 255 h 0 ∧
           (t.me i).locks = (s.me i).locks.filter (· != hIndex h))) ∧
     (IssuesE s i { reads := gN f.rs1 ++ gN f.rs2, mem := true } →
       (issued s i { reads := gN f.rs1 ++ gN f.rs2, mem := true }).entState i = false →
       (∃ t, exec (.entPub i f) s = .next t ∧ Starts s t i .entPub 255 h 0) ∧
       ((s.me i).locks.contains (hIndex h) = true →
         ((s.me i).rg f.rs2.toNat).toNat % 2 ^ 20 < s.gridCells →
         ∃ t, exec (.entMove i f) s = .next t ∧ Starts s t i .entMove 255 h 0))) ∧
   (∀ (i : Iss) (f : FmtE) (s : State) (a : Word64) (k : Nat) (d : Info),
     d = { reads := gN f.rs1 ++ gN f.rs2, writes := gN f.rd, mem := true } →
     a = (s.me i).rg f.rs1.toNat → k = ((s.me i).rg f.rs2.toNat).toNat → f.dl = 0 → IssuesE s i d →
     (issued s i d).entState i = false → descBad k = false → a.toNat % (64 * 2 ^ (k % 8)) = 0 →
     (issued s i d).rangeBad i a (2 * (64 * 2 ^ (k % 8))) .write = false →
     a.toNat / 2 ^ 31 = (a.toNat + 2 * (64 * 2 ^ (k % 8)) - 1) / 2 ^ 31 →
     s.inView (a.toNat % 2 ^ 36) (2 * (64 * 2 ^ (k % 8))) = false →
     ∃ t, exec (.entNew i f) s = .next t ∧ Starts s t i .entNew f.rd.toNat a.toNat 0) ∧
   (∀ (i : Iss) (f : FmtE) (s : State) (h : Nat), h = ((s.me i).rg f.rs1.toNat).toNat → f.dl = 0 → f.rs2 = 0 →
     (s.me i).dma = 0 → (s.me i).slots = [] → (∀ k ∈ (s.me i).locks, k < hIndex h) → (s.me i).locks.length < 8 →
     IssuesE s i { reads := gN f.rs1, writes := gN f.rd, mem := true } →
     ∃ t, exec (.entLock i f) s = .next t ∧ Waits s t i .entLock h (.lock s.nextOp (hIndex h)))) ∧
  ((∀ (i : Iss) (f : FmtE) (s : State) (d : Info) (a : Word64),
     d = { reads := gN f.rs1 ++ gN f.rs2, writes := gN f.rd, mem := true } → a = (s.me i).rg f.rs2.toNat →
     a.toNat % 8 = 0 → a.toNat + 2048 ≤ s.scratchReach i → (issued s i d).dlBad i f.dl = false → IssuesE s i d →
     ∃ t, exec (.sesRecv i f) s = .next t ∧ Starts s t i .sesRecv f.rd.toNat ((s.me i).rg f.rs1.toNat).toNat 2048) ∧
   (∀ (i : Iss) (f : FmtE) (s : State) (d : Info) (a : Word64) (h w : Nat),
     d = { reads := gN f.rs1 ++ gN f.rs2 ++ gN f.rd, writes := gN f.rd, mem := true } → a = (s.me i).rg f.rs2.toNat →
     h = ((s.me i).rg f.rs1.toNat).toNat → w = ((s.me i).rg f.rd.toNat).toNat → sendBad w = false →
     a.toNat % 8 = 0 → a.toNat + sendLen w ≤ s.scratchReach i → (issued s i d).dlBad i f.dl = false → IssuesE s i d →
     s.lastPartOut i.e.val i.t.val (h / 2 ^ 14) = false →
     ((s.me i).slots.contains (h / 2 ^ 14) = true →
       ∃ t, exec (.sesSend i f) s = .next t ∧ Starts s t i .sesSend f.rd.toNat h 0) ∧
     ((∀ k ∈ (s.me i).slots, k < h / 2 ^ 14) → (s.me i).dma = 0 →
       ∃ t, exec (.sesSend i f) s = .next t ∧ Waits s t i .sesSend h (.slot s.nextOp (h / 2 ^ 14)))) ∧
   (∀ (i : Iss) (f : FmtE) (s : State) (d : Info), d = { reads := gN f.rs1 ++ gN f.rs2, writes := gN f.rd, mem := true } →
     f.dl = 0 → IssuesE s i d →
     ∃ t, exec (.sesInfo i f) s = .next t ∧ Starts s t i .sesInfo f.rd.toNat ((s.me i).rg f.rs1.toNat).toNat 0) ∧
   (∀ (i : Iss) (f : FmtE) (s : State) (d : Info) (sel v : Nat),
     d = { reads := gN f.rs1 ++ gN f.rs2 ++ gN f.rd, mem := true } → sel = ((s.me i).rg f.rs2.toNat).toNat →
     v = ((s.me i).rg f.rd.toNat).toNat → (sel = 2 ∧ v < 2 ^ 28 ∨ sel = 3 ∧ v < 2 ^ 16) → f.dl = 0 → IssuesE s i d →
     ∃ t, exec (.sesInfoSet i f) s = .next t ∧ Starts s t i .sesInfoSet 255 ((s.me i).rg f.rs1.toNat).toNat 0))

/-- A lock that no strand holds passes to the oldest request queued for it (R82): the entry is locked and owned by the
engine, the strand holds it, its register takes the entry, and it goes on. A first part of SES.SEND whose session
has room is granted (R89, R131): its strand goes on past the instruction, and holds the session's slot while more
parts follow. -/
def Obligations.WaitsGranted : Prop :=
  (∀ (x : BitVec 21) (s : State) (o : Op) (l : List Op), entLock (s.entry x.toNat) = false →
     s.lockQueue x.toNat = o :: l → x.toNat ∉ s.ed.upset → (s.eng o.e).fenced = false → s.edCheck o.addr .entLock = none → (s.strand o.e o.t).st = .waiting →
     ∃ t v, exec (.entityLockGrant x) s = .next t ∧ v = withOwner (withLock (s.entry x.toNat) true) o.e ∧
       t.entry x.toNat = v ∧ (∀ j, j ≠ x.toNat → t.entry j = s.entry j) ∧ x.toNat ∈ (t.strand o.e o.t).locks ∧
       (t.strand o.e o.t).st = .ready ∧ (t.strand o.e o.t).pc = (s.strand o.e o.t).pc + 1 ∧ Returns t o v.toNat) ∧
  (∀ (home : Fin 32) (s : State) (o : Op), (s.slotQueue home.val).find? (fun o => s.slotRoom (o.addr / 2 ^ 14)) = some o →
     (s.strand o.e o.t).st = .waiting → s.filling (o.addr / 2 ^ 14) o.e o.t = none → sendLen o.a2 ≤ 1024 →
     ∃ t, exec (.sessionSlotGrant home) s = .next t ∧ (t.strand o.e o.t).st = .ready ∧ (t.strand o.e o.t).wait = none ∧
       (t.strand o.e o.t).pc = (s.strand o.e o.t).pc + 1 ∧ t.findOp o.id = none ∧
       (sendMore o.a2 = true → o.addr / 2 ^ 14 ∈ (t.strand o.e o.t).slots))

/-- The directory answers a request (R80 to R86, R103): ENT.GET the live slot, the next slot or the entry; ENT.UNLOCK
clears the lock and records the owner; ENT.FREE of a title strand marks the entry until the commit. A bad handle ends
the request with its trap, and the entry is as before. Births and frees of title strands (R84 to R86, R101, R104):
ENT.NEW takes the head of the free list with the next generation; past 16,384 births or frees in a tick, or with no
index free, the operation ends in BUDGET and the directory is as before. All this holds of an entry whose SECDED check
is clean or finds a single-bit error. On a double-bit error (R22, R105) the directory is as before and the group of the
directory, or of the session table, takes the fault; an entity operation other than on locks, births and frees traps
UNCORRECTABLE (log 187). -/
def Obligations.DirectoryAnswers : Prop :=
  (∀ (id : Nat) (s : State) (o : Op), s.findOp id = some o → o.sram ≠ .double → hIndex o.addr ∉ s.ed.upset → o.st = .sent →
     (s.strand o.e o.t).st ≠ .disabled → (s.eng o.e).fenced = false → s.edOn (hIndex o.addr) = true →
     (s.edCheck o.addr o.kind = none →
       (o.kind = .entGetL → ∃ t, exec (.directoryResponse id) s = .next t ∧ Returns t o (liveSlot (s.entry (hIndex o.addr))) ∧
         t.ed = s.ed) ∧
       (o.kind = .entGetN → ∃ t, exec (.directoryResponse id) s = .next t ∧
         Returns t o (nextSlotAddr (s.entry (hIndex o.addr))) ∧ t.ed = s.ed) ∧
       (o.kind = .entGetE → ∃ t, exec (.directoryResponse id) s = .next t ∧ Returns t o (s.entry (hIndex o.addr)).toNat ∧
         t.ed = s.ed) ∧
       (o.kind = .entUnlock → ∃ t, exec (.directoryResponse id) s = .next t ∧ t.findOp id = none ∧
         entLock (t.entry (hIndex o.addr)) = false ∧
         (entPublished (s.entry (hIndex o.addr)) = true → entOwner (t.entry (hIndex o.addr)) = o.e % 64) ∧
         ∀ j, j ≠ hIndex o.addr → t.entry j = s.entry j) ∧
       (o.kind = .entFree → o.a2 = 0 → s.ed.frees < 16384 → ∃ t, exec (.directoryResponse id) s = .next t ∧
         t.findOp id = none ∧ entFreeing (t.entry (hIndex o.addr)) = true ∧ t.ed.frees = s.ed.frees + 1 ∧
         ∀ j, j ≠ hIndex o.addr → t.entry j = s.entry j)) ∧
     (∀ tr, s.edCheck o.addr o.kind = some tr → (o.kind = .entGetL ∨ o.kind = .entGetN ∨ o.kind = .entGetE ∨
         o.kind = .entPub ∨ o.kind = .entMove) → (s.strand o.e o.t).report = none →
       ∃ t, exec (.directoryResponse id) s = .next t ∧ t.findOp id = none ∧ t.ed = s.ed ∧
         (t.strand o.e o.t).report = some { trap := tr, fpc := o.fpc } ∧
         ∀ n, (t.strand o.e o.t).rg n = (s.strand o.e o.t).rg n)) ∧
  (∀ (id : Nat) (s : State) (o : Op), s.findOp id = some o → o.sram ≠ .double → o.st = .sent →
     (s.strand o.e o.t).st ≠ .disabled → (s.eng o.e).fenced = false → o.a2 = 0 →
     (o.kind = .entNew → s.edOn 0 = true →
       (16384 ≤ s.ed.births ∨ freeTake s.ed.quar (s.ed.quar.length + 1) s.ed.free = none →
         (s.strand o.e o.t).report = none →
         ∃ t, exec (.directoryResponse id) s = .next t ∧ t.findOp id = none ∧ t.ed = s.ed ∧
           (t.strand o.e o.t).report = some { trap := { cause := .budget, addr := BitVec.ofNat 64 o.addr }, fpc := o.fpc } ∧
           ∀ n, (t.strand o.e o.t).rg n = (s.strand o.e o.t).rg n) ∧
       (∀ x l g, s.ed.births < 16384 → freeTake s.ed.quar (s.ed.quar.length + 1) s.ed.free = some (x, l) → x ∉ s.ed.upset →
         g = (if (entGen (s.entry x) + 1) % 1024 = 0 then 1 else (entGen (s.entry x) + 1) % 1024) →
         ∃ t, exec (.directoryResponse id) s = .next t ∧ Returns t o (mkHandle x g) ∧ t.ed.free = l ∧
           t.ed.births = s.ed.births + 1 ∧ t.ed.frees = s.ed.frees ∧ ∀ j, j ≠ x → t.entry j = s.entry j)) ∧
     (o.kind = .entFree → s.edOn (hIndex o.addr) = true → hIndex o.addr ∉ s.ed.upset → s.edCheck o.addr .entFree = none →
       16384 ≤ s.ed.frees →
       (s.strand o.e o.t).report = none →
       ∃ t, exec (.directoryResponse id) s = .next t ∧ t.findOp id = none ∧ t.ed = s.ed ∧
         hIndex o.addr ∈ (t.strand o.e o.t).locks ∧
         (t.strand o.e o.t).report = some { trap := { cause := .budget, addr := BitVec.ofNat 64 o.addr }, fpc := o.fpc })) ∧
  (∀ (id : Nat) (s : State) (o : Op), s.findOp id = some o → o.sram = .double → o.st = .sent →
     (s.strand o.e o.t).st ≠ .disabled → (s.eng o.e).fenced = false → (s.strand o.e o.t).report = none → (∀ v ∈ s.faults, v.group ≠ 45 ∧ v.group ≠ 46) →
     (o.kind = .entGetL ∨ o.kind = .entGetN ∨ o.kind = .entGetE ∨ o.kind = .entPub ∨ o.kind = .entMove →
       s.edOn (hIndex o.addr) = true → o.addr < 2 ^ 31 → hIndex o.addr ∉ s.ed.quar →
       ∃ t, exec (.directoryResponse id) s = .next t ∧ t.findOp id = none ∧ t.ed.ent = s.ed.ent ∧ t.ed.free = s.ed.free ∧
         hIndex o.addr ∈ t.ed.quar ∧
         (t.strand o.e o.t).report = some { trap := { cause := .uncorrectable, addr := BitVec.ofNat 64 o.addr }, fpc := o.fpc } ∧
         ∃ v ∈ t.faults, v.group = 45 ∧ v.src = 0 ∧ v.addr = hIndex o.addr ∧ v.origin = 1) ∧
     (o.kind = .sesRecv ∨ o.kind = .sesInfo ∨ o.kind = .sesInfoSet → s.stOn (o.addr / 2 ^ 14) = true → o.addr < 2 ^ 32 →
       ∃ t, exec (.directoryResponse id) s = .next t ∧ t.findOp id = none ∧ t.st = s.st ∧
         ∃ v ∈ t.faults, v.group = 46 ∧ v.src = 0 ∧ v.addr = o.addr / 2 ^ 14 ∧ v.origin = 1))

/-- What the directory does to an entry on ENT.PUB and ENT.MOVE, and on the requests of a supervisor strand in READY
(R83, R85, R86, R101, R103). ENT.PUB of a title strand sets published, with the engine as owner where the entry is
unlocked and names none; of a supervisor strand it flips the live bit at once and touches neither masks nor memory,
where the Loupe does not drain there. A supervisor's ENT.FREE makes the entry invalid, keeps its generation and puts the
index at the tail of the free list, and counts in no limit; its ENT.NEW takes the head of the list with the next
generation and is no birth of the tick (R104). ENT.MOVE leaves the directory as it is: the move stands in the grid link
record. No other entry changes. -/
def Obligations.EntityChanges : Prop :=
  (∀ (id i : Nat) (s : State) (o : Op), s.findOp id = some o → i = hIndex o.addr → o.sram ≠ .double → i ∉ s.ed.upset →
     o.st = .sent → (s.strand o.e o.t).st ≠ .disabled → (s.eng o.e).fenced = false → s.edOn i = true →
     s.edCheck o.addr o.kind = none →
     (o.kind = .entPub → o.a2 ≠ 1 → ∃ t v, exec (.directoryResponse id) s = .next t ∧ t.findOp id = none ∧
       v = withPublished (s.entry i) true ∧ t.ed.births = s.ed.births ∧ t.ed.frees = s.ed.frees ∧ t.ed.free = s.ed.free ∧
       t.entry i = (if !entLock (s.entry i) && entOwner (s.entry i) == 0x3F then withOwner v o.e else v) ∧
       ∀ j, j ≠ i → t.entry j = s.entry j) ∧
     (o.kind = .entPub → o.a2 = 1 → ∃ t, exec (.directoryResponse id) s = .next t ∧ t.findOp id = none ∧
       t.entry i = withLive (s.entry i) (1 - entLive (s.entry i)) ∧ t.ed.free = s.ed.free ∧
       (s.fld F.PM_LOUPE_CTRL_drain 0 0 = 0 → t.dram = s.dram) ∧ ∀ j, j ≠ i → t.entry j = s.entry j) ∧
     (o.kind = .entFree → o.a2 = 1 → ∃ t, exec (.directoryResponse id) s = .next t ∧ t.findOp id = none ∧
       entValid (t.entry i) = false ∧ entGen (t.entry i) = entGen (s.entry i) ∧ t.ed.free = freePush s.ed.free i ∧
       t.ed.frees = s.ed.frees ∧ ∀ j, j ≠ i → t.entry j = s.entry j) ∧
     (o.kind = .entMove → ∃ t, exec (.directoryResponse id) s = .next t ∧ t.findOp id = none ∧ t.ed = s.ed)) ∧
  (∀ (id x g : Nat) (l : List (Nat × Nat)) (s : State) (o : Op), s.findOp id = some o → o.kind = .entNew → o.a2 = 1 →
     o.sram ≠ .double → o.st = .sent → (s.strand o.e o.t).st ≠ .disabled → (s.eng o.e).fenced = false → s.edOn 0 = true →
     freeTake s.ed.quar (s.ed.quar.length + 1) s.ed.free = some (x, l) → x ∉ s.ed.upset →
     g = (if (entGen (s.entry x) + 1) % 1024 = 0 then 1 else (entGen (s.entry x) + 1) % 1024) →
     ∃ t, exec (.directoryResponse id) s = .next t ∧ Returns t o (mkHandle x g) ∧ t.ed.free = l ∧
       t.ed.births = s.ed.births ∧ t.ed.frees = s.ed.frees ∧ ∀ j, j ≠ x → t.entry j = s.entry j)

/-- TICK.WAIT and TICK.DONE (R91, R92, R429). A strand counted for the open tick enters its window at once: g[rd] is the
tick's low 32 bits and dl[dl] the commit deadline; any other waits. TICK.DONE ends the window and is recorded. -/
def Obligations.TickResult : Prop :=
  (∀ (i : Iss) (f : FmtE) (s : State) (d : Info), d = { writes := gN f.rd ++ [56 + f.dl.toNat], mem := true } →
    f.rs1 = 0 → f.rs2 = 0 → i.e.val < 34 → (s.me i).inWin = false → (s.me i).locks = [] → (s.me i).slots = [] →
    (s.me i).dma = 0 → IssuesE s i d →
    (∀ n, s.tk.sim = some n → s.simWaits (skey i.e.val i.t.val) = true →
      ∃ t, exec (.tickWait i f) s = .next t ∧
        t.me i = { ((s.me i).wg f.rd.toNat (BitVec.ofNat 64 (n % 2 ^ 32))).wdl f.dl.toNat
          (BitVec.ofNat 64 (s.tk.simStart + s.tk.simDl)) with
            st := .ready, wait := none, inWin := true, tick := n, pc := (s.me i).pc + 1 }) ∧
    (s.simWaits (skey i.e.val i.t.val) = false →
      ∃ t, exec (.tickWait i f) s = .next t ∧ (t.me i).st = .waiting ∧
        (t.me i).wait = some (.tick f.rd.toNat f.dl.toNat) ∧ (t.me i).pc = (s.me i).pc ∧ (t.me i).inWin = false)) ∧
  (∀ (i : Iss) (f : FmtE) (s : State), f.rs1 = 0 → f.rs2 = 0 → f.rd = 0 → f.dl = 0 → i.e.val < 34 →
    (s.me i).inWin = true → (s.me i).locks = [] → (s.me i).slots = [] → (s.me i).dma = 0 →
    IssuesE s i { mem := true } →
    ∃ t, exec (.tickDone i f) s = .next t ∧
      t.me i = { s.me i with inWin := false, everDone := true, pc := (s.me i).pc + 1 } ∧
      (s.simWaits (skey i.e.val i.t.val) = true →
        smapFind t.tk.doneAt (skey i.e.val i.t.val) = some (s.tb - s.tk.simAt + 1)) ∧
      (s.fld F.PM_LOUPE_CTRL_drain 0 0 = 0 → t.dram = s.dram) ∧ t.ed = s.ed)

/-! ## Completions -/

/-- What comes back completes its operation (R36, R37, R46, R75 to R77): a load's register takes the data, an atomic's
the old value, a store and a FILL are gone once every channel has them, a scratch DMA gives its buffers back. The
end of a scratch DMA (R76): the transfer is gone and its strand holds no buffer. -/
def Obligations.OperationsComplete : Prop :=
  (∀ (id : Nat) (s : State) (o : Op), s.findOp id = some o → (s.strand o.e o.t).st ≠ .disabled → (s.eng o.e).fenced = false →
     (∀ v, o.st = .data v →
       (o.kind = .ld → ∃ t, exec (.worldLoadComplete id) s = .next t ∧ Returns t o (signExt (8 * o.len) 64 v) ∧
         (s.fld F.PM_LOUPE_CTRL_drain 0 0 = 0 → t.dram = s.dram)) ∧
       (o.kind = .ldu → ∃ t, exec (.worldLoadComplete id) s = .next t ∧ Returns t o v ∧
         (s.fld F.PM_LOUPE_CTRL_drain 0 0 = 0 → t.dram = s.dram)) ∧
       (∀ n, n < 16 → o.kind = .vld → o.dst = 32 + n → ∃ t, exec (.worldLoadComplete id) s = .next t ∧ t.findOp id = none ∧
         (t.strand o.e o.t).rv n = BitVec.ofNat 128 v ∧ (s.fld F.PM_LOUPE_CTRL_drain 0 0 = 0 → t.dram = s.dram))) ∧
     (o.kind = .st ∨ o.kind = .vst → o.need = 0 →
       ∃ t, exec (.storeAcknowledge id) s = .next t ∧ t.findOp id = none) ∧
     (o.kind = .fill → o.prog = o.granules → o.need = 0 → ∃ t, exec (.fillComplete id) s = .next t ∧ t.findOp id = none) ∧
     (∀ op d v c r, o.kind = .amo op d → o.st = .data v →
       (List.range 34).findSome? (fun c => ((s.chan c).rq.find? fun r => r.op == id).map fun r => (c, r)) = some (c, r) →
       (s.chan c).roomWhole r.gran r.seq = true →
       (∀ l off m, s.place o.addr = .at l off → s.route l off = some m → ∀ p ∈ m.wr, p ≠ c →
         (s.chan p).roomWhole r.gran (s.chan p).seq = true) →
       ∃ t, exec (.atomicComplete id) s = .next t ∧ Returns t o (leNat (((leBytes 64 v).drop (o.addr % 64)).take o.len)))) ∧
  (∀ (id : Nat) (s : State) (o : Op), s.findOp id = some o → (s.strand o.e o.t).st ≠ .disabled →
     (o.kind = .sdmaIn ∨ o.kind = .sdmaOut) → o.st = .sent → o.prog = o.granules → o.need = 0 →
     (∀ q ∈ s.ops, q.e = o.e → q.st ≠ .waiting) →
     ∃ t, exec (.sdmaComplete id) s = .next t ∧ t.findOp id = none ∧ (t.strand o.e o.t).dma = 0 ∧
       (t.eng o.e).dmaFree = (s.eng o.e).dmaFree + (s.strand o.e o.t).dma)

/-! ## Engines: firmware's hold on them -/

/-- CE_CTRL and the instruction window (R43) of an engine that is on: a write of `run` holds if `imem_lock` was set or
it clears `run`, one of `imem_lock` if `run` was clear or it sets `imem_lock`, and the other fields of the write apply;
an unlocked window takes the word, and a read answers the word at the index, and each steps the index; a locked one
refuses the write, with the violation flagged and told to group 48, and the index as before. CE_RANGE_COMMIT (R8, R42):
every pending range field of the engine applies. No other field or unit changes. -/
def Obligations.EngineControl : Prop :=
  (∀ (e : Fin 34) (v : Word32) (s : State), s.engOn e.val = true →
     Runs (.ceCtrlWrite e v) s (fun t =>
       t.fld F.CE_CTRL_run e.val 0 = (if s.fld F.CE_CTRL_imem_lock e.val 0 ≠ 0 ∨ v.getLsbD 0 = false then bitsOf v.toNat 0 1
         else s.fld F.CE_CTRL_run e.val 0) ∧
       t.fld F.CE_CTRL_imem_lock e.val 0 = (if s.fld F.CE_CTRL_run e.val 0 = 0 ∨ v.getLsbD 1 = true then bitsOf v.toNat 1 1
         else s.fld F.CE_CTRL_imem_lock e.val 0) ∧
       t.fld F.CE_CTRL_dl_strict e.val 0 = bitsOf v.toNat 2 1 ∧ t.fld F.CE_CTRL_break_en e.val 0 = bitsOf v.toNat 3 1 ∧
       t.fld F.CE_CTRL_lsq_per_strand e.val 0 = bitsOf v.toNat 8 7 ∧ { t with regs := s.regs, engs := s.engs } = s ∧
       (∀ a, a ≠ e.val → t.eng a = s.eng a) ∧
       ∀ f i j, fldKey f i j ∉ ceCtrlKeys e.val → t.fld f i j = s.fld f i j) ∧
     (∀ n, n = s.fld F.CE_IMEM_ADDR_index e.val 0 →
       (s.fld F.CE_CTRL_imem_lock e.val 0 = 0 →
         Runs (.ceImemDataWrite e v) s fun t => smapGet 0 t.imem (e.val * 65536 + n) = v ∧
           t.fld F.CE_IMEM_ADDR_index e.val 0 = (n + 1) % 65536 ∧
           (∀ k, k ≠ e.val * 65536 + n → smapGet 0 t.imem k = smapGet 0 s.imem k) ∧
           { t with imem := s.imem, regs := s.regs } = s) ∧
       (s.fld F.CE_CTRL_imem_lock e.val 0 ≠ 0 →
         Runs (.ceImemDataWrite e v) s fun t => t.imem = s.imem ∧ t.fld F.CE_STATUS_lock_violation e.val 0 = 1 ∧
           Raised t 48 2 ∧ t.fld F.CE_IMEM_ADDR_index e.val 0 = n) ∧
       ∀ p, Runs (.ceImemDataRead p e) s fun t => t.lastRead = (smapGet 0 s.imem (e.val * 65536 + n)).toNat ∧
         t.fld F.CE_IMEM_ADDR_index e.val 0 = (n + 1) % 65536 ∧ { t with lastRead := s.lastRead, regs := s.regs } = s)) ∧
  (∀ (e : Fin 34) (s : State), s.engOn e.val = true →
     Runs (.ceRangeCommit e) s fun t => ∀ f ∈ ceRangeFlds, ∀ n, n < 64 →
       (∀ v, smapFind s.shadow (fldKey f e.val n) = some v → t.fld f e.val n = v % 2 ^ f.w) ∧
       (smapFind s.shadow (fldKey f e.val n) = none → t.fld f e.val n = s.fld f e.val n) ∧
       smapFind t.shadow (fldKey f e.val n) = none ∧ { t with regs := s.regs, shadow := s.shadow } = s ∧
       ∀ g a b, (∀ f ∈ ceRangeFlds, ∀ n, n < 64 → fldKey g a b ≠ fldKey f e.val n) →
         t.fld g a b = s.fld g a b ∧ smapFind t.shadow (fldKey g a b) = smapFind s.shadow (fldKey g a b))

/-- Strand enables and the commands to a trapped strand (R48, R49). Enabling a strand with no operation under way makes
it READY at its start address with its privilege; disabling one that does not wait leaves it DISABLED with no report and
out of its window; resume, redirect and forward let a trapped strand go on where they say, its registers as they were;
stop clears its enable. The wait breaker (R52, R53): a due wait for what no strand holds is counted as skipped; a holder
of a lock or slot that itself waits, with nothing else under way, loses its locks and slots and traps BREAK. -/
def Obligations.StrandControl : Prop :=
  (∀ (e : Fin 34) (u : Fin 16) (s : State), s.engOn e.val = true →
     (∀ v : Word32, (∀ k : Nat, k < 16 → k ≠ u.val → bitOf v.toNat k = bitOf (s.fld F.CE_STRAND_EN_en e.val 0) k) →
       (bitOf v.toNat u.val = true → bitOf (s.fld F.CE_STRAND_EN_en e.val 0) u.val = false →
         s.opsOf e.val u.val = [] →
         Runs (.ceStrandEnWrite e v) s fun t => (t.strand e.val u.val).st = .ready ∧
           (t.strand e.val u.val).pc = BitVec.ofNat 16 (s.fld F.CE_SPC_index e.val u.val) ∧
           (t.strand e.val u.val).title = s.fldB F.CE_SPC_title e.val u.val ∧
           t.fld F.CE_STRAND_EN_en e.val 0 = v.toNat % 65536) ∧
       (bitOf v.toNat u.val = false → bitOf (s.fld F.CE_STRAND_EN_en e.val 0) u.val = true →
         (s.strand e.val u.val).wait = none →
         Runs (.ceStrandEnWrite e v) s fun t => (t.strand e.val u.val).st = .disabled ∧
           (t.strand e.val u.val).report = none ∧ (t.strand e.val u.val).inWin = false ∧
           t.fld F.CE_STRAND_EN_en e.val 0 = v.toNat % 65536)) ∧
     (bitOf (s.fld F.CE_STRAND_EN_en e.val 0) u.val = true → (s.strand e.val u.val).wait = none →
       Runs (.strandStop e u) s fun t => (t.strand e.val u.val).st = .disabled ∧
         bitOf (t.fld F.CE_STRAND_EN_en e.val 0) u.val = false) ∧
     ((s.strand e.val u.val).st = .trapped →
       Runs (.strandResume e u) s (fun t =>
         t.strand e.val u.val = { s.strand e.val u.val with st := .ready, wait := none } ∧
         bitOf (t.fld F.CE_TRAP_PEND_pend e.val 0) u.val = false) ∧
       Runs (.strandRedirect e u) s (fun t =>
         t.strand e.val u.val = { s.strand e.val u.val with
           st := .ready, wait := none, pc := BitVec.ofNat 16 (s.fld F.CE_SPC_index e.val u.val) } ∧
         bitOf (t.fld F.CE_TRAP_PEND_pend e.val 0) u.val = false) ∧
       ((s.strand e.val u.val).title = true → (s.strand e.val u.val).tvec ≠ 0 →
         Runs (.strandForward e u) s fun t =>
           t.strand e.val u.val = { s.strand e.val u.val with
             st := .ready, wait := none, tt := (s.strand e.val u.val).ts, inHandler := true,
             pc := (s.strand e.val u.val).tvec.setWidth 16 } ∧
           bitOf (t.fld F.CE_TRAP_PEND_pend e.val 0) u.val = false))) ∧
  (∀ (e : Fin 35) (u : Fin 16) (s : State) (w : Wait), (s.strand e.val u.val).wait = some w → s.breakDue e.val u.val = true →
     (s.holderOf e.val w = none →
       Runs (.waitBreakerCheck e u) s fun t =>
         t.fld F.CE_BREAK_COUNT_skipped e.val 0 = satAdd 10 (s.fld F.CE_BREAK_COUNT_skipped e.val 0) 1 ∧
         t.strand e.val u.val = { s.strand e.val u.val with examAt := s.tb }) ∧
     (∀ h, s.holderOf e.val w = some h → (∀ op, w ≠ .dma op ∧ w ≠ .credit op) → (s.strand (h / 16) (h % 16)).inWait = true →
       s.inTransit (h / 16) = false →
       (∀ o ∈ s.ops, o.e = h / 16 → (o.t = h % 16 ∧ o.id = (s.strand (h / 16) (h % 16)).waitOp)) →
       Runs (.waitBreakerCheck e u) s fun t => (t.strand (h / 16) (h % 16)).st = .trapped ∧
         (t.strand (h / 16) (h % 16)).locks = [] ∧ (t.strand (h / 16) (h % 16)).slots = [] ∧
         (t.strand (h / 16) (h % 16)).ts = trapRegs (s.breakTrap w) (s.strand (h / 16) (h % 16)).pc.toNat
           (s.strand (h / 16) (h % 16)).pc.toNat (s.strand (h / 16) (h % 16)).report.isSome))

/-- Migration of a logical engine (R54 to R57), with neither engine fenced: the request is recorded; a quiet engine's
copy begins; a wait that has lasted too long fails, or, where it is forced, issue stops and the copy begins once the
queue has drained; when the copy completes with nothing outstanding the target has the strands (a stalled one looks
again), the logical number and the enables. The watchdog and the hang source (R59, R360): a kick loads the count with
the clamped timeout; a count run out is told once, on group 49; an engine that runs with a READY strand and has issued
nothing for 100 µs is told on group 48. -/
def Obligations.MigrationAndWatchdogs : Prop :=
  (∀ (p : Fin 34) (s : State),
     (∀ q : Fin 34, p ≠ q → s.engOn p.val = true → s.engOn q.val = true → (s.eng p.val).mig = none →
       (s.eng p.val).fenced = false → (s.eng q.val).fenced = false →
       Runs (.migrationStart p q) s fun t => t.fld F.CE_MIG_STATUS_phase p.val 0 = 1 ∧
         t.fld F.CE_MIG_CTRL_target p.val 0 = q.val ∧
         (t.eng p.val).mig = some { target := q.val, startTick := s.fld F.TK_NEXT_tick 0 0 }) ∧
     (∀ m, (s.eng p.val).mig = some m → m.copying = false → m.stopped = false → (s.eng p.val).fenced = false →
       (s.eng m.target).fenced = false →
       (s.quiet p.val = true →
         Runs (.migrationQuiet p) s fun t => t.fld F.CE_MIG_STATUS_phase p.val 0 = 2 ∧
           (t.eng p.val).mig = some { m with copying := true, since := s.tb } ∧ t.strands = s.strands) ∧
       (m.startTick + max 1 (s.fld F.CE_MIG_WAIT_ticks p.val 0) ≤ s.fld F.TK_NEXT_tick 0 0 →
         (s.fld F.CE_MIG_CTRL_force p.val 0 ≠ 0 →
           Runs (.migrationWaitExpired p) s fun t =>
             ((∀ o ∈ s.ops, o.e = p.val → o.st = .waiting) → t.fld F.CE_MIG_STATUS_phase p.val 0 = 2 ∧
               (t.eng p.val).mig = some { m with copying := true, stopped := true, since := s.tb }) ∧
             ((∃ o ∈ s.ops, o.e = p.val ∧ o.st ≠ .waiting) → (t.eng p.val).mig = some { m with stopped := true } ∧
               t.engIssues p.val = false ∧ t.ed = s.ed)) ∧
         (s.fld F.CE_MIG_CTRL_force p.val 0 = 0 →
           Runs (.migrationWaitExpired p) s fun t => t.fld F.CE_MIG_STATUS_failed p.val 0 = 1 ∧
             t.fld F.CE_MIG_STATUS_phase p.val 0 = 0 ∧ (t.eng p.val).mig = none ∧ t.strands = s.strands))) ∧
     (∀ m, (s.eng p.val).mig = some m → m.copying = true → m.target ≠ p.val → m.target < 34 →
       (s.eng p.val).fenced = false → (s.eng m.target).fenced = false → (∀ o ∈ s.ops, o.e ≠ p.val ∧ o.e ≠ m.target) →
       Runs (.migrationCopyComplete p) s fun t =>
         (∀ u, u < 16 → t.strand m.target u = { s.strand p.val u with
             examAt := 0, st := if (s.strand p.val u).st = .stalled then .ready else (s.strand p.val u).st } ∧
           t.strand p.val u = strand0) ∧
         t.fld F.CE_ID_logical m.target 0 = s.fld F.CE_ID_logical p.val 0 % 64 ∧ t.fld F.CE_ID_logical p.val 0 = 0x3F ∧
         t.fld F.CE_STRAND_EN_en m.target 0 = s.fld F.CE_STRAND_EN_en p.val 0 % 65536 ∧
         t.fld F.CE_STRAND_EN_en p.val 0 = 0 ∧ t.fld F.CE_CTRL_run m.target 0 = 1 ∧ t.fld F.CE_CTRL_run p.val 0 = 0 ∧
         t.fld F.CE_MIG_STATUS_phase p.val 0 = 3 ∧ (t.eng p.val).mig = none)) ∧
  (∀ s : State,
     Runs .svWdogKick s (fun t => t.wdogLoad = max 1000 (min 1000000 (s.fld F.SV_WDOG_timeout_us 0 0)) ∧ t.wdogOut = false ∧
       t.wdogRemain = t.wdogLoad ∧ { t with wdogAt := s.wdogAt, wdogOut := s.wdogOut, wdogLoad := s.wdogLoad } = s) ∧
     (s.fld F.SV_WDOG_enable 0 0 ≠ 0 → s.wdogRemain = 0 → s.wdogOut = false →
       Runs .watchdogExpire s fun t => t.wdogOut = true ∧ Raised t 49 1 ∧
         { t with wdogOut := s.wdogOut, faults := s.faults } = s) ∧
     (∀ (e : Fin 34) (u : Nat), u < 16 → s.engIssues e.val = true → (s.strand e.val u).st = .ready →
       (s.eng e.val).lastTok + 100000 ≤ s.tb →
       Runs (.engineHangDetect e) s fun t => Raised t 48 1 ∧ { t with faults := s.faults } = s))

/-! ## The tick unit and the directory -/

/-- A tick starts (R107 to R110): the next tick's number, its times and phase INGEST; a start more than a period late is
anchored anew. SIMULATE opens (R108, R111, R91): the strands that count are fixed, and each that waits in TICK.WAIT
enters its window. A late tick (R118): at its deadline it is counted late and its first frame is held; a further frame
is held a period later, with a send slot of its own; at the limit the tick unit's fault is told. That the 8-bit count of
held frames stays at 255 is the model's choice (log 184). -/
def Obligations.TickOpens : Prop :=
  (∀ (s : State) (due p n at' : Nat), due = s.fld F.TK_START_time 0 0 → p = s.fld F.TK_PERIOD_ns 0 0 →
     n = s.fld F.TK_NEXT_tick 0 0 → at' = (if due + p < s.tb then s.tb else due) →
     (s.mode = 3 ∨ s.mode = 4) → s.fld F.TK_CTRL_run 0 0 ≠ 0 → due ≤ s.tb → s.missDue = false →
     Runs .tickStart s fun t => t.fld F.TK_NEXT_tick 0 0 = (n + 1) % 2 ^ 64 ∧
       t.fld F.TK_START_time 0 0 = (at' + p) % 2 ^ 64 ∧ t.fld F.TK_STATUS_phase 0 0 = 1 ∧ t.fld F.TK_STATUS_held 0 0 = 0 ∧
       t.tk.cur = some n ∧ t.tk.start = at' ∧ t.tk.dl = s.fld F.TK_COMMIT_DL_ns 0 0 ∧
       t.tk.ing = s.fld F.TK_INGEST_CLOSE_ns 0 0 ∧ t.st.slotSeq = s.st.slotSeq + 1 ∧
       (due + p < s.tb → t.fld F.TK_STATUS_reanchored 0 0 = 1 ∧ Raised t 43 1) ∧
       t.strands = s.strands ∧ t.dram = s.dram ∧ t.ed = s.ed) ∧
  (∀ (s : State) (n : Nat), s.tk.cur = some n → s.mode = 3 → s.tk.sim = none → s.fld F.TK_STATUS_phase 0 0 = 1 →
     s.tk.start + s.tk.ing ≤ s.tb → (∀ b ∈ s.st.builds, n < b.tick + 2) →
     Runs .simulateOpen s fun t => t.fld F.TK_STATUS_phase 0 0 = 2 ∧ t.tk.sim = some n ∧ t.tk.counted = s.countedNow ∧
       t.tk.simAt = s.tb ∧
       ∀ (e : Fin 34) (u : Fin 16) (rd dl : Nat), skey e.val u.val ∈ s.countedNow → (s.strand e.val u.val).st = .waiting →
         (s.strand e.val u.val).wait = some (.tick rd dl) →
         t.strand e.val u.val = { ((s.strand e.val u.val).wg rd (BitVec.ofNat 64 (n % 2 ^ 32))).wdl dl
           (BitVec.ofNat 64 (s.tk.start + s.tk.dl)) with
             st := .ready, wait := none, inWin := true, tick := n, pc := (s.strand e.val u.val).pc + 1 }) ∧
  (∀ (s : State) (n : Nat), s.tk.cur = some n → s.missDue = true →
     (s.tk.slips = 0 → Runs .commitDeadlineMiss s fun t =>
       t.fld F.TK_LATE_count 0 0 = satAdd 32 (s.fld F.TK_LATE_count 0 0) 1 ∧ t.fld F.TK_STATUS_held 0 0 = 1 ∧
       t.fld F.TK_STATUS_slips 0 0 = 1 ∧ t.tk.slips = 1 ∧ t.tk.curLate = true ∧
       t.fld F.TK_START_time 0 0 = (s.fld F.TK_START_time 0 0 + s.tk.per) % 2 ^ 64 ∧
       (s.fld F.TK_CTRL_late_limit 0 0 ≤ 1 → Raised t 45 2)) ∧
     (s.tk.slips ≠ 0 → Runs .heldFrameRepeat s fun t =>
       t.tk.slips = s.tk.slips + 1 ∧ t.fld F.TK_STATUS_held 0 0 = 1 ∧
       t.fld F.TK_STATUS_slips 0 0 = min (s.tk.slips + 1) 255 ∧ t.st.slotSeq = s.st.slotSeq + 1 ∧
       t.fld F.TK_START_time 0 0 = (s.fld F.TK_START_time 0 0 + s.tk.per) % 2 ^ 64 ∧
       (s.tk.slips + 1 = max 1 (s.fld F.TK_CTRL_late_limit 0 0) → Raised t 45 2)))

/-- A commit (R111 to R117): when the conditions are met the slack is recorded and the publication counts of the tick
are zeroed; the commit opens once no build is open, and passes every published entry that is not quarantined: a good one
flips its live slot, a torn one keeps it; it closes with the tick committed, the entries as they are; in HALT, or where
a HALT keeps it open, it does not close (R116). -/
def Obligations.CommitSteps : Prop :=
  ∀ (s : State) (n : Nat), s.tk.sim = some n →
    (s.allDrained = true → s.snapHolds n = false →
      Runs .commitConditionsMet s fun t => t.tk.cond = some s.tb ∧
        t.fld F.TK_SLACK_ns 0 0 = satSigned ((s.tk.simStart + s.tk.simDl : Nat) - (s.tb : Int)) % 2 ^ 32 ∧
        (s.tk.cur = some n → t.fld F.TK_STATUS_phase 0 0 = 3) ∧
        (∀ e ∈ s.countedEngines, parOf (t.eng e).issued n = 0 ∧ parOf (t.eng e).acked n = 0) ∧ t.ed = s.ed) ∧
    (∀ a, s.tk.cond = some a → s.fld F.TK_STATUS_commit_open 0 0 = 0 → s.st.builds = [] → s.mode ≠ 7 → DirectoryForm s →
      Runs .commitOpen s fun t => t.fld F.TK_STATUS_commit_open 0 0 = 1 ∧ t.tk.openAt = s.tb ∧
        t.fld F.TK_COMMIT_TIME_barrier 0 0 = min ((s.tb - a) / 16) 65535 ∧
        ∀ i, s.ed.quar.contains i = false → i ∉ s.ed.upset → entValid (s.entry i) = true → entFreeing (s.entry i) = false →
          (entPublished (s.entry i) = true →
            (s.tk.fenced.contains (entOwner (s.entry i)) = false ∧ entTorn (s.entry i) = false →
              t.entry i = settled (withLive (s.entry i) (1 - entLive (s.entry i)))) ∧
            (s.tk.fenced.contains (entOwner (s.entry i)) = true ∨ entTorn (s.entry i) = true →
              t.entry i = settled (withTorn (s.entry i) true))) ∧
          (entPublished (s.entry i) = false → t.entry i = settled (s.entry i))) ∧
    (s.mode = 7 ∨ s.fc.keepOpen = true → Runs .commitClose s fun t => t = s) ∧
    (s.fld F.TK_STATUS_commit_open 0 0 ≠ 0 → s.mode ≠ 7 → s.fc.keepOpen = false →
      Runs .commitClose s fun t => t.fld F.TK_COMMITTED_tick 0 0 = n % 2 ^ 64 ∧ t.fld F.TK_STATUS_commit_open 0 0 = 0 ∧
        t.tk.sim = none ∧ t.tk.cond = none ∧ t.ed.births = 0 ∧ t.ed.frees = 0 ∧ t.st.pend = [] ∧
        (s.tk.cur = some n → t.fld F.TK_STATUS_phase 0 0 = 0) ∧ ∀ i, t.entry i = s.entry i)

/-- The tick unit's controls (R109, R125): `run` clears and sets; a warm restart is asked for outside SERVE, and ends
with its result. Torn entities and the grid (R122 to R124): a resolution with a bad handle gives its result and
changes no entry; KEEP clears torn and lock; FREE marks the entry in SERVE; the torn cursor moves; the grid changes
in READY alone. -/
def Obligations.TickAndDirectoryControls : Prop :=
  (∀ s : State,
     Runs .tkRunClear s (fun t => t.fld F.TK_CTRL_run 0 0 = 0 ∧ OnlyRegs s t [fldKey F.TK_CTRL_run 0 0]) ∧
     Runs .tkRunSet s (fun t => t.fld F.TK_CTRL_run 0 0 = 1 ∧ OnlyRegs s t [fldKey F.TK_CTRL_run 0 0]) ∧
     (s.mode ≠ 3 → s.fld F.TK_WARM_busy 0 0 = 0 →
       Runs .tkWarmStart s fun t => t.fld F.TK_WARM_busy 0 0 = 1 ∧ OnlyRegs s t [fldKey F.TK_WARM_busy 0 0]) ∧
     (s.fld F.TK_WARM_busy 0 0 ≠ 0 →
       (s.newestRecord.1 = none →
         Runs .warmRestartComplete s fun t => t.fld F.TK_WARM_busy 0 0 = 0 ∧ t.fld F.TK_WARM_result 0 0 = 2 ∧ t.ed = s.ed) ∧
       (∀ n, s.newestRecord.1 = some n →
         ((s.newestRecord.2.ringRecord? (n + 1)).2.1 = 0 → Runs .warmRestartComplete s fun t =>
           t.fld F.TK_WARM_busy 0 0 = 0 ∧ t.fld F.TK_WARM_result 0 0 = 3 ∧ t.ed = s.ed) ∧
         ((s.newestRecord.2.ringRecord? (n + 1)).2.1 ≠ 0 →
           (s.ed.lost = true → Runs .warmRestartComplete s fun t =>
             t.fld F.TK_WARM_busy 0 0 = 0 ∧ t.fld F.TK_WARM_result 0 0 = 4 ∧ t.ed = s.ed) ∧
           (s.ed.lost = false → Runs .warmRestartComplete s fun t =>
             t.fld F.TK_WARM_busy 0 0 = 0 ∧ t.fld F.TK_WARM_result 0 0 = 1 ∧
             t.fld F.TK_COMMITTED_tick 0 0 = n % 2 ^ 64 ∧ t.fld F.TK_NEXT_tick 0 0 = (n + 1) % 2 ^ 64 ∧
             t.fld F.TK_STATUS_phase 0 0 = 0 ∧ t.ed.births = 0 ∧ t.ed.frees = 0 ∧
             ∀ k, s.ed.quar.contains k = false → k ∉ s.ed.upset → entValid (t.entry k) = true → entPublished (t.entry k) = false ∧ entLock (t.entry k) = false ∧
               entOwner (t.entry k) = 0x3F))))) ∧
  (∀ (s : State) (h v : Word32),
     (hIndex h.toNat ∉ s.ed.upset → s.resolveCheck h.toNat ≠ 0 →
       Runs (.edResolveKeep h) s (fun t => t.fld F.ED_RESOLVE_CMD_result 0 0 = s.resolveCheck h.toNat ∧ t.ed = s.ed) ∧
       Runs (.edResolveFree h) s (fun t => t.fld F.ED_RESOLVE_CMD_result 0 0 = s.resolveCheck h.toNat ∧ t.ed = s.ed)) ∧
     (hIndex h.toNat ∉ s.ed.upset → s.resolveCheck h.toNat = 0 →
       Runs (.edResolveKeep h) s (fun t => t.fld F.ED_RESOLVE_CMD_result 0 0 = 0 ∧
         entTorn (t.entry (hIndex h.toNat)) = false ∧ entLock (t.entry (hIndex h.toNat)) = false ∧
         entLive (t.entry (hIndex h.toNat)) = entLive (s.entry (hIndex h.toNat)) ∧
         ∀ k, k ≠ hIndex h.toNat → t.entry k = s.entry k) ∧
       (s.mode = 3 → Runs (.edResolveFree h) s fun t => t.fld F.ED_RESOLVE_CMD_result 0 0 = 0 ∧
         entTorn (t.entry (hIndex h.toNat)) = false ∧ entFreeing (t.entry (hIndex h.toNat)) = true ∧
         ∀ k, k ≠ hIndex h.toNat → t.entry k = s.entry k) ∧
       (s.mode ≠ 3 → Runs (.edResolveFree h) s fun t => entValid (t.entry (hIndex h.toNat)) = false ∧
         entGen (t.entry (hIndex h.toNat)) = entGen (s.entry (hIndex h.toNat)) ∧
         ∀ k, k ≠ hIndex h.toNat → t.entry k = s.entry k)) ∧
     Runs (.edTornCursorWrite v) s (fun t => t.fld F.ED_TORN_CURSOR_index 0 0 = v.toNat % 2 ^ 21 ∧
       OnlyRegs s t [fldKey F.ED_TORN_CURSOR_index 0 0]) ∧
     (s.mode = 2 → bitsOf v.toNat 0 4 + bitsOf v.toNat 4 4 ≤ 20 →
       Runs (.edGridWrite v) s fun t => t.fld F.ED_GRID_xbits 0 0 = bitsOf v.toNat 0 4 ∧
         t.fld F.ED_GRID_ybits 0 0 = bitsOf v.toNat 4 4 ∧
         OnlyRegs s t [fldKey F.ED_GRID_xbits 0 0, fldKey F.ED_GRID_ybits 0 0]) ∧
     (¬ (s.mode = 2 ∧ bitsOf v.toNat 0 4 + bitsOf v.toNat 4 4 ≤ 20) → Runs (.edGridWrite v) s fun t => t = s))

/-- The Replica export (R126, R127): a start with the MTU and the port it needs runs round 0, and one without is refused
with its error; a round's end steps the round, the last one holding the commit; an expired hold gives a further
round; the last datagram's leaving completes it; an abort ends it with nothing left to send. The restore of a
snapshot (R239, R240): it starts in READY with every engine stopped and is refused otherwise; it ends with a result;
a staging span that cannot be read changes no entry; a good one leaves the tick after the snapshot's as the next. -/
def Obligations.SnapshotSteps : Prop :=
  (∀ s : State,
     (s.snapRuns = false →
       (9000 ≤ s.snapMtu → s.fld F.PT_PORT_STATUS_up (s.fld F.SNAP_CTRL_port 0 0) 0 ≠ 0 →
         Runs .snapshotStart s fun t => ExportAt t 1 ∧ t.fld F.SNAP_STATUS_error 0 0 = 0 ∧ t.fld F.SNAP_STATUS_round 0 0 = 0) ∧
       (s.snapMtu < 9000 → Runs .snapshotStart s fun t => t.fld F.SNAP_STATUS_state 0 0 = 6 ∧
         t.fld F.SNAP_STATUS_error 0 0 = 1) ∧
       (9000 ≤ s.snapMtu → s.fld F.PT_PORT_STATUS_up (s.fld F.SNAP_CTRL_port 0 0) 0 = 0 →
         Runs .snapshotStart s fun t => t.fld F.SNAP_STATUS_state 0 0 = 6 ∧ t.fld F.SNAP_STATUS_error 0 0 = 2)) ∧
     (s.snapRuns = true → Runs .snapshotAbort s fun t => t.fld F.SNAP_STATUS_state 0 0 = 5 ∧ t.snap.todo = [] ∧
       t.snap.final = none ∧ (∀ p ∈ t.pt.egress, p.q ≠ 3) ∧ t.dram = s.dram ∧ t.ed = s.ed) ∧
     ((s.fld F.SNAP_STATUS_state 0 0 = 1 ∨ s.fld F.SNAP_STATUS_state 0 0 = 2) → s.snapSent = true → s.tk.cond = none →
       s.fld F.TK_STATUS_commit_open 0 0 = 0 →
       Runs .snapshotRoundEnd s fun t =>
         t.fld F.SNAP_STATUS_round 0 0 = (s.fld F.SNAP_STATUS_round 0 0 + 1) % 2 ^ F.SNAP_STATUS_round.w ∧
         (s.snap.dirty.length ≤ s.fld F.SNAP_FINAL_indices 0 0 → s.noneCommitted = false → ExportAt t 3 ∧
           (t.fld F.SNAP_STATUS_state 0 0 = 3 → t.snap.final = some (s.fld F.TK_COMMITTED_tick 0 0) ∧
             t.fld F.TK_STATUS_snap_hold 0 0 = 1)) ∧
         (s.fld F.SNAP_FINAL_indices 0 0 < s.snap.dirty.length → s.drainFinal = false → ExportAt t 2)) ∧
     (s.fld F.SNAP_STATUS_state 0 0 = 3 →
       (s.snapSent = false → s.snap.holdAt + s.fld F.SNAP_HOLD_MAX_us 0 0 * 1000 < s.tb →
         Runs .snapshotHoldExpire s fun t => ExportAt t 2 ∧ t.snap.final = none) ∧
       (s.snapSent = true → Runs .snapshotComplete s fun t => t.fld F.SNAP_STATUS_state 0 0 = 4 ∧ t.snap.final = none ∧
         (s.snap.final ≠ none → t.fld F.TK_STATUS_snap_hold 0 0 = 0)))) ∧
  (∀ (s : State) (b n : Nat), b = s.fld F.GLOBAL_RESTORE_BASE_base 0 0 * 64 → n = s.fld F.GLOBAL_RESTORE_LEN_bytes 0 0 →
     (s.fld F.GLOBAL_RESTORE_CTRL_busy 0 0 = 0 →
       (s.mode = 2 → s.allStopped = true → Runs .snapshotRestoreStart s fun t =>
         t.fld F.GLOBAL_RESTORE_CTRL_busy 0 0 = 1 ∧ t.fld F.GLOBAL_RESTORE_CTRL_result 0 0 = 0 ∧
         OnlyRegs s t [fldKey F.GLOBAL_RESTORE_CTRL_busy 0 0, fldKey F.GLOBAL_RESTORE_CTRL_result 0 0]) ∧
       (s.mode ≠ 2 ∨ s.allStopped = false → Runs .snapshotRestoreStart s fun t =>
         t.fld F.GLOBAL_RESTORE_CTRL_result 0 0 = 7 ∧ OnlyRegs s t [fldKey F.GLOBAL_RESTORE_CTRL_result 0 0])) ∧
     (s.fld F.GLOBAL_RESTORE_CTRL_busy 0 0 ≠ 0 →
       Runs .snapshotRestoreComplete s (fun t => t.fld F.GLOBAL_RESTORE_CTRL_busy 0 0 = 0 ∧
         (t.fld F.GLOBAL_RESTORE_CTRL_result 0 0 = 1 →
           t.fld F.TK_NEXT_tick 0 0 = (t.fld F.TK_COMMITTED_tick 0 0 + 1) % 2 ^ 64 ∧ t.fld F.TK_STATUS_phase 0 0 = 0)) ∧
       ((s.worldGet b n 57 none).2.1 ≠ some .clean →
         Runs .snapshotRestoreComplete s fun t => t.fld F.GLOBAL_RESTORE_CTRL_result 0 0 = 2 ∧ t.ed = s.ed)))

/-! ## Sessions and replication -/

/-- The context commands (R134, R136, R148, R159) act on the indexed session: read gives its sixteen words; create makes
a free one JOINING with the next generation, and clears the key registers; close, keyframe and move act on one in
use; every command leaves its result, and a refused one changes no session. -/
def Obligations.ContextCommands : Prop :=
  ∀ (s : State) (i : Nat) (c : Ctx), i = s.fld F.ST_CTX_INDEX_index 0 0 →
    c = ctxOf ((List.range 16).map fun k => s.fld F.ST_CTX_DATA_word k 0) →
    (i ∉ s.st.upset → Runs .stCtxRead s (fun t => t.fld F.ST_CTX_CMD_result 0 0 = 0 ∧
      (∀ k, k < 16 → t.fld F.ST_CTX_DATA_word k 0 = (s.ctx i).words.getD k 0 % 2 ^ 32) ∧ { t with regs := s.regs } = s)) ∧
    (i ∈ s.st.upset → Runs .stCtxRead s (fun t => t.fld F.ST_CTX_CMD_result 0 0 = 2 ∧ Raised t 46 0 ∧ t.ses = s.ses)) ∧
    ((s.ctx i).st = .free → c.ringZ ≤ 4 → c.ringBase + 2 ^ c.ringZ ≤ 16384 → c.home < logicals s.part → c.port < s.ports →
      Runs .stCtxCreate s fun t => t.fld F.ST_CTX_CMD_result 0 0 = 0 ∧ t.ctx i = createdCtx c (s.ctx i).gen ∧
        (∀ k, k < 8 → t.fld F.ST_KEY_key k 0 = 0) ∧ ∀ j, j ≠ i → t.sess j = s.sess j) ∧
    ((s.ctx i).st = .free → 4 < c.ringZ ∨ 16384 < c.ringBase + 2 ^ c.ringZ ∨ logicals s.part ≤ c.home ∨ s.ports ≤ c.port →
      Runs .stCtxCreate s fun t => t.fld F.ST_CTX_CMD_result 0 0 = 3 ∧ t.ses = s.ses) ∧
    ((s.ctx i).st ≠ .free → Runs .stCtxCreate s fun t => t.fld F.ST_CTX_CMD_result 0 0 = 2 ∧ t.ses = s.ses) ∧
    ((s.ctx i).st ≠ .free → (s.ctx i).st ≠ .closing →
      (∀ r : BitVec 4, Runs (.stCtxClose r) s fun t => t.fld F.ST_CTX_CMD_result 0 0 = 0 ∧ (t.ctx i).st = .closing ∧
        (t.sess i).reason = r.toNat ∧ (t.sess i).join = none ∧ (t.ctx i).unread = 0) ∧
      Runs .stCtxKeyframe s (fun t => t.fld F.ST_CTX_CMD_result 0 0 = 0 ∧ t.ctx i = { s.ctx i with keyPend := true } ∧
        ∀ j, j ≠ i → t.sess j = s.sess j)) ∧
    ((s.ctx i).st = .free ∨ (s.ctx i).st = .closing →
      (∀ r : BitVec 4, Runs (.stCtxClose r) s fun t => t.fld F.ST_CTX_CMD_result 0 0 = 2 ∧ t.ses = s.ses) ∧
      Runs .stCtxKeyframe s (fun t => t.fld F.ST_CTX_CMD_result 0 0 = 2 ∧ t.ses = s.ses)) ∧
    (∀ p : Fin 8, (s.ctx i).st = .free → Runs (.stCtxMove p) s fun t => t.fld F.ST_CTX_CMD_result 0 0 = 2 ∧ t.ses = s.ses) ∧
    (∀ p : Fin 8, (s.ctx i).st ≠ .free →
      (p.val < s.ports → Runs (.stCtxMove p) s fun t => t.fld F.ST_CTX_CMD_result 0 0 = 0 ∧
        t.ctx i = { s.ctx i with port := p.val } ∧ ∀ j, j ≠ i → t.sess j = s.sess j) ∧
      (s.ports ≤ p.val → Runs (.stCtxMove p) s fun t => t.fld F.ST_CTX_CMD_result 0 0 = 3 ∧ t.ses = s.ses))

/-- The end and the age of sessions (R133, R136): a CLOSING session with nothing under way becomes FREE and firmware's
FIFO takes FREED; a pop of that FIFO answers its oldest entry; a sweep clears `heard` and the age of a session that
was heard, and an unheard one that is not too old ages by one. -/
def Obligations.SessionLifetime : Prop :=
  ∀ s : State,
    (∀ n : BitVec 18, (s.ctx n.toNat).st = .closing → s.sesBusy n.toNat = false →
      Runs (.sessionFreed n) s fun t => (t.ctx n.toNat).st = .free ∧ (t.sess n.toNat).join = none ∧
        (s.st.fwEv.length < 1024 → t.st.fwEv = s.st.fwEv ++ [(s.sesHandle n.toNat, (s.sess n.toNat).reason, 6)]) ∧
        ∀ j, j ≠ n.toNat → t.sess j = s.sess j) ∧
    (∀ (p : Path) (h r k : Nat) (l : List (Nat × Nat × Nat)), s.st.fwEv = (h, r, k) :: l →
      Runs (.stFwEventPop p) s fun t => t.lastRead = h ∧ t.st.fwEv = l ∧ t.st.fwLost = false ∧ t.ses = s.ses ∧
        smapFind t.holdRd (pathKey p) = some (0x3100A0, 2 ^ 31 + b2n s.st.fwLost * 2 ^ 30 + r * 2 ^ 16 + k)) ∧
    (∀ p : Path, s.st.fwEv = [] → Runs (.stFwEventPop p) s fun t => t.lastRead = 0 ∧ t.st.fwEv = [] ∧ t.ses = s.ses) ∧
    (s.mode ≠ 7 → s.st.lastSweep + s.fld F.ST_AGE_period_ms 0 0 * 1000000 ≤ s.tb → (s.ses.map (·.1)).Nodup →
      Runs .ageSweep s fun t => t.st.lastSweep = s.tb ∧ ∀ i, i ∉ s.st.upset → (s.ctx i).st ≠ .free →
        ((s.ctx i).heard = true → (t.ctx i).heard = false ∧ (t.ctx i).age = 0 ∧ (t.ctx i).st = (s.ctx i).st) ∧
        ((s.ctx i).heard = false → min 63 ((s.ctx i).age + 1) < s.fld F.ST_AGE_close 0 0 →
          min 63 ((s.ctx i).age + 1) < s.fld F.ST_AGE_quiet 0 0 →
          (t.ctx i).age = min 63 ((s.ctx i).age + 1) ∧ (t.ctx i).st = (s.ctx i).st))

/-- World datagrams in (R138, R139): the checks count their drops in their order; a datagram that passes them all, here
one that holds no record and acknowledges no tick, moves the session's replay window and marks it heard. -/
def Obligations.WorldDatagram : Prop :=
  ∀ (p : Fin 8) (a : BitVec 128) (sp : BitVec 16) (bs : List Byte) (s : State) (h i ctr : Nat),
    s.fld F.ST_CTRL_enable 0 0 ≠ 0 → s.mode ≠ 7 → h = leNat ((bs.drop 4).take 4) → i = h / 2 ^ 14 →
    ctr = leNat ((bs.drop 12).take 4) →
    (bs.length < 32 ∨ leNat (bs.take 1) ≠ 1 → Runs (.worldDatagramReceive p a sp bs) s fun t =>
      t.fld F.ST_DROP_count 0 0 = satAdd 32 (s.fld F.ST_DROP_count 0 0) 1 ∧ t.ses = s.ses) ∧
    (32 ≤ bs.length → leNat (bs.take 1) = 1 → ctr < 2 ^ 31 → i ∉ s.st.upset →
      ((s.ctx i).st = .free ∨ (s.ctx i).gen ≠ h % 2 ^ 14 → Runs (.worldDatagramReceive p a sp bs) s fun t =>
        t.fld F.ST_DROP_count 1 0 = satAdd 32 (s.fld F.ST_DROP_count 1 0) 1 ∧ t.ses = s.ses) ∧
      ((s.ctx i).gen = h % 2 ^ 14 → s.stOn i = true → (s.ctx i).st = .closing →
        Runs (.worldDatagramReceive p a sp bs) s fun t =>
          t.fld F.ST_DROP_count 2 0 = satAdd 32 (s.fld F.ST_DROP_count 2 0) 1 ∧ t.ses = s.ses) ∧
      (∀ key w, (s.ctx i).gen = h % 2 ^ 14 → s.stOn i = true → ((s.ctx i).st = .live ∨ (s.ctx i).st = .joining) →
        s.groupOf p.val = s.groupOf (s.ctx i).port → (s.ctx i).addr = a.toNat → (s.ctx i).peerPort = sp.toNat →
        (s.sesKey i (s.firstLane p.val) 2 none).1 = some key →
        gcmOpen key (toNats ((bs.take 16).drop 4)) (toNats (bs.take 16))
          (toNats (((bs.drop 16)).take ((bs.drop 16).length - 16)))
          (toNats ((bs.drop 16).drop ((bs.drop 16).length - 16))) = some [] →
        replayStep (s.sess i).anyRx (s.ctx i).high (s.ctx i).replay ctr = some w →
        leNat (((bs.take 16).drop 2).take 2) = 0xFFFF →
        Runs (.worldDatagramReceive p a sp bs) s fun t => (t.ctx i).high = w.1 ∧ (t.ctx i).replay = w.2 ∧
          (t.ctx i).heard = true ∧ (t.sess i).anyRx = true ∧ ∀ j, j ≠ i → t.sess j = s.sess j))

/-- Rounds (R143, R145, R156, R157): a due round's build opens with its slot, its window and the committed tick; a
finished build leaves, and one of a session that is no longer LIVE queues nothing; a packet that may go leaves its
queue, where none waits for its room, is counted, and is the frame last sent on its lane; a closed window drops its
session's packets and builds, where none waits for their room. -/
def Obligations.RoundSteps : Prop :=
  ∀ (n : BitVec 18) (i : Nat) (s : State), i = n.toNat →
    (∀ l, s.dueSlot i = some l → s.canBuild i = true → i ∉ s.st.upset →
      Runs (.roundBuildStart n) s fun t => (t.sess i).lastSlot = l.seq ∧
        ∃ b ∈ t.st.builds, b.ses = i ∧ b.slot = l.seq ∧ b.tick = s.fld F.TK_COMMITTED_tick 0 0 ∧
          b.opens = winOpen (s.ctx i) l ∧ b.closes = s.winClose (s.ctx i) l ∧ b.since = s.tb) ∧
    (∀ b, s.st.builds.find? (fun b => b.ses == i) = some b →
      s.queued (s.duOf i / 2) + (b.dgrams.map fun d => d.2.length + 32).sum ≤ 2 ^ 20 →
      Runs (.roundBuildComplete n) s fun t => t.st.builds = s.st.builds.filter (fun x => x.ses != i) ∧
        ((s.ctx i).st ≠ .live → t.pt.egress = s.pt.egress)) ∧
    (∀ (lane : Fin 8) (p : Pkt), s.nextPkt lane.val = some p → p.port < 8 → s.NothingWaits →
      Runs (.egressTransmit lane) s fun t => t.pt.egress = s.pt.egress.erase p ∧
        t.fld F.PT_CNT_TXFRM_count p.port 0 =
          satAdd F.PT_CNT_TXFRM_count.w (s.fld F.PT_CNT_TXFRM_count p.port 0) 1 ∧
        smapFind t.pt.lastTx p.lane = some (s.txFrame p)) ∧
    (s.NothingWaits →
      Runs (.windowClose n) s fun t =>
      t.pt.egress = s.pt.egress.filter (fun p => !(p.q == 1 && p.ses == some i && decide (p.closes ≤ s.tb))) ∧
      t.st.builds = s.st.builds.filter (fun b => !(b.ses == i && decide (b.closes ≤ s.tb))) ∧ t.ses = s.ses)

/-- The delta units (R135, R154, R158, R360): panic is raised and dropped for a DU that has, or no longer has, a near
read; a build open too long is told; the encoder table's shadow applies; a join pass whose earlier datagrams have left
ends with its last datagram, where its lane has room, and takes that datagram's counter. -/
def Obligations.DeltaUnits : Prop :=
  ∀ s : State,
    (∀ (du : Fin 16) (ch : Fin 34), bitOf (s.chan ch.val).panicDus du.val = false → s.duNear du.val ch.val = true →
      Runs (.duPanicRaise du ch) s fun t => t.fld F.CH_STATUS_panic ch.val 0 = 1 ∧
        (t.chan ch.val).panicDus = (s.chan ch.val).panicDus + 2 ^ du.val ∧
        t.fld F.DU_PANIC_count 0 0 = satAdd 16 (s.fld F.DU_PANIC_count 0 0) 1 ∧
        ∀ c, c ≠ ch.val → t.chan c = s.chan c) ∧
    (∀ (du : Fin 16) (ch : Fin 34), bitOf (s.chan ch.val).panicDus du.val = true → s.duNear du.val ch.val = false →
      Runs (.duPanicDrop du ch) s fun t => (t.chan ch.val).panicDus = (s.chan ch.val).panicDus - 2 ^ du.val ∧
        ((s.chan ch.val).panicDus = 2 ^ du.val → t.fld F.CH_STATUS_panic ch.val 0 = 0) ∧
        ∀ c, c ≠ ch.val → t.chan c = s.chan c) ∧
    (∀ (n : BitVec 18) (b : Build), s.st.builds.find? (fun b => b.ses == n.toNat) = some b → b.since + b.per < s.tb →
      Runs (.duBuildOverrun n) s fun t => Raised t 47 0 ∧ { t with faults := s.faults } = s) ∧
    Runs .duEncCommit s (fun t => ∀ f ∈ encFlds, ∀ c n, c < 16 → n < 63 →
      (∀ v, smapFind s.shadow (fldKey f c n) = some v → t.fld f c n = v % 2 ^ f.w) ∧
      (smapFind s.shadow (fldKey f c n) = none → t.fld f c n = s.fld f c n) ∧
      { t with regs := s.regs, shadow := s.shadow } = s) ∧
    (∀ (n : BitVec 18) (j : JoinSt) (k : Nat), (s.sess n.toNat).join = some j → j.k0 = some k → j.ended = false →
      (∀ p ∈ s.pt.egress, ¬ (p.ses = some n.toNat ∧ p.q = 2)) → (s.ctx n.toNat).ctr + 1 < 2 ^ 31 - 1 → j.todo = [] →
      s.laneRoom (s.laneOfSes n.toNat) (j.last.length + 32) = true →
      Runs (.joinPassEnd n) s fun t => (t.sess n.toNat).join = some { j with ended := true, last := [] } ∧
        (t.ctx n.toNat).ctr = (s.ctx n.toNat).ctr + 1)

/-! ## Lanes, ports and the timebase -/

/-- A data lane (R167, R168, R170 to R172, R218, R418): its link comes up and goes down, with its port; it is enabled,
but for FOCUS, disabled, reset, put into pattern mode and out of it; its checker locks and loses lock; flips are
injected once and by a period while it transmits; bit slips add up to 15 and are refused past that or where the
alignment is not manual. LNM's link comes up and goes down (R186). The training commands (R169): one at the expert
level, while none runs, is under way with its effect; one at the basic level, or while another runs, or a preset outside
1 to 5, is refused; completion ends it with its result. That such a preset is refused is the model's reading (log 95).
-/
def Obligations.LaneControl : Prop :=
  (∀ (lane : Fin 8) (l : Nat) (s : State), l = lane.val → s.laneOn l = true →
     (s.fld F.LN_CTRL_enable l 0 ≠ 0 → s.fld F.LN_STATUS_retired l 0 = 0 → s.fld F.LN_ALIGN_manual l 0 = 0 →
       s.fld F.LN_PAT_CTRL_mode l 0 = 0 → s.pwr.tripped = false →
       Runs (.laneLinkUp lane) s fun t => t.fld F.LN_STATUS_up l 0 = 1 ∧ t.fld F.LN_STATUS_train l 0 = 5 ∧
         t.fld F.LN_ALIGN_locked l 0 = 1 ∧
         (s.portPresent (s.portOf l) = true → s.fld F.PT_PORT_GRP_enable (s.portOf l) 0 ≠ 0 →
           (∀ k ∈ s.lanesOf (s.portOf l), k ≠ l → s.fld F.LN_STATUS_up k 0 ≠ 0) →
           t.fld F.PT_PORT_STATUS_up (s.portOf l) 0 = 1)) ∧
     (s.fld F.LN_STATUS_up l 0 ≠ 0 →
       Runs (.laneLinkDown lane) s fun t => t.fld F.LN_STATUS_up l 0 = 0 ∧ Raised t (34 + l) 0 ∧
         t.fld F.LN_FLAPS_count l 0 = satAdd F.LN_FLAPS_count.w (s.fld F.LN_FLAPS_count l 0) 1 ∧
         t.fld F.PT_PORT_STATUS_up (s.portOf l) 0 = 0) ∧
     (s.fld F.LN_STATUS_retired l 0 = 0 →
       (s.fld F.LN_CTRL_enable l 0 = 0 → s.mode ≠ 1 → Runs (.laneEnable lane true) s fun t =>
         t.fld F.LN_CTRL_enable l 0 = 1 ∧ t.fld F.LN_STATUS_up l 0 = 0 ∧ t.fld F.LN_STATUS_train l 0 = startState s l) ∧
       (s.mode = 1 → Runs (.laneEnable lane true) s fun t => t = s) ∧
       Runs (.laneEnable lane false) s (fun t => t.fld F.LN_CTRL_enable l 0 = 0 ∧ t.fld F.LN_STATUS_up l 0 = 0 ∧
         t.fld F.LN_STATUS_train l 0 = 0)) ∧
     (s.fld F.LN_CTRL_enable l 0 ≠ 0 → Runs (.pmaReset lane) s fun t => t.fld F.LN_STATUS_up l 0 = 0 ∧
       t.fld F.LN_STATUS_train l 0 = startState s l) ∧
     (s.fld F.PT_PORT_GRP_enable (s.portOf l) 0 = 0 →
       (s.fld F.LN_PAT_CTRL_mode l 0 = 0 → Runs (.patternModeSet lane true) s fun t =>
         t.fld F.LN_PAT_CTRL_mode l 0 = 1 ∧ t.fld F.LN_PAT_ERR_errors l 0 = 0 ∧ t.fld F.LN_PAT_STATUS_lock l 0 = 0 ∧
         (s.fld F.LN_CTRL_enable l 0 ≠ 0 → t.fld F.LN_STATUS_train l 0 = 6 ∧ t.fld F.LN_STATUS_up l 0 = 0)) ∧
       (s.fld F.LN_PAT_CTRL_mode l 0 ≠ 0 → Runs (.patternModeSet lane true) s fun t => t = s)) ∧
     (s.fld F.PT_PORT_GRP_enable (s.portOf l) 0 ≠ 0 → Runs (.patternModeSet lane true) s fun t =>
       t.fld F.LN_PAT_STATUS_refused l 0 = 1 ∧ OnlyRegs s t [fldKey F.LN_PAT_STATUS_refused l 0]) ∧
     (s.fld F.LN_PAT_CTRL_mode l 0 ≠ 0 →
       Runs (.patternModeSet lane false) s (fun t => t.fld F.LN_PAT_CTRL_mode l 0 = 0 ∧ t.fld F.LN_PAT_STATUS_lock l 0 = 0) ∧
       (s.fld F.LN_CTRL_enable l 0 ≠ 0 → s.fld F.LN_PAT_STATUS_lock l 0 = 0 → Runs (.checkerLock lane) s fun t => t.fld F.LN_PAT_STATUS_lock l 0 = 1 ∧
         smapFind t.pt.patAt l = some s.tb ∧ OnlyRegs { s with pt := t.pt } t [fldKey F.LN_PAT_STATUS_lock l 0])) ∧
     (s.fld F.LN_PAT_STATUS_lock l 0 ≠ 0 → Runs (.checkerLockLoss lane) s fun t => t.fld F.LN_PAT_STATUS_lock l 0 = 0 ∧
       satAdd F.LN_PAT_ERR_errors.w (s.fld F.LN_PAT_ERR_errors l 0) 64 ≤ t.fld F.LN_PAT_ERR_errors l 0 ∧
       satAdd F.LN_PAT_BITS_bits.w (s.fld F.LN_PAT_BITS_bits l 0) 64 ≤ t.fld F.LN_PAT_BITS_bits l 0) ∧
     (s.txOn l = true → Runs (.errorInject lane) s fun t => t.flipped l = s.flipped l + 1 ∧ { t with pt := s.pt } = s) ∧
     (s.txOn l = false → Runs (.errorInject lane) s fun t => t = s) ∧
     (∀ p : BitVec 6, Runs (.periodicErrorInject lane p) s fun t => t.fld F.LN_PAT_CTRL_inject_period l 0 = p.toNat ∧
       t.flipped l = s.flipped l ∧ smapFind t.pt.injectAt l = (if p ≠ 0 ∧ s.txOn l then some s.tb else none)) ∧
     (∀ c : BitVec 4, c ≠ 0 →
       (s.fld F.LN_ALIGN_manual l 0 ≠ 0 → s.slipsLeft l + c.toNat ≤ 15 →
         Runs (.bitSlip lane c) s fun t => t.slipsLeft l = s.slipsLeft l + c.toNat ∧ t.fld F.LN_ALIGN_err l 0 = s.fld F.LN_ALIGN_err l 0) ∧
       (s.fld F.LN_ALIGN_manual l 0 = 0 ∨ 15 < s.slipsLeft l + c.toNat →
         Runs (.bitSlip lane c) s fun t => t.fld F.LN_ALIGN_err l 0 = 1 ∧ OnlyRegs s t [fldKey F.LN_ALIGN_err l 0]))) ∧
  (∀ s : State,
     (s.pwr.tripped = false → s.inReset = false →
       Runs .lnmLinkUp s fun t => t.fld F.LN_STATUS_up 8 0 = 1 ∧ t.fld F.LN_STATUS_train 8 0 = 5) ∧
     (s.fld F.LN_STATUS_up 8 0 ≠ 0 → Runs .lnmLinkDown s fun t => t.fld F.LN_STATUS_up 8 0 = 0 ∧ Raised t 42 0 ∧
       t.fld F.LN_FLAPS_count 8 0 = satAdd F.LN_FLAPS_count.w (s.fld F.LN_FLAPS_count 8 0) 1)) ∧
  (∀ (lane : Fin 8) (l : Nat) (s : State), l = lane.val → s.laneOn l = true →
     (s.fld F.LN_TRAIN_CMD_busy l 0 = 0 → smapGet 0 s.pt.level l ≠ 0 →
       Runs (.trainFreeze lane) s (fun t => Training t l 1 ∧ l ∈ t.pt.frozen) ∧
       Runs (.trainRelease lane) s (fun t => Training t l 2 ∧ l ∉ t.pt.frozen) ∧
       Runs (.trainAdaptPass lane) s (fun t => Training t l 3 ∧ l ∉ t.pt.frozen) ∧
       Runs (.trainApplyTxfir lane) s (fun t => Training t l 4 ∧ smapFind t.pt.fir l = some (txfir s l)) ∧
       (∀ p : BitVec 4, 1 ≤ p.toNat → p.toNat ≤ 5 → Runs (.trainPreset lane p) s fun t => Training t l 5) ∧
       Runs (.trainRestart lane) s (fun t => Training t l 6 ∧ t.fld F.LN_STATUS_up l 0 = 0)) ∧
     (s.fld F.LN_TRAIN_CMD_busy l 0 ≠ 0 ∨ smapGet 0 s.pt.level l = 0 →
       ∀ c ∈ [Instr.trainFreeze lane, .trainRelease lane, .trainAdaptPass lane, .trainApplyTxfir lane, .trainRestart lane],
         Runs c s fun t => t.fld F.LN_TRAIN_CMD_result l 0 = 1 ∧ OnlyRegs s t [fldKey F.LN_TRAIN_CMD_result l 0]) ∧
     (∀ p : BitVec 4, s.fld F.LN_TRAIN_CMD_busy l 0 ≠ 0 ∨ smapGet 0 s.pt.level l = 0 ∨ p = 0 ∨ 5 < p.toNat →
       Runs (.trainPreset lane p) s fun t => t.fld F.LN_TRAIN_CMD_result l 0 = 1 ∧
         OnlyRegs s t [fldKey F.LN_TRAIN_CMD_result l 0]) ∧
     (∀ (op : Nat) (late : Bool), smapFind s.pt.trainOp l = some op →
       Runs (.trainCommandComplete lane late) s fun t => t.fld F.LN_TRAIN_CMD_busy l 0 = 0 ∧
         t.fld F.LN_TRAIN_CMD_result l 0 = (if late then 2 else 0) ∧ smapFind t.pt.trainOp l = none ∧
         (op = 3 → late = false → l ∈ t.pt.frozen)))

/-- Ports (R161, R174 to R178, R180, R184): the configuration changes while no lane is enabled; a port enters and leaves
distribution; a received frame is counted, dropped for its length, its FCS, as a PAUSE or PFC frame or for the first
check it fails, delivered to the sessions, or held for firmware with its time at the balls; firmware takes and sends
frames, reads timestamps, and clears the counters. The policer's bucket (log 97) and the lengths a firmware frame can be
sent with (log 100, 197) are the model's choices. -/
def Obligations.PortsAndFrames : Prop :=
  ∀ s : State,
    (∀ v : Word32,
      ((∀ l, l < lanes s.part → s.fld F.LN_CTRL_enable l 0 = 0) → v.toNat % 4 ≠ 3 →
        Runs (.ptCfgWrite v) s fun t => t.fld F.PT_CFG_mode 0 0 = v.toNat % 4) ∧
      (∀ l, l < lanes s.part → s.fld F.LN_CTRL_enable l 0 ≠ 0 → Runs (.ptCfgWrite v) s fun t =>
        t.fld F.PT_CFG_err 0 0 = 1 ∧ OnlyRegs s t [fldKey F.PT_CFG_err 0 0])) ∧
    (∀ p : Fin 8, s.portPresent p.val = true →
      (s.fld F.PT_PORT_STATUS_up p.val 0 ≠ 0 → s.fld F.PT_PORT_GRP_enable p.val 0 ≠ 0 →
        (∀ q ∈ s.members? (s.groupOf p.val), s.sameVlan p.val q = true) →
        Runs (.ptDistWrite p true) s fun t => t.fld F.PT_PORT_GRP_dist p.val 0 = 1 ∧ t.fld F.PT_PORT_STATUS_dist p.val 0 = 1) ∧
      Runs (.ptDistWrite p false) s (fun t => t.fld F.PT_PORT_GRP_dist p.val 0 = 0 ∧ t.fld F.PT_PORT_STATUS_dist p.val 0 = 0)) ∧
    (∀ (lane : Fin 8) (raw bs : List Byte) (p : Nat) (u : State), p = s.portOf lane.val → bs = raw.take (raw.length - 4) →
      u = (s.addFld F.PT_CNT_RXFRM_count p 0 1).addFld F.PT_CNT_RXBYTE_count p 0 raw.length →
      s.laneOn lane.val = true → s.fld F.PT_PORT_STATUS_up p 0 ≠ 0 → s.mode ≠ 7 →
      (raw.length < 64 → Runs (.frameReceive lane raw) s fun t =>
        t.fld F.PT_CNT_UNDER_count p 0 = satAdd 32 (s.fld F.PT_CNT_UNDER_count p 0) 1 ∧
        OnlyRegs s t [fldKey F.PT_CNT_UNDER_count p 0]) ∧
      (9216 < raw.length ∨ clampNat 576 9194 (s.fld F.PT_GRP_MTU_bytes (s.groupOf p) 0) + 22 < raw.length → 64 ≤ raw.length →
        Runs (.frameReceive lane raw) s fun t =>
          t.fld F.PT_CNT_OVER_count p 0 = satAdd 32 (s.fld F.PT_CNT_OVER_count p 0) 1 ∧
          OnlyRegs s t [fldKey F.PT_CNT_OVER_count p 0]) ∧
      (64 ≤ raw.length → raw.length ≤ 9216 → raw.length ≤ clampNat 576 9194 (s.fld F.PT_GRP_MTU_bytes (s.groupOf p) 0) + 22 →
        (leNat (raw.drop (raw.length - 4)) ≠ crcEth bs → Runs (.frameReceive lane raw) s fun t =>
          t.fld F.PT_CNT_FCSERR_count p 0 = satAdd 32 (s.fld F.PT_CNT_FCSERR_count p 0) 1 ∧
          OnlyRegs s t [fldKey F.PT_CNT_FCSERR_count p 0]) ∧
        (leNat (raw.drop (raw.length - 4)) = crcEth bs → flowControl bs = true → Runs (.frameReceive lane raw) s fun t =>
          t.fld F.PT_CNT_PAUSE_count p 0 = satAdd 32 (s.fld F.PT_CNT_PAUSE_count p 0) 1 ∧
          OnlyRegs s t [fldKey F.PT_CNT_PAUSE_count p 0]) ∧
        (leNat (raw.drop (raw.length - 4)) = crcEth bs → flowControl bs = false →
          (∀ k, u.parse p bs = .error k → Runs (.frameReceive lane raw) s fun t =>
            t.fld F.PT_DROP_count p k = satAdd 32 (u.fld F.PT_DROP_count p k) 1 ∧
            OnlyRegs u t [fldKey F.PT_DROP_count p k]) ∧
          (u.parse p bs = .ok .firmware →
            (u.fwRoom (u.firstLane p) bs.length = true → u.policeLack p + 1000000 ≤ 64000000 →
              Runs (.frameReceive lane raw) s fun t => { t with pt := s.pt } = { s with regs := u.regs } ∧
                smapFind t.pt.fwRx (u.firstLane p) = some (u.fwHeld (u.firstLane p) ++
                  [(bs, u.ballRx lane.val / 2 ^ 32, p)])) ∧
            (u.fwRoom (u.firstLane p) bs.length = false ∨ 64000000 < u.policeLack p + 1000000 →
              Runs (.frameReceive lane raw) s fun t => t.fld F.PT_DROP_count p 9 = satAdd 32 (u.fld F.PT_DROP_count p 9) 1 ∧
                OnlyRegs u t [fldKey F.PT_DROP_count p 9])) ∧
          (u.parse p bs = .ok .world → Runs (.frameReceive lane raw) s fun t =>
            t = u.worldReceive p (leNat (ipSrc bs)) (beAt bs (udpOff bs) 2) ((udpBytes bs).drop 8))))) ∧
    (∀ lane : Fin 8, Runs (.fwrxPop lane) s fun t => t.fwHeld lane.val = (s.fwHeld lane.val).tail ∧ t.pt.fwPos = 0 ∧
      t.fld F.PT_FWRX_CMD_lane 0 0 = lane.val) ∧
    (∀ (v : Word32) (n p : Nat), n = bitsOf v.toNat 0 14 → p = bitsOf v.toNat 14 3 → v.getLsbD 31 = true →
      s.portPresent p = true → 60 ≤ n → n ≤ 9212 → s.queued (s.firstLane p) + n ≤ 1048576 →
      Runs (.fwtxSend v) s fun t => t.pt.fwTx = [] ∧ t.pt.egress = s.pt.egress ++
        [{ lane := s.firstLane p, q := 0, port := p, bytes := s.fwFrame n,
           oneStep := v.getLsbD 29, twoStep := v.getLsbD 28 }]) ∧
    (∀ (path : Path) (e : Nat × Nat × Nat) (l : List (Nat × Nat × Nat)), s.pt.txTs = e :: l →
      Runs (.txtsPop path) s fun t => t.pt.txTs = l ∧ (smapFind s.holdRd (pathKey path) = none → t.lastRead = e.1 / 2 ^ 32)) ∧
    (∀ p : Fin 8, Runs (.ptPortClr p) s fun t =>
      (∀ f ∈ [F.PT_CNT_RXFRM_count, F.PT_CNT_RXBYTE_count, F.PT_CNT_TXFRM_count, F.PT_CNT_TXBYTE_count,
        F.PT_CNT_FCSERR_count, F.PT_CNT_UNDER_count, F.PT_CNT_OVER_count, F.PT_CNT_PAUSE_count],
        t.fld f p.val 0 = 0) ∧ (∀ n, n < 10 → t.fld F.PT_DROP_count p.val n = 0) ∧ { t with regs := s.regs } = s)

/-- The timebase (R3, R181, R183, R185): the increment is held to ±1,000 ppm; a step is refused where the count would
leave its range and, backwards, in SERVE; a slew adds to the remainder, held to a second; pulses; the loss and return of
a clock the part has. In reset nothing passes; else a cycle with no slew left adds `TB_INCR` in units of 2^-32 ns to the
count, and where no record and no datagram waits no strand, byte of memory or operation has changed. That a step of an
empty queue is a cycle is the model's choice (log 2). -/
def Obligations.TimebaseSteps : Prop :=
  (∀ s : State,
     (∀ v : Word32, Runs (.tbIncrWrite v) s fun t =>
       t.fld F.TB_INCR_incr 0 0 = max 3432537863 (min 3439409811 v.toNat) ∧ OnlyRegs s t [fldKey F.TB_INCR_incr 0 0]) ∧
     (∀ v : Word64,
       (s.mode = 3 → v.toInt < 0 → Runs (.tbStep v) s fun t => t.fld F.TB_STATUS_step_refused 0 0 = 1 ∧ Raised t 43 0 ∧
         t.tb = s.tb) ∧
       (s.mode ≠ 3 ∨ 0 ≤ v.toInt →
         ((s.tb : Int) + v.toInt < 0 ∨ 2 ^ 64 ≤ (s.tb : Int) + v.toInt → Runs (.tbStep v) s fun t =>
           t.fld F.TB_STATUS_step_refused 0 0 = 1 ∧ t.tb = s.tb) ∧
         (0 ≤ (s.tb : Int) + v.toInt → (s.tb : Int) + v.toInt < 2 ^ 64 → Runs (.tbStep v) s fun t =>
           (t.tb : Int) = s.tb + v.toInt ∧ { t with tb := s.tb, fc := { t.fc with tbBack := s.fc.tbBack } } = s))) ∧
     (∀ v : Word32, Runs (.tbSlew v) s fun t =>
       t.slewLeft = max (-1000000000) (min 1000000000 (s.slewLeft + max (-1000000000) (min 1000000000 v.toInt))) ∧
       (t.slewLeft ≠ 0 → t.fld F.TB_STATUS_slewing 0 0 = 1) ∧ t.tb = s.tb) ∧
     (s.slewLeft = 0 → Runs .tbSlewComplete s fun t => t.fld F.TB_STATUS_slewing 0 0 = 0 ∧ t.slewLeft = 0 ∧ t.tb = s.tb) ∧
     (s.fld F.TB_PPS_out_en 0 0 ≠ 0 → s.tb % 1000000000 = 0 → s.pwr.tripped = false → Runs .ppsOut s fun t =>
       t.ppsHigh = s.tb + max 1 (min 900 (s.fld F.TB_PPS_width_ms 0 0)) * 1000000 ∧ { t with ppsHigh := s.ppsHigh } = s) ∧
     ((∀ u, s.ppsLast = some u → u + 500000000 ≤ s.tb) → Runs .ppsIn s fun t => t.ppsLast = some s.tb ∧
       t.fld F.TB_PPS_IN_ns 0 0 = s.tb % 2 ^ 64 ∧ t.fld F.TB_STATUS_pps_in 0 0 = 1) ∧
     (∀ c : Refclk, s.clkLost.contains (clkCode c) = false → s.inReset = false → (c = .b → s.part ≠ .tkw3209) → Runs (.refclkLoss c) s fun t => Raised t 57 (clkCode c) ∧
       clkCode c ∈ t.clkLost ∧ (c = .tb → t.fld F.TB_STATUS_backup 0 0 = 1) ∧
       (c = .a → ∀ l, l < 4 → t.fld F.LN_STATUS_up l 0 = 0) ∧ (c = .b → ∀ l, 4 ≤ l → l < 8 → t.fld F.LN_STATUS_up l 0 = 0) ∧
       (c = .m → t.fld F.LN_STATUS_up 8 0 = 0)) ∧
     (s.part = .tkw3209 → Runs (.refclkLoss .b) s fun t => t = s) ∧
     Runs .refclkTbReturn s (fun t => t.fld F.TB_STATUS_backup 0 0 = 0 ∧ 0 ∉ t.clkLost ∧ t.tb = s.tb)) ∧
  (∀ s : State, s.pending = [] → s.inReset = true → step s = .next s) ∧
  (∀ s : State, s.pending = [] → s.inReset = false → s.slewLeft = 0 → s.pm.staging = [] → s.NothingWaits →
     (∀ e ∈ s.ses, ∀ j, e.2.join = some j → j.due = false) →
     s.tb * 2 ^ 32 + s.tbFrac + s.fld F.TB_INCR_incr 0 0 < 2 ^ 96 →
     ∃ t, step s = .next t ∧ t.tb * 2 ^ 32 + t.tbFrac = s.tb * 2 ^ 32 + s.tbFrac + s.fld F.TB_INCR_incr 0 0 ∧
       t.strands = s.strands ∧ t.dram = s.dram ∧ t.scratch = s.scratch ∧ t.ops = s.ops)

/-! ## The management port -/

/-- Refusals (R187, R197, R198): a frame that does not arrive changes nothing but a count; one that comes while a
command before it waits is held, or answered BUSY where eight are; one that arrives otherwise and fails a check is
refused with the status of the first check it fails: of the frame itself, of its authentication, of the command's own.
Only a frame that passes authentication moves MG_SEQ. An ARP request for LNM's address is answered where firmware serves
it. -/
def Obligations.ManagementRefusals : Prop :=
  (∀ (k : Frame → Instr) (c : Cmd), MgCommand k c → ∀ (f : Frame) (s : State),
    (s.arrives f (c.code == 1) = false → Runs (k f) s fun t => { t with mg := s.mg } = s ∧ t.mg.resp = s.mg.resp) ∧
    (s.arrives f (c.code == 1) = true → s.behindSlot = true →
      (s.framesHeld < 8 → Runs (k f) s fun t => t = { s with mg := { s.mg with waitFrames := s.mg.waitFrames ++ [(c.code, f)] } }) ∧
      (8 ≤ s.framesHeld → Runs (k f) s fun t => Refused s t f c.code 0x21)) ∧
    (s.arrives f (c.code == 1) = true → s.behindSlot = false →
    (∀ st, frameBad c.code f = some st → Runs (k f) s fun t => Refused s t f c.code st ∧
      t.fld F.MG_SEQ_seq 0 0 = s.fld F.MG_SEQ_seq 0 0) ∧
    (frameBad c.code f = none → s.authentic c.code f = false → Runs (k f) s fun t =>
      Refused s t f c.code 0x14 ∧ t.fld F.MG_SEQ_seq 0 0 = s.fld F.MG_SEQ_seq 0 0) ∧
    (frameBad c.code f = none → s.authentic c.code f = true → ∀ st, (s.consume f).cmdBad c f = some st →
      Runs (k f) s fun t => Refused (s.consume f) t f c.code st ∧
        t.fld F.MG_SEQ_seq 0 0 = if unauth f then s.fld F.MG_SEQ_seq 0 0 else f.seq.toNat))) ∧
  (∀ (f : Frame) (s : State), s.arrives f (f.code == 1) = true →
    Runs (.mgmtQueueFull f) s fun t => Refused s t f f.code.toNat 0x21) ∧
  (∀ (f : Frame) (s : State), s.arpAsked f = true → Runs (.badCommandFrame f) s fun t => t = s.arpReply f) ∧
  (∀ (f : Frame) (s : State), s.arrives f false = true → s.behindSlot = false →
    (∀ st, frameBad f.code.toNat f = some st → Runs (.badCommandFrame f) s fun t => Refused s t f f.code.toNat st) ∧
    (frameBad f.code.toNat f = none → s.authentic f.code.toNat f = false →
      Runs (.badCommandFrame f) s fun t => Refused s t f f.code.toNat 0x14) ∧
    (frameBad f.code.toNat f = none → s.authentic f.code.toNat f = true → codeDefined f.code.toNat = false →
      Runs (.badCommandFrame f) s fun t => Refused (s.consume f) t f f.code.toNat 0x10))

/-- The commands on registers and memory (R202, R203), accepted: REG_READ answers the words in ascending order,
REG_MODIFY the old word, with the masked bits written; a write that a block refuses is refused MODE_CONFLICT, and one
that commits a slot table of a running channel waits, with what is left of it, for the frame boundary (the wait is the
model's choice, log 163); MEM_READ and MEM_WRITE answer with the data or with the offset of the first bad granule. The
session commands (R204), accepted, act as the context commands do, on the session they name. -/
def Obligations.RegisterMemorySessionCommands : Prop :=
  (∀ (f : Frame) (s u : State), u = s.consume f →
     (Accepts s regReadCmd f noLate → Runs (.regRead f) s fun t => Noted t u f 0x08 0 ∧
       Answers t u f 0x08 0 (regWords (argU f 4 2) (argU f 0 4) u []).1) ∧
     (∀ x, x = regPuts ((List.range (argU f 4 2)).map fun k => argU f (8 + 4 * k) 4) (argU f 0 4) u →
       Accepts s regWriteCmd f noLate →
       (x.1 = .done → Runs (.regWrite f) s fun t => Answers t u f 0x09 0 [] ∧ t.regs = x.2.regs ∧ t.shadow = x.2.shadow) ∧
       (x.1 = .refused → Runs (.regWrite f) s fun t => Refused x.2 t f 0x09 0x20) ∧
       (∀ c n ws, x.1 = .waits c n ws → Runs (.regWrite f) s fun t =>
         t.mg.slotWaits = x.2.mg.slotWaits ++ [⟨f, 0x09, c, n, ws, []⟩] ∧ t.regs = x.2.regs ∧ t.shadow = x.2.shadow)) ∧
     (∀ x y, x = u.regRead .mgmt (argU f 0 4) →
       y = regPuts [maskIn x.1 (argU f 4 4) (argU f 8 4)] (argU f 0 4) x.2 → Accepts s regModifyCmd f noLate →
       (y.1 = .done → Runs (.regModify f) s fun t => Answers t u f 0x0A 0 (leBytes 4 x.1) ∧ t.regs = y.2.regs ∧
         t.shadow = y.2.shadow) ∧
       (y.1 = .refused → Runs (.regModify f) s fun t => Refused y.2 t f 0x0A 0x20) ∧
       (∀ c n ws, y.1 = .waits c n ws → Runs (.regModify f) s fun t =>
         t.mg.slotWaits = y.2.mg.slotWaits ++ [⟨f, 0x0A, c, n, ws, leBytes 4 x.1⟩] ∧ t.regs = y.2.regs)) ∧
     (∀ x, x = memBytes (argU f 8 2 / 64 + 2) u (argU f 0 8) 0 (argU f 8 2) [] → Accepts s memReadCmd f noLate →
       (∀ bs, x.1 = .ok bs → Runs (.memRead f) s fun t => Noted t u f 0x20 0 ∧ Answers t u f 0x20 0 bs ∧
         { t with mg := x.2.mg } = x.2) ∧
       (∀ off, x.1 = .error off → Runs (.memRead f) s fun t => Noted t u f 0x20 0x30 ∧
         Answers t u f 0x20 0x30 (leBytes 4 off) ∧ { t with mg := x.2.mg } = x.2)) ∧
     (∀ x, x = memPuts (granPieces ((f.arg.drop 16).length / 64 + 2) (argU f 0 8) (f.arg.drop 16)) 0 u none →
       Accepts s memWriteCmd f noLate →
       (x.1 = none → Runs (.memWrite f) s fun t => Noted t u f 0x21 0 ∧ Answers t u f 0x21 0 [] ∧ t.dram = x.2.dram ∧
         t.strands = u.strands) ∧
       (∀ off, x.1 = some off → Runs (.memWrite f) s fun t => Answers t u f 0x21 0x30 (leBytes 4 off) ∧ t.dram = x.2.dram))) ∧
  (∀ (f : Frame) (s u : State) (i : Nat), u = s.consume f →
     (∀ key c b, i = argU f 0 4 → Accepts s sesCreateCmd f (fun s => s.wrapBad f 72) → u.unwrap f 72 = some key →
       c = ctxOf ((List.range 16).map fun k => leAt ((f.arg.drop 8).take 64) (4 * k) 4) → (u.ctx i).st = .free →
       c.ringZ ≤ 4 → c.home < logicals u.part → c.port < u.ports → u.ringAlloc c.home c.ringZ = some b →
       Runs (.sesCreate f) s fun t => (t.ctx i).st = .joining ∧ (t.ctx i).ringBase = b ∧ (t.ctx i).home = c.home ∧
         Answers t u f 0x28 0 (leBytes 4 (t.sesHandle i)) ∧ ∀ j, j ≠ i → t.sess j = u.sess j) ∧
     (i = argU f 0 4 / 2 ^ 14 → (u.ctx i).st ≠ .free → (u.ctx i).st ≠ .closing →
       (Accepts s sesCloseCmd f noLate → Runs (.sesClose f) s fun t => Answers t u f 0x29 0 [] ∧ (t.ctx i).st = .closing ∧
         (t.sess i).reason = argU f 4 1) ∧
       (Accepts s sesMoveCmd f noLate → Runs (.sesMove f) s fun t => Answers t u f 0x2A 0 [] ∧
         t.ctx i = { u.ctx i with port := argU f 4 1 } ∧ ∀ j, j ≠ i → t.sess j = u.sess j) ∧
       (Accepts s sesKeyframeCmd f noLate → Runs (.sesKeyframe f) s fun t => Answers t u f 0x2B 0 [] ∧
         t.ctx i = { u.ctx i with keyPend := true } ∧ ∀ j, j ≠ i → t.sess j = u.sess j)) ∧
     (Accepts s sesReadCmd f noLate → Runs (.sesRead f) s fun t => Noted t u f 0x2C 0 ∧
       Answers t u f 0x2C 0 ((u.ctx (argU f 0 4)).words.flatMap fun w => leBytes 4 w) ∧ t.ses = u.ses))

/-- Identity, keys, events and the Negative (R190 to R194, R199, R201, R204, R210, R211), accepted. Images, resets and
rates (R205 to R209, R221), accepted. A transfer opens, takes its data in order and closes into its verification,
whose result ends the long command; a transfer without data for 10 s is dropped. -/
def Obligations.KeyEventAndImageCommands : Prop :=
  (∀ (f : Frame) (s u : State), u = s.consume f →
     (Accepts s identifyCmd f noLate → Runs (.identify f) s fun t => Noted t u f 0x01 0 ∧ Answers t u f 0x01 0 u.identity) ∧
     (∀ p, u.mg.polls.find? (fun p => p.seq == argU f 0 8) = some p → Accepts s pollCmd f noLate →
       Runs (.poll f) s fun t => ∃ w, Answers t u f 0x50 0 (leBytes 1 p.status ++ leBytes 1 p.code ++ leBytes 2 0 ++ leBytes 4 w)) ∧
     (Accepts s provisionCmd f noLate → Runs (.provisionKey f) s fun t => Answers t u f 0x02 1 [] ∧
       t.nv.keyWrite = some (0, f.arg) ∧ t.mg.long = some (f.seq.toNat, 0x02) ∧ t.nv.keys = u.nv.keys) ∧
     (∀ k key, u.nextKeySlot = some k → u.unwrap f 0 = some key → Accepts s rotateCmd f (fun s => s.wrapBad f 0) →
       Runs (.rotateKey f) s fun t => Answers t u f 0x03 1 [] ∧ t.nv.keyWrite = some (k, key) ∧
         t.mg.long = some (f.seq.toNat, 0x03)) ∧
     (∀ k key, s.nv.keyWrite = some (k, key) → Runs .keySlotCommit s fun t => smapFind t.nv.keys k = some key ∧
       t.nv.keyWrite = none ∧ t.mg.long = none) ∧
     (∀ key, u.unwrap f 0 = some key → Accepts s snapKeyCmd f (fun s => s.wrapBad f 0) →
       Runs (.snapKey f) s fun t => Answers t u f 0x30 0 [] ∧ ∀ k, k < 8 → t.fld F.SNAP_KEY_key k 0 = leAt key (4 * k) 4) ∧
     (Accepts s titleKeyCmd f noLate → Runs (.titleKeySet f) s fun t => Answers t u f 0x1B 0 [] ∧ t.mg.opKey = some f.arg) ∧
     (Accepts s dumpInfoCmd f noLate → Runs (.dumpInfo f) s fun t =>
       Answers t u f 0x38 0 (leBytes 1 (b2n u.negWhole.1) ++ leBytes 3 0 ++ leBytes 4 u.negWhole.2.1)) ∧
     (∀ x bs, x = memBytes (argU f 4 2 / 64 + 2) u (negAddr (argU f 0 4)) 0 (argU f 4 2) [] → x.1 = .ok bs →
       Accepts s dumpReadCmd f noLate → Runs (.dumpRead f) s fun t => Answers t u f 0x39 0 bs) ∧
     (Accepts s dumpClearCmd f noLate → Runs (.dumpClear f) s fun t => Answers t u f 0x3A 0 [] ∧
       t.dram = (u.negPut 0x3C (leBytes 4 0xFFFFFFFF)).dram) ∧
     (∀ n, n = argU f 0 1 → Accepts s eventReadCmd f noLate → Runs (.eventRead f) s fun t =>
       Answers t u f 0x40 0 (leBytes 1 (u.mg.events.take n).length ++ leBytes 1 (min 255 u.mg.lost) ++ leBytes 2 0 ++
         (u.mg.events.take n).flatten) ∧
       t.mg.events = u.mg.events.drop n ∧ t.fld F.MG_EVENTS_queued 0 0 = (u.mg.events.length - n) % 512)) ∧
  (∀ (f : Frame) (s u : State), u = s.consume f →
     (Accepts s imageBeginCmd f noLate → Runs (.imageBegin f) s fun t => Answers t u f 0x18 0 [] ∧
       t.mg.image = some { kind := argU f 0 1, total := argU f 4 4, got := 0, last := s.tb } ∧ t.dram = u.dram) ∧
     (∀ x, u.mg.image = some x → Accepts s imageDataCmd f noLate → Runs (.imageData f) s fun t => Answers t u f 0x19 0 [] ∧
       t.mg.image = some { x with got := x.got + (f.arg.drop 4).length, last := s.tb }) ∧
     (∀ x, u.mg.image = some x → Accepts s imageEndCmd f State.imageShort → Runs (.imageEnd f) s fun t =>
       Answers t u f 0x1A 1 [] ∧ t.mg.image = none ∧ t.mg.verify = some (x.kind, x.total) ∧
       t.mg.long = some (f.seq.toNat, 0x1A)) ∧
     (∀ n r bs, s.mg.verify = some (1, n) → s.mode = 0 → bs = s.rdScratch 34 stageAt n →
       r = s.firmwareResult bs → Runs .imageVerifyComplete s fun t =>
         (r ≠ 1 → t.fld F.GLOBAL_BOOT_result 0 0 = r ∧ t.mg.verify = none ∧ t.mg.long = none ∧ Raised t 55 1 ∧
           t.strands = s.strands) ∧
         (r = 1 → s.fld F.GLOBAL_BOOT_boot_sel 0 0 ≠ 0 → t.fld F.GLOBAL_BOOT_result 0 0 = 1 ∧
           t.fld F.GLOBAL_BOOT_fw_running 0 0 = 1 ∧ t.mg.verify = none ∧ t.mg.long = none ∧
           (t.strand 34 0).st = .ready ∧ (t.strand 34 0).title = false)) ∧
     (∀ x, s.mg.image = some x → x.last + 10000000000 ≤ s.tb → Runs .imageTransferTimeout s fun t => t.mg.image = none ∧
       { t with mg := s.mg } = s) ∧
     (Accepts s resetCmd f noLate → Runs (.reset f) s fun t => Answers t u f 0x11 0 [] ∧
       t.mg.reset = some (argU f 0 1, s.tb + 100000)) ∧
     (Accepts s chRateCmd f noLate → s.mode = 0 → Runs (.chRate f) s fun t => t.mg.long = none ∧
       (∀ g i j, fldKey g i j ≠ fldKey F.MG_QUEUE_long_code 0 0 → t.fld g i j = u.fld g i j) ∧
       ∀ l, smapGet 0 t.mg.rates l = if l ∈ rateList (argU f 0 4) then argU f 4 1 else smapGet 0 u.mg.rates l))

/-- Register access by address (R7, R8, R379): an address of no register, or of a block without power, changes nothing;
a channel engine reads no performance-monitor register, and writes none that only the SV writes (the model's choice, log
23); the low word of a pair is held for its path, on a write as on a read, where the high word follows (what a lane
counts and shows is brought up to date first: the model's choice, logs 96 and 188); a plain register's fields take what
their access code says. -/
def Obligations.RegisterAccess : Prop :=
  ∀ (p : Path) (a v : Word32) (s : State),
    (s.blkLive a.toNat = false ∨ regAt a.toNat = none →
      Runs (.registerWrite p a v) s (fun t => t = s) ∧ Runs (.pairLowRead p a) s (fun t => t = { s with lastRead := 0 })) ∧
    (regSeen p a.toNat = false → Runs (.pairLowRead p a) s (fun t => t = { s with lastRead := 0 })) ∧
    (∀ r i j, s.blkLive a.toNat = true → regAt a.toNat = some (r, i, j, 0) →
      (r.wide = true →
        Runs (.registerWrite p a v) s (fun t => smapFind t.holdWr (pathKey p) = some (a.toNat, v.toNat) ∧
          { t with holdWr := s.holdWr } = s) ∧
        (regSeen p a.toNat = true → ∀ u, u = s.laneTouch r.base i →
          Runs (.pairLowRead p a) s (fun t => t.lastRead = u.regValue r i j % 2 ^ 32 ∧
            smapFind t.holdRd (pathKey p) = some (r.base + i * r.s1 + j * r.s2, u.regValue r i j / 2 ^ 32) ∧
            { t with holdRd := s.holdRd, lastRead := s.lastRead } = u))) ∧
      (r.wide = false → svOnly p r.base = true → Runs (.registerWrite p a v) s fun t => t = s) ∧
      (r.wide = false → svOnly p r.base = false → r.base ≠ 0x40400 → s.actLow p r i j v.toNat = none → s.actHigh r i j v.toNat = none →
        ∀ f ∈ r.flds, (∀ g ∈ r.flds, g ≠ f → fldKey g i j ≠ fldKey f i j) →
          Runs (.registerWrite p a v) s fun t =>
            (f.acc = .rw → t.fld f i j = clampFld f (bitsOf v.toNat f.lo f.w) % 2 ^ f.w) ∧
            (f.acc = .rws → smapFind t.shadow (fldKey f i j) = some (bitsOf v.toNat f.lo f.w % 2 ^ f.w) ∧
              t.fld f i j = s.fld f i j) ∧
            (f.acc = .w1c → t.fld f i j = (s.fld f i j &&& (2 ^ f.w - 1 - bitsOf v.toNat f.lo f.w)) % 2 ^ f.w) ∧
            (f.acc = .ro → t.fld f i j = s.fld f i j) ∧ { t with regs := s.regs, shadow := s.shadow } = s))

/-! ## Modes, resets and faults -/

/-- Mode requests (R213 to R217): a transition outside the table gives result 1, one whose condition does not hold
result 2, and an allowed one is made; MODE_SET does the same for the host, and one that names the mode in force ends at
once. How transitions end (R223 to R225, R229, R230, R233): DRAIN closes every session at its time, and ends in READY
when all is drained or its time is over; FOCUS ends in READY, or in HALT with no channel for logical channel 0; HALT is
entered when it is due and no fence runs, or 10 µs later (R367), and finishes once the engines have drained. -/
def Obligations.ModeChanges : Prop :=
  ((∀ (m : BitVec 3) (s : State),
     (s.inReset = true ∨ s.fld F.GLOBAL_BOOT_fw_running 0 0 = 0 → Runs (.globalModeSet m) s fun t => t = s) ∧
     (s.inReset = false → s.fld F.GLOBAL_BOOT_fw_running 0 0 ≠ 0 →
       (m.toNat ∉ modeTargets s.mode → Runs (.globalModeSet m) s fun t => t.fld F.GLOBAL_MODE_result 0 0 = 1 ∧
         OnlyRegs s t [fldKey F.GLOBAL_MODE_result 0 0]) ∧
       (m.toNat ∈ modeTargets s.mode → s.modeCond m.toNat = false → Runs (.globalModeSet m) s fun t =>
         t.fld F.GLOBAL_MODE_result 0 0 = 2 ∧ OnlyRegs s t [fldKey F.GLOBAL_MODE_result 0 0]) ∧
       (m.toNat ∈ modeTargets s.mode → s.modeCond m.toNat = true →
         Runs (.globalModeSet m) s fun t => Enters s t m.toNat))) ∧
   (∀ (f : Frame) (s u v : State) (m : Nat), u = s.consume f → v = u.longStart f.seq.toNat 0x10 → m = argU f 0 1 →
     Accepts s modeSetCmd f noLate →
     Runs (.modeSet f) s fun t => Answers t u f 0x10 1 [] ∧
       (m = v.mode → t.mode = v.mode ∧ t.mg.long = none) ∧
       (m ≠ v.mode → v.modeCond m = false → t.fld F.GLOBAL_MODE_result 0 0 = 2 ∧ t.mode = v.mode ∧ t.mg.long = none) ∧
       (m ≠ v.mode → v.modeCond m = true → Enters v t m))) ∧
  (∀ s : State,
     (∀ c, s.change = some c → s.mode = 4 → s.fc.haltDue = none →
       (c.closed = false → c.closeAt ≤ s.tb → Runs .drainSessionClose s fun t => t.mode = 4 ∧
         (∃ d, t.change = some d ∧ d.closed = true) ∧ ∀ i, (s.ctx i).st ≠ .free → (t.ctx i).st = .closing) ∧
       (c.closed = true → s.allFree = true → s.pt.egress = [] → s.snapRuns = false → s.tk.sim = none →
         Runs .drainComplete s fun t => t.mode = 2 ∧ t.change = none ∧ t.fld F.GLOBAL_MODE_busy 0 0 = 0 ∧
           t.fld F.TK_STATUS_phase 0 0 = 0 ∧ t.fld F.GLOBAL_DRAIN_forced 0 0 = 0 ∧
           ∀ n, c.drainT = some n → t.fld F.TK_NEXT_tick 0 0 = (n + 1) % 2 ^ 64) ∧
       (c.since + max 10 (min 60000 (s.fld F.GLOBAL_DRAIN_max_ms 0 0)) * 1000000 ≤ s.tb →
         Runs .drainTimeout s fun t => t.mode = 2 ∧ t.change = none ∧ t.fld F.GLOBAL_MODE_busy 0 0 = 0 ∧
           t.fld F.TK_STATUS_phase 0 0 = 0 ∧
           t.fld F.GLOBAL_DRAIN_forced 0 0 = min (s.ses.filter fun x => decide (x.2.ctx.st ≠ .free)).length 65535)) ∧
     (s.mode = 1 → s.fc.haltDue = none → (∀ c, c < 34 → (s.trnOf c).gathering = false) →
       Runs .focusComplete s fun t => t.fld F.GLOBAL_FOCUS_step 0 0 = 0 ∧ t.fld F.GLOBAL_FOCUS_retention 0 0 = 0 ∧
         (t.mode = 2 ∨ t.mode = 7) ∧ (t.mode = 2 → t.fld F.GLOBAL_MODE_busy 0 0 = 0 ∧ t.fld F.GLOBAL_MODE_result 0 0 = 0)) ∧
     (∀ cause : HaltCause,
       (s.fc.halt = none → s.fc.haltDue = some cause → s.fencing = false ∨ s.fc.haltAt + 10000 ≤ s.tb →
         (s.mode = 0 ∨ s.mode = 7 → Runs (.haltEntry cause) s fun t => t.fc.haltDue = none ∧ { t with fc := s.fc } = s) ∧
         (s.mode ≠ 0 → s.mode ≠ 7 → Runs (.haltEntry cause) s fun t => t.mode = 7 ∧ t.fc.haltDue = none ∧
           t.fld F.ST_CTRL_enable 0 0 = 0 ∧ t.st.builds = [] ∧ t.pt.egress = [] ∧
           t.fld F.FC_DUMP_SEQ_seq 0 0 = (s.fld F.FC_DUMP_SEQ_seq 0 0 + 1) % 2 ^ 32 ∧
           ∃ h, t.fc.halt = some h ∧ h.cause = cause ∧ h.was = s.mode ∧ h.status = s.fcStatus ∧ h.time = s.tb)) ∧
       (∀ h, s.fc.halt = some h →
         (s.haltDrained h = false → Runs (.haltEntry cause) s fun t => t = s) ∧
         (s.haltDrained h = true → Runs (.haltEntry cause) s fun t => t.fc.halt = none ∧
           (s.fwAlive = true → FuseForm s → ∀ e, e < 34 → t.fld F.CE_CTRL_run e 0 = 0 ∧ t.domOn e = false)))))

/-- The resets (R220, R235 to R237): a cold reset holds the stack in reset with nothing kept but FUSE, whose register
fields are loaded, its source, and which clocks are away, until RESET_N rises or, where a RESET command asked for it, at
once; a warm reset boots again with its count stepped, but not after a thermal trip (R234). -/
def Obligations.Resets : Prop :=
  ∀ s : State,
    Runs (.coldReset .powerOn) s (fun t => ColdHeld s t 0) ∧
    Runs (.coldReset .resetN) s (fun t => ColdHeld s t (if s.pwr.tripped then 4 else 1)) ∧
    Runs (.coldReset .pwrgood) s (fun t => ColdHeld s t (if s.pwr.tripped then 4 else 2)) ∧
    (s.pwr.tripped = true → Runs (.coldReset .trip) s fun t => ColdHeld s t 4) ∧
    (s.pwr.tripped = false → Runs (.coldReset .trip) s fun t => t = s) ∧
    (∀ b e, (s.inReset = true → Runs (.resetNRise b e) s fun t => t.inReset = false ∧ t.mode = 0 ∧ t.testEn = e ∧
        t.fld F.GLOBAL_BOOT_boot_sel 0 0 = b.toNat ∧ t.fld F.MG_SEQ_seq 0 0 = 0) ∧
      (s.inReset = false → Runs (.resetNRise b e) s fun t => t = s)) ∧
    (∀ k at', s.mg.reset = some (k, at') →
      (k = 0 → at' ≤ s.tb → FuseForm s → Runs (.coldReset .command) s fun t => t.inReset = false ∧ t.mode = 0 ∧
        t.fld F.GLOBAL_RESET_CAUSE_source 0 0 = 3 ∧ t.fld F.GLOBAL_RESET_CAUSE_type 0 0 = 0 ∧ t.dram = [] ∧ t.ses = [] ∧
        t.strands = [] ∧ t.nv.keys = s.nv.keys) ∧
      (k = 1 → at' ≤ s.tb → s.pwr.tripped = false → Runs .warmReset s fun t => t.inReset = false ∧ t.mode = 0 ∧
        t.fld F.GLOBAL_RESET_CAUSE_source 0 0 = 3 ∧ t.fld F.GLOBAL_RESET_CAUSE_type 0 0 = 1 ∧
        t.fld F.GLOBAL_RESET_CAUSE_warm_count 0 0 = satAdd 16 (s.fld F.GLOBAL_RESET_CAUSE_warm_count 0 0) 1 ∧
        t.strands = [] ∧ t.ops = [] ∧ t.ses = [] ∧ t.nv.keys = s.nv.keys ∧ t.mg.reset = none) ∧
      (k ≠ 0 ∨ s.tb < at' → Runs (.coldReset .command) s fun t => t = s) ∧
      (k ≠ 1 ∨ s.tb < at' → Runs .warmReset s fun t => t = s)) ∧
    (s.mg.reset = none → Runs (.coldReset .command) s (fun t => t = s) ∧ Runs .warmReset s (fun t => t = s)) ∧
    (s.pwr.tripped = true → Runs .warmReset s fun t => t = s)

/-- The fault collector takes the next event (R358, R361 to R367): one that merges into a running reaction sets its
group's consequential latch and no more; any other sets the latches of its origin, and the capture of a group that
holds none; HALT falls due where its reaction is HALT, and nothing follows where it is none. -/
def Obligations.FaultAccept : Prop :=
  ∀ s : State, (s.faults = [] → Runs .faultEventAccept s fun t => t = s) ∧
    ∀ v, nextEv s.faults = some v → v.group < 58 → v.src < 8 →
      (∀ r, s.mergesInto v = some r → Runs .faultEventAccept s fun t => t.faults = s.faults.erase v ∧
        t.fld F.FC_G_CONSEQ_source v.group 0 = (s.fld F.FC_G_CONSEQ_source v.group 0 ||| 2 ^ v.src) % 2 ^ 8 ∧
        { t with regs := s.regs, faults := s.faults } = s) ∧
      (s.mergesInto v = none → Runs .faultEventAccept s fun t =>
        (bitOf v.origin 0 = true →
          t.fld F.FC_G_REAL_source v.group 0 = (s.fld F.FC_G_REAL_source v.group 0 ||| 2 ^ v.src) % 2 ^ 8) ∧
        (bitOf v.origin 1 = true →
          t.fld F.FC_G_FORCED_source v.group 0 = (s.fld F.FC_G_FORCED_source v.group 0 ||| 2 ^ v.src) % 2 ^ 8) ∧
        (s.fld F.FC_G_CAP_INFO_valid v.group 0 = 0 → t.fld F.FC_G_CAP_INFO_valid v.group 0 = 1 ∧
          t.fld F.FC_G_CAP_INFO_source v.group 0 = v.src ∧ t.fld F.FC_G_CAP_INFO_master v.group 0 = v.master % 2 ^ 6 ∧
          t.fld F.FC_G_CAP_ADDR_addr v.group 0 = v.addr % 2 ^ 64 ∧ t.fld F.FC_G_CAP_TIME_ns v.group 0 = s.tb % 2 ^ 64) ∧
        (s.fld F.FC_FIRST_valid 0 0 = 0 → t.fld F.FC_FIRST_group 0 0 = v.group ∧ t.fld F.FC_FIRST_source 0 0 = v.src) ∧
        (s.runsOn v = none → v.group ≠ 42 → 4 ≤ s.fld F.FC_G_SRC_CFG_event v.group v.src → 4 ≤ s.fld F.FC_G_SRC_CFG_severe v.group v.src →
          t.fc.haltDue = some (s.fc.haltDue.getD .fault)) ∧
        (s.runsOn v = none → s.fld F.FC_G_SRC_CFG_event v.group v.src = 0 → s.fld F.FC_G_SRC_CFG_severe v.group v.src = 0 →
          t.fc.reacts = s.fc.reacts ∧ t.fc.haltDue = s.fc.haltDue ∧ t.faults = s.faults.erase v ∧ t.strands = s.strands))

/-- What else the collector does (R22, R359, R364, R365, R368 to R373, R377): the end of a fence and of shadows, latches
and captures cleared, events forced, an engine's number reassigned, a lost entry fixed, scratch copied, mesh errors
told. -/
def Obligations.FaultCommands : Prop :=
  ∀ s : State,
    (∀ m : BitVec 6, m.toNat < 62 →
      (∀ r, s.fc.reacts.find? (fun r => decide (r.stage = .fencing) && r.party == m.toNat) = some r →
        s.fenceClear m.toNat = true →
        Runs (.fenceComplete m) s fun t => bitOf (t.fld F.FC_FENCE_master 0 0) m.toNat = true ∧
          t.fld F.FC_FENCE_STATUS_busy 0 0 = b2n t.fencing ∧ (m.toNat < 35 → ∀ o ∈ t.ops, o.e ≠ m.toNat)) ∧
      (s.fenceClear m.toNat = false → Runs (.fenceComplete m) s fun t => t = s)) ∧
    (∀ (g : Fin 58) (n : BitVec 8), Runs (.shadowExpire g n) s fun t => { t with fc := s.fc } = s ∧
      { t.fc with reacts := s.fc.reacts } = s.fc ∧
      t.fc.reacts = s.fc.reacts.filter fun r => !(r.group == g.val && r.inst == n.toNat && !s.shadowOpen r)) ∧
    (∀ (g : Fin 58) (k : LatchKind) (n : BitVec 8), Runs (.faultLatchClear g k n) s fun t =>
      t.fld (latchFld k) g.val 0 = (s.fld (latchFld k) g.val 0 &&& (255 - n.toNat)) % 2 ^ 8 ∧
      OnlyRegs s t [fldKey (latchFld k) g.val 0]) ∧
    (∀ g : Fin 58, Runs (.faultCaptureRelease g) s fun t => t.fld F.FC_G_CAP_INFO_valid g.val 0 = 0 ∧
      OnlyRegs s t [fldKey F.FC_G_CAP_INFO_valid g.val 0]) ∧
    (∀ (v : Word32) (g src n : Nat), g = bitsOf v.toNat 8 6 → src = bitsOf v.toNat 0 3 → n = bitsOf v.toNat 16 8 →
      Runs (.fcInject v) s fun t => t.fld F.FC_INJECT_group 0 0 = g ∧ t.fld F.FC_INJECT_source 0 0 = src ∧
        t.fld F.FC_INJECT_instance 0 0 = n ∧ { t with regs := s.regs, faults := s.faults } = s ∧
        (bitOf v.toNat 31 = true → s.srcOn g src = true → s.instOn g src n = true → Raised t g src) ∧
        (bitOf v.toNat 31 = true → s.srcOn g src = false ∨ s.instOn g src n = false → t.faults = s.faults) ∧
        (bitOf v.toNat 31 = false → t.faults = s.faults)) ∧
    (∀ (v : Word32) (e k : Nat), e = bitsOf v.toNat 0 6 → k = bitsOf v.toNat 8 6 → bitOf v.toNat 31 = true →
      (¬ (e < 34 ∧ bitOf (s.fld F.FC_FENCE_master 0 0) e = true) → Runs (.fcEngReassign v) s fun t =>
        t.fld F.FC_ENG_REASSIGN_result 0 0 = 2 ∧ ∀ c, t.fld F.CE_ID_logical c 0 = s.fld F.CE_ID_logical c 0) ∧
      (e < 34 → bitOf (s.fld F.FC_FENCE_master 0 0) e = true → k < 34 → e ≠ k → s.engStopped k = true →
        (s.eng k).fenced = false → s.fld F.CE_CTRL_imem_lock k 0 ≠ 0 → s.fld F.CE_ID_logical k 0 = 0x3F →
        Runs (.fcEngReassign v) s fun t => t.fld F.FC_ENG_REASSIGN_result 0 0 = 0 ∧
          t.fld F.CE_ID_logical k 0 = s.fld F.CE_ID_logical e 0 % 2 ^ 6 ∧ t.fld F.CE_ID_logical e 0 = 0x3F)) ∧
    (∀ (n : BitVec 21) (v : Word64), v = BitVec.ofNat 64 (s.fld F.FC_ED_FIX_VAL_entry 0 0) →
      (n.toNat ∉ s.ed.quar → ∀ c ∈ [Instr.edFixRetire n, .edFixWrite n], Runs c s fun t =>
        t.fld F.FC_ED_FIX_result 0 0 = 1 ∧ t.ed = s.ed) ∧
      (n.toNat ∈ s.ed.quar →
        Runs (.edFixRetire n) s (fun t => t.fld F.FC_ED_FIX_result 0 0 = 0 ∧ entValid (t.entry n.toNat) = false ∧
          n.toNat ∈ t.ed.retired ∧ n.toNat ∉ t.ed.quar ∧ ∀ k, k ≠ n.toNat → t.entry k = s.entry k) ∧
        (entValid v = false ∨ entK v = 7 → Runs (.edFixWrite n) s fun t => t.fld F.FC_ED_FIX_result 0 0 = 2 ∧ t.ed = s.ed) ∧
        (entValid v = true → entK v ≠ 7 → Runs (.edFixWrite n) s fun t => t.fld F.FC_ED_FIX_result 0 0 = 0 ∧
          t.entry n.toNat = v ∧ n.toNat ∉ t.ed.quar ∧ ∀ k, k ≠ n.toNat → t.entry k = s.entry k))) ∧
    Runs .scratchDump s (fun t => t.fld F.FC_DUMP_CTRL_busy 0 0 = 1 ∧ OnlyRegs s t [fldKey F.FC_DUMP_CTRL_busy 0 0]) ∧
    (s.fld F.FC_DUMP_CTRL_busy 0 0 ≠ 0 → Runs .scratchDumpComplete s fun t => t.fld F.FC_DUMP_CTRL_busy 0 0 = 0 ∧
      t.scratch = s.scratch ∧ t.strands = s.strands) ∧
    (∀ (h : Fin 2) (d : Bool) (m : BitVec 6),
      (s.domOn (102 + h.val) = true → Runs (.meshCrcError h d m) s fun t => Raised t 44 (b2n d) ∧
        { t with faults := s.faults, pm := s.pm } = s) ∧
      (s.domOn (102 + h.val) = false → Runs (.meshCrcError h d m) s fun t => t = s))

/-! ## Memory channels -/

/-- A channel's queues and slots (R244, R247 to R266, R289 to R297): the arbiter's grant leaves its input and is queued
with its count, unless the write queue answers it (how far it answers and coalesces is the model's choice: log 176) or a
stopped copy refuses it; a count that reaches 0 makes its request overdue; every slot of a frame goes by once, to the
access or the refresh chosen; a decoded read leaves the queue with its data; a frame ends with a table within the limit
of the next, and there answers the one commit that waited for it and whose table was refused; a panic beyond its limit
is told. -/
def Obligations.ChannelQueues : Prop :=
  ∀ (ch : Fin 34) (c : Nat) (s : State), c = ch.val →
    (s.works c = false ∨ s.grant c = none → Runs (.requestAdmit ch) s fun t => t = s) ∧
    (∀ i r pre, s.works c = true → s.grant c = some (i, r, pre) → r.id < s.nextReq →
      Runs (.requestAdmit ch) s fun t => (∀ q ∈ t.reqs, q.id ≠ r.id) ∧ (t.chan c).lastGrant = i ∧
        (s.fld F.PM_LOUPE_CTRL_drain 0 0 = 0 →
        t.dram = s.dram ∧
        (s.copyRefuses r = true → (t.chan c).rq = (s.chan c).rq ∧ (t.chan c).wq = (s.chan c).wq) ∧
        (s.copyRefuses r = false → r.kind ≠ .write → (s.chan c).answers { r with seq := (s.chan c).seq } = false →
          ∃ q ∈ (t.chan c).rq, q.id = r.id ∧ q.gran = r.gran ∧ q.due = (s.admitDue r).1 ∧ q.late = (s.admitDue r).2) ∧
        (s.copyRefuses r = false → r.kind = .write → r.master ≠ 58 → (s.chan c).canMerge r.gran = none →
          ∃ w ∈ (t.chan c).wq, w.id = r.id ∧ w.gran = r.gran ∧ w.bytes = r.wr ∧ w.cls = r.cls) ∧
        (s.copyRefuses r = false → (s.admitDue r).2 = true →
          t.fld F.CH_OVERDUE_count c 0 = satAdd 32 (s.fld F.CH_OVERDUE_count c 0) 1))) ∧
    (∀ id r, (s.chan c).rq.find? (fun r => r.id == id && !r.late && decide (r.due ≤ s.units)) = some r →
      Runs (.requestOverdue id) s fun t =>
        (∀ q ∈ (t.chan c).rq, q.id = id → q.late = true ∧ q.lateAt = (s.chan c).lateSeq) ∧
        t.fld F.CH_OVERDUE_count c 0 = satAdd 32 (s.fld F.CH_OVERDUE_count c 0) 1 ∧ t.dram = s.dram) ∧
    (∀ ready : BitVec 32,
      (s.works c = false ∨ 256 ≤ (s.chan c).pos → Runs (.sequencerSlot ch ready) s fun t => t = s) ∧
      (s.works c = true → (s.chan c).pos < 256 → Runs (.sequencerSlot ch ready) s fun t =>
        (t.chan c).pos = (s.chan c).pos + 1 ∧
        (voidPos (s.halves c) (s.chan c).pos = false → (s.chan c).slotsLeft ≠ 0 →
          (t.chan c).slotsLeft = (s.chan c).slotsLeft - 1) ∧
        (voidPos (s.halves c) (s.chan c).pos = false → (s.chan c).slotsLeft = 0 →
          (∀ j forced, (s.countHeld c ready).slotChoice c ready = .refresh j forced →
            (t.chan c).debtOf j = (s.chan c).debtOf j - 1 ∧ (t.chan c).slotsLeft = 7 ∧
            t.fld F.CH_REF_COUNT_count c 0 = satAdd F.CH_REF_COUNT_count.w (s.fld F.CH_REF_COUNT_count c 0) 1) ∧
          (∀ k p cr r, (s.countHeld c ready).slotChoice c ready = .serve k p cr → k.wr = false →
            ((s.countHeld c ready).chan c).rq.find? (fun r => r.seq == k.seq) = some r →
            ∃ q ∈ (t.chan c).rq, q.id = r.id ∧ q.inFlight = true) ∧
          (∀ k p cr w, (s.countHeld c ready).slotChoice c ready = .serve k p cr → k.wr = true →
            ((s.countHeld c ready).chan c).wq.find? (fun w => w.seq == k.seq) = some w → w.bytes.length = 64 → w.id < s.nextReq →
            ∀ x ∈ (t.chan c).wq, x.id ≠ w.id)))) ∧
    (∀ id ups, s.inFlightAt id = none → Runs (.dramReadDecode id ups) s fun t => t = s) ∧
    (∀ id ups r o, s.inFlightAt id = some (c, r) → s.findOp r.op = some o → (o.kind = .ld ∨ o.kind = .ldu ∨ o.kind = .vld) →
      r.kind = .read → Runs (.dramReadDecode id ups) s fun t => (∀ q ∈ (t.chan c).rq, q.id ≠ id) ∧
        (((s.chan c).queued r.gran r.seq).length < 64 → (s.decode c r.gran ups).1.out.bad = false →
          ∃ p, t.findOp r.op = some p ∧ p.st = .data (sliceOf (overlay (s.decode c r.gran ups).1.data
            ((s.chan c).queued r.gran r.seq)) r.waddr r.len))) ∧
    (∀ g ups,
      ((s.chan c).wq.find? (fun w => w.gran == BitVec.toNat g && w.merging) = none →
        Runs (.mergeReadDecode ch g ups) s fun t => t = s) ∧
      (∀ w, (s.chan c).wq.find? (fun w => w.gran == g.toNat && w.merging) = some w → w.id < s.nextReq →
        Runs (.mergeReadDecode ch g ups) s fun t => (∀ q ∈ (t.chan c).wq, q.id ≠ w.id) ∧
          ((s.decode c g.toNat ups).1.out.bad = false → t.strands = s.strands))) ∧
    (s.works c = false ∨ (s.chan c).pos < 256 → Runs (.frameBoundary ch) s fun t => t = s) ∧
    (∀ w, s.works c = true → 256 ≤ (s.chan c).pos → s.mg.waitFrames = [] → s.mg.slotWaits = [w] → w.ch = c →
      (s.frameBoundary c).fld F.CH_SLOTCOMMIT_result c 0 = 0x22 →
      Runs (.frameBoundary ch) s fun t => Refused (s.frameBoundary c) t w.frame w.code 0x22 ∧ t.mg.slotWaits = []) ∧
    (s.works c = true → 256 ≤ (s.chan c).pos → s.mg.waitFrames = [] → (∀ w ∈ s.mg.slotWaits, w.ch ≠ c) →
      Runs (.frameBoundary ch) s fun t => (t.chan c).pos = 0 ∧
      (t.chan c).credit = [] ∧ (t.chan c).bulkSlots = 0 ∧
      t.fld F.CH_REF_STAT_doubled c 0 = b2n (s.chan c).wantDouble ∧
      t.fld F.CH_SLOT_LIMIT_limit c 0 = slotLimit (s.chan c).wantDouble (t.halves c) ∧
      (s.fld F.CH_SLOTCOMMIT_pending c 0 ≠ 0 → t.fld F.CH_SLOTCOMMIT_pending c 0 = 0 ∧
        (t.fld F.CH_SLOTCOMMIT_result c 0 = 0 ∨ t.fld F.CH_SLOTCOMMIT_result c 0 = 0x22)) ∧
      ((∀ p, p < 256 → s.fld (slotFld p) c (p / 8) < 16 ∧ s.shd (slotFld p) c (p / 8) < 16) →
        ownedIn (t.slotTable c) ≤ slotLimit (s.chan c).wantDouble (t.halves c))) ∧
    (s.fld F.CH_STATUS_panic c 0 ≠ 0 → (s.chan c).panicTold = false →
      (s.chan c).panicSince + s.fld F.CH_PANIC_limit_us c 0 * 1000 < s.tb → Runs (.channelPanicLimit ch) s fun t =>
        Raised t 54 1 ∧ (t.chan c).panicTold = true) ∧
    (s.fld F.CH_STATUS_panic c 0 = 0 ∨ (s.chan c).panicTold = true ∨
      s.tb ≤ (s.chan c).panicSince + s.fld F.CH_PANIC_limit_us c 0 * 1000 → Runs (.channelPanicLimit ch) s fun t => t = s)

/-- A channel's commands (R252, R253, R260, R265, R269, R272, R280 to R286, R300 to R306): commits, the schedule,
counters, refresh, row protection, self-refresh (entered only after the idle time; where a temperature alone asks for
it, or in SLEEP, an exit changes the rate alone) and the Fixer, whose corrected or poisoned granule goes back as a write
of its own. -/
def Obligations.ChannelControls : Prop :=
  ∀ (ch : Fin 34) (c : Nat) (s : State), c = ch.val →
    Runs (.chArbCommit ch) s (fun t =>
      (∀ f ∈ [F.CH_ARB_PRIO_c0, F.CH_ARB_PRIO_c1, F.CH_ARB_PRIO_c2, F.CH_ARB_PRIO_c3, F.CH_ARB_PRIO_c4, F.CH_ARB_PRIO_c5,
        F.CH_ARB_PRIO_c6, F.CH_ARB_PRIO_c7, F.CH_ARB_CTRL_burst, F.CH_ARB_CTRL_park], Applied s t f c 0) ∧
      { t with regs := s.regs, shadow := s.shadow } = s) ∧
    (∀ (v : Word32) (lo hi : Nat), lo = bitsOf v.toNat 0 8 → hi = bitsOf v.toNat 8 8 →
      (hi ≤ lo ∨ 64 < hi → Runs (.chSchedWrite ch v) s fun t => t.fld F.CH_STATUS_sched_err c 0 = 1 ∧
        OnlyRegs s t [fldKey F.CH_STATUS_sched_err c 0]) ∧
      (lo < hi → hi ≤ 64 → Runs (.chSchedWrite ch v) s fun t => t.fld F.CH_SCHED_wq_low c 0 = lo ∧
        t.fld F.CH_SCHED_wq_high c 0 = hi ∧ t.fld F.CH_SCHED_level c 0 = s.fld F.CH_SCHED_level c 0 ∧
        t.shd F.CH_SCHED_level c 0 = bitsOf v.toNat 31 1)) ∧
    Runs (.chSlotcommit ch) s (fun t => t.fld F.CH_SLOTCOMMIT_pending c 0 = 1 ∧
      OnlyRegs s t [fldKey F.CH_SLOTCOMMIT_pending c 0]) ∧
    Runs .rgCntClr s (fun t => { t with regs := s.regs } = s ∧
      ∀ k, k < 8 → t.fld F.RG_CNT_RD_granules c k = 0 ∧ t.fld F.RG_CNT_WR_granules c k = 0) ∧
    (∀ j : Fin 32,
      (s.inService c = true → Runs (.refreshDuePoint ch j) s fun t =>
        (t.chan c).debtOf j.val =
          max ((s.chan c).debtOf j.val) (min ((s.chan c).debtOf j.val + 1) ((s.chan c).forcedAt j.val + 1)) ∧
        (∀ k, k ≠ j.val → (t.chan c).debtOf k = (s.chan c).debtOf k) ∧ t.dram = s.dram) ∧
      (s.inService c = false → Runs (.refreshDuePoint ch j) s fun t => t = s) ∧
      (s.manualRefused c j.val = true → Runs (.manualRefresh ch j) s fun t => t.fld F.CH_REF_CMD_result c 0 = 1 ∧
        OnlyRegs s t [fldKey F.CH_REF_CMD_result c 0]) ∧
      (s.manualRefused c j.val = false → Runs (.manualRefresh ch j) s fun t => t.fld F.CH_REF_CMD_result c 0 = 0 ∧
        t.fld F.CH_REF_CMD_busy c 0 = 1 ∧ (t.chan c).manual = (s.chan c).manual ++ [j.val])) ∧
    (∀ v : Word32, Runs (.chRpCtrlWrite ch v) s fun t => t.fld F.CH_RP_CTRL_threshold c 0 = bitsOf v.toNat 0 11 ∧
      (bitOf v.toNat 16 = true → t.fld F.CH_RP_CTRL_enable c 0 = 1) ∧
      (bitOf v.toNat 16 = false → s.mode = 6 → t.fld F.CH_RP_CTRL_enable c 0 = 0) ∧
      (bitOf v.toNat 16 = false → s.mode ≠ 6 → t.fld F.CH_RP_CTRL_enable c 0 = s.fld F.CH_RP_CTRL_enable c 0) ∧
      OnlyRegs s t [fldKey F.CH_RP_CTRL_threshold c 0, fldKey F.CH_RP_CTRL_enable c 0]) ∧
    (s.inService c = true → s.fld F.CH_SR_auto_en c 0 ≠ 0 → (s.fld F.CH_SR_c0_hold c 0 = 0 ∨ s.mode = 7) →
      s.suspectDie c = false → s.chanIdle c = true → (s.chan c).idleSince + max 1 (min 10000 (s.fld F.CH_SR_idle_us c 0)) * 1000 ≤ s.tb →
      Runs (.selfRefreshEntry ch) s fun t => t.fld F.CH_ID_state c 0 = 3 ∧ t.fld F.CH_SR_in_sr c 0 = 1 ∧
        t.fld F.CH_SR_COUNT_entries c 0 = satAdd 16 (s.fld F.CH_SR_COUNT_entries c 0) 1 ∧
        (∀ j, (t.chan c).debtOf j ≤ 0) ∧ t.dram = s.dram) ∧
    (s.inService c = false ∨ s.fld F.CH_SR_auto_en c 0 = 0 ∨ (s.fld F.CH_SR_c0_hold c 0 ≠ 0 ∧ s.mode ≠ 7) ∨
        s.suspectDie c = true ∨ s.chanIdle c = false ∨
        s.tb < (s.chan c).idleSince + max 1 (min 10000 (s.fld F.CH_SR_idle_us c 0)) * 1000 →
      Runs (.selfRefreshEntry ch) s fun t => t = s) ∧
    (s.fld F.CH_ID_state c 0 = 3 → s.mode ≠ 5 → s.srCause c = true → Runs (.selfRefreshExit ch) s fun t =>
      t.fld F.CH_ID_state c 0 = (if s.fld F.CH_TRN_STAT_trained c 0 = 0 then 1 else 2) ∧ t.fld F.CH_SR_in_sr c 0 = 0 ∧ (∀ j, (t.chan c).debtOf j = 0) ∧ t.dram = s.dram) ∧
    (s.fld F.CH_ID_state c 0 ≠ 3 ∨ ((s.mode = 5 ∨ s.srCause c = false) ∧ (s.chan c).srDouble = s.hotDie c) →
      Runs (.selfRefreshExit ch) s fun t => t = s) ∧
    (s.fld F.CH_ID_state c 0 = 3 → (s.mode = 5 ∨ s.srCause c = false) → (s.chan c).srDouble ≠ s.hotDie c →
      Runs (.selfRefreshExit ch) s fun t => t.fld F.CH_ID_state c 0 = 3 ∧
        (t.chan c).srDouble = s.hotDie c ∧ t.dram = s.dram) ∧
    (s.fld F.CH_ID_state c 0 = 3 → s.mode ≠ 5 → 4096 ≤ s.fld F.CH_FIX_OWED_owed c 0 → Runs (.fixerWake ch) s fun t =>
      t.fld F.CH_ID_state c 0 = (if s.fld F.CH_TRN_STAT_trained c 0 = 0 then 1 else 2) ∧ t.fld F.CH_SR_COUNT_fixer_wakes c 0 = satAdd 16 (s.fld F.CH_SR_COUNT_fixer_wakes c 0) 1) ∧
    (s.chanOn c = true → s.fld F.CH_FIX_CTRL_enable c 0 ≠ 0 → s.mode ≠ 5 →
      (s.fld F.CH_ID_state c 0 = 3 → s.fld F.CH_FIX_OWED_owed c 0 < 65535 → Runs (.fixerRead ch) s fun t =>
        t.fld F.CH_FIX_OWED_owed c 0 = s.fld F.CH_FIX_OWED_owed c 0 + 1 ∧ OnlyRegs s t [fldKey F.CH_FIX_OWED_owed c 0]) ∧
      (∀ g w, s.fld F.CH_ID_state c 0 = 2 → (s.chan c).fixer = none → s.fixNext c = some (g, w) →
        Runs (.fixerRead ch) s fun t => t.fld F.CH_FIX_STAT_cursor c 0 = (g + 1) % 2 ^ 25 ∧
          (t.chan c).fixer = some s.nextReq ∧
          ∃ q ∈ t.reqs, q.id = s.nextReq ∧ q.master = 58 ∧ q.phys = c ∧ q.gran = g ∧ q.cls = 3 ∧ q.kind = .read)) ∧
    (∀ ups r, (s.chan c).rq.find? (fun r => r.master == 58 && r.inFlight) = some r →
      Runs (.fixerReadComplete ch ups) s fun t => (∀ q ∈ (t.chan c).rq, q.id ≠ r.id) ∧
        ((s.decode c r.gran ups).1.out = .clean ∨ (s.decode c r.gran ups).1.out = .poisoned → (t.chan c).fixer = none) ∧
        ((s.decode c r.gran ups).1.out = .corrected →
          t.fld F.CH_FIX_COUNT_corrected c 0 = satAdd 16 (s.fld F.CH_FIX_COUNT_corrected c 0) 1 ∧
          ∃ q ∈ t.reqs, q.master = 58 ∧ q.kind = .write ∧ q.phys = c ∧ q.gran = r.gran ∧ q.cls = 3 ∧ q.poison = false) ∧
        ((s.decode c r.gran ups).1.out = .uncorrectable → Raised t c 2 ∧
          (∃ q ∈ t.reqs, q.master = 58 ∧ q.kind = .write ∧ q.phys = c ∧ q.gran = r.gran ∧ q.cls = 3 ∧ q.poison = true) ∧
          t.fld F.CH_FIX_COUNT_poisoned c 0 = satAdd 16 (s.fld F.CH_FIX_COUNT_poisoned c 0) 1)) ∧
    Runs (.chUeClr ch) s (fun t => t.fld F.CH_UE_STAT_count c 0 = 0 ∧ t.fld F.CH_UE_STAT_overflow c 0 = 0 ∧
      OnlyRegs s t [fldKey F.CH_UE_STAT_count c 0, fldKey F.CH_UE_STAT_overflow c 0]) ∧
    Runs (.chEccClr ch) s (fun t => t.fld F.CH_ECC_CE_pc0 c 0 = 0 ∧ t.fld F.CH_ECC_CE_pc1 c 0 = 0 ∧
      t.fld F.CH_ECC_UE_poisoned c 0 = 0 ∧ t.fld F.CH_ECC_UE_uncorrectable c 0 = 0 ∧
      t.fld F.CH_ECC_WORST_pc0_count c 0 = 0 ∧ t.fld F.CH_ECC_WORST_pc1_count c 0 = 0 ∧ t.dram = s.dram)

/-- The channel map, class ranges and repairs (R242 to R246, R323, R325, R326, R328): commits, the end of their drain, a
granule copied where the arbiters of both channels grant it (that a copied granule is one grant of each is the model's
choice: log 48), a source that fails, with the reads still queued there refused, a parity error, of which sixteen within
1 ms stop a copy's source, a row converted to half width, but on a channel that must retire. A CH_RATE that runs goes on
after each of the copy's granules. -/
def Obligations.ChannelMap : Prop :=
  ∀ s : State,
    (s.fld F.RG_CHMAP_COMMIT_busy 0 0 ≠ 0 → Runs .chmapCommit s fun t => t.fld F.RG_CHMAP_COMMIT_err 0 0 = 1 ∧
      OnlyRegs s t [fldKey F.RG_CHMAP_COMMIT_err 0 0]) ∧
    (s.fld F.RG_CHMAP_COMMIT_busy 0 0 = 0 → Runs .chmapCommit s fun t => t.fld F.RG_CHMAP_COMMIT_busy 0 0 = 1 ∧
      t.mapMark = s.nextReq ∧ t.dram = s.dram ∧ ∀ l, l < 32 → Applied s t F.RG_CHMAP_phys l 0 ∧
        Applied s t F.RG_CHMAP_old l 0 ∧ Applied s t F.RG_CHMAP_state l 0 ∧
        (t.fld F.RG_CHMAP_state l 0 = 2 → s.fld F.RG_CHMAP_state l 0 ≠ 2 → t.fld F.GLOBAL_STATUS_absent 0 0 = 1)) ∧
    (s.fld F.RG_CHMAP_COMMIT_busy 0 0 ≠ 0 → s.oldRouted = false → Runs .chmapDrainComplete s fun t =>
      t.fld F.RG_CHMAP_COMMIT_busy 0 0 = 0 ∧ OnlyRegs s t [fldKey F.RG_CHMAP_COMMIT_busy 0 0]) ∧
    (s.oldRouted = true → Runs .chmapDrainComplete s fun t => t = s) ∧
    (∀ (n : Fin 32) (l g o p : Nat) (ups : List SymErr), l = n.val → o = s.fld F.RG_CHMAP_old l 0 → p = s.fld F.RG_CHMAP_phys l 0 →
      g = s.fld F.RG_CHCUR_cursor l 0 →
      (s.fld F.RG_CHMAP_state l 0 = 1 → s.copyStopped.contains l = false →
        (s.copyWaits o p g = true → Runs (.channelCopyGranule n ups) s fun t => t = s.rateNext) ∧
        (∀ u v, s.mg.rate = none → s.copyWaits o p g = false → u = ((s.rouse o).rouse p).copyGrant o g .read → v = u.2.copyGrant p g .write →
          (u.1 = false ∨ v.1 = false → Runs (.channelCopyGranule n ups) s fun t => t.fld F.RG_CHCUR_cursor l 0 = g ∧
            t.fld F.RG_CHMAP_state l 0 = 1 ∧ t.dram = s.dram ∧ t.reqs = s.reqs) ∧
          (u.1 = true → v.1 = true → g < 2 ^ 25 - 1 → Runs (.channelCopyGranule n ups) s fun t => t.fld F.RG_CHCUR_cursor l 0 = g + 1 ∧
            t.fld F.RG_CHMAP_state l 0 = 1) ∧
          (u.1 = true → v.1 = true → g = 2 ^ 25 - 1 → Runs (.channelCopyGranule n ups) s fun t => t.fld F.RG_CHMAP_state l 0 = 0 ∧
            t.fld F.RG_CHMAP_old l 0 = 0x3F)) ∧
        Runs (.copySourceFail n) s (fun t => l ∈ t.copyStopped ∧ Raised t o 6 ∧ (∀ q ∈ (t.chan o).rq, q.gran < g) ∧
          (s.fld F.PM_LOUPE_CTRL_drain 0 0 = 0 → t.dram = s.dram) ∧ t.fld F.RG_CHCUR_cursor l 0 = g)) ∧
      (s.fld F.RG_CHMAP_state l 0 ≠ 1 ∨ s.copyStopped.contains l = true →
        Runs (.channelCopyGranule n ups) s (fun t => t = s.rateNext) ∧ Runs (.copySourceFail n) s (fun t => t = s))) ∧
    (s.regionChanges = true → s.mode ≠ 2 ∨ s.allStopped = false → Runs .rgCommit s fun t =>
      t.fld F.RG_COMMIT_refused 0 0 = 1 ∧ OnlyRegs s t [fldKey F.RG_COMMIT_refused 0 0]) ∧
    (s.regionChanges = false ∨ (s.mode = 2 ∧ s.allStopped = true) → Runs .rgCommit s fun t => t.dram = s.dram ∧
      (∀ f ∈ rangeFlds, ∀ n, n < 64 → Applied s t f n 0) ∧ ∀ f ∈ regionFlds, ∀ n, n < 4 → Applied s t f n 0) ∧
    (∀ (ch : Fin 34) (line : BitVec 4) (g : BitVec 25) (m : BitVec 6),
      Runs (.caParityError ch line g m) s fun t => Raised t ch.val 0 ∧
        ((s.within1ms (s.chan ch.val).srcErr).length < 16 → t.dram = s.dram ∧ t.strands = s.strands) ∧
        (16 ≤ (s.within1ms (s.chan ch.val).srcErr).length →
          ∀ l, l < 32 → s.fld F.RG_CHMAP_state l 0 = 1 → s.fld F.RG_CHMAP_old l 0 = ch.val →
            (∀ k, k < 32 → k ≠ l → s.fld F.RG_CHMAP_state k 0 = 1 → s.fld F.RG_CHMAP_old k 0 ≠ ch.val) →
            l ∈ t.copyStopped)) ∧
    (∀ (ch : Fin 34) (ups : List (BitVec 9 × SymErr)) (r : Nat), r = s.fld F.CH_CONV_CUR_row ch.val 0 →
      (s.fld F.CH_TSV_STAT_converting ch.val 0 = 0 ∨ (s.chan ch.val).retiring = true → Runs (.halfWidthConversionStep ch ups) s fun t => t = s) ∧
      (s.fld F.CH_TSV_STAT_converting ch.val 0 ≠ 0 → (s.chan ch.val).retiring = false →
        (r < 65535 → Runs (.halfWidthConversionStep ch ups) s fun t => t.fld F.CH_CONV_CUR_row ch.val 0 = r + 1 ∧
          t.strands = s.strands) ∧
        (r = 65535 → (s.chan ch.val).convWait = none → Runs (.halfWidthConversionStep ch ups) s fun t =>
          t.fld F.CH_TSV_STAT_converting ch.val 0 = 0 ∧ t.strands = s.strands) ∧
        (∀ pc l, r = 65535 → (s.chan ch.val).convWait = some (pc, l) → Runs (.halfWidthConversionStep ch ups) s fun t =>
          t.fld F.CH_TSV_STAT_converting ch.val 0 = s.fld F.CH_TSV_STAT_converting ch.val 0 ∧
          t.fld F.CH_CONV_CUR_pc ch.val 0 = pc % 2 ∧ t.fld F.CH_CONV_CUR_row ch.val 0 = 0 ∧ t.strands = s.strands)))

/-! ## Training, test runs, repairs and trims -/

/-- Work waits for the next maintenance stall of channel `c`, and the command that asked for it is busy (R313, R314). -/
def Queued (s t : State) (c : Nat) (w : StallWork) : Prop :=
  (t.chan c).stallQ = (s.chan c).stallQ ++ [w] ∧ t.fld F.CH_TRN_CMD_busy c 0 = 1 ∧
  { t with chans := s.chans, regs := s.regs, trn := s.trn } = s

/-- Training (R309 to R315, R323, R329): an expert command has no effect while a training runs or at the basic level,
the level CH_TRN_CTRL selects being taken by commands 1, 5 and 6 (which commands count as a training start is the
model's choice: log 178); at the expert level it gives result 1 where it may not act, waits for a maintenance stall on a
serving channel, and otherwise measures, centres, slips or trains; a training's end leaves the channel trained and
calibrated, or applies a held rate; a maintenance stall needs work and a frame boundary, stays out of panic and keeps
its gap, but for the steer of a dead line; a sleeper wakes for it. -/
def Obligations.ChannelTraining : Prop :=
  ∀ (ch : Fin 34) (c : Nat) (s : State), c = ch.val →
    (∀ (st : BitVec 3) (ms : List EyeMeas) (m : EyeMeas) (pc e : Bool) (n : BitVec 6),
      (s.chanOn c = false ∨ s.fld F.CH_TRN_CMD_busy c 0 ≠ 0 ∨ (s.trnOf c).gathering = true →
        ∀ k ∈ [Instr.trnRunStep ch st ms, .trnMeasureEye ch m, .trnCentre ch pc n, .trnBitSlip ch pc n e, .trnRetrainLine ch m,
          .trnFull ch], Runs k s fun t => t = s) ∧
      ((s.trnOf c).level = false → ∀ k ∈ [Instr.trnMeasureEye ch m, .trnCentre ch pc n, .trnBitSlip ch pc n e],
        Runs k s fun t => t = s)) ∧
    (s.chanOn c = true → s.fld F.CH_TRN_CMD_busy c 0 = 0 → (s.trnOf c).gathering = false →
      (∀ (st : BitVec 3) (ms : List EyeMeas) (m : EyeMeas),
        (s.fld F.CH_TRN_CTRL_level c 0 = 0 → ∀ k ∈ [Instr.trnRunStep ch st ms, .trnRetrainLine ch m, .trnFull ch],
          Runs k s fun t => (t.trnOf c).level = false ∧ { t with trn := s.trn } = s) ∧
        (s.fld F.CH_TRN_CTRL_level c 0 ≠ 0 →
          (s.serves c = true ∨ st = 0 ∨ 6 < st.toNat → Runs (.trnRunStep ch st ms) s fun t => (t.trnOf c).level = true ∧
            t.fld F.CH_TRN_CMD_result c 0 = 1 ∧ { t with regs := s.regs, trn := s.trn } = s) ∧
          (s.serves c = false → st ≠ 0 → st.toNat ≤ 6 → Runs (.trnRunStep ch st ms) s fun t => (t.trnOf c).level = true ∧
            t.fld F.CH_TRN_CMD_result c 0 = (if st = 6 ∧ ∃ m ∈ ms, s.eyeOk c m = false then 2 else 0) ∧ t.dram = s.dram) ∧
          (s.serves c = true → Runs (.trnRetrainLine ch m) s fun t => (t.trnOf c).level = true ∧ Queued s t c (.retrain m)) ∧
          (s.serves c = false → Runs (.trnRetrainLine ch m) s fun t => (t.trnOf c).level = true ∧
            t.fld F.CH_TRN_CMD_result c 0 = (if s.eyeOk c m then 0 else 2) ∧
            (m.line.toNat < 44 → t.delayOf c (b2n m.pc * 128 + m.line.toNat) = m.writeCentre.toNat * 256 + m.readCentre.toNat)) ∧
          (s.serves c = true → Runs (.trnFull ch) s fun t => t.fld F.CH_TRN_CMD_result c 0 = 1 ∧
            { t with regs := s.regs, trn := s.trn } = s) ∧
          (s.serves c = false → Runs (.trnFull ch) s fun t => (t.trnOf c).gathering = true ∧
            t.fld F.CH_TRN_CMD_busy c 0 = 1 ∧ t.fld F.CH_TRN_STAT_trained c 0 = 0))) ∧
      ((s.trnOf c).level = true →
        (∀ m : EyeMeas,
          (s.serves c = true → Runs (.trnMeasureEye ch m) s fun t => Queued s t c (.measure m)) ∧
          (s.serves c = false → Runs (.trnMeasureEye ch m) s fun t =>
            t.fld F.CH_TRN_CMD_result c 0 = (if s.eyeOk c m then 0 else 2) ∧ (∀ k, t.delayOf c k = s.delayOf c k) ∧
            smapFind (t.trnOf c).eyes (eyeKey m) = some m)) ∧
        (∀ (pc : Bool) (n : BitVec 6),
          (smapFind (s.trnOf c).eyes (lineKey (b2n pc) n.toNat) = none ∨ 44 ≤ n.toNat → Runs (.trnCentre ch pc n) s fun t =>
            t.fld F.CH_TRN_CMD_result c 0 = 1 ∧ OnlyRegs s t [fldKey F.CH_TRN_CMD_result c 0]) ∧
          (∀ m, smapFind (s.trnOf c).eyes (lineKey (b2n pc) n.toNat) = some m → m.pc = pc → m.line = n → n.toNat < 44 →
            (s.serves c = true → Runs (.trnCentre ch pc n) s fun t => Queued s t c (.centre (b2n pc) n.toNat)) ∧
            (s.serves c = false → Runs (.trnCentre ch pc n) s fun t => t.fld F.CH_TRN_CMD_result c 0 = 0 ∧
              t.delayOf c (b2n pc * 128 + n.toNat) = m.writeCentre.toNat * 256 + m.readCentre.toNat ∧
              ∀ k, k ≠ b2n pc * 128 + n.toNat → t.delayOf c k = s.delayOf c k))) ∧
        (∀ (pc e : Bool) (n : BitVec 6) (k : Int),
          k = smapGet 0 (s.trnOf c).slips (lineKey (b2n pc) n.toNat) + (if e then -1 else 1) →
          (k < -3 ∨ 3 < k ∨ 44 ≤ n.toNat → Runs (.trnBitSlip ch pc n e) s fun t => t.fld F.CH_TRN_CMD_result c 0 = 1 ∧
            OnlyRegs s t [fldKey F.CH_TRN_CMD_result c 0]) ∧
          (-3 ≤ k → k ≤ 3 → n.toNat < 44 →
            (s.serves c = true → Runs (.trnBitSlip ch pc n e) s fun t => Queued s t c (.slip (b2n pc) n.toNat e)) ∧
            (s.serves c = false → Runs (.trnBitSlip ch pc n e) s fun t => t.fld F.CH_TRN_CMD_result c 0 = 0 ∧
              smapGet 0 (t.trnOf c).slips (lineKey (b2n pc) n.toNat) = k))))) ∧
    (∀ ms : List EyeMeas,
      (s.chanOn c = false ∨ (s.trnOf c).gathering = false → Runs (.channelTrainingComplete ch ms) s fun t => t = s.rateNext) ∧
      (s.chanOn c = true → (s.trnOf c).gathering = true → s.mg.rate = none →
        ((s.trnOf c).held = none → Runs (.channelTrainingComplete ch ms) s fun t => t.fld F.CH_TRN_STAT_trained c 0 = 1 ∧
          (t.trnOf c).gathering = false ∧ (t.trnOf c).calAt = s.tb ∧ t.fld F.CH_TRN_CMD_busy c 0 = 0 ∧
          t.fld F.CH_TRN_CMD_result c 0 =
            (if s.fld F.CH_TRN_CMD_busy c 0 ≠ 0 ∧ ∃ m ∈ ms, s.eyeOk c m = false then 2 else 0)) ∧
        (∀ r, (s.trnOf c).held = some r → Runs (.channelTrainingComplete ch ms) s fun t => t.fld F.CH_ID_rate c 0 = r % 2 ∧
          (t.trnOf c).held = none ∧ t.fld F.CH_TRN_STAT_trained c 0 = 0))) ∧
    (s.chanOn c = false ∨ s.serves c = false ∨ s.mode = 5 ∨ s.maintDue c = false ∨
        (s.fld F.CH_ID_state c 0 = 2 ∧ (s.chan c).nextSteer = none ∧ s.fld F.CH_STATUS_panic c 0 ≠ 0) →
      Runs (.maintenanceStall ch) s fun t => t = s.rateNext) ∧
    (s.mg.rate = none → s.chanOn c = true → s.serves c = true → s.mode ≠ 5 → s.maintDue c = true →
      (s.fld F.CH_ID_state c 0 = 3 → Runs (.maintenanceStall ch) s fun t => t.fld F.CH_ID_state c 0 ≠ 3) ∧
      (s.fld F.CH_ID_state c 0 = 2 → (s.chan c).pos % 256 = 0 →
        (s.fld F.CH_STATUS_panic c 0 = 0 → (s.chan c).nextSteer = none → (s.chan c).suspect = none →
          ((s.chan c).stallAt = 0 ∨ (s.chan c).stallAt + max 100 (min 100000 (s.fld F.CH_MAINT_gap_us c 0)) * 1000 ≤ s.tb) →
          Runs (.maintenanceStall ch) s fun t => (t.chan c).stallAt = s.tb ∧
            t.fld F.CH_MAINT_stalls c 0 = satAdd F.CH_MAINT_stalls.w (s.fld F.CH_MAINT_stalls c 0) 1) ∧
        (∀ key tsv since, (s.chan c).nextSteer = some (.steer key tsv since, since) →
          s.fld F.CH_STATUS_panic c 0 = 0 ∨ since + 100000 ≤ s.tb → Runs (.maintenanceStall ch) s fun t =>
            (t.chan c).stallAt = s.tb ∧ smapFind (t.chan c).mux key = some tsv ∧ t.dram = s.dram)))

/-- Test runs (R316 to R319): a start that may not be is refused; else the run is under way with its counts cleared;
each slice adds its patterns, on a serving channel when a maintenance stall may start; an abort leaves it incomplete.
Repair records, of which one that claims a spare waits for a stall of a serving channel, fuses and trims (R320 to R322,
R329, R333 to R337): a trim moves one step towards what the temperature asks for, a result outside the window is
refused, and at level 1 nothing but firmware updates one. -/
def Obligations.TestsRepairsAndTrims : Prop :=
  (∀ (s : State) (c k n : Nat), c = s.fld F.BI_CFG_channel 0 0 → k = s.fld F.BI_SLICES_slices 0 0 →
     n = max 1 (s.fld F.BI_CFG_per_slice 0 0) →
     (s.nv.bist ≠ none ∨ s.bistLegal (s.fld F.BI_CFG_kind 0 0) = false ∨ s.chanOn c = false ∨ s.fld F.CH_ID_state c 0 = 4 →
       Runs .bistStart s fun t => t.fld F.BI_STATUS_refused 0 0 = 1 ∧ OnlyRegs s t [fldKey F.BI_STATUS_refused 0 0]) ∧
     (s.nv.bist = none → s.bistLegal (s.fld F.BI_CFG_kind 0 0) = true → s.chanOn c = true → s.fld F.CH_ID_state c 0 ≠ 4 → k ≠ 0 →
       Runs .bistStart s fun t => t.fld F.BI_STATUS_busy 0 0 = 1 ∧ t.fld F.BI_STATUS_result 0 0 = 0 ∧
         t.fld F.BI_DONE_patterns 0 0 = 0 ∧ t.fld F.BI_FAIL_count 0 0 = 0 ∧ t.fld F.BI_COUNT_patterns 0 0 = k * n % 2 ^ 32 ∧
         (∃ b, t.nv.bist = some b ∧ b.ch = c ∧ b.perSlice = n ∧ b.left = k ∧ b.kind = s.fld F.BI_CFG_kind 0 0) ∧
         t.dram = s.dram) ∧
     (s.nv.bist ≠ none → Runs .bistAbort s fun t => t.nv.bist = none ∧ t.fld F.BI_STATUS_busy 0 0 = 0 ∧
       t.fld F.BI_STATUS_complete 0 0 = 0 ∧ t.fld F.BI_STATUS_result 0 0 = 3) ∧
     (s.nv.bist = none → Runs .bistAbort s (fun t => t = s) ∧ ∀ rs, Runs (.bistSlice rs) s (fun t => t = s)) ∧
     (∀ b rs, s.nv.bist = some b →
       (s.fld F.CH_ID_state b.ch 0 = 2 → s.stallFree b.ch = false → Runs (.bistSlice rs) s fun t => t = s) ∧
       (s.serves b.ch = false ∨ (s.fld F.CH_ID_state b.ch 0 = 2 ∧ s.stallFree b.ch = true) ∨
           (s.fld F.CH_ID_state b.ch 0 = 3 ∧ s.mode ≠ 5 ∧ (s.exitSr b.ch).stallFree b.ch = true) →
         Runs (.bistSlice rs) s fun t =>
         t.fld F.BI_DONE_patterns 0 0 = (s.fld F.BI_DONE_patterns 0 0 + b.perSlice) % 2 ^ 32 ∧
         (b.left ≤ 1 → t.nv.bist = none ∧ t.fld F.BI_STATUS_busy 0 0 = 0)))) ∧
  (∀ s : State,
     (∀ (ch : Fin 34) (n : Fin 16) (c r : Nat), c = ch.val → r = s.fld F.CH_REPAIR_SOFT_record c n.val →
       (bitOf r 63 = false → Runs (.softRepairApply ch n) s fun t => t = s) ∧
       (bitOf r 63 = true → s.recordBad c r = true → Runs (.softRepairApply ch n) s fun t => Raised t 56 0 ∧
         { t with faults := s.faults } = s) ∧
       (bitOf r 63 = true → s.recordBad c r = false →
         (∀ k, recordSpare r = some k →
           (s.serves c = true → s.chanOn c = true → Runs (.softRepairApply ch n) s fun t =>
             (t.chan c).stallQ = (s.chan c).stallQ ++ [.repair r] ∧ { t with chans := s.chans } = s) ∧
           (s.serves c = false → Runs (.softRepairApply ch n) s fun t => k ∈ (t.chan c).spares)) ∧
         (recordSpare r = none → Runs (.softRepairApply ch n) s fun t => (t.chan c).retiring = true))) ∧
     (∀ (ch : Fin 34) (c : Nat), c = ch.val → s.nv.prog = none →
       (s.mode ≠ 6 → Runs (.fuseProgram ch) s fun t => t.fld F.FUSE_CMD_result 0 0 = 1 ∧
         OnlyRegs s t [fldKey F.FUSE_CMD_result 0 0]) ∧
       (s.mode = 6 → s.freeSlot c = none → Runs (.fuseProgram ch) s fun t => t.fld F.FUSE_CMD_result 0 0 = 2 ∧
         OnlyRegs s t [fldKey F.FUSE_CMD_result 0 0]) ∧
       (∀ n, s.mode = 6 → s.freeSlot c = some n → Runs (.fuseProgram ch) s fun t => t.fld F.FUSE_CMD_busy 0 0 = 1 ∧
         t.nv.prog = some (c, n, s.fld F.FUSE_REC_record 0 0) ∧ t.nv.repair = s.nv.repair)) ∧
     (∀ c n r, s.nv.prog = some (c, n, r) →
       Runs (.fuseProgramComplete true) s (fun t => smapGet 0 t.nv.repair (c * 64 + n) = r ∧ t.nv.prog = none ∧
         t.fld F.FUSE_CMD_busy 0 0 = 0 ∧ t.fld F.FUSE_CMD_result 0 0 = 0) ∧
       Runs (.fuseProgramComplete false) s (fun t => smapGet 0 t.nv.repair (c * 64 + n) ≠ 0 ∧
         bitOf (smapGet 0 t.nv.repair (c * 64 + n)) 63 = false ∧ t.nv.prog = none ∧ t.fld F.FUSE_CMD_busy 0 0 = 0 ∧
         t.fld F.FUSE_CMD_result 0 0 = 3 ∧ Raised t 56 1)) ∧
     (∀ (ch : Fin 34) (c : Nat), c = ch.val →
       (s.chanOn c = true → s.fld F.CH_ID_state c 0 ≠ 4 → s.calDue c = true → Runs (.calibrationDue ch) s fun t =>
         bitOf (t.fld F.CAL_DUE_channel 0 0) c = true ∧
         (s.fld F.CH_ID_state c 0 = 5 → (s.trnOf c).gathering = false → s.fld F.CH_TRN_CMD_busy c 0 = 0 →
           ((t.trnOf c).gathering = true ↔ s.fld F.CH_TRN_CTRL_level c 0 = 0))) ∧
       (s.calDue c = false → Runs (.calibrationDue ch) s fun t => t = s)) ∧
     Runs .trimEvaluation s (fun t => { t with nv := s.nv } = s ∧ t.nv.keys = s.nv.keys ∧ t.nv.repair = s.nv.repair ∧
       (s.fld F.CAL_CTRL_level 0 0 ≠ 0 → t.nv.direct = true ∧ t.nv.trim = s.nv.trim) ∧
       (s.fld F.CAL_CTRL_level 0 0 = 0 → t.nv.direct = false ∧ (∀ k v, smapFind s.nv.trim k = some v →
         ∃ w, smapFind t.nv.trim k = some w ∧ w ≤ v + 1 ∧ v ≤ w + 1) ∧
         ∀ x ∈ followInsts, t.trimOf x.1 x.2 = (if s.trimOf x.1 x.2 < s.wanted x.1 x.2 then s.trimOf x.1 x.2 + 1
           else if s.wanted x.1 x.2 < s.trimOf x.1 x.2 then s.trimOf x.1 x.2 - 1 else s.trimOf x.1 x.2))) ∧
     (∀ rs : List TrimResult,
       Runs (.calibrationRerun false rs) s (fun t => t.fld F.CAL_STATUS_rref_ok 0 0 = 0 ∧ Raised t 52 0 ∧
         (s.nv.direct = false → t.nv.trim = [] ∧ t.nv.offset = []) ∧ (s.nv.direct = true → t.nv = s.nv)) ∧
       Runs (.calibrationRerun true rs) s (fun t => t.fld F.CAL_STATUS_rref_ok 0 0 = 1 ∧
         ∀ k, k < 768 → smapFind t.nv.trim k = smapFind s.nv.trim k)) ∧
     (∀ (r : TrimResult) (n v : Nat) (d : Int), n = r.item.toNat → n = 3 ∨ n = 6 ∨ n = 7 ∨ n = 8 →
       v = r.value.toNat % 2 ^ trimBits n → d = (v * trimUnit : Nat) - s.storedTrim n r.inst.toNat →
       (s.nv.direct = true → Runs (.calibrationRerun true [r]) s fun t => t.nv = s.nv ∧ t.faults = s.faults) ∧
       (s.nv.direct = false → Runs (.calibrationRerun true [r]) s fun t =>
         (d.natAbs ≤ s.trimWin n * trimUnit →
           smapFind t.nv.trim (trimKey n r.inst.toNat) = some v ∧ t.faults = s.faults) ∧
         (s.trimWin n * trimUnit < d.natAbs →
           t.nv = s.nv ∧ Raised t 52 1 ∧ t.fld F.CAL_STATUS_last_item 0 0 = n))) ∧
     (∀ (v : Word32) (n i : Nat), n = s.fld F.CAL_SEL_item 0 0 → i = s.fld F.CAL_SEL_instance 0 0 →
       Runs (.calTrimWrite v) s fun t => { t with nv := s.nv } = s ∧
         smapFind t.nv.window n = some (bitsOf v.toNat 24 8) ∧
         (s.nv.direct = false → t.nv.trim = s.nv.trim) ∧
         (s.nv.direct = true → n ≠ 4 → n ≠ 5 →
           smapFind t.nv.trim (trimKey n i) = some (v.toNat % 2 ^ trimBits n)) ∧
         (s.nv.direct = true → (n = 4 ∨ n = 5) → s.serves (i / 2) = true → t.nv.trim = s.nv.trim ∧
           smapFind t.nv.later (trimKey n i) = some (v.toNat % 2 ^ trimBits n))))

/-! ## Power, temperature, the performance monitor, the test access port -/

/-- Temperature (R217, R338 to R346): the ladder's step, throttle and forced cap follow the dies' reported temperatures,
and a die above 105 °C asserts THERM_N and, from FOCUS on, makes HALT due; a trip quiesces the stack; the model moves
towards its steady temperature, by the power of the currents measured (that they come with the model's own update is the
model's choice: log 121); a canary estimate names its highest lost row. -/
def Obligations.Temperature : Prop :=
  ∀ s : State,
    (∀ rs : List SensorReading,
      (s.inReset = true → Runs (.thermalLadderEvaluation rs) s fun t => t = s) ∧
      (s.inReset = false → Runs (.thermalLadderEvaluation rs) s fun t =>
        t.fld F.PWR_LADDER_step 0 0 = (if t.pwr.tripped then 5 else t.topStep) ∧ t.fld F.PWR_LADDER_hottest 0 0 = t.hottest ∧
        t.forcedLow = decide (3 ≤ t.topHeat) ∧
        t.throttle = (if t.pwr.capThrottle then 2 ^ 34 - 1 else t.heatThrottle) ∧
        (∀ p ∈ diesOf s.part, (∀ k, 1 ≤ k → k ≤ 3 → riseAt k * degree < t.reported p → k ≤ (t.die p).step) ∧
          (t.reported p ≤ 82 * degree → (t.die p).step = 0) ∧ (riseAt 4 * degree < t.reported p → (t.die p).hot = true)) ∧
        ((∃ p ∈ diesOf s.part, riseAt 4 * degree < t.reported p) → t.fld F.PWR_LADDER_therm_n 0 0 = 1 ∧
          (s.mode ≠ 0 → s.mode ≠ 7 → t.fc.haltDue = some (s.fc.haltDue.getD .overheat))))) ∧
    (∀ p : Fin 18,
      (s.inReset = true ∨ s.pwr.tripped = true ∨ diePresent s.part p.val = false →
        Runs (.thermalTrip p) s fun t => t = s) ∧
      (s.inReset = false → s.pwr.tripped = false → diePresent s.part p.val = true → Runs (.thermalTrip p) s fun t =>
        t.mode = 7 ∧ t.pwr.tripped = true ∧ t.thermBall = true ∧ t.fld F.PWR_LADDER_step 0 0 = 5 ∧
        t.fld F.GLOBAL_MODE_busy 0 0 = 0 ∧ t.change = none ∧ t.st.builds = [] ∧ t.ppsHigh = 0 ∧ Raised t 50 2 ∧
        ∀ e, e < 34 → t.fld F.CE_CTRL_run e 0 = 0)) ∧
    (∀ (amps : List Nat) (u : State), u = { s with pwr := { s.pwr with amps := amps } } →
      Runs (.thermalModelUpdate amps) s fun t => t.pwr.amps = amps ∧ (∀ c, (t.chan c).cmds = 0) ∧ ∀ p ∈ diesOf s.part,
        (t.die p).model = (s.die p).model + (s.steady p (u.diePower p) - (s.die p).model) / (Config.thermTau p : Nat)) ∧
    (∀ (d : Fin 18) (lost : BitVec 16),
      (s.canaryChans d.val ≠ [] → Runs (.canaryCheck d lost) s fun t =>
        (t.die d.val).checked = s.tb + 1 ∧
        ((∀ i, i < 8 → s.canaryLost d.val lost.toNat i = false) → (t.die d.val).canary = none) ∧
        ∀ i, i < 8 → s.canaryLost d.val lost.toNat i = true →
          (∀ j, i < j → j < 8 → s.canaryLost d.val lost.toNat j = false) →
          (t.die d.val).canary = some (75 + 5 * (i : Int))) ∧
      (s.canaryChans d.val = [] → Runs (.canaryCheck d lost) s fun t => t = s))

/-- Power (R27, R218, R340, R341, R347 to R356, R385): monitors tell what they find, the idle time of an engine since
its last measurement becomes slots, the average that the cap sees is within 3 % of stack power, the cap and the governor
run when they may, a voltage moves one step at a time, and a domain is switched only as its dependencies and the mode
allow. That a reading beyond 3 % is held to it is the model's choice (log 121). -/
def Obligations.PowerDomains : Prop :=
  ∀ s : State,
    (∀ (e : Fin 35) (rate : BitVec 16) (idle : List Nat),
      (s.engOn e.val = true → Runs (.delayLineMeasure e rate idle) s fun t => t.fld F.PWR_DLM_rate e.val 0 = rate.toNat ∧
        ∀ k, k < 6 → t.fld F.PM_TD_slots e.val (k + 2) = (s.fld F.PM_TD_slots e.val (k + 2) +
          (2 * smapGet 0 s.pm.held (e.val * 8 + (k + 2)) * rate.toNat + smapGet 0 s.pm.idle (e.val * 8 + (k + 2))) / 1000) % 2 ^ 64) ∧
      (s.engOn e.val = false → Runs (.delayLineMeasure e rate idle) s fun t => t = s)) ∧
    (∀ n : Fin 104,
      (s.domOn n.val = true → domPresent s.part n.val = true → Runs (.ldoMonitor n) s fun t => Raised t 51 0 ∧
        { t with faults := s.faults } = s) ∧
      (s.domOn n.val = false ∨ domPresent s.part n.val = false → Runs (.ldoMonitor n) s fun t => t = s)) ∧
    (∀ (r : Fin 8) (mv : BitVec 16), Runs (.railMonitor r mv) s fun t => t.fld F.PWR_RAIL_mv r.val 0 = mv.toNat ∧
      ((railWindow r.val).1 ≤ mv.toNat → mv.toNat ≤ (railWindow r.val).2 →
        smapFind t.pwr.railOut r.val = none ∧ t.faults = s.faults) ∧
      (mv.toNat < (railWindow r.val).1 ∨ (railWindow r.val).2 < mv.toNat →
        (smapFind s.pwr.railOut r.val = none → smapFind t.pwr.railOut r.val = some (s.tb, false) ∧ t.faults = s.faults) ∧
        (∀ u, smapFind s.pwr.railOut r.val = some (u, false) → u + 100000 < s.tb →
          t.fld F.PWR_RAIL_out r.val 0 = 1 ∧ Raised t 51 1 ∧ smapFind t.pwr.railOut r.val = some (u, true)))) ∧
    (∀ (v : BitVec 16) (avg : Nat), avg = s.powerReading v.toNat →
      Runs (.capEnforce v) s fun t => t.fld F.PWR_POWER_avg 0 0 = avg % 2 ^ F.PWR_POWER_avg.w ∧
      100 * avg ≤ 103 * s.stackPower ∧ 97 * s.stackPower ≤ 100 * avg ∧
      (s.capUnits < avg → s.allLow = true → t.pwr.capThrottle = true ∧ t.throttle = 2 ^ 34 - 1) ∧
      (s.capUnits < avg → s.allLow = false → t.pwr.capThrottle = s.pwr.capThrottle ∧ t.faults = s.faults)) ∧
    (s.mode ≠ 3 ∨ s.tk.govDue = false → Runs .governorEvaluate s fun t => t = s) ∧
    (s.mode = 3 → s.tk.govDue = true → Runs .governorEvaluate s fun t => t.tk.govDue = false ∧
      (s.fld F.PWR_CTRL_gov_en 0 0 = 0 → t.pwr = s.pwr ∧ t.regs = s.regs) ∧
      (s.fld F.PWR_CTRL_gov_en 0 0 ≠ 0 → t.pwr.slack = s.takeSlack.pwr.slack)) ∧
    (∀ e : Fin 35, Runs (.voltageStepComplete e) s fun t =>
      (s.vCode e.val < s.goalOf e.val → t.vCode e.val = (s.vCode e.val + 1) % 2 ^ 5) ∧
      (s.goalOf e.val < s.vCode e.val → t.vCode e.val = (s.vCode e.val - 1) % 2 ^ 5) ∧
      (s.vCode e.val = s.goalOf e.val → t.vCode e.val = s.vCode e.val)) ∧
    (∀ n : Fin 104,
      (∀ on, s.fwMay n.val on = false → Runs (.pwrDomWrite n on) s fun t => t.fld F.PWR_DOM_refused n.val 0 = 1 ∧
        OnlyRegs s t [fldKey F.PWR_DOM_refused n.val 0]) ∧
      (s.fwMay n.val true = true → s.depsOn n.val = true → s.transOf n.val = none → s.domOn n.val = false →
        Runs (.pwrDomWrite n true) s fun t => t.fld F.PWR_DOM_on n.val 0 = 1 ∧ t.fld F.PWR_DOM_busy n.val 0 = 1 ∧
          t.transOf n.val = some (if s.goingOn < 4 then .on else .queued) ∧ t.domOn n.val = false) ∧
      (s.fwMay n.val false = true → s.unneeded n.val = true → s.transOf n.val = none → s.domOn n.val = true →
        Runs (.pwrDomWrite n false) s fun t => t.fld F.PWR_DOM_on n.val 0 = 0 ∧ t.transOf n.val = some .off ∧
          t.domOn n.val = false) ∧
      (s.transOf n.val = none ∨ s.transOf n.val = some .queued →
        Runs (.domainTransitionComplete n) s fun t => t = s) ∧
      (s.transOf n.val = some .on → domPresent s.part n.val = true → s.fld F.PWR_DOM_on n.val 0 ≠ 0 →
        Runs (.domainTransitionComplete n) s fun t => t.transOf n.val = none ∧
          (s.depsOn n.val = true → t.domOn n.val = true) ∧
          (s.depsOn n.val = false → s.domOn n.val = false → t.domOn n.val = false)) ∧
      (s.transOf n.val = some .off → s.fld F.PWR_DOM_on n.val 0 = 0 →
        Runs (.domainTransitionComplete n) s fun t => t.transOf n.val = none ∧ t.fld F.PWR_DOM_busy n.val 0 = 0)) ∧
    (∀ (e : Fin 35) (v : Word32) (k : Nat), k = min 30 (bitsOf v.toNat 8 5) →
      Runs (.pwrCeSetCodeWrite e v) s fun t => t.goalOf e.val = t.heldCode e.val ∧
        (e.val = 34 → t.fld F.PWR_SV_set_code 0 0 = k) ∧
        (e.val < 34 → t.fld F.PWR_CE_set_code e.val 0 = k ∧ t.fld F.PWR_CE_prio e.val 0 = bitsOf v.toNat 16 2 ∧
          t.fld F.PWR_CE_manual e.val 0 = bitsOf v.toNat 18 1))

/-- The performance monitor (R379, R383 to R393): commits and counter writes wait for the interval's end; a contact
sheet falls due once its period has passed, captures its counters at the interval's end (that it does so then is the
model's choice: log 156), ends, is skipped while one runs, and is told where it cannot be written; the Loupe and the
tags start, stop and drain, and a channel engine reads nothing of them. -/
def Obligations.Monitor : Prop :=
  ∀ s : State,
    Runs .pmCommit s (fun t => t.pm.commitPending = true ∧ { t with pm := s.pm } = s) ∧
    (∀ (n : Fin 16) (v : Word64), Runs (.pmCounterWrite n v) s fun t => smapFind t.pm.wrote n.val = some v.toNat ∧
      { t with pm := s.pm } = s) ∧
    (s.fld F.PM_SHEET_enable 0 0 = 0 ∨ sheetMode s.mode = false ∨ s.sheetTime = false →
      Runs .contactSheetDue s fun t => t = s) ∧
    (s.fld F.PM_SHEET_enable 0 0 ≠ 0 → sheetMode s.mode = true → s.sheetTime = true →
      (s.served3 = false → Runs .contactSheetDue s fun t => t.fld F.PM_STATUS_sheet_err 0 0 = 1 ∧
        t.pm = { s.pm with sheetLast := some s.tb } ∧ OnlyRegs { s with pm := t.pm } t [fldKey F.PM_STATUS_sheet_err 0 0]) ∧
      (s.served3 = true → s.pm.sheet ≠ none ∨ s.pm.sheetAsk ≠ none → Runs .contactSheetDue s fun t =>
        t.pm.sheet = s.pm.sheet ∧ t.pm.sheetAsk = s.pm.sheetAsk ∧
        t.pm.skippedSince = true ∧ t.fld F.PM_SHEET_STAT_skipped 0 0 = satAdd 16 (s.fld F.PM_SHEET_STAT_skipped 0 0) 1) ∧
      (s.served3 = true → s.pm.sheet = none → s.pm.sheetAsk = none → Runs .contactSheetDue s fun t =>
        t.pm.sheetAsk = some s.pm.skippedSince ∧ t.pm.sheet = none ∧ t.pm.skippedSince = false ∧
        t.pm.sheetsCleared = true)) ∧
    (∀ k, s.pending = [] → s.inReset = false → s.slewLeft = 0 → s.tbAdvance.units ≠ s.units → s.pm.sheetAsk = some k →
      ∃ t l, step s = .next t ∧ t.pm.sheet = some (16 * s.tbAdvance.units, k, l) ∧ t.pm.sheetAsk = none) ∧
    (s.pm.sheet = none → Runs .contactSheetComplete s fun t => t = s) ∧
    (s.pm.sheet ≠ none → Runs .contactSheetComplete s fun t => t.pm.sheet = none ∧
      (s.served3 = true → t.fld F.PM_SHEET_SEQ_seq 0 0 = (s.fld F.PM_SHEET_SEQ_seq 0 0 + 1) % 2 ^ 32) ∧
      (s.served3 = false → t.fld F.PM_STATUS_sheet_err 0 0 = 1)) ∧
    (∀ v : Word32,
      (s.part = .tkw3209 → Runs (.loupeCtrlWrite v) s fun t => t = s) ∧
      (s.part = .tkw6417 → s.fld F.PM_LOUPE_CTRL_run 0 0 ≠ 0 →
        (s.loupeWord ≠ v.toNat &&& loupeMask → Runs (.loupeCtrlWrite v) s fun t => t.fld F.PM_STATUS_loupe_err 0 0 = 1 ∧
          OnlyRegs s t [fldKey F.PM_STATUS_loupe_err 0 0]) ∧
        (s.loupeWord = v.toNat &&& loupeMask → bitOf v.toNat 31 = false → Runs (.loupeCtrlWrite v) s fun t =>
          t.fld F.PM_LOUPE_CTRL_run 0 0 = 0 ∧ t.pm.lone = none)) ∧
      (s.part = .tkw6417 → s.fld F.PM_LOUPE_CTRL_run 0 0 = 0 →
        (bitOf v.toNat 31 = true → bitsOf v.toNat 0 8 ∈ loupeEvents → Runs (.loupeCtrlWrite v) s fun t =>
          t.fld F.PM_LOUPE_CTRL_run 0 0 = 1 ∧ t.fld F.PM_LOUPE_CTRL_event 0 0 = bitsOf v.toNat 0 8 ∧
          t.fld F.PM_LOUPE_CTRL_p 0 0 = bitsOf v.toNat 16 4 ∧ t.fld F.PM_LOUPE_STAT_lost 0 0 = 0 ∧ t.pm.seq = 0) ∧
        (bitOf v.toNat 31 = true → bitsOf v.toNat 0 8 ∉ loupeEvents → Runs (.loupeCtrlWrite v) s fun t =>
          t.fld F.PM_LOUPE_CTRL_run 0 0 = 0 ∧ t.fld F.PM_STATUS_loupe_err 0 0 = 1) ∧
        (bitOf v.toNat 31 = false → Runs (.loupeCtrlWrite v) s fun t => t.fld F.PM_LOUPE_CTRL_run 0 0 = 0 ∧
          t.fld F.PM_LOUPE_CTRL_event 0 0 = bitsOf v.toNat 0 8 ∧ { t with regs := s.regs } = s)) ∧
      (s.part = .tkw6417 → Runs (.pmTagWrite v) s fun t => t = s) ∧
      (s.part = .tkw3209 → Runs (.pmTagWrite v) s fun t => t.fld F.PM_TAG_run 0 0 = bitsOf v.toNat 31 1 ∧
        t.fld F.PM_TAG_p 0 0 = bitsOf v.toNat 16 4 ∧ t.fld F.PM_TAG_kinds 0 0 = bitsOf v.toNat 24 4 ∧
        (bitOf v.toNat 31 = true → s.fld F.PM_TAG_run 0 0 = 0 → t.pm.seq = 0 ∧ t.fld F.PM_LOUPE_STAT_lost 0 0 = 0))) ∧
    (∀ (e : Fin 34) (u : Fin 16), Runs (.loupeDataRead (.ce e u)) s fun t => t = { s with lastRead := 0 }) ∧
    (∀ p ∈ Path.mgmt :: (List.finRange 16).map Path.sv,
      (s.pm.buffer = [] → Runs (.loupeDataRead p) s fun t => t = { s with lastRead := 0 }) ∧
      (∀ r rest, s.pm.buffer = r :: rest → Runs (.loupeDataRead p) s fun t =>
        t.lastRead = leNat ((r.drop (4 * s.pm.word)).take 4) ∧
        (s.pm.word = 7 → t.pm.buffer = rest ∧ t.pm.word = 0 ∧ t.fld F.PM_LOUPE_STAT_held 0 0 = rest.length % 2 ^ 13) ∧
        (s.pm.word ≠ 7 → t.pm.buffer = s.pm.buffer ∧ t.pm.word = s.pm.word + 1)))

/-- The test access port (R419 to R421): each instruction is loaded into the 8-bit instruction register, which captures
0x01, and nothing but the port changes; every opcode but 0x01 to 0x05 acts as BYPASS; IDCODE reads the part's code;
SAMPLE/PRELOAD takes the twelve cells and loads the boundary register, which EXTEST and CLAMP drive and HIGHZ releases;
EXTEST captures the cells again. That a selected bypass register holds 0 is the model's reading (log 209). -/
def Obligations.TestAccessPort : Prop :=
  ∀ s : State,
    Runs .tapReset s (fun t => t.tap.ir = .idcode ∧ t.tap.irReg = 0x01 ∧ { t with tap := s.tap } = s) ∧
    Runs .idcode s (fun t => Loaded t 0x01 .idcode ∧ { t with tap := s.tap, lastRead := s.lastRead } = s ∧
      t.lastRead = (match s.part with | .tkw6417 => 0x0641794B | .tkw3209 => 0x0320994B)) ∧
    (∀ w : BitVec 12, Runs (.samplePreload w) s fun t => Loaded t 0x02 .sample ∧ t.tap.outputs = w ∧
      t.tap.sampled = cellWord s.cells ∧ { t with tap := s.tap, free := s.free } = s) ∧
    Runs .extest s (fun t => Loaded t 0x03 .extest ∧ { t with tap := s.tap, free := s.free } = s ∧
      t.tap.sampled = cellWord s.cells ∧ ShowsOutputs s t) ∧
    Runs .clamp s (fun t => Loaded t 0x05 .clamp ∧ { t with tap := s.tap } = s ∧ ShowsOutputs s t) ∧
    Runs .highz s (fun t => Loaded t 0x04 .highz ∧ { t with tap := s.tap } = s ∧ t.ppsBall = none ∧ t.faultBall = false) ∧
    Runs .bypass s (fun t => Loaded t 0xFF .bypass ∧ { t with tap := s.tap } = s) ∧
    (∀ op : BitVec 8, tapOp op = .bypass ↔ op.toNat = 0 ∨ 5 < op.toNat)

/-! ## The whole machine -/

/-- A step takes the command at the front of the queue and gives it its effect with the queue's rest. On an empty queue
one cycle of the timebase passes, the model's choice (log 2). No command and no state stops the stack: a trap, an
error response, a fault event and HALT are effects on the state. -/
def Obligations.StepRunsFront : Prop :=
  ((∀ (c : Instr) (l : List Instr) (s : State), s.pending = c :: l → step s = exec c { s with pending := l }) ∧
   (∀ s : State, s.pending = [] → step s = .next s.cycle)) ∧
  (∀ s : State, StepSafe s)

/-- What reset leaves, by the spec: the stack held in reset in SAFELIGHT (R213, R220, R235), every strand DISABLED with
g, v, p1 to p7 and `fpstat` 0 and its deadlines all ones (R61), every directory entry invalid and never used, every
session FREE (R133), the timebase 0, and the reset values of the register tables, some of each block. -/
def Obligations.ResetState : Prop :=
  State.reset.inReset = true ∧ State.reset.mode = 0 ∧ State.reset.tb = 0 ∧
  (∀ e u n, (State.reset.strand e u).st = .disabled ∧ (State.reset.strand e u).rg n = 0 ∧
    (State.reset.strand e u).rv n = 0 ∧ (State.reset.strand e u).rp n = decide (n = 0) ∧
    (State.reset.strand e u).rdl n = BitVec.allOnes 64 ∧ (State.reset.strand e u).fpstat = 0) ∧
  (∀ x, entValid (State.reset.entry x) = false) ∧ (∀ x, (State.reset.ctx x).st = .free) ∧
  (∀ p ∈ resetFields, ∀ i, i < p.1.1 → State.reset.fld p.1.2 i 0 = p.2)

/-- The reset state is one of those that the invariants speak of; no command waits in it and its memory lists nothing.
-/
def Obligations.ResetInForm : Prop :=
  MemoryForm State.reset ∧ DirectoryForm State.reset ∧ OperationNumbers State.reset ∧ FuseForm State.reset ∧ State.reset.pending = [] ∧ State.reset.dram = []

/-- A step keeps the canonical form of DRAM, scratch, the SV's SRAM and the instruction SRAMs, and of the directory's
entries. A step keeps outstanding operations numbered apart, below the next number. A step keeps what FUSE loads in the
fields that are loaded from it. -/
def Obligations.StepsKeepForm : Prop :=
  (∀ s t : State, MemoryForm s → step s = .next t → MemoryForm t) ∧
  (∀ s t : State, DirectoryForm s → step s = .next t → DirectoryForm t) ∧
  (∀ s t : State, OperationNumbers s → step s = .next t → OperationNumbers t) ∧
  (∀ s t : State, FuseForm s → step s = .next t → FuseForm t)

/-! ## Encoding -/

/-- Words of the spec's encodings stand for the instructions the spec gives with them (R63, R65 and the tables of
spec/03). -/
def Obligations.WordsDecode : Prop :=
  ∀ i : Iss,
    decodeSillar i 0x01C00532#32 = some (.tickWait i { rd := 10, rs1 := 0, rs2 := 0, dl := 7 }) ∧
    decodeSillar i 0x0C061005#32 = some (.vfma i { rd := 0, rs1 := 1, rs2 := 3, pred := 0, neg := false }) ∧
    decodeSillar i 0x20166030#32 = some (.entPub i { rd := 0, rs1 := 6, rs2 := 11, dl := 0 }) ∧
    decodeSillar i 0xFFF05288#32 = some (.addi i { rd := 5, rs1 := 5, pred := 0, imm := -1 }) ∧
    decodeSillar i 0xFFF400A8#32 = some (.br i { pred := 1, neg := false, rs1 := 0, imm := -12 }) ∧
    decodeSillar i 0xFFED0028#32 = some (.br i { pred := 0, neg := false, rs1 := 0, imm := -19 }) ∧
    decodeSillar i 0#32 = none

/-- Decode and encode agree: every well-formed Sillar instruction, with every operand at every value its word admits, is
read back from its word. -/
def Obligations.SillarRoundTrip : Prop :=
  ∀ (c : Instr) (w : Word32), c.wf = true → encodeSillar c = some w → ∃ i, decodeSillar i w = some c

/-! ## Sillar: what stops an instruction -/

/-- Issue-time traps and stalls (R28, R33, R45, R46, R51, R62, R66, R72, R79): a strand that cannot issue does nothing;
a double error at fetch traps CHECK and is a fault; a bad encoding, a bad rounding mode, the last index and a branch
out of range trap ILLEGAL; a world or scratch access traps ALIGN before RANGE before DEADLINE; a lock out of order
traps ORDER; REGRD of a title strand traps PRIVILEGE; a register that awaits a result stalls the strand. -/
def Obligations.IssueTraps : Prop :=
  ∀ (i : Iss) (s : State),
    (∀ f : FmtA,
      (s.canIssue i.e.val i.t.val (infoA f) = false → exec (.add i f) s = .next s) ∧
      (s.canIssue i.e.val i.t.val (infoA f) = true → i.ecc = .double →
        Runs (.add i f) s fun t => TrapsAt s t i 7 0 ((s.me i).pc.setWidth 64) ∧
          (i.e.val < 34 → Raised t 48 0 ∧ t.fld F.CE_STATUS_imem_ue i.e.val 0 = 1) ∧ (i.e.val = 34 → Raised t 49 0)) ∧
      (Fetched s i (infoA f) → f.rs2 ≠ 0 → Runs (.clz i f) s fun t => TrapsAt s t i 1 0 0) ∧
      (Fetched s i (infoFp s i f 4) → 4 ≤ (s.me i).round → Runs (.fadd i f) s fun t => TrapsAt s t i 1 1 0) ∧
      (Fetched s i (infoA f) → (s.me i).pc = 0xFFFF → Runs (.add i f) s fun t => TrapsAt s t i 1 3 0) ∧
      (Fetched s i (infoA f) → (s.me i).pc ≠ 0xFFFF → s.hazard i.e.val i.t.val (infoA f) = true →
        Runs (.add i f) s fun t => (t.me i).st = .stalled ∧ (t.me i).pc = (s.me i).pc ∧ (t.me i).g = (s.me i).g ∧
          t.ops = s.ops ∧ t.dram = s.dram)) ∧
    (∀ f : FmtB, Issues s i { reads := pN f.pred.toNat, branch := true, last := uncond f } → f.rs1 = 0 →
      ((s.me i).rp f.pred.toNat != f.neg) = true →
      ((s.me i).pc.toNat : Int) + f.imm.toInt < 0 ∨ 65535 < ((s.me i).pc.toNat : Int) + f.imm.toInt →
      Runs (.br i f) s fun t => TrapsAt s t i 1 3 0) ∧
    (∀ (f : FmtL) (a : Word64), a = eaL f (s.me i) (bytesL f) → Issues s i (infoMem f [] (gN f.rt)) →
      (a.toNat % bytesL f ≠ 0 → Runs (.ld i f) s fun t => TrapsAt s t i 4 0 a) ∧
      (a.toNat % bytesL f = 0 → 2 ^ 36 ≤ a.toNat → Runs (.ld i f) s fun t => TrapsAt s t i 3 0 a) ∧
      (a.toNat % bytesL f = 0 → a.toNat < 2 ^ 36 → (s.me i).title = true → i.e.val < 34 → inDeviceArea a.toNat = true →
        Runs (.ld i f) s fun t => TrapsAt s t i 3 0 a) ∧
      (a.toNat % bytesL f = 0 → (issued s i (infoMem f [] (gN f.rt))).rangeBad i a (bytesL f) .read = false →
        (issued s i (infoMem f [] (gN f.rt))).dlBad i f.dl = true → Runs (.ld i f) s fun t => TrapsAt s t i 6 0 a) ∧
      (f.dl = 0 → Issues s i (infoSld f (gN f.rt)) → a.toNat % bytesL f ≠ 0 → Runs (.sld i f) s fun t => TrapsAt s t i 4 0 a) ∧
      (f.dl = 0 → Issues s i (infoSld f (gN f.rt)) → a.toNat % bytesL f = 0 → s.scratchReach i < a.toNat + bytesL f →
        Runs (.sld i f) s fun t => TrapsAt s t i 3 0 a)) ∧
    (∀ (f : FmtE) (h : Word64), h = (s.me i).rg f.rs1.toNat → f.rs2 = 0 → f.dl = 0 →
      Issues s i { reads := gN f.rs1, writes := gN f.rd, mem := true } →
      ((s.me i).slots ≠ [] ∨ (s.me i).dma ≠ 0 → Runs (.entLock i f) s fun t => TrapsAt s t i 5 0 h) ∧
      ((s.me i).slots = [] → (s.me i).dma = 0 → (∃ k ∈ (s.me i).locks, hIndex h.toNat ≤ k) →
        Runs (.entLock i f) s fun t => TrapsAt s t i 5 1 h)) ∧
    (∀ f : FmtX, f.imm = 0 → s.unprivileged i = true → Issues s i (infoX (gN f.rs1) (gN f.rd)) →
      Runs (.regrd i f) s fun t => TrapsAt s t i 2 0 0)

/-! ## Causes, births, the schedule -/

/-- The cause codes (R428): `tcause[7:0]` and `stcause[7:0]` of a trap, and byte 0x17 of a record, hold the cause by its
code of 1 to 15; `more` is bit 8 and the subcode bits [15:12] (R99). -/
def Obligations.TrapCauseCodes : Prop :=
  (∀ p ∈ causeTable, ∀ (sub epc fpc : Nat) (addr info : Word64) (more : Bool), sub < 16 →
    (trapRegs ⟨p.1, sub, addr, info⟩ epc fpc more).cause = BitVec.ofNat 64 (p.2 + (if more then 256 else 0) + 4096 * sub)) ∧
  (∀ c : Cause, ∃ n, (c, n) ∈ causeTable ∧ 1 ≤ n ∧ n ≤ 15) ∧
  (∀ p ∈ causeTable, ∀ (e u pc : Nat) (title : Bool) (addr : Word64) (s : State),
    (s.trapOccurs e u pc title p.1.code addr) = (s.trapOccurs e u pc title p.2 addr)) ∧
  (∀ (x : Sample) (sq now n : Nat) (gap : Bool), n < 256 → (x.record sq now n gap)[0x17]? = some (BitVec.ofNat 8 n))

/-- TK_SCHED_COMMIT (R107): a valid shadow set becomes the active one, which the next tick to start takes; the start of
that tick and the tick under way are not moved. An invalid set changes nothing but `sched_err`. -/
def Obligations.ScheduleCommit : Prop :=
  ∀ (s : State) (p i d : Nat), p = s.shd F.TK_PERIOD_ns 0 0 → i = s.shd F.TK_INGEST_CLOSE_ns 0 0 →
    d = s.shd F.TK_COMMIT_DL_ns 0 0 →
    (1000000 ≤ p ∧ p ≤ 1000000000 ∧ 10000 ≤ i ∧ i < d ∧ d ≤ p →
      Runs .tkSchedCommit s fun t => t.fld F.TK_PERIOD_ns 0 0 = p ∧ t.fld F.TK_INGEST_CLOSE_ns 0 0 = i ∧
        t.fld F.TK_COMMIT_DL_ns 0 0 = d ∧ t.fld F.TK_START_time 0 0 = s.fld F.TK_START_time 0 0 ∧
        { t with regs := s.regs, shadow := s.shadow } = s ∧
        ((t.mode = 3 ∨ t.mode = 4) → t.fld F.TK_CTRL_run 0 0 ≠ 0 → t.fld F.TK_START_time 0 0 ≤ t.tb → t.missDue = false →
          Runs .tickStart t fun u => u.tk.per = p ∧ u.tk.ing = i ∧ u.tk.dl = d)) ∧
    (¬ (1000000 ≤ p ∧ p ≤ 1000000000 ∧ 10000 ≤ i ∧ i < d ∧ d ≤ p) →
      Runs .tkSchedCommit s fun t => t.fld F.TK_STATUS_sched_err 0 0 = 1 ∧
        OnlyRegs s t [fldKey F.TK_STATUS_sched_err 0 0])
end

