-- ==== Sys2Proof/Laws/Crypto.lean ====
section
/-!
SUPPORT. The AES tables are the substitution FIPS 197 defines: the inverse in GF(2^8), then the affine map.
-/

namespace Sys2Proof.Machine

/-- The inverse, a^254; 0 for 0. -/
def aesInv (a : Nat) : Nat :=
  let a2 := aesMul a a
  let a3 := aesMul a2 a
  let a6 := aesMul a3 a3
  let a12 := aesMul a6 a6
  let a15 := aesMul a12 a3
  let a30 := aesMul a15 a15
  let a60 := aesMul a30 a30
  let a120 := aesMul a60 a60
  let a126 := aesMul a120 a6
  let a127 := aesMul a126 a
  aesMul a127 a127

def rotl8 (n x : Nat) : Nat := x * 2 ^ n % 256 + x / 2 ^ (8 - n)

/-- The table of the substitution holds, for every byte, the affine map of its inverse. -/
theorem aesSub_eq : ∀ b, b < 256 → aesSub b =
    (aesInv b ^^^ rotl8 1 (aesInv b) ^^^ rotl8 2 (aesInv b) ^^^ rotl8 3 (aesInv b) ^^^ rotl8 4 (aesInv b) ^^^ 0x63) := by
  decide +kernel

/-- The inverse table undoes it. -/
theorem aesUnsub_aesSub : ∀ b, b < 256 → aesUnsub (aesSub b) = b := by decide +kernel

/-- MixColumns' products are those of the field. -/
theorem aesCoef_eq : ∀ c ∈ [1, 2, 3, 9, 11, 13, 14], ∀ b, b < 256 → aesCoef c b = aesMul c b := by decide +kernel

/-- The bytes a table gives are bytes. -/
theorem boxAt_lt (t : List Nat) (b : Nat) : boxAt t b < 256 := Nat.mod_lt _ (by decide)

theorem crcBit_lt {c : Nat} (h : c < 2 ^ 32) : crcBit c < 2 ^ 32 := by
  unfold crcBit
  split
  · exact Nat.xor_lt_two_pow (by omega) (by decide)
  · omega

theorem crcByte_lt {c b : Nat} (h : c < 2 ^ 32) (hb : b < 2 ^ 32) : crcByte c b < 2 ^ 32 := by
  unfold crcByte
  have key : ∀ (l : List Nat) (a : Nat), a < 2 ^ 32 → l.foldl (fun a _ => crcBit a) a < 2 ^ 32 := by
    intro l
    induction l with
    | nil => exact fun a ha => ha
    | cons x l ih => exact fun a ha => ih _ (crcBit_lt ha)
  exact key _ _ (Nat.xor_lt_two_pow h hb)

/-- CRC-32C of bytes is a 32-bit number. -/
theorem crc32c_lt {bs : List Nat} (h : ∀ b ∈ bs, b < 2 ^ 32) : crc32c bs < 2 ^ 32 := by
  have key : ∀ (l : List Nat), (∀ b ∈ l, b < 2 ^ 32) → ∀ c, c < 2 ^ 32 → l.foldl crcByte c < 2 ^ 32 := by
    intro l
    induction l with
    | nil => exact fun _ c hc => hc
    | cons x l ih =>
      intro hl c hc
      exact ih (fun b hb => hl b (List.mem_cons_of_mem _ hb)) _ (crcByte_lt hc (hl x (List.mem_cons_self ..)))
  exact Nat.xor_lt_two_pow (key bs h _ (by decide)) (by decide)

/-- Bytes read as a number fit it. -/
theorem beNat_lt {l : List Nat} (h : ∀ b ∈ l, b < 256) : beNat l < 256 ^ l.length := by
  have key : ∀ (l : List Nat), (∀ b ∈ l, b < 256) → ∀ a, l.foldl (fun a b => 256 * a + b) a < (a + 1) * 256 ^ l.length := by
    intro l
    induction l with
    | nil => intro _ a; simp
    | cons x l ih =>
      intro hl a
      have h1 := ih (fun b hb => hl b (List.mem_cons_of_mem _ hb)) (256 * a + x)
      have h2 := hl x (List.mem_cons_self ..)
      simp only [List.foldl_cons, List.length_cons, Nat.pow_succ']
      refine lt_of_lt_of_le h1 ?_
      rw [← Nat.mul_assoc]
      exact Nat.mul_le_mul_right _ (by omega)
  have h0 := key l h 0
  rwa [Nat.zero_add, Nat.one_mul] at h0

theorem beBytes_lt (n v : Nat) : ∀ b ∈ beBytes n v, b < 256 := by
  intro b hb
  simp only [beBytes, List.mem_map] at hb
  obtain ⟨k, -, rfl⟩ := hb
  exact Nat.mod_lt _ (by decide)

/-- A SHA hash has no more words than its first state. -/
theorem shaHash_words (p : ShaP) (ks : List Nat) : ∀ (bl : List (List Nat)) (h : List Nat),
    (bl.foldl (shaBlock p ks) h).length ≤ h.length := by
  intro bl
  induction bl with
  | nil => exact fun h => le_refl _
  | cons b bl ih =>
    intro h
    refine (ih _).trans ?_
    simp only [shaBlock, List.length_zipWith]
    exact Nat.min_le_left _ _

/-- SHA-256 is a 256-bit number. -/
theorem sha256_lt (bs : List Nat) : beNat (sha256 bs) < 2 ^ 256 := by
  have h8 := shaHash_words sha256P ((shaK.take 64).map (· / 2 ^ 32)) (pieces (2 * sha256P.w) (shaPad sha256P bs))
    (shaH.map (· / 2 ^ 32))
  rw [show (shaH.map (· / 2 ^ 32)).length = 8 by decide] at h8
  unfold sha256 shaHash
  revert h8
  generalize List.foldl (shaBlock sha256P ((shaK.take 64).map (· / 2 ^ 32))) _ _ = l
  intro h8
  have hlen : (l.flatMap (beBytes (sha256P.w / 8))).length ≤ 32 := by
    simp only [List.length_flatMap, beBytes, List.length_map, List.length_range]
    rw [show sha256P.w / 8 = 4 by decide, List.map_const', List.sum_replicate]
    simp only [smul_eq_mul]
    omega
  refine lt_of_lt_of_le (beNat_lt fun b hb => ?_) ((Nat.pow_le_pow_right (show 0 < 256 by decide) hlen).trans
    (show 256 ^ 32 ≤ 2 ^ 256 by decide))
  obtain ⟨x, -, hx⟩ := List.mem_flatMap.1 hb
  exact beBytes_lt _ _ b hx

/-- HMAC-SHA-256 is a 256-bit number. -/
theorem hmac256_lt (key msg : List Nat) : beNat (hmac256 key msg) < 2 ^ 256 := sha256_lt _

end Sys2Proof.Machine
end

