-- ==== Sys2Proof/Laws/SMap.lean ====
section
/-!
SUPPORT. Reads after writes of a sparse map, and that every operation on one keeps its canonical form.
-/

namespace Sys2Proof.Machine

variable {α : Type}

theorem smapFind_insert_same (m : SMap α) (k : Nat) (v : α) : smapFind (smapInsert m k v) k = some v := by
  induction m with
  | nil => simp [smapInsert, smapFind]
  | cons e m ih =>
    obtain ⟨j, w⟩ := e
    by_cases h : k = j
    · simp [smapInsert, smapFind, h]
    · by_cases h2 : k < j <;> simp [smapInsert, smapFind, h, h2, ih]

theorem smapFind_insert_ne (m : SMap α) {k q : Nat} (v : α) (h : q ≠ k) :
    smapFind (smapInsert m k v) q = smapFind m q := by
  induction m with
  | nil => simp [smapInsert, smapFind, h]
  | cons e m ih =>
    obtain ⟨j, w⟩ := e
    by_cases h1 : k = j
    · subst h1; simp [smapInsert, smapFind, h]
    · by_cases h2 : k < j <;> simp [smapInsert, smapFind, h, h1, h2, ih]

theorem smapFind_erase_same (m : SMap α) (k : Nat) : smapFind (smapErase m k) k = none := by
  induction m with
  | nil => simp [smapErase, smapFind]
  | cons e m ih =>
    obtain ⟨j, w⟩ := e
    by_cases h : k = j <;> simp [smapErase, smapFind, h]
    · simpa [h] using ih
    · exact ih

theorem smapFind_erase_ne (m : SMap α) {k q : Nat} (h : q ≠ k) : smapFind (smapErase m k) q = smapFind m q := by
  induction m with
  | nil => simp [smapErase, smapFind]
  | cons e m ih =>
    obtain ⟨j, w⟩ := e
    by_cases h1 : k = j
    · subst h1; simp [smapErase, smapFind, h, ih]
    · simp [smapErase, smapFind, h1, ih]

/-- A read after a write to the same key gives the value written. -/
@[simp] theorem smapGet_put_same [DecidableEq α] (d : α) (m : SMap α) (k : Nat) (v : α) :
    smapGet d (smapPut d m k v) k = v := by
  unfold smapGet smapPut
  split
  · next h => simp [smapFind_erase_same, h]
  · simp [smapFind_insert_same]

/-- A write leaves every other key alone. -/
theorem smapGet_put_ne [DecidableEq α] (d d' : α) (m : SMap α) {k q : Nat} (v : α) (h : q ≠ k) :
    smapGet d' (smapPut d m k v) q = smapGet d' m q := by
  unfold smapGet smapPut
  split
  · rw [smapFind_erase_ne m h]
  · rw [smapFind_insert_ne m v h]

/-! ## The canonical form -/

/-- Every key of the list lies above the bound. -/
theorem smapWfFrom_weaken [DecidableEq α] (d : α) {m : SMap α} {a b : Nat} (h : smapWfFrom d (some b) m = true)
    (hab : a ≤ b) : smapWfFrom d (some a) m = true := by
  cases m with
  | nil => rfl
  | cons e m =>
    obtain ⟨j, w⟩ := e
    simp only [smapWfFrom, Bool.and_eq_true, decide_eq_true_eq] at h ⊢
    exact ⟨⟨by omega, h.1.2⟩, h.2⟩

theorem smapWfFrom_insert [DecidableEq α] (d : α) (m : SMap α) (o : Option Nat) (k : Nat) {v : α} (hv : v ≠ d)
    (hk : ∀ b, o = some b → b < k) (h : smapWfFrom d o m = true) : smapWfFrom d o (smapInsert m k v) = true := by
  induction m generalizing o with
  | nil => cases o <;> simp_all [smapInsert, smapWfFrom]
  | cons e m ih =>
    obtain ⟨j, w⟩ := e
    have tail : smapWfFrom d (some j) m = true := by
      cases o <;> simp_all [smapWfFrom]
    by_cases h1 : k = j
    · subst h1; cases o <;> simp_all [smapInsert, smapWfFrom]
    · by_cases h2 : k < j
      · cases o <;> simp_all [smapInsert, smapWfFrom]
      · have := ih (some j) (by intro b hb; cases hb; omega) tail
        have h3 : ¬ k < j := h2
        simp only [smapInsert, if_neg h1, if_neg h3]
        cases o <;> simp_all [smapWfFrom]

theorem smapErase_above [DecidableEq α] (d : α) (m : SMap α) {b k : Nat} (hk : k ≤ b)
    (h : smapWfFrom d (some b) m = true) : smapErase m k = m := by
  induction m generalizing b with
  | nil => rfl
  | cons e m ih =>
    obtain ⟨j, w⟩ := e
    simp only [smapWfFrom, Bool.and_eq_true, decide_eq_true_eq] at h
    have hj : k ≠ j := by omega
    simp only [smapErase, if_neg hj]
    rw [ih (b := j) (by omega) h.2]

theorem smapWfFrom_erase [DecidableEq α] (d : α) (m : SMap α) (o : Option Nat) (k : Nat)
    (h : smapWfFrom d o m = true) : smapWfFrom d o (smapErase m k) = true := by
  induction m generalizing o with
  | nil => cases o <;> simp_all [smapErase, smapWfFrom]
  | cons e m ih =>
    obtain ⟨j, w⟩ := e
    have tail : smapWfFrom d (some j) m = true := by
      cases o <;> simp_all [smapWfFrom]
    by_cases h1 : k = j
    · subst h1
      simp only [smapErase, if_true]
      rw [smapErase_above d m (Nat.le_refl k) tail]
      cases o with
      | none =>
        cases m with
        | nil => rfl
        | cons e m => obtain ⟨j', w'⟩ := e; simp_all [smapWfFrom]
      | some b =>
        simp only [smapWfFrom, Bool.and_eq_true, decide_eq_true_eq] at h
        exact smapWfFrom_weaken d tail (by omega)
    · have := ih (some j) tail
      cases o <;> simp_all [smapErase, smapWfFrom]

/-- A write keeps the canonical form. -/
theorem smapWf_put [DecidableEq α] (d : α) (m : SMap α) (k : Nat) (v : α) (h : smapWf d m = true) :
    smapWf d (smapPut d m k v) = true := by
  unfold smapWf smapPut at *
  split
  · exact smapWfFrom_erase d m none k h
  · next hv => exact smapWfFrom_insert d m none k hv (by intro b hb; cases hb) h

/-- Dropping entries keeps the canonical form. -/
theorem smapWfFrom_filter [DecidableEq α] (d : α) (p : Nat × α → Bool) (m : SMap α) (o : Option Nat)
    (h : smapWfFrom d o m = true) : smapWfFrom d o (m.filter p) = true := by
  induction m generalizing o with
  | nil => simpa using h
  | cons e m ih =>
    obtain ⟨j, w⟩ := e
    have tail : smapWfFrom d (some j) m = true := by
      cases o <;> simp_all [smapWfFrom]
    by_cases hp : p (j, w) = true
    · have := ih (some j) tail
      cases o <;> simp_all [smapWfFrom]
    · rw [List.filter_cons_of_neg hp]
      cases o with
      | none =>
        have hm : smapWfFrom d none m = true := by
          cases m with
          | nil => rfl
          | cons e m => obtain ⟨j', w'⟩ := e; simp_all [smapWfFrom]
        exact ih none hm
      | some b =>
        simp only [smapWfFrom, Bool.and_eq_true, decide_eq_true_eq] at h
        exact ih (some b) (smapWfFrom_weaken d tail (by omega))

theorem smapWf_drop [DecidableEq α] (d : α) (m : SMap α) (lo hi : Nat) (h : smapWf d m = true) :
    smapWf d (smapDrop m lo hi) = true := smapWfFrom_filter d _ m none h

theorem smapWf_slice [DecidableEq α] (d : α) (m : SMap α) (lo hi : Nat) (h : smapWf d m = true) :
    smapWf d (smapSlice m lo hi) = true := smapWfFrom_filter d _ m none h

end Sys2Proof.Machine
end

