-- ==== Sys2Proof/Laws/State.lean ====
section
/-!
SUPPORT. What each plain update of the state leaves alone: one lemma per field per update.
-/

namespace Sys2Proof.Machine

/-! ## `State.setFld` -/

@[simp] theorem State.setFld_part (s : State) (f : Fld) (i j v : Nat) : (s.setFld f i j v).part = s.part := rfl
@[simp] theorem State.setFld_shadow (s : State) (f : Fld) (i j v : Nat) : (s.setFld f i j v).shadow = s.shadow := rfl
@[simp] theorem State.setFld_holdRd (s : State) (f : Fld) (i j v : Nat) : (s.setFld f i j v).holdRd = s.holdRd := rfl
@[simp] theorem State.setFld_holdWr (s : State) (f : Fld) (i j v : Nat) : (s.setFld f i j v).holdWr = s.holdWr := rfl
@[simp] theorem State.setFld_tb (s : State) (f : Fld) (i j v : Nat) : (s.setFld f i j v).tb = s.tb := rfl
@[simp] theorem State.setFld_tbFrac (s : State) (f : Fld) (i j v : Nat) : (s.setFld f i j v).tbFrac = s.tbFrac := rfl
@[simp] theorem State.setFld_slewAcc (s : State) (f : Fld) (i j v : Nat) : (s.setFld f i j v).slewAcc = s.slewAcc := rfl
@[simp] theorem State.setFld_ppsHigh (s : State) (f : Fld) (i j v : Nat) : (s.setFld f i j v).ppsHigh = s.ppsHigh := rfl
@[simp] theorem State.setFld_ppsLast (s : State) (f : Fld) (i j v : Nat) : (s.setFld f i j v).ppsLast = s.ppsLast := rfl
@[simp] theorem State.setFld_clkLost (s : State) (f : Fld) (i j v : Nat) : (s.setFld f i j v).clkLost = s.clkLost := rfl
@[simp] theorem State.setFld_lastRead (s : State) (f : Fld) (i j v : Nat) : (s.setFld f i j v).lastRead = s.lastRead := rfl
@[simp] theorem State.setFld_strands (s : State) (f : Fld) (i j v : Nat) : (s.setFld f i j v).strands = s.strands := rfl
@[simp] theorem State.setFld_engs (s : State) (f : Fld) (i j v : Nat) : (s.setFld f i j v).engs = s.engs := rfl
@[simp] theorem State.setFld_imem (s : State) (f : Fld) (i j v : Nat) : (s.setFld f i j v).imem = s.imem := rfl
@[simp] theorem State.setFld_scratch (s : State) (f : Fld) (i j v : Nat) : (s.setFld f i j v).scratch = s.scratch := rfl
@[simp] theorem State.setFld_svram (s : State) (f : Fld) (i j v : Nat) : (s.setFld f i j v).svram = s.svram := rfl
@[simp] theorem State.setFld_ops (s : State) (f : Fld) (i j v : Nat) : (s.setFld f i j v).ops = s.ops := rfl
@[simp] theorem State.setFld_nextOp (s : State) (f : Fld) (i j v : Nat) : (s.setFld f i j v).nextOp = s.nextOp := rfl
@[simp] theorem State.setFld_reqs (s : State) (f : Fld) (i j v : Nat) : (s.setFld f i j v).reqs = s.reqs := rfl
@[simp] theorem State.setFld_nextReq (s : State) (f : Fld) (i j v : Nat) : (s.setFld f i j v).nextReq = s.nextReq := rfl
@[simp] theorem State.setFld_dram (s : State) (f : Fld) (i j v : Nat) : (s.setFld f i j v).dram = s.dram := rfl
@[simp] theorem State.setFld_gran (s : State) (f : Fld) (i j v : Nat) : (s.setFld f i j v).gran = s.gran := rfl
@[simp] theorem State.setFld_chans (s : State) (f : Fld) (i j v : Nat) : (s.setFld f i j v).chans = s.chans := rfl
@[simp] theorem State.setFld_denied (s : State) (f : Fld) (i j v : Nat) : (s.setFld f i j v).denied = s.denied := rfl
@[simp] theorem State.setFld_copyStopped (s : State) (f : Fld) (i j v : Nat) : (s.setFld f i j v).copyStopped = s.copyStopped := rfl
@[simp] theorem State.setFld_mapMark (s : State) (f : Fld) (i j v : Nat) : (s.setFld f i j v).mapMark = s.mapMark := rfl
@[simp] theorem State.setFld_ueSeq (s : State) (f : Fld) (i j v : Nat) : (s.setFld f i j v).ueSeq = s.ueSeq := rfl
@[simp] theorem State.setFld_throttle (s : State) (f : Fld) (i j v : Nat) : (s.setFld f i j v).throttle = s.throttle := rfl
@[simp] theorem State.setFld_ed (s : State) (f : Fld) (i j v : Nat) : (s.setFld f i j v).ed = s.ed := rfl
@[simp] theorem State.setFld_tk (s : State) (f : Fld) (i j v : Nat) : (s.setFld f i j v).tk = s.tk := rfl
@[simp] theorem State.setFld_snap (s : State) (f : Fld) (i j v : Nat) : (s.setFld f i j v).snap = s.snap := rfl
@[simp] theorem State.setFld_ses (s : State) (f : Fld) (i j v : Nat) : (s.setFld f i j v).ses = s.ses := rfl
@[simp] theorem State.setFld_st (s : State) (f : Fld) (i j v : Nat) : (s.setFld f i j v).st = s.st := rfl
@[simp] theorem State.setFld_pt (s : State) (f : Fld) (i j v : Nat) : (s.setFld f i j v).pt = s.pt := rfl
@[simp] theorem State.setFld_faults (s : State) (f : Fld) (i j v : Nat) : (s.setFld f i j v).faults = s.faults := rfl
@[simp] theorem State.setFld_pm (s : State) (f : Fld) (i j v : Nat) : (s.setFld f i j v).pm = s.pm := rfl
@[simp] theorem State.setFld_fc (s : State) (f : Fld) (i j v : Nat) : (s.setFld f i j v).fc = s.fc := rfl
@[simp] theorem State.setFld_pwr (s : State) (f : Fld) (i j v : Nat) : (s.setFld f i j v).pwr = s.pwr := rfl
@[simp] theorem State.setFld_trn (s : State) (f : Fld) (i j v : Nat) : (s.setFld f i j v).trn = s.trn := rfl
@[simp] theorem State.setFld_nv (s : State) (f : Fld) (i j v : Nat) : (s.setFld f i j v).nv = s.nv := rfl
@[simp] theorem State.setFld_mg (s : State) (f : Fld) (i j v : Nat) : (s.setFld f i j v).mg = s.mg := rfl
@[simp] theorem State.setFld_change (s : State) (f : Fld) (i j v : Nat) : (s.setFld f i j v).change = s.change := rfl
@[simp] theorem State.setFld_tap (s : State) (f : Fld) (i j v : Nat) : (s.setFld f i j v).tap = s.tap := rfl
@[simp] theorem State.setFld_inReset (s : State) (f : Fld) (i j v : Nat) : (s.setFld f i j v).inReset = s.inReset := rfl
@[simp] theorem State.setFld_testEn (s : State) (f : Fld) (i j v : Nat) : (s.setFld f i j v).testEn = s.testEn := rfl
@[simp] theorem State.setFld_wdogAt (s : State) (f : Fld) (i j v : Nat) : (s.setFld f i j v).wdogAt = s.wdogAt := rfl
@[simp] theorem State.setFld_wdogLoad (s : State) (f : Fld) (i j v : Nat) : (s.setFld f i j v).wdogLoad = s.wdogLoad := rfl
@[simp] theorem State.setFld_wdogOut (s : State) (f : Fld) (i j v : Nat) : (s.setFld f i j v).wdogOut = s.wdogOut := rfl
@[simp] theorem State.setFld_romLocked (s : State) (f : Fld) (i j v : Nat) : (s.setFld f i j v).romLocked = s.romLocked := rfl
@[simp] theorem State.setFld_free (s : State) (f : Fld) (i j v : Nat) : (s.setFld f i j v).free = s.free := rfl
@[simp] theorem State.setFld_pending (s : State) (f : Fld) (i j v : Nat) : (s.setFld f i j v).pending = s.pending := rfl

/-! ## `State.addFld` -/

@[simp] theorem State.addFld_part (s : State) (f : Fld) (i j v : Nat) : (s.addFld f i j v).part = s.part := rfl
@[simp] theorem State.addFld_shadow (s : State) (f : Fld) (i j v : Nat) : (s.addFld f i j v).shadow = s.shadow := rfl
@[simp] theorem State.addFld_holdRd (s : State) (f : Fld) (i j v : Nat) : (s.addFld f i j v).holdRd = s.holdRd := rfl
@[simp] theorem State.addFld_holdWr (s : State) (f : Fld) (i j v : Nat) : (s.addFld f i j v).holdWr = s.holdWr := rfl
@[simp] theorem State.addFld_tb (s : State) (f : Fld) (i j v : Nat) : (s.addFld f i j v).tb = s.tb := rfl
@[simp] theorem State.addFld_tbFrac (s : State) (f : Fld) (i j v : Nat) : (s.addFld f i j v).tbFrac = s.tbFrac := rfl
@[simp] theorem State.addFld_slewAcc (s : State) (f : Fld) (i j v : Nat) : (s.addFld f i j v).slewAcc = s.slewAcc := rfl
@[simp] theorem State.addFld_ppsHigh (s : State) (f : Fld) (i j v : Nat) : (s.addFld f i j v).ppsHigh = s.ppsHigh := rfl
@[simp] theorem State.addFld_ppsLast (s : State) (f : Fld) (i j v : Nat) : (s.addFld f i j v).ppsLast = s.ppsLast := rfl
@[simp] theorem State.addFld_clkLost (s : State) (f : Fld) (i j v : Nat) : (s.addFld f i j v).clkLost = s.clkLost := rfl
@[simp] theorem State.addFld_lastRead (s : State) (f : Fld) (i j v : Nat) : (s.addFld f i j v).lastRead = s.lastRead := rfl
@[simp] theorem State.addFld_strands (s : State) (f : Fld) (i j v : Nat) : (s.addFld f i j v).strands = s.strands := rfl
@[simp] theorem State.addFld_engs (s : State) (f : Fld) (i j v : Nat) : (s.addFld f i j v).engs = s.engs := rfl
@[simp] theorem State.addFld_imem (s : State) (f : Fld) (i j v : Nat) : (s.addFld f i j v).imem = s.imem := rfl
@[simp] theorem State.addFld_scratch (s : State) (f : Fld) (i j v : Nat) : (s.addFld f i j v).scratch = s.scratch := rfl
@[simp] theorem State.addFld_svram (s : State) (f : Fld) (i j v : Nat) : (s.addFld f i j v).svram = s.svram := rfl
@[simp] theorem State.addFld_ops (s : State) (f : Fld) (i j v : Nat) : (s.addFld f i j v).ops = s.ops := rfl
@[simp] theorem State.addFld_nextOp (s : State) (f : Fld) (i j v : Nat) : (s.addFld f i j v).nextOp = s.nextOp := rfl
@[simp] theorem State.addFld_reqs (s : State) (f : Fld) (i j v : Nat) : (s.addFld f i j v).reqs = s.reqs := rfl
@[simp] theorem State.addFld_nextReq (s : State) (f : Fld) (i j v : Nat) : (s.addFld f i j v).nextReq = s.nextReq := rfl
@[simp] theorem State.addFld_dram (s : State) (f : Fld) (i j v : Nat) : (s.addFld f i j v).dram = s.dram := rfl
@[simp] theorem State.addFld_gran (s : State) (f : Fld) (i j v : Nat) : (s.addFld f i j v).gran = s.gran := rfl
@[simp] theorem State.addFld_chans (s : State) (f : Fld) (i j v : Nat) : (s.addFld f i j v).chans = s.chans := rfl
@[simp] theorem State.addFld_denied (s : State) (f : Fld) (i j v : Nat) : (s.addFld f i j v).denied = s.denied := rfl
@[simp] theorem State.addFld_copyStopped (s : State) (f : Fld) (i j v : Nat) : (s.addFld f i j v).copyStopped = s.copyStopped := rfl
@[simp] theorem State.addFld_mapMark (s : State) (f : Fld) (i j v : Nat) : (s.addFld f i j v).mapMark = s.mapMark := rfl
@[simp] theorem State.addFld_ueSeq (s : State) (f : Fld) (i j v : Nat) : (s.addFld f i j v).ueSeq = s.ueSeq := rfl
@[simp] theorem State.addFld_throttle (s : State) (f : Fld) (i j v : Nat) : (s.addFld f i j v).throttle = s.throttle := rfl
@[simp] theorem State.addFld_ed (s : State) (f : Fld) (i j v : Nat) : (s.addFld f i j v).ed = s.ed := rfl
@[simp] theorem State.addFld_tk (s : State) (f : Fld) (i j v : Nat) : (s.addFld f i j v).tk = s.tk := rfl
@[simp] theorem State.addFld_snap (s : State) (f : Fld) (i j v : Nat) : (s.addFld f i j v).snap = s.snap := rfl
@[simp] theorem State.addFld_ses (s : State) (f : Fld) (i j v : Nat) : (s.addFld f i j v).ses = s.ses := rfl
@[simp] theorem State.addFld_st (s : State) (f : Fld) (i j v : Nat) : (s.addFld f i j v).st = s.st := rfl
@[simp] theorem State.addFld_pt (s : State) (f : Fld) (i j v : Nat) : (s.addFld f i j v).pt = s.pt := rfl
@[simp] theorem State.addFld_faults (s : State) (f : Fld) (i j v : Nat) : (s.addFld f i j v).faults = s.faults := rfl
@[simp] theorem State.addFld_pm (s : State) (f : Fld) (i j v : Nat) : (s.addFld f i j v).pm = s.pm := rfl
@[simp] theorem State.addFld_fc (s : State) (f : Fld) (i j v : Nat) : (s.addFld f i j v).fc = s.fc := rfl
@[simp] theorem State.addFld_pwr (s : State) (f : Fld) (i j v : Nat) : (s.addFld f i j v).pwr = s.pwr := rfl
@[simp] theorem State.addFld_trn (s : State) (f : Fld) (i j v : Nat) : (s.addFld f i j v).trn = s.trn := rfl
@[simp] theorem State.addFld_nv (s : State) (f : Fld) (i j v : Nat) : (s.addFld f i j v).nv = s.nv := rfl
@[simp] theorem State.addFld_mg (s : State) (f : Fld) (i j v : Nat) : (s.addFld f i j v).mg = s.mg := rfl
@[simp] theorem State.addFld_change (s : State) (f : Fld) (i j v : Nat) : (s.addFld f i j v).change = s.change := rfl
@[simp] theorem State.addFld_tap (s : State) (f : Fld) (i j v : Nat) : (s.addFld f i j v).tap = s.tap := rfl
@[simp] theorem State.addFld_inReset (s : State) (f : Fld) (i j v : Nat) : (s.addFld f i j v).inReset = s.inReset := rfl
@[simp] theorem State.addFld_testEn (s : State) (f : Fld) (i j v : Nat) : (s.addFld f i j v).testEn = s.testEn := rfl
@[simp] theorem State.addFld_wdogAt (s : State) (f : Fld) (i j v : Nat) : (s.addFld f i j v).wdogAt = s.wdogAt := rfl
@[simp] theorem State.addFld_wdogLoad (s : State) (f : Fld) (i j v : Nat) : (s.addFld f i j v).wdogLoad = s.wdogLoad := rfl
@[simp] theorem State.addFld_wdogOut (s : State) (f : Fld) (i j v : Nat) : (s.addFld f i j v).wdogOut = s.wdogOut := rfl
@[simp] theorem State.addFld_romLocked (s : State) (f : Fld) (i j v : Nat) : (s.addFld f i j v).romLocked = s.romLocked := rfl
@[simp] theorem State.addFld_free (s : State) (f : Fld) (i j v : Nat) : (s.addFld f i j v).free = s.free := rfl
@[simp] theorem State.addFld_pending (s : State) (f : Fld) (i j v : Nat) : (s.addFld f i j v).pending = s.pending := rfl

/-! ## `State.setShd` -/

@[simp] theorem State.setShd_part (s : State) (f : Fld) (i j v : Nat) : (s.setShd f i j v).part = s.part := rfl
@[simp] theorem State.setShd_regs (s : State) (f : Fld) (i j v : Nat) : (s.setShd f i j v).regs = s.regs := rfl
@[simp] theorem State.setShd_holdRd (s : State) (f : Fld) (i j v : Nat) : (s.setShd f i j v).holdRd = s.holdRd := rfl
@[simp] theorem State.setShd_holdWr (s : State) (f : Fld) (i j v : Nat) : (s.setShd f i j v).holdWr = s.holdWr := rfl
@[simp] theorem State.setShd_tb (s : State) (f : Fld) (i j v : Nat) : (s.setShd f i j v).tb = s.tb := rfl
@[simp] theorem State.setShd_tbFrac (s : State) (f : Fld) (i j v : Nat) : (s.setShd f i j v).tbFrac = s.tbFrac := rfl
@[simp] theorem State.setShd_slewAcc (s : State) (f : Fld) (i j v : Nat) : (s.setShd f i j v).slewAcc = s.slewAcc := rfl
@[simp] theorem State.setShd_ppsHigh (s : State) (f : Fld) (i j v : Nat) : (s.setShd f i j v).ppsHigh = s.ppsHigh := rfl
@[simp] theorem State.setShd_ppsLast (s : State) (f : Fld) (i j v : Nat) : (s.setShd f i j v).ppsLast = s.ppsLast := rfl
@[simp] theorem State.setShd_clkLost (s : State) (f : Fld) (i j v : Nat) : (s.setShd f i j v).clkLost = s.clkLost := rfl
@[simp] theorem State.setShd_lastRead (s : State) (f : Fld) (i j v : Nat) : (s.setShd f i j v).lastRead = s.lastRead := rfl
@[simp] theorem State.setShd_strands (s : State) (f : Fld) (i j v : Nat) : (s.setShd f i j v).strands = s.strands := rfl
@[simp] theorem State.setShd_engs (s : State) (f : Fld) (i j v : Nat) : (s.setShd f i j v).engs = s.engs := rfl
@[simp] theorem State.setShd_imem (s : State) (f : Fld) (i j v : Nat) : (s.setShd f i j v).imem = s.imem := rfl
@[simp] theorem State.setShd_scratch (s : State) (f : Fld) (i j v : Nat) : (s.setShd f i j v).scratch = s.scratch := rfl
@[simp] theorem State.setShd_svram (s : State) (f : Fld) (i j v : Nat) : (s.setShd f i j v).svram = s.svram := rfl
@[simp] theorem State.setShd_ops (s : State) (f : Fld) (i j v : Nat) : (s.setShd f i j v).ops = s.ops := rfl
@[simp] theorem State.setShd_nextOp (s : State) (f : Fld) (i j v : Nat) : (s.setShd f i j v).nextOp = s.nextOp := rfl
@[simp] theorem State.setShd_reqs (s : State) (f : Fld) (i j v : Nat) : (s.setShd f i j v).reqs = s.reqs := rfl
@[simp] theorem State.setShd_nextReq (s : State) (f : Fld) (i j v : Nat) : (s.setShd f i j v).nextReq = s.nextReq := rfl
@[simp] theorem State.setShd_dram (s : State) (f : Fld) (i j v : Nat) : (s.setShd f i j v).dram = s.dram := rfl
@[simp] theorem State.setShd_gran (s : State) (f : Fld) (i j v : Nat) : (s.setShd f i j v).gran = s.gran := rfl
@[simp] theorem State.setShd_chans (s : State) (f : Fld) (i j v : Nat) : (s.setShd f i j v).chans = s.chans := rfl
@[simp] theorem State.setShd_denied (s : State) (f : Fld) (i j v : Nat) : (s.setShd f i j v).denied = s.denied := rfl
@[simp] theorem State.setShd_copyStopped (s : State) (f : Fld) (i j v : Nat) : (s.setShd f i j v).copyStopped = s.copyStopped := rfl
@[simp] theorem State.setShd_mapMark (s : State) (f : Fld) (i j v : Nat) : (s.setShd f i j v).mapMark = s.mapMark := rfl
@[simp] theorem State.setShd_ueSeq (s : State) (f : Fld) (i j v : Nat) : (s.setShd f i j v).ueSeq = s.ueSeq := rfl
@[simp] theorem State.setShd_throttle (s : State) (f : Fld) (i j v : Nat) : (s.setShd f i j v).throttle = s.throttle := rfl
@[simp] theorem State.setShd_ed (s : State) (f : Fld) (i j v : Nat) : (s.setShd f i j v).ed = s.ed := rfl
@[simp] theorem State.setShd_tk (s : State) (f : Fld) (i j v : Nat) : (s.setShd f i j v).tk = s.tk := rfl
@[simp] theorem State.setShd_snap (s : State) (f : Fld) (i j v : Nat) : (s.setShd f i j v).snap = s.snap := rfl
@[simp] theorem State.setShd_ses (s : State) (f : Fld) (i j v : Nat) : (s.setShd f i j v).ses = s.ses := rfl
@[simp] theorem State.setShd_st (s : State) (f : Fld) (i j v : Nat) : (s.setShd f i j v).st = s.st := rfl
@[simp] theorem State.setShd_pt (s : State) (f : Fld) (i j v : Nat) : (s.setShd f i j v).pt = s.pt := rfl
@[simp] theorem State.setShd_faults (s : State) (f : Fld) (i j v : Nat) : (s.setShd f i j v).faults = s.faults := rfl
@[simp] theorem State.setShd_pm (s : State) (f : Fld) (i j v : Nat) : (s.setShd f i j v).pm = s.pm := rfl
@[simp] theorem State.setShd_fc (s : State) (f : Fld) (i j v : Nat) : (s.setShd f i j v).fc = s.fc := rfl
@[simp] theorem State.setShd_pwr (s : State) (f : Fld) (i j v : Nat) : (s.setShd f i j v).pwr = s.pwr := rfl
@[simp] theorem State.setShd_trn (s : State) (f : Fld) (i j v : Nat) : (s.setShd f i j v).trn = s.trn := rfl
@[simp] theorem State.setShd_nv (s : State) (f : Fld) (i j v : Nat) : (s.setShd f i j v).nv = s.nv := rfl
@[simp] theorem State.setShd_mg (s : State) (f : Fld) (i j v : Nat) : (s.setShd f i j v).mg = s.mg := rfl
@[simp] theorem State.setShd_change (s : State) (f : Fld) (i j v : Nat) : (s.setShd f i j v).change = s.change := rfl
@[simp] theorem State.setShd_tap (s : State) (f : Fld) (i j v : Nat) : (s.setShd f i j v).tap = s.tap := rfl
@[simp] theorem State.setShd_inReset (s : State) (f : Fld) (i j v : Nat) : (s.setShd f i j v).inReset = s.inReset := rfl
@[simp] theorem State.setShd_testEn (s : State) (f : Fld) (i j v : Nat) : (s.setShd f i j v).testEn = s.testEn := rfl
@[simp] theorem State.setShd_wdogAt (s : State) (f : Fld) (i j v : Nat) : (s.setShd f i j v).wdogAt = s.wdogAt := rfl
@[simp] theorem State.setShd_wdogLoad (s : State) (f : Fld) (i j v : Nat) : (s.setShd f i j v).wdogLoad = s.wdogLoad := rfl
@[simp] theorem State.setShd_wdogOut (s : State) (f : Fld) (i j v : Nat) : (s.setShd f i j v).wdogOut = s.wdogOut := rfl
@[simp] theorem State.setShd_romLocked (s : State) (f : Fld) (i j v : Nat) : (s.setShd f i j v).romLocked = s.romLocked := rfl
@[simp] theorem State.setShd_free (s : State) (f : Fld) (i j v : Nat) : (s.setShd f i j v).free = s.free := rfl
@[simp] theorem State.setShd_pending (s : State) (f : Fld) (i j v : Nat) : (s.setShd f i j v).pending = s.pending := rfl

/-! ## `State.setStrand` -/

@[simp] theorem State.setStrand_part (s : State) (e t : Nat) (x : Strand) : (s.setStrand e t x).part = s.part := rfl
@[simp] theorem State.setStrand_regs (s : State) (e t : Nat) (x : Strand) : (s.setStrand e t x).regs = s.regs := rfl
@[simp] theorem State.setStrand_shadow (s : State) (e t : Nat) (x : Strand) : (s.setStrand e t x).shadow = s.shadow := rfl
@[simp] theorem State.setStrand_holdRd (s : State) (e t : Nat) (x : Strand) : (s.setStrand e t x).holdRd = s.holdRd := rfl
@[simp] theorem State.setStrand_holdWr (s : State) (e t : Nat) (x : Strand) : (s.setStrand e t x).holdWr = s.holdWr := rfl
@[simp] theorem State.setStrand_tb (s : State) (e t : Nat) (x : Strand) : (s.setStrand e t x).tb = s.tb := rfl
@[simp] theorem State.setStrand_tbFrac (s : State) (e t : Nat) (x : Strand) : (s.setStrand e t x).tbFrac = s.tbFrac := rfl
@[simp] theorem State.setStrand_slewAcc (s : State) (e t : Nat) (x : Strand) : (s.setStrand e t x).slewAcc = s.slewAcc := rfl
@[simp] theorem State.setStrand_ppsHigh (s : State) (e t : Nat) (x : Strand) : (s.setStrand e t x).ppsHigh = s.ppsHigh := rfl
@[simp] theorem State.setStrand_ppsLast (s : State) (e t : Nat) (x : Strand) : (s.setStrand e t x).ppsLast = s.ppsLast := rfl
@[simp] theorem State.setStrand_clkLost (s : State) (e t : Nat) (x : Strand) : (s.setStrand e t x).clkLost = s.clkLost := rfl
@[simp] theorem State.setStrand_lastRead (s : State) (e t : Nat) (x : Strand) : (s.setStrand e t x).lastRead = s.lastRead := rfl
@[simp] theorem State.setStrand_engs (s : State) (e t : Nat) (x : Strand) : (s.setStrand e t x).engs = s.engs := rfl
@[simp] theorem State.setStrand_imem (s : State) (e t : Nat) (x : Strand) : (s.setStrand e t x).imem = s.imem := rfl
@[simp] theorem State.setStrand_scratch (s : State) (e t : Nat) (x : Strand) : (s.setStrand e t x).scratch = s.scratch := rfl
@[simp] theorem State.setStrand_svram (s : State) (e t : Nat) (x : Strand) : (s.setStrand e t x).svram = s.svram := rfl
@[simp] theorem State.setStrand_ops (s : State) (e t : Nat) (x : Strand) : (s.setStrand e t x).ops = s.ops := rfl
@[simp] theorem State.setStrand_nextOp (s : State) (e t : Nat) (x : Strand) : (s.setStrand e t x).nextOp = s.nextOp := rfl
@[simp] theorem State.setStrand_reqs (s : State) (e t : Nat) (x : Strand) : (s.setStrand e t x).reqs = s.reqs := rfl
@[simp] theorem State.setStrand_nextReq (s : State) (e t : Nat) (x : Strand) : (s.setStrand e t x).nextReq = s.nextReq := rfl
@[simp] theorem State.setStrand_dram (s : State) (e t : Nat) (x : Strand) : (s.setStrand e t x).dram = s.dram := rfl
@[simp] theorem State.setStrand_gran (s : State) (e t : Nat) (x : Strand) : (s.setStrand e t x).gran = s.gran := rfl
@[simp] theorem State.setStrand_chans (s : State) (e t : Nat) (x : Strand) : (s.setStrand e t x).chans = s.chans := rfl
@[simp] theorem State.setStrand_denied (s : State) (e t : Nat) (x : Strand) : (s.setStrand e t x).denied = s.denied := rfl
@[simp] theorem State.setStrand_copyStopped (s : State) (e t : Nat) (x : Strand) : (s.setStrand e t x).copyStopped = s.copyStopped := rfl
@[simp] theorem State.setStrand_mapMark (s : State) (e t : Nat) (x : Strand) : (s.setStrand e t x).mapMark = s.mapMark := rfl
@[simp] theorem State.setStrand_ueSeq (s : State) (e t : Nat) (x : Strand) : (s.setStrand e t x).ueSeq = s.ueSeq := rfl
@[simp] theorem State.setStrand_throttle (s : State) (e t : Nat) (x : Strand) : (s.setStrand e t x).throttle = s.throttle := rfl
@[simp] theorem State.setStrand_ed (s : State) (e t : Nat) (x : Strand) : (s.setStrand e t x).ed = s.ed := rfl
@[simp] theorem State.setStrand_tk (s : State) (e t : Nat) (x : Strand) : (s.setStrand e t x).tk = s.tk := rfl
@[simp] theorem State.setStrand_snap (s : State) (e t : Nat) (x : Strand) : (s.setStrand e t x).snap = s.snap := rfl
@[simp] theorem State.setStrand_ses (s : State) (e t : Nat) (x : Strand) : (s.setStrand e t x).ses = s.ses := rfl
@[simp] theorem State.setStrand_st (s : State) (e t : Nat) (x : Strand) : (s.setStrand e t x).st = s.st := rfl
@[simp] theorem State.setStrand_pt (s : State) (e t : Nat) (x : Strand) : (s.setStrand e t x).pt = s.pt := rfl
@[simp] theorem State.setStrand_faults (s : State) (e t : Nat) (x : Strand) : (s.setStrand e t x).faults = s.faults := rfl
@[simp] theorem State.setStrand_pm (s : State) (e t : Nat) (x : Strand) : (s.setStrand e t x).pm = s.pm := rfl
@[simp] theorem State.setStrand_fc (s : State) (e t : Nat) (x : Strand) : (s.setStrand e t x).fc = s.fc := rfl
@[simp] theorem State.setStrand_pwr (s : State) (e t : Nat) (x : Strand) : (s.setStrand e t x).pwr = s.pwr := rfl
@[simp] theorem State.setStrand_trn (s : State) (e t : Nat) (x : Strand) : (s.setStrand e t x).trn = s.trn := rfl
@[simp] theorem State.setStrand_nv (s : State) (e t : Nat) (x : Strand) : (s.setStrand e t x).nv = s.nv := rfl
@[simp] theorem State.setStrand_mg (s : State) (e t : Nat) (x : Strand) : (s.setStrand e t x).mg = s.mg := rfl
@[simp] theorem State.setStrand_change (s : State) (e t : Nat) (x : Strand) : (s.setStrand e t x).change = s.change := rfl
@[simp] theorem State.setStrand_tap (s : State) (e t : Nat) (x : Strand) : (s.setStrand e t x).tap = s.tap := rfl
@[simp] theorem State.setStrand_inReset (s : State) (e t : Nat) (x : Strand) : (s.setStrand e t x).inReset = s.inReset := rfl
@[simp] theorem State.setStrand_testEn (s : State) (e t : Nat) (x : Strand) : (s.setStrand e t x).testEn = s.testEn := rfl
@[simp] theorem State.setStrand_wdogAt (s : State) (e t : Nat) (x : Strand) : (s.setStrand e t x).wdogAt = s.wdogAt := rfl
@[simp] theorem State.setStrand_wdogLoad (s : State) (e t : Nat) (x : Strand) : (s.setStrand e t x).wdogLoad = s.wdogLoad := rfl
@[simp] theorem State.setStrand_wdogOut (s : State) (e t : Nat) (x : Strand) : (s.setStrand e t x).wdogOut = s.wdogOut := rfl
@[simp] theorem State.setStrand_romLocked (s : State) (e t : Nat) (x : Strand) : (s.setStrand e t x).romLocked = s.romLocked := rfl
@[simp] theorem State.setStrand_free (s : State) (e t : Nat) (x : Strand) : (s.setStrand e t x).free = s.free := rfl
@[simp] theorem State.setStrand_pending (s : State) (e t : Nat) (x : Strand) : (s.setStrand e t x).pending = s.pending := rfl

/-! ## `State.setEng` -/

@[simp] theorem State.setEng_part (s : State) (e : Nat) (x : Eng) : (s.setEng e x).part = s.part := rfl
@[simp] theorem State.setEng_regs (s : State) (e : Nat) (x : Eng) : (s.setEng e x).regs = s.regs := rfl
@[simp] theorem State.setEng_shadow (s : State) (e : Nat) (x : Eng) : (s.setEng e x).shadow = s.shadow := rfl
@[simp] theorem State.setEng_holdRd (s : State) (e : Nat) (x : Eng) : (s.setEng e x).holdRd = s.holdRd := rfl
@[simp] theorem State.setEng_holdWr (s : State) (e : Nat) (x : Eng) : (s.setEng e x).holdWr = s.holdWr := rfl
@[simp] theorem State.setEng_tb (s : State) (e : Nat) (x : Eng) : (s.setEng e x).tb = s.tb := rfl
@[simp] theorem State.setEng_tbFrac (s : State) (e : Nat) (x : Eng) : (s.setEng e x).tbFrac = s.tbFrac := rfl
@[simp] theorem State.setEng_slewAcc (s : State) (e : Nat) (x : Eng) : (s.setEng e x).slewAcc = s.slewAcc := rfl
@[simp] theorem State.setEng_ppsHigh (s : State) (e : Nat) (x : Eng) : (s.setEng e x).ppsHigh = s.ppsHigh := rfl
@[simp] theorem State.setEng_ppsLast (s : State) (e : Nat) (x : Eng) : (s.setEng e x).ppsLast = s.ppsLast := rfl
@[simp] theorem State.setEng_clkLost (s : State) (e : Nat) (x : Eng) : (s.setEng e x).clkLost = s.clkLost := rfl
@[simp] theorem State.setEng_lastRead (s : State) (e : Nat) (x : Eng) : (s.setEng e x).lastRead = s.lastRead := rfl
@[simp] theorem State.setEng_strands (s : State) (e : Nat) (x : Eng) : (s.setEng e x).strands = s.strands := rfl
@[simp] theorem State.setEng_imem (s : State) (e : Nat) (x : Eng) : (s.setEng e x).imem = s.imem := rfl
@[simp] theorem State.setEng_scratch (s : State) (e : Nat) (x : Eng) : (s.setEng e x).scratch = s.scratch := rfl
@[simp] theorem State.setEng_svram (s : State) (e : Nat) (x : Eng) : (s.setEng e x).svram = s.svram := rfl
@[simp] theorem State.setEng_ops (s : State) (e : Nat) (x : Eng) : (s.setEng e x).ops = s.ops := rfl
@[simp] theorem State.setEng_nextOp (s : State) (e : Nat) (x : Eng) : (s.setEng e x).nextOp = s.nextOp := rfl
@[simp] theorem State.setEng_reqs (s : State) (e : Nat) (x : Eng) : (s.setEng e x).reqs = s.reqs := rfl
@[simp] theorem State.setEng_nextReq (s : State) (e : Nat) (x : Eng) : (s.setEng e x).nextReq = s.nextReq := rfl
@[simp] theorem State.setEng_dram (s : State) (e : Nat) (x : Eng) : (s.setEng e x).dram = s.dram := rfl
@[simp] theorem State.setEng_gran (s : State) (e : Nat) (x : Eng) : (s.setEng e x).gran = s.gran := rfl
@[simp] theorem State.setEng_chans (s : State) (e : Nat) (x : Eng) : (s.setEng e x).chans = s.chans := rfl
@[simp] theorem State.setEng_denied (s : State) (e : Nat) (x : Eng) : (s.setEng e x).denied = s.denied := rfl
@[simp] theorem State.setEng_copyStopped (s : State) (e : Nat) (x : Eng) : (s.setEng e x).copyStopped = s.copyStopped := rfl
@[simp] theorem State.setEng_mapMark (s : State) (e : Nat) (x : Eng) : (s.setEng e x).mapMark = s.mapMark := rfl
@[simp] theorem State.setEng_ueSeq (s : State) (e : Nat) (x : Eng) : (s.setEng e x).ueSeq = s.ueSeq := rfl
@[simp] theorem State.setEng_throttle (s : State) (e : Nat) (x : Eng) : (s.setEng e x).throttle = s.throttle := rfl
@[simp] theorem State.setEng_ed (s : State) (e : Nat) (x : Eng) : (s.setEng e x).ed = s.ed := rfl
@[simp] theorem State.setEng_tk (s : State) (e : Nat) (x : Eng) : (s.setEng e x).tk = s.tk := rfl
@[simp] theorem State.setEng_snap (s : State) (e : Nat) (x : Eng) : (s.setEng e x).snap = s.snap := rfl
@[simp] theorem State.setEng_ses (s : State) (e : Nat) (x : Eng) : (s.setEng e x).ses = s.ses := rfl
@[simp] theorem State.setEng_st (s : State) (e : Nat) (x : Eng) : (s.setEng e x).st = s.st := rfl
@[simp] theorem State.setEng_pt (s : State) (e : Nat) (x : Eng) : (s.setEng e x).pt = s.pt := rfl
@[simp] theorem State.setEng_faults (s : State) (e : Nat) (x : Eng) : (s.setEng e x).faults = s.faults := rfl
@[simp] theorem State.setEng_pm (s : State) (e : Nat) (x : Eng) : (s.setEng e x).pm = s.pm := rfl
@[simp] theorem State.setEng_fc (s : State) (e : Nat) (x : Eng) : (s.setEng e x).fc = s.fc := rfl
@[simp] theorem State.setEng_pwr (s : State) (e : Nat) (x : Eng) : (s.setEng e x).pwr = s.pwr := rfl
@[simp] theorem State.setEng_trn (s : State) (e : Nat) (x : Eng) : (s.setEng e x).trn = s.trn := rfl
@[simp] theorem State.setEng_nv (s : State) (e : Nat) (x : Eng) : (s.setEng e x).nv = s.nv := rfl
@[simp] theorem State.setEng_mg (s : State) (e : Nat) (x : Eng) : (s.setEng e x).mg = s.mg := rfl
@[simp] theorem State.setEng_change (s : State) (e : Nat) (x : Eng) : (s.setEng e x).change = s.change := rfl
@[simp] theorem State.setEng_tap (s : State) (e : Nat) (x : Eng) : (s.setEng e x).tap = s.tap := rfl
@[simp] theorem State.setEng_inReset (s : State) (e : Nat) (x : Eng) : (s.setEng e x).inReset = s.inReset := rfl
@[simp] theorem State.setEng_testEn (s : State) (e : Nat) (x : Eng) : (s.setEng e x).testEn = s.testEn := rfl
@[simp] theorem State.setEng_wdogAt (s : State) (e : Nat) (x : Eng) : (s.setEng e x).wdogAt = s.wdogAt := rfl
@[simp] theorem State.setEng_wdogLoad (s : State) (e : Nat) (x : Eng) : (s.setEng e x).wdogLoad = s.wdogLoad := rfl
@[simp] theorem State.setEng_wdogOut (s : State) (e : Nat) (x : Eng) : (s.setEng e x).wdogOut = s.wdogOut := rfl
@[simp] theorem State.setEng_romLocked (s : State) (e : Nat) (x : Eng) : (s.setEng e x).romLocked = s.romLocked := rfl
@[simp] theorem State.setEng_free (s : State) (e : Nat) (x : Eng) : (s.setEng e x).free = s.free := rfl
@[simp] theorem State.setEng_pending (s : State) (e : Nat) (x : Eng) : (s.setEng e x).pending = s.pending := rfl

/-! ## `State.setChan` -/

@[simp] theorem State.setChan_part (s : State) (c : Nat) (x : Chan) : (s.setChan c x).part = s.part := rfl
@[simp] theorem State.setChan_regs (s : State) (c : Nat) (x : Chan) : (s.setChan c x).regs = s.regs := rfl
@[simp] theorem State.setChan_shadow (s : State) (c : Nat) (x : Chan) : (s.setChan c x).shadow = s.shadow := rfl
@[simp] theorem State.setChan_holdRd (s : State) (c : Nat) (x : Chan) : (s.setChan c x).holdRd = s.holdRd := rfl
@[simp] theorem State.setChan_holdWr (s : State) (c : Nat) (x : Chan) : (s.setChan c x).holdWr = s.holdWr := rfl
@[simp] theorem State.setChan_tb (s : State) (c : Nat) (x : Chan) : (s.setChan c x).tb = s.tb := rfl
@[simp] theorem State.setChan_tbFrac (s : State) (c : Nat) (x : Chan) : (s.setChan c x).tbFrac = s.tbFrac := rfl
@[simp] theorem State.setChan_slewAcc (s : State) (c : Nat) (x : Chan) : (s.setChan c x).slewAcc = s.slewAcc := rfl
@[simp] theorem State.setChan_ppsHigh (s : State) (c : Nat) (x : Chan) : (s.setChan c x).ppsHigh = s.ppsHigh := rfl
@[simp] theorem State.setChan_ppsLast (s : State) (c : Nat) (x : Chan) : (s.setChan c x).ppsLast = s.ppsLast := rfl
@[simp] theorem State.setChan_clkLost (s : State) (c : Nat) (x : Chan) : (s.setChan c x).clkLost = s.clkLost := rfl
@[simp] theorem State.setChan_lastRead (s : State) (c : Nat) (x : Chan) : (s.setChan c x).lastRead = s.lastRead := rfl
@[simp] theorem State.setChan_strands (s : State) (c : Nat) (x : Chan) : (s.setChan c x).strands = s.strands := rfl
@[simp] theorem State.setChan_engs (s : State) (c : Nat) (x : Chan) : (s.setChan c x).engs = s.engs := rfl
@[simp] theorem State.setChan_imem (s : State) (c : Nat) (x : Chan) : (s.setChan c x).imem = s.imem := rfl
@[simp] theorem State.setChan_scratch (s : State) (c : Nat) (x : Chan) : (s.setChan c x).scratch = s.scratch := rfl
@[simp] theorem State.setChan_svram (s : State) (c : Nat) (x : Chan) : (s.setChan c x).svram = s.svram := rfl
@[simp] theorem State.setChan_ops (s : State) (c : Nat) (x : Chan) : (s.setChan c x).ops = s.ops := rfl
@[simp] theorem State.setChan_nextOp (s : State) (c : Nat) (x : Chan) : (s.setChan c x).nextOp = s.nextOp := rfl
@[simp] theorem State.setChan_reqs (s : State) (c : Nat) (x : Chan) : (s.setChan c x).reqs = s.reqs := rfl
@[simp] theorem State.setChan_nextReq (s : State) (c : Nat) (x : Chan) : (s.setChan c x).nextReq = s.nextReq := rfl
@[simp] theorem State.setChan_dram (s : State) (c : Nat) (x : Chan) : (s.setChan c x).dram = s.dram := rfl
@[simp] theorem State.setChan_gran (s : State) (c : Nat) (x : Chan) : (s.setChan c x).gran = s.gran := rfl
@[simp] theorem State.setChan_denied (s : State) (c : Nat) (x : Chan) : (s.setChan c x).denied = s.denied := rfl
@[simp] theorem State.setChan_copyStopped (s : State) (c : Nat) (x : Chan) : (s.setChan c x).copyStopped = s.copyStopped := rfl
@[simp] theorem State.setChan_mapMark (s : State) (c : Nat) (x : Chan) : (s.setChan c x).mapMark = s.mapMark := rfl
@[simp] theorem State.setChan_ueSeq (s : State) (c : Nat) (x : Chan) : (s.setChan c x).ueSeq = s.ueSeq := rfl
@[simp] theorem State.setChan_throttle (s : State) (c : Nat) (x : Chan) : (s.setChan c x).throttle = s.throttle := rfl
@[simp] theorem State.setChan_ed (s : State) (c : Nat) (x : Chan) : (s.setChan c x).ed = s.ed := rfl
@[simp] theorem State.setChan_tk (s : State) (c : Nat) (x : Chan) : (s.setChan c x).tk = s.tk := rfl
@[simp] theorem State.setChan_snap (s : State) (c : Nat) (x : Chan) : (s.setChan c x).snap = s.snap := rfl
@[simp] theorem State.setChan_ses (s : State) (c : Nat) (x : Chan) : (s.setChan c x).ses = s.ses := rfl
@[simp] theorem State.setChan_st (s : State) (c : Nat) (x : Chan) : (s.setChan c x).st = s.st := rfl
@[simp] theorem State.setChan_pt (s : State) (c : Nat) (x : Chan) : (s.setChan c x).pt = s.pt := rfl
@[simp] theorem State.setChan_faults (s : State) (c : Nat) (x : Chan) : (s.setChan c x).faults = s.faults := rfl
@[simp] theorem State.setChan_pm (s : State) (c : Nat) (x : Chan) : (s.setChan c x).pm = s.pm := rfl
@[simp] theorem State.setChan_fc (s : State) (c : Nat) (x : Chan) : (s.setChan c x).fc = s.fc := rfl
@[simp] theorem State.setChan_pwr (s : State) (c : Nat) (x : Chan) : (s.setChan c x).pwr = s.pwr := rfl
@[simp] theorem State.setChan_trn (s : State) (c : Nat) (x : Chan) : (s.setChan c x).trn = s.trn := rfl
@[simp] theorem State.setChan_nv (s : State) (c : Nat) (x : Chan) : (s.setChan c x).nv = s.nv := rfl
@[simp] theorem State.setChan_mg (s : State) (c : Nat) (x : Chan) : (s.setChan c x).mg = s.mg := rfl
@[simp] theorem State.setChan_change (s : State) (c : Nat) (x : Chan) : (s.setChan c x).change = s.change := rfl
@[simp] theorem State.setChan_tap (s : State) (c : Nat) (x : Chan) : (s.setChan c x).tap = s.tap := rfl
@[simp] theorem State.setChan_inReset (s : State) (c : Nat) (x : Chan) : (s.setChan c x).inReset = s.inReset := rfl
@[simp] theorem State.setChan_testEn (s : State) (c : Nat) (x : Chan) : (s.setChan c x).testEn = s.testEn := rfl
@[simp] theorem State.setChan_wdogAt (s : State) (c : Nat) (x : Chan) : (s.setChan c x).wdogAt = s.wdogAt := rfl
@[simp] theorem State.setChan_wdogLoad (s : State) (c : Nat) (x : Chan) : (s.setChan c x).wdogLoad = s.wdogLoad := rfl
@[simp] theorem State.setChan_wdogOut (s : State) (c : Nat) (x : Chan) : (s.setChan c x).wdogOut = s.wdogOut := rfl
@[simp] theorem State.setChan_romLocked (s : State) (c : Nat) (x : Chan) : (s.setChan c x).romLocked = s.romLocked := rfl
@[simp] theorem State.setChan_free (s : State) (c : Nat) (x : Chan) : (s.setChan c x).free = s.free := rfl
@[simp] theorem State.setChan_pending (s : State) (c : Nat) (x : Chan) : (s.setChan c x).pending = s.pending := rfl

/-! ## `State.setEntry` -/

@[simp] theorem State.setEntry_part (s : State) (i : Nat) (v : Word64) : (s.setEntry i v).part = s.part := rfl
@[simp] theorem State.setEntry_regs (s : State) (i : Nat) (v : Word64) : (s.setEntry i v).regs = s.regs := rfl
@[simp] theorem State.setEntry_shadow (s : State) (i : Nat) (v : Word64) : (s.setEntry i v).shadow = s.shadow := rfl
@[simp] theorem State.setEntry_holdRd (s : State) (i : Nat) (v : Word64) : (s.setEntry i v).holdRd = s.holdRd := rfl
@[simp] theorem State.setEntry_holdWr (s : State) (i : Nat) (v : Word64) : (s.setEntry i v).holdWr = s.holdWr := rfl
@[simp] theorem State.setEntry_tb (s : State) (i : Nat) (v : Word64) : (s.setEntry i v).tb = s.tb := rfl
@[simp] theorem State.setEntry_tbFrac (s : State) (i : Nat) (v : Word64) : (s.setEntry i v).tbFrac = s.tbFrac := rfl
@[simp] theorem State.setEntry_slewAcc (s : State) (i : Nat) (v : Word64) : (s.setEntry i v).slewAcc = s.slewAcc := rfl
@[simp] theorem State.setEntry_ppsHigh (s : State) (i : Nat) (v : Word64) : (s.setEntry i v).ppsHigh = s.ppsHigh := rfl
@[simp] theorem State.setEntry_ppsLast (s : State) (i : Nat) (v : Word64) : (s.setEntry i v).ppsLast = s.ppsLast := rfl
@[simp] theorem State.setEntry_clkLost (s : State) (i : Nat) (v : Word64) : (s.setEntry i v).clkLost = s.clkLost := rfl
@[simp] theorem State.setEntry_lastRead (s : State) (i : Nat) (v : Word64) : (s.setEntry i v).lastRead = s.lastRead := rfl
@[simp] theorem State.setEntry_strands (s : State) (i : Nat) (v : Word64) : (s.setEntry i v).strands = s.strands := rfl
@[simp] theorem State.setEntry_engs (s : State) (i : Nat) (v : Word64) : (s.setEntry i v).engs = s.engs := rfl
@[simp] theorem State.setEntry_imem (s : State) (i : Nat) (v : Word64) : (s.setEntry i v).imem = s.imem := rfl
@[simp] theorem State.setEntry_scratch (s : State) (i : Nat) (v : Word64) : (s.setEntry i v).scratch = s.scratch := rfl
@[simp] theorem State.setEntry_svram (s : State) (i : Nat) (v : Word64) : (s.setEntry i v).svram = s.svram := rfl
@[simp] theorem State.setEntry_ops (s : State) (i : Nat) (v : Word64) : (s.setEntry i v).ops = s.ops := rfl
@[simp] theorem State.setEntry_nextOp (s : State) (i : Nat) (v : Word64) : (s.setEntry i v).nextOp = s.nextOp := rfl
@[simp] theorem State.setEntry_reqs (s : State) (i : Nat) (v : Word64) : (s.setEntry i v).reqs = s.reqs := rfl
@[simp] theorem State.setEntry_nextReq (s : State) (i : Nat) (v : Word64) : (s.setEntry i v).nextReq = s.nextReq := rfl
@[simp] theorem State.setEntry_dram (s : State) (i : Nat) (v : Word64) : (s.setEntry i v).dram = s.dram := rfl
@[simp] theorem State.setEntry_gran (s : State) (i : Nat) (v : Word64) : (s.setEntry i v).gran = s.gran := rfl
@[simp] theorem State.setEntry_chans (s : State) (i : Nat) (v : Word64) : (s.setEntry i v).chans = s.chans := rfl
@[simp] theorem State.setEntry_denied (s : State) (i : Nat) (v : Word64) : (s.setEntry i v).denied = s.denied := rfl
@[simp] theorem State.setEntry_copyStopped (s : State) (i : Nat) (v : Word64) : (s.setEntry i v).copyStopped = s.copyStopped := rfl
@[simp] theorem State.setEntry_mapMark (s : State) (i : Nat) (v : Word64) : (s.setEntry i v).mapMark = s.mapMark := rfl
@[simp] theorem State.setEntry_ueSeq (s : State) (i : Nat) (v : Word64) : (s.setEntry i v).ueSeq = s.ueSeq := rfl
@[simp] theorem State.setEntry_throttle (s : State) (i : Nat) (v : Word64) : (s.setEntry i v).throttle = s.throttle := rfl
@[simp] theorem State.setEntry_tk (s : State) (i : Nat) (v : Word64) : (s.setEntry i v).tk = s.tk := rfl
@[simp] theorem State.setEntry_snap (s : State) (i : Nat) (v : Word64) : (s.setEntry i v).snap = s.snap := rfl
@[simp] theorem State.setEntry_ses (s : State) (i : Nat) (v : Word64) : (s.setEntry i v).ses = s.ses := rfl
@[simp] theorem State.setEntry_st (s : State) (i : Nat) (v : Word64) : (s.setEntry i v).st = s.st := rfl
@[simp] theorem State.setEntry_pt (s : State) (i : Nat) (v : Word64) : (s.setEntry i v).pt = s.pt := rfl
@[simp] theorem State.setEntry_faults (s : State) (i : Nat) (v : Word64) : (s.setEntry i v).faults = s.faults := rfl
@[simp] theorem State.setEntry_pm (s : State) (i : Nat) (v : Word64) : (s.setEntry i v).pm = s.pm := rfl
@[simp] theorem State.setEntry_fc (s : State) (i : Nat) (v : Word64) : (s.setEntry i v).fc = s.fc := rfl
@[simp] theorem State.setEntry_pwr (s : State) (i : Nat) (v : Word64) : (s.setEntry i v).pwr = s.pwr := rfl
@[simp] theorem State.setEntry_trn (s : State) (i : Nat) (v : Word64) : (s.setEntry i v).trn = s.trn := rfl
@[simp] theorem State.setEntry_nv (s : State) (i : Nat) (v : Word64) : (s.setEntry i v).nv = s.nv := rfl
@[simp] theorem State.setEntry_mg (s : State) (i : Nat) (v : Word64) : (s.setEntry i v).mg = s.mg := rfl
@[simp] theorem State.setEntry_change (s : State) (i : Nat) (v : Word64) : (s.setEntry i v).change = s.change := rfl
@[simp] theorem State.setEntry_tap (s : State) (i : Nat) (v : Word64) : (s.setEntry i v).tap = s.tap := rfl
@[simp] theorem State.setEntry_inReset (s : State) (i : Nat) (v : Word64) : (s.setEntry i v).inReset = s.inReset := rfl
@[simp] theorem State.setEntry_testEn (s : State) (i : Nat) (v : Word64) : (s.setEntry i v).testEn = s.testEn := rfl
@[simp] theorem State.setEntry_wdogAt (s : State) (i : Nat) (v : Word64) : (s.setEntry i v).wdogAt = s.wdogAt := rfl
@[simp] theorem State.setEntry_wdogLoad (s : State) (i : Nat) (v : Word64) : (s.setEntry i v).wdogLoad = s.wdogLoad := rfl
@[simp] theorem State.setEntry_wdogOut (s : State) (i : Nat) (v : Word64) : (s.setEntry i v).wdogOut = s.wdogOut := rfl
@[simp] theorem State.setEntry_romLocked (s : State) (i : Nat) (v : Word64) : (s.setEntry i v).romLocked = s.romLocked := rfl
@[simp] theorem State.setEntry_free (s : State) (i : Nat) (v : Word64) : (s.setEntry i v).free = s.free := rfl
@[simp] theorem State.setEntry_pending (s : State) (i : Nat) (v : Word64) : (s.setEntry i v).pending = s.pending := rfl

/-! ## `State.setSess` -/

@[simp] theorem State.setSess_part (s : State) (i : Nat) (x : Ses) : (s.setSess i x).part = s.part := rfl
@[simp] theorem State.setSess_regs (s : State) (i : Nat) (x : Ses) : (s.setSess i x).regs = s.regs := rfl
@[simp] theorem State.setSess_shadow (s : State) (i : Nat) (x : Ses) : (s.setSess i x).shadow = s.shadow := rfl
@[simp] theorem State.setSess_holdRd (s : State) (i : Nat) (x : Ses) : (s.setSess i x).holdRd = s.holdRd := rfl
@[simp] theorem State.setSess_holdWr (s : State) (i : Nat) (x : Ses) : (s.setSess i x).holdWr = s.holdWr := rfl
@[simp] theorem State.setSess_tb (s : State) (i : Nat) (x : Ses) : (s.setSess i x).tb = s.tb := rfl
@[simp] theorem State.setSess_tbFrac (s : State) (i : Nat) (x : Ses) : (s.setSess i x).tbFrac = s.tbFrac := rfl
@[simp] theorem State.setSess_slewAcc (s : State) (i : Nat) (x : Ses) : (s.setSess i x).slewAcc = s.slewAcc := rfl
@[simp] theorem State.setSess_ppsHigh (s : State) (i : Nat) (x : Ses) : (s.setSess i x).ppsHigh = s.ppsHigh := rfl
@[simp] theorem State.setSess_ppsLast (s : State) (i : Nat) (x : Ses) : (s.setSess i x).ppsLast = s.ppsLast := rfl
@[simp] theorem State.setSess_clkLost (s : State) (i : Nat) (x : Ses) : (s.setSess i x).clkLost = s.clkLost := rfl
@[simp] theorem State.setSess_lastRead (s : State) (i : Nat) (x : Ses) : (s.setSess i x).lastRead = s.lastRead := rfl
@[simp] theorem State.setSess_strands (s : State) (i : Nat) (x : Ses) : (s.setSess i x).strands = s.strands := rfl
@[simp] theorem State.setSess_engs (s : State) (i : Nat) (x : Ses) : (s.setSess i x).engs = s.engs := rfl
@[simp] theorem State.setSess_imem (s : State) (i : Nat) (x : Ses) : (s.setSess i x).imem = s.imem := rfl
@[simp] theorem State.setSess_scratch (s : State) (i : Nat) (x : Ses) : (s.setSess i x).scratch = s.scratch := rfl
@[simp] theorem State.setSess_svram (s : State) (i : Nat) (x : Ses) : (s.setSess i x).svram = s.svram := rfl
@[simp] theorem State.setSess_ops (s : State) (i : Nat) (x : Ses) : (s.setSess i x).ops = s.ops := rfl
@[simp] theorem State.setSess_nextOp (s : State) (i : Nat) (x : Ses) : (s.setSess i x).nextOp = s.nextOp := rfl
@[simp] theorem State.setSess_reqs (s : State) (i : Nat) (x : Ses) : (s.setSess i x).reqs = s.reqs := rfl
@[simp] theorem State.setSess_nextReq (s : State) (i : Nat) (x : Ses) : (s.setSess i x).nextReq = s.nextReq := rfl
@[simp] theorem State.setSess_dram (s : State) (i : Nat) (x : Ses) : (s.setSess i x).dram = s.dram := rfl
@[simp] theorem State.setSess_gran (s : State) (i : Nat) (x : Ses) : (s.setSess i x).gran = s.gran := rfl
@[simp] theorem State.setSess_chans (s : State) (i : Nat) (x : Ses) : (s.setSess i x).chans = s.chans := rfl
@[simp] theorem State.setSess_denied (s : State) (i : Nat) (x : Ses) : (s.setSess i x).denied = s.denied := rfl
@[simp] theorem State.setSess_copyStopped (s : State) (i : Nat) (x : Ses) : (s.setSess i x).copyStopped = s.copyStopped := rfl
@[simp] theorem State.setSess_mapMark (s : State) (i : Nat) (x : Ses) : (s.setSess i x).mapMark = s.mapMark := rfl
@[simp] theorem State.setSess_ueSeq (s : State) (i : Nat) (x : Ses) : (s.setSess i x).ueSeq = s.ueSeq := rfl
@[simp] theorem State.setSess_throttle (s : State) (i : Nat) (x : Ses) : (s.setSess i x).throttle = s.throttle := rfl
@[simp] theorem State.setSess_ed (s : State) (i : Nat) (x : Ses) : (s.setSess i x).ed = s.ed := rfl
@[simp] theorem State.setSess_tk (s : State) (i : Nat) (x : Ses) : (s.setSess i x).tk = s.tk := rfl
@[simp] theorem State.setSess_snap (s : State) (i : Nat) (x : Ses) : (s.setSess i x).snap = s.snap := rfl
@[simp] theorem State.setSess_st (s : State) (i : Nat) (x : Ses) : (s.setSess i x).st = s.st := rfl
@[simp] theorem State.setSess_pt (s : State) (i : Nat) (x : Ses) : (s.setSess i x).pt = s.pt := rfl
@[simp] theorem State.setSess_faults (s : State) (i : Nat) (x : Ses) : (s.setSess i x).faults = s.faults := rfl
@[simp] theorem State.setSess_pm (s : State) (i : Nat) (x : Ses) : (s.setSess i x).pm = s.pm := rfl
@[simp] theorem State.setSess_fc (s : State) (i : Nat) (x : Ses) : (s.setSess i x).fc = s.fc := rfl
@[simp] theorem State.setSess_pwr (s : State) (i : Nat) (x : Ses) : (s.setSess i x).pwr = s.pwr := rfl
@[simp] theorem State.setSess_trn (s : State) (i : Nat) (x : Ses) : (s.setSess i x).trn = s.trn := rfl
@[simp] theorem State.setSess_nv (s : State) (i : Nat) (x : Ses) : (s.setSess i x).nv = s.nv := rfl
@[simp] theorem State.setSess_mg (s : State) (i : Nat) (x : Ses) : (s.setSess i x).mg = s.mg := rfl
@[simp] theorem State.setSess_change (s : State) (i : Nat) (x : Ses) : (s.setSess i x).change = s.change := rfl
@[simp] theorem State.setSess_tap (s : State) (i : Nat) (x : Ses) : (s.setSess i x).tap = s.tap := rfl
@[simp] theorem State.setSess_inReset (s : State) (i : Nat) (x : Ses) : (s.setSess i x).inReset = s.inReset := rfl
@[simp] theorem State.setSess_testEn (s : State) (i : Nat) (x : Ses) : (s.setSess i x).testEn = s.testEn := rfl
@[simp] theorem State.setSess_wdogAt (s : State) (i : Nat) (x : Ses) : (s.setSess i x).wdogAt = s.wdogAt := rfl
@[simp] theorem State.setSess_wdogLoad (s : State) (i : Nat) (x : Ses) : (s.setSess i x).wdogLoad = s.wdogLoad := rfl
@[simp] theorem State.setSess_wdogOut (s : State) (i : Nat) (x : Ses) : (s.setSess i x).wdogOut = s.wdogOut := rfl
@[simp] theorem State.setSess_romLocked (s : State) (i : Nat) (x : Ses) : (s.setSess i x).romLocked = s.romLocked := rfl
@[simp] theorem State.setSess_free (s : State) (i : Nat) (x : Ses) : (s.setSess i x).free = s.free := rfl
@[simp] theorem State.setSess_pending (s : State) (i : Nat) (x : Ses) : (s.setSess i x).pending = s.pending := rfl

/-! ## `State.setCtx` -/

@[simp] theorem State.setCtx_part (s : State) (i : Nat) (c : Ctx) : (s.setCtx i c).part = s.part := rfl
@[simp] theorem State.setCtx_regs (s : State) (i : Nat) (c : Ctx) : (s.setCtx i c).regs = s.regs := rfl
@[simp] theorem State.setCtx_shadow (s : State) (i : Nat) (c : Ctx) : (s.setCtx i c).shadow = s.shadow := rfl
@[simp] theorem State.setCtx_holdRd (s : State) (i : Nat) (c : Ctx) : (s.setCtx i c).holdRd = s.holdRd := rfl
@[simp] theorem State.setCtx_holdWr (s : State) (i : Nat) (c : Ctx) : (s.setCtx i c).holdWr = s.holdWr := rfl
@[simp] theorem State.setCtx_tb (s : State) (i : Nat) (c : Ctx) : (s.setCtx i c).tb = s.tb := rfl
@[simp] theorem State.setCtx_tbFrac (s : State) (i : Nat) (c : Ctx) : (s.setCtx i c).tbFrac = s.tbFrac := rfl
@[simp] theorem State.setCtx_slewAcc (s : State) (i : Nat) (c : Ctx) : (s.setCtx i c).slewAcc = s.slewAcc := rfl
@[simp] theorem State.setCtx_ppsHigh (s : State) (i : Nat) (c : Ctx) : (s.setCtx i c).ppsHigh = s.ppsHigh := rfl
@[simp] theorem State.setCtx_ppsLast (s : State) (i : Nat) (c : Ctx) : (s.setCtx i c).ppsLast = s.ppsLast := rfl
@[simp] theorem State.setCtx_clkLost (s : State) (i : Nat) (c : Ctx) : (s.setCtx i c).clkLost = s.clkLost := rfl
@[simp] theorem State.setCtx_lastRead (s : State) (i : Nat) (c : Ctx) : (s.setCtx i c).lastRead = s.lastRead := rfl
@[simp] theorem State.setCtx_strands (s : State) (i : Nat) (c : Ctx) : (s.setCtx i c).strands = s.strands := rfl
@[simp] theorem State.setCtx_engs (s : State) (i : Nat) (c : Ctx) : (s.setCtx i c).engs = s.engs := rfl
@[simp] theorem State.setCtx_imem (s : State) (i : Nat) (c : Ctx) : (s.setCtx i c).imem = s.imem := rfl
@[simp] theorem State.setCtx_scratch (s : State) (i : Nat) (c : Ctx) : (s.setCtx i c).scratch = s.scratch := rfl
@[simp] theorem State.setCtx_svram (s : State) (i : Nat) (c : Ctx) : (s.setCtx i c).svram = s.svram := rfl
@[simp] theorem State.setCtx_ops (s : State) (i : Nat) (c : Ctx) : (s.setCtx i c).ops = s.ops := rfl
@[simp] theorem State.setCtx_nextOp (s : State) (i : Nat) (c : Ctx) : (s.setCtx i c).nextOp = s.nextOp := rfl
@[simp] theorem State.setCtx_reqs (s : State) (i : Nat) (c : Ctx) : (s.setCtx i c).reqs = s.reqs := rfl
@[simp] theorem State.setCtx_nextReq (s : State) (i : Nat) (c : Ctx) : (s.setCtx i c).nextReq = s.nextReq := rfl
@[simp] theorem State.setCtx_dram (s : State) (i : Nat) (c : Ctx) : (s.setCtx i c).dram = s.dram := rfl
@[simp] theorem State.setCtx_gran (s : State) (i : Nat) (c : Ctx) : (s.setCtx i c).gran = s.gran := rfl
@[simp] theorem State.setCtx_chans (s : State) (i : Nat) (c : Ctx) : (s.setCtx i c).chans = s.chans := rfl
@[simp] theorem State.setCtx_denied (s : State) (i : Nat) (c : Ctx) : (s.setCtx i c).denied = s.denied := rfl
@[simp] theorem State.setCtx_copyStopped (s : State) (i : Nat) (c : Ctx) : (s.setCtx i c).copyStopped = s.copyStopped := rfl
@[simp] theorem State.setCtx_mapMark (s : State) (i : Nat) (c : Ctx) : (s.setCtx i c).mapMark = s.mapMark := rfl
@[simp] theorem State.setCtx_ueSeq (s : State) (i : Nat) (c : Ctx) : (s.setCtx i c).ueSeq = s.ueSeq := rfl
@[simp] theorem State.setCtx_throttle (s : State) (i : Nat) (c : Ctx) : (s.setCtx i c).throttle = s.throttle := rfl
@[simp] theorem State.setCtx_ed (s : State) (i : Nat) (c : Ctx) : (s.setCtx i c).ed = s.ed := rfl
@[simp] theorem State.setCtx_tk (s : State) (i : Nat) (c : Ctx) : (s.setCtx i c).tk = s.tk := rfl
@[simp] theorem State.setCtx_snap (s : State) (i : Nat) (c : Ctx) : (s.setCtx i c).snap = s.snap := rfl
@[simp] theorem State.setCtx_st (s : State) (i : Nat) (c : Ctx) : (s.setCtx i c).st = s.st := rfl
@[simp] theorem State.setCtx_pt (s : State) (i : Nat) (c : Ctx) : (s.setCtx i c).pt = s.pt := rfl
@[simp] theorem State.setCtx_faults (s : State) (i : Nat) (c : Ctx) : (s.setCtx i c).faults = s.faults := rfl
@[simp] theorem State.setCtx_pm (s : State) (i : Nat) (c : Ctx) : (s.setCtx i c).pm = s.pm := rfl
@[simp] theorem State.setCtx_fc (s : State) (i : Nat) (c : Ctx) : (s.setCtx i c).fc = s.fc := rfl
@[simp] theorem State.setCtx_pwr (s : State) (i : Nat) (c : Ctx) : (s.setCtx i c).pwr = s.pwr := rfl
@[simp] theorem State.setCtx_trn (s : State) (i : Nat) (c : Ctx) : (s.setCtx i c).trn = s.trn := rfl
@[simp] theorem State.setCtx_nv (s : State) (i : Nat) (c : Ctx) : (s.setCtx i c).nv = s.nv := rfl
@[simp] theorem State.setCtx_mg (s : State) (i : Nat) (c : Ctx) : (s.setCtx i c).mg = s.mg := rfl
@[simp] theorem State.setCtx_change (s : State) (i : Nat) (c : Ctx) : (s.setCtx i c).change = s.change := rfl
@[simp] theorem State.setCtx_tap (s : State) (i : Nat) (c : Ctx) : (s.setCtx i c).tap = s.tap := rfl
@[simp] theorem State.setCtx_inReset (s : State) (i : Nat) (c : Ctx) : (s.setCtx i c).inReset = s.inReset := rfl
@[simp] theorem State.setCtx_testEn (s : State) (i : Nat) (c : Ctx) : (s.setCtx i c).testEn = s.testEn := rfl
@[simp] theorem State.setCtx_wdogAt (s : State) (i : Nat) (c : Ctx) : (s.setCtx i c).wdogAt = s.wdogAt := rfl
@[simp] theorem State.setCtx_wdogLoad (s : State) (i : Nat) (c : Ctx) : (s.setCtx i c).wdogLoad = s.wdogLoad := rfl
@[simp] theorem State.setCtx_wdogOut (s : State) (i : Nat) (c : Ctx) : (s.setCtx i c).wdogOut = s.wdogOut := rfl
@[simp] theorem State.setCtx_romLocked (s : State) (i : Nat) (c : Ctx) : (s.setCtx i c).romLocked = s.romLocked := rfl
@[simp] theorem State.setCtx_free (s : State) (i : Nat) (c : Ctx) : (s.setCtx i c).free = s.free := rfl
@[simp] theorem State.setCtx_pending (s : State) (i : Nat) (c : Ctx) : (s.setCtx i c).pending = s.pending := rfl

/-! ## `State.useFree` -/

@[simp] theorem State.useFree_part (s : State) : (s.useFree).part = s.part := rfl
@[simp] theorem State.useFree_regs (s : State) : (s.useFree).regs = s.regs := rfl
@[simp] theorem State.useFree_shadow (s : State) : (s.useFree).shadow = s.shadow := rfl
@[simp] theorem State.useFree_holdRd (s : State) : (s.useFree).holdRd = s.holdRd := rfl
@[simp] theorem State.useFree_holdWr (s : State) : (s.useFree).holdWr = s.holdWr := rfl
@[simp] theorem State.useFree_tb (s : State) : (s.useFree).tb = s.tb := rfl
@[simp] theorem State.useFree_tbFrac (s : State) : (s.useFree).tbFrac = s.tbFrac := rfl
@[simp] theorem State.useFree_slewAcc (s : State) : (s.useFree).slewAcc = s.slewAcc := rfl
@[simp] theorem State.useFree_ppsHigh (s : State) : (s.useFree).ppsHigh = s.ppsHigh := rfl
@[simp] theorem State.useFree_ppsLast (s : State) : (s.useFree).ppsLast = s.ppsLast := rfl
@[simp] theorem State.useFree_clkLost (s : State) : (s.useFree).clkLost = s.clkLost := rfl
@[simp] theorem State.useFree_lastRead (s : State) : (s.useFree).lastRead = s.lastRead := rfl
@[simp] theorem State.useFree_strands (s : State) : (s.useFree).strands = s.strands := rfl
@[simp] theorem State.useFree_engs (s : State) : (s.useFree).engs = s.engs := rfl
@[simp] theorem State.useFree_imem (s : State) : (s.useFree).imem = s.imem := rfl
@[simp] theorem State.useFree_scratch (s : State) : (s.useFree).scratch = s.scratch := rfl
@[simp] theorem State.useFree_svram (s : State) : (s.useFree).svram = s.svram := rfl
@[simp] theorem State.useFree_ops (s : State) : (s.useFree).ops = s.ops := rfl
@[simp] theorem State.useFree_nextOp (s : State) : (s.useFree).nextOp = s.nextOp := rfl
@[simp] theorem State.useFree_reqs (s : State) : (s.useFree).reqs = s.reqs := rfl
@[simp] theorem State.useFree_nextReq (s : State) : (s.useFree).nextReq = s.nextReq := rfl
@[simp] theorem State.useFree_dram (s : State) : (s.useFree).dram = s.dram := rfl
@[simp] theorem State.useFree_gran (s : State) : (s.useFree).gran = s.gran := rfl
@[simp] theorem State.useFree_chans (s : State) : (s.useFree).chans = s.chans := rfl
@[simp] theorem State.useFree_denied (s : State) : (s.useFree).denied = s.denied := rfl
@[simp] theorem State.useFree_copyStopped (s : State) : (s.useFree).copyStopped = s.copyStopped := rfl
@[simp] theorem State.useFree_mapMark (s : State) : (s.useFree).mapMark = s.mapMark := rfl
@[simp] theorem State.useFree_ueSeq (s : State) : (s.useFree).ueSeq = s.ueSeq := rfl
@[simp] theorem State.useFree_throttle (s : State) : (s.useFree).throttle = s.throttle := rfl
@[simp] theorem State.useFree_ed (s : State) : (s.useFree).ed = s.ed := rfl
@[simp] theorem State.useFree_tk (s : State) : (s.useFree).tk = s.tk := rfl
@[simp] theorem State.useFree_snap (s : State) : (s.useFree).snap = s.snap := rfl
@[simp] theorem State.useFree_ses (s : State) : (s.useFree).ses = s.ses := rfl
@[simp] theorem State.useFree_st (s : State) : (s.useFree).st = s.st := rfl
@[simp] theorem State.useFree_pt (s : State) : (s.useFree).pt = s.pt := rfl
@[simp] theorem State.useFree_faults (s : State) : (s.useFree).faults = s.faults := rfl
@[simp] theorem State.useFree_pm (s : State) : (s.useFree).pm = s.pm := rfl
@[simp] theorem State.useFree_fc (s : State) : (s.useFree).fc = s.fc := rfl
@[simp] theorem State.useFree_pwr (s : State) : (s.useFree).pwr = s.pwr := rfl
@[simp] theorem State.useFree_trn (s : State) : (s.useFree).trn = s.trn := rfl
@[simp] theorem State.useFree_nv (s : State) : (s.useFree).nv = s.nv := rfl
@[simp] theorem State.useFree_mg (s : State) : (s.useFree).mg = s.mg := rfl
@[simp] theorem State.useFree_change (s : State) : (s.useFree).change = s.change := rfl
@[simp] theorem State.useFree_tap (s : State) : (s.useFree).tap = s.tap := rfl
@[simp] theorem State.useFree_inReset (s : State) : (s.useFree).inReset = s.inReset := rfl
@[simp] theorem State.useFree_testEn (s : State) : (s.useFree).testEn = s.testEn := rfl
@[simp] theorem State.useFree_wdogAt (s : State) : (s.useFree).wdogAt = s.wdogAt := rfl
@[simp] theorem State.useFree_wdogLoad (s : State) : (s.useFree).wdogLoad = s.wdogLoad := rfl
@[simp] theorem State.useFree_wdogOut (s : State) : (s.useFree).wdogOut = s.wdogOut := rfl
@[simp] theorem State.useFree_romLocked (s : State) : (s.useFree).romLocked = s.romLocked := rfl
@[simp] theorem State.useFree_pending (s : State) : (s.useFree).pending = s.pending := rfl

/-! ## `State.newOp` -/

@[simp] theorem State.newOp_part (s : State) (o : Op) : (s.newOp o).part = s.part := rfl
@[simp] theorem State.newOp_regs (s : State) (o : Op) : (s.newOp o).regs = s.regs := rfl
@[simp] theorem State.newOp_shadow (s : State) (o : Op) : (s.newOp o).shadow = s.shadow := rfl
@[simp] theorem State.newOp_holdRd (s : State) (o : Op) : (s.newOp o).holdRd = s.holdRd := rfl
@[simp] theorem State.newOp_holdWr (s : State) (o : Op) : (s.newOp o).holdWr = s.holdWr := rfl
@[simp] theorem State.newOp_tb (s : State) (o : Op) : (s.newOp o).tb = s.tb := rfl
@[simp] theorem State.newOp_tbFrac (s : State) (o : Op) : (s.newOp o).tbFrac = s.tbFrac := rfl
@[simp] theorem State.newOp_slewAcc (s : State) (o : Op) : (s.newOp o).slewAcc = s.slewAcc := rfl
@[simp] theorem State.newOp_ppsHigh (s : State) (o : Op) : (s.newOp o).ppsHigh = s.ppsHigh := rfl
@[simp] theorem State.newOp_ppsLast (s : State) (o : Op) : (s.newOp o).ppsLast = s.ppsLast := rfl
@[simp] theorem State.newOp_clkLost (s : State) (o : Op) : (s.newOp o).clkLost = s.clkLost := rfl
@[simp] theorem State.newOp_lastRead (s : State) (o : Op) : (s.newOp o).lastRead = s.lastRead := rfl
@[simp] theorem State.newOp_strands (s : State) (o : Op) : (s.newOp o).strands = s.strands := rfl
@[simp] theorem State.newOp_engs (s : State) (o : Op) : (s.newOp o).engs = s.engs := rfl
@[simp] theorem State.newOp_imem (s : State) (o : Op) : (s.newOp o).imem = s.imem := rfl
@[simp] theorem State.newOp_scratch (s : State) (o : Op) : (s.newOp o).scratch = s.scratch := rfl
@[simp] theorem State.newOp_svram (s : State) (o : Op) : (s.newOp o).svram = s.svram := rfl
@[simp] theorem State.newOp_reqs (s : State) (o : Op) : (s.newOp o).reqs = s.reqs := rfl
@[simp] theorem State.newOp_nextReq (s : State) (o : Op) : (s.newOp o).nextReq = s.nextReq := rfl
@[simp] theorem State.newOp_dram (s : State) (o : Op) : (s.newOp o).dram = s.dram := rfl
@[simp] theorem State.newOp_gran (s : State) (o : Op) : (s.newOp o).gran = s.gran := rfl
@[simp] theorem State.newOp_chans (s : State) (o : Op) : (s.newOp o).chans = s.chans := rfl
@[simp] theorem State.newOp_denied (s : State) (o : Op) : (s.newOp o).denied = s.denied := rfl
@[simp] theorem State.newOp_copyStopped (s : State) (o : Op) : (s.newOp o).copyStopped = s.copyStopped := rfl
@[simp] theorem State.newOp_mapMark (s : State) (o : Op) : (s.newOp o).mapMark = s.mapMark := rfl
@[simp] theorem State.newOp_ueSeq (s : State) (o : Op) : (s.newOp o).ueSeq = s.ueSeq := rfl
@[simp] theorem State.newOp_throttle (s : State) (o : Op) : (s.newOp o).throttle = s.throttle := rfl
@[simp] theorem State.newOp_ed (s : State) (o : Op) : (s.newOp o).ed = s.ed := rfl
@[simp] theorem State.newOp_tk (s : State) (o : Op) : (s.newOp o).tk = s.tk := rfl
@[simp] theorem State.newOp_snap (s : State) (o : Op) : (s.newOp o).snap = s.snap := rfl
@[simp] theorem State.newOp_ses (s : State) (o : Op) : (s.newOp o).ses = s.ses := rfl
@[simp] theorem State.newOp_st (s : State) (o : Op) : (s.newOp o).st = s.st := rfl
@[simp] theorem State.newOp_pt (s : State) (o : Op) : (s.newOp o).pt = s.pt := rfl
@[simp] theorem State.newOp_faults (s : State) (o : Op) : (s.newOp o).faults = s.faults := rfl
@[simp] theorem State.newOp_pm (s : State) (o : Op) : (s.newOp o).pm = s.pm := rfl
@[simp] theorem State.newOp_fc (s : State) (o : Op) : (s.newOp o).fc = s.fc := rfl
@[simp] theorem State.newOp_pwr (s : State) (o : Op) : (s.newOp o).pwr = s.pwr := rfl
@[simp] theorem State.newOp_trn (s : State) (o : Op) : (s.newOp o).trn = s.trn := rfl
@[simp] theorem State.newOp_nv (s : State) (o : Op) : (s.newOp o).nv = s.nv := rfl
@[simp] theorem State.newOp_mg (s : State) (o : Op) : (s.newOp o).mg = s.mg := rfl
@[simp] theorem State.newOp_change (s : State) (o : Op) : (s.newOp o).change = s.change := rfl
@[simp] theorem State.newOp_tap (s : State) (o : Op) : (s.newOp o).tap = s.tap := rfl
@[simp] theorem State.newOp_inReset (s : State) (o : Op) : (s.newOp o).inReset = s.inReset := rfl
@[simp] theorem State.newOp_testEn (s : State) (o : Op) : (s.newOp o).testEn = s.testEn := rfl
@[simp] theorem State.newOp_wdogAt (s : State) (o : Op) : (s.newOp o).wdogAt = s.wdogAt := rfl
@[simp] theorem State.newOp_wdogLoad (s : State) (o : Op) : (s.newOp o).wdogLoad = s.wdogLoad := rfl
@[simp] theorem State.newOp_wdogOut (s : State) (o : Op) : (s.newOp o).wdogOut = s.wdogOut := rfl
@[simp] theorem State.newOp_romLocked (s : State) (o : Op) : (s.newOp o).romLocked = s.romLocked := rfl
@[simp] theorem State.newOp_free (s : State) (o : Op) : (s.newOp o).free = s.free := rfl
@[simp] theorem State.newOp_pending (s : State) (o : Op) : (s.newOp o).pending = s.pending := rfl

/-! ## `State.setOp` -/

@[simp] theorem State.setOp_part (s : State) (o : Op) : (s.setOp o).part = s.part := rfl
@[simp] theorem State.setOp_regs (s : State) (o : Op) : (s.setOp o).regs = s.regs := rfl
@[simp] theorem State.setOp_shadow (s : State) (o : Op) : (s.setOp o).shadow = s.shadow := rfl
@[simp] theorem State.setOp_holdRd (s : State) (o : Op) : (s.setOp o).holdRd = s.holdRd := rfl
@[simp] theorem State.setOp_holdWr (s : State) (o : Op) : (s.setOp o).holdWr = s.holdWr := rfl
@[simp] theorem State.setOp_tb (s : State) (o : Op) : (s.setOp o).tb = s.tb := rfl
@[simp] theorem State.setOp_tbFrac (s : State) (o : Op) : (s.setOp o).tbFrac = s.tbFrac := rfl
@[simp] theorem State.setOp_slewAcc (s : State) (o : Op) : (s.setOp o).slewAcc = s.slewAcc := rfl
@[simp] theorem State.setOp_ppsHigh (s : State) (o : Op) : (s.setOp o).ppsHigh = s.ppsHigh := rfl
@[simp] theorem State.setOp_ppsLast (s : State) (o : Op) : (s.setOp o).ppsLast = s.ppsLast := rfl
@[simp] theorem State.setOp_clkLost (s : State) (o : Op) : (s.setOp o).clkLost = s.clkLost := rfl
@[simp] theorem State.setOp_lastRead (s : State) (o : Op) : (s.setOp o).lastRead = s.lastRead := rfl
@[simp] theorem State.setOp_strands (s : State) (o : Op) : (s.setOp o).strands = s.strands := rfl
@[simp] theorem State.setOp_engs (s : State) (o : Op) : (s.setOp o).engs = s.engs := rfl
@[simp] theorem State.setOp_imem (s : State) (o : Op) : (s.setOp o).imem = s.imem := rfl
@[simp] theorem State.setOp_scratch (s : State) (o : Op) : (s.setOp o).scratch = s.scratch := rfl
@[simp] theorem State.setOp_svram (s : State) (o : Op) : (s.setOp o).svram = s.svram := rfl
@[simp] theorem State.setOp_nextOp (s : State) (o : Op) : (s.setOp o).nextOp = s.nextOp := rfl
@[simp] theorem State.setOp_reqs (s : State) (o : Op) : (s.setOp o).reqs = s.reqs := rfl
@[simp] theorem State.setOp_nextReq (s : State) (o : Op) : (s.setOp o).nextReq = s.nextReq := rfl
@[simp] theorem State.setOp_dram (s : State) (o : Op) : (s.setOp o).dram = s.dram := rfl
@[simp] theorem State.setOp_gran (s : State) (o : Op) : (s.setOp o).gran = s.gran := rfl
@[simp] theorem State.setOp_chans (s : State) (o : Op) : (s.setOp o).chans = s.chans := rfl
@[simp] theorem State.setOp_denied (s : State) (o : Op) : (s.setOp o).denied = s.denied := rfl
@[simp] theorem State.setOp_copyStopped (s : State) (o : Op) : (s.setOp o).copyStopped = s.copyStopped := rfl
@[simp] theorem State.setOp_mapMark (s : State) (o : Op) : (s.setOp o).mapMark = s.mapMark := rfl
@[simp] theorem State.setOp_ueSeq (s : State) (o : Op) : (s.setOp o).ueSeq = s.ueSeq := rfl
@[simp] theorem State.setOp_throttle (s : State) (o : Op) : (s.setOp o).throttle = s.throttle := rfl
@[simp] theorem State.setOp_ed (s : State) (o : Op) : (s.setOp o).ed = s.ed := rfl
@[simp] theorem State.setOp_tk (s : State) (o : Op) : (s.setOp o).tk = s.tk := rfl
@[simp] theorem State.setOp_snap (s : State) (o : Op) : (s.setOp o).snap = s.snap := rfl
@[simp] theorem State.setOp_ses (s : State) (o : Op) : (s.setOp o).ses = s.ses := rfl
@[simp] theorem State.setOp_st (s : State) (o : Op) : (s.setOp o).st = s.st := rfl
@[simp] theorem State.setOp_pt (s : State) (o : Op) : (s.setOp o).pt = s.pt := rfl
@[simp] theorem State.setOp_faults (s : State) (o : Op) : (s.setOp o).faults = s.faults := rfl
@[simp] theorem State.setOp_pm (s : State) (o : Op) : (s.setOp o).pm = s.pm := rfl
@[simp] theorem State.setOp_fc (s : State) (o : Op) : (s.setOp o).fc = s.fc := rfl
@[simp] theorem State.setOp_pwr (s : State) (o : Op) : (s.setOp o).pwr = s.pwr := rfl
@[simp] theorem State.setOp_trn (s : State) (o : Op) : (s.setOp o).trn = s.trn := rfl
@[simp] theorem State.setOp_nv (s : State) (o : Op) : (s.setOp o).nv = s.nv := rfl
@[simp] theorem State.setOp_mg (s : State) (o : Op) : (s.setOp o).mg = s.mg := rfl
@[simp] theorem State.setOp_change (s : State) (o : Op) : (s.setOp o).change = s.change := rfl
@[simp] theorem State.setOp_tap (s : State) (o : Op) : (s.setOp o).tap = s.tap := rfl
@[simp] theorem State.setOp_inReset (s : State) (o : Op) : (s.setOp o).inReset = s.inReset := rfl
@[simp] theorem State.setOp_testEn (s : State) (o : Op) : (s.setOp o).testEn = s.testEn := rfl
@[simp] theorem State.setOp_wdogAt (s : State) (o : Op) : (s.setOp o).wdogAt = s.wdogAt := rfl
@[simp] theorem State.setOp_wdogLoad (s : State) (o : Op) : (s.setOp o).wdogLoad = s.wdogLoad := rfl
@[simp] theorem State.setOp_wdogOut (s : State) (o : Op) : (s.setOp o).wdogOut = s.wdogOut := rfl
@[simp] theorem State.setOp_romLocked (s : State) (o : Op) : (s.setOp o).romLocked = s.romLocked := rfl
@[simp] theorem State.setOp_free (s : State) (o : Op) : (s.setOp o).free = s.free := rfl
@[simp] theorem State.setOp_pending (s : State) (o : Op) : (s.setOp o).pending = s.pending := rfl

/-! ## `State.dropOp` -/

@[simp] theorem State.dropOp_part (s : State) (id : Nat) : (s.dropOp id).part = s.part := rfl
@[simp] theorem State.dropOp_regs (s : State) (id : Nat) : (s.dropOp id).regs = s.regs := rfl
@[simp] theorem State.dropOp_shadow (s : State) (id : Nat) : (s.dropOp id).shadow = s.shadow := rfl
@[simp] theorem State.dropOp_holdRd (s : State) (id : Nat) : (s.dropOp id).holdRd = s.holdRd := rfl
@[simp] theorem State.dropOp_holdWr (s : State) (id : Nat) : (s.dropOp id).holdWr = s.holdWr := rfl
@[simp] theorem State.dropOp_tb (s : State) (id : Nat) : (s.dropOp id).tb = s.tb := rfl
@[simp] theorem State.dropOp_tbFrac (s : State) (id : Nat) : (s.dropOp id).tbFrac = s.tbFrac := rfl
@[simp] theorem State.dropOp_slewAcc (s : State) (id : Nat) : (s.dropOp id).slewAcc = s.slewAcc := rfl
@[simp] theorem State.dropOp_ppsHigh (s : State) (id : Nat) : (s.dropOp id).ppsHigh = s.ppsHigh := rfl
@[simp] theorem State.dropOp_ppsLast (s : State) (id : Nat) : (s.dropOp id).ppsLast = s.ppsLast := rfl
@[simp] theorem State.dropOp_clkLost (s : State) (id : Nat) : (s.dropOp id).clkLost = s.clkLost := rfl
@[simp] theorem State.dropOp_lastRead (s : State) (id : Nat) : (s.dropOp id).lastRead = s.lastRead := rfl
@[simp] theorem State.dropOp_strands (s : State) (id : Nat) : (s.dropOp id).strands = s.strands := rfl
@[simp] theorem State.dropOp_engs (s : State) (id : Nat) : (s.dropOp id).engs = s.engs := rfl
@[simp] theorem State.dropOp_imem (s : State) (id : Nat) : (s.dropOp id).imem = s.imem := rfl
@[simp] theorem State.dropOp_scratch (s : State) (id : Nat) : (s.dropOp id).scratch = s.scratch := rfl
@[simp] theorem State.dropOp_svram (s : State) (id : Nat) : (s.dropOp id).svram = s.svram := rfl
@[simp] theorem State.dropOp_nextOp (s : State) (id : Nat) : (s.dropOp id).nextOp = s.nextOp := rfl
@[simp] theorem State.dropOp_reqs (s : State) (id : Nat) : (s.dropOp id).reqs = s.reqs := rfl
@[simp] theorem State.dropOp_nextReq (s : State) (id : Nat) : (s.dropOp id).nextReq = s.nextReq := rfl
@[simp] theorem State.dropOp_dram (s : State) (id : Nat) : (s.dropOp id).dram = s.dram := rfl
@[simp] theorem State.dropOp_gran (s : State) (id : Nat) : (s.dropOp id).gran = s.gran := rfl
@[simp] theorem State.dropOp_chans (s : State) (id : Nat) : (s.dropOp id).chans = s.chans := rfl
@[simp] theorem State.dropOp_denied (s : State) (id : Nat) : (s.dropOp id).denied = s.denied := rfl
@[simp] theorem State.dropOp_copyStopped (s : State) (id : Nat) : (s.dropOp id).copyStopped = s.copyStopped := rfl
@[simp] theorem State.dropOp_mapMark (s : State) (id : Nat) : (s.dropOp id).mapMark = s.mapMark := rfl
@[simp] theorem State.dropOp_ueSeq (s : State) (id : Nat) : (s.dropOp id).ueSeq = s.ueSeq := rfl
@[simp] theorem State.dropOp_throttle (s : State) (id : Nat) : (s.dropOp id).throttle = s.throttle := rfl
@[simp] theorem State.dropOp_ed (s : State) (id : Nat) : (s.dropOp id).ed = s.ed := rfl
@[simp] theorem State.dropOp_tk (s : State) (id : Nat) : (s.dropOp id).tk = s.tk := rfl
@[simp] theorem State.dropOp_snap (s : State) (id : Nat) : (s.dropOp id).snap = s.snap := rfl
@[simp] theorem State.dropOp_ses (s : State) (id : Nat) : (s.dropOp id).ses = s.ses := rfl
@[simp] theorem State.dropOp_st (s : State) (id : Nat) : (s.dropOp id).st = s.st := rfl
@[simp] theorem State.dropOp_pt (s : State) (id : Nat) : (s.dropOp id).pt = s.pt := rfl
@[simp] theorem State.dropOp_faults (s : State) (id : Nat) : (s.dropOp id).faults = s.faults := rfl
@[simp] theorem State.dropOp_pm (s : State) (id : Nat) : (s.dropOp id).pm = s.pm := rfl
@[simp] theorem State.dropOp_fc (s : State) (id : Nat) : (s.dropOp id).fc = s.fc := rfl
@[simp] theorem State.dropOp_pwr (s : State) (id : Nat) : (s.dropOp id).pwr = s.pwr := rfl
@[simp] theorem State.dropOp_trn (s : State) (id : Nat) : (s.dropOp id).trn = s.trn := rfl
@[simp] theorem State.dropOp_nv (s : State) (id : Nat) : (s.dropOp id).nv = s.nv := rfl
@[simp] theorem State.dropOp_mg (s : State) (id : Nat) : (s.dropOp id).mg = s.mg := rfl
@[simp] theorem State.dropOp_change (s : State) (id : Nat) : (s.dropOp id).change = s.change := rfl
@[simp] theorem State.dropOp_tap (s : State) (id : Nat) : (s.dropOp id).tap = s.tap := rfl
@[simp] theorem State.dropOp_inReset (s : State) (id : Nat) : (s.dropOp id).inReset = s.inReset := rfl
@[simp] theorem State.dropOp_testEn (s : State) (id : Nat) : (s.dropOp id).testEn = s.testEn := rfl
@[simp] theorem State.dropOp_wdogAt (s : State) (id : Nat) : (s.dropOp id).wdogAt = s.wdogAt := rfl
@[simp] theorem State.dropOp_wdogLoad (s : State) (id : Nat) : (s.dropOp id).wdogLoad = s.wdogLoad := rfl
@[simp] theorem State.dropOp_wdogOut (s : State) (id : Nat) : (s.dropOp id).wdogOut = s.wdogOut := rfl
@[simp] theorem State.dropOp_romLocked (s : State) (id : Nat) : (s.dropOp id).romLocked = s.romLocked := rfl
@[simp] theorem State.dropOp_free (s : State) (id : Nat) : (s.dropOp id).free = s.free := rfl
@[simp] theorem State.dropOp_pending (s : State) (id : Nat) : (s.dropOp id).pending = s.pending := rfl

/-! ## `State.endToken` -/

@[simp] theorem State.endToken_part (s : State) (e : Nat) : (s.endToken e).part = s.part := rfl
@[simp] theorem State.endToken_regs (s : State) (e : Nat) : (s.endToken e).regs = s.regs := rfl
@[simp] theorem State.endToken_shadow (s : State) (e : Nat) : (s.endToken e).shadow = s.shadow := rfl
@[simp] theorem State.endToken_holdRd (s : State) (e : Nat) : (s.endToken e).holdRd = s.holdRd := rfl
@[simp] theorem State.endToken_holdWr (s : State) (e : Nat) : (s.endToken e).holdWr = s.holdWr := rfl
@[simp] theorem State.endToken_tb (s : State) (e : Nat) : (s.endToken e).tb = s.tb := rfl
@[simp] theorem State.endToken_tbFrac (s : State) (e : Nat) : (s.endToken e).tbFrac = s.tbFrac := rfl
@[simp] theorem State.endToken_slewAcc (s : State) (e : Nat) : (s.endToken e).slewAcc = s.slewAcc := rfl
@[simp] theorem State.endToken_ppsHigh (s : State) (e : Nat) : (s.endToken e).ppsHigh = s.ppsHigh := rfl
@[simp] theorem State.endToken_ppsLast (s : State) (e : Nat) : (s.endToken e).ppsLast = s.ppsLast := rfl
@[simp] theorem State.endToken_clkLost (s : State) (e : Nat) : (s.endToken e).clkLost = s.clkLost := rfl
@[simp] theorem State.endToken_lastRead (s : State) (e : Nat) : (s.endToken e).lastRead = s.lastRead := rfl
@[simp] theorem State.endToken_strands (s : State) (e : Nat) : (s.endToken e).strands = s.strands := rfl
@[simp] theorem State.endToken_imem (s : State) (e : Nat) : (s.endToken e).imem = s.imem := rfl
@[simp] theorem State.endToken_scratch (s : State) (e : Nat) : (s.endToken e).scratch = s.scratch := rfl
@[simp] theorem State.endToken_svram (s : State) (e : Nat) : (s.endToken e).svram = s.svram := rfl
@[simp] theorem State.endToken_ops (s : State) (e : Nat) : (s.endToken e).ops = s.ops := rfl
@[simp] theorem State.endToken_nextOp (s : State) (e : Nat) : (s.endToken e).nextOp = s.nextOp := rfl
@[simp] theorem State.endToken_reqs (s : State) (e : Nat) : (s.endToken e).reqs = s.reqs := rfl
@[simp] theorem State.endToken_nextReq (s : State) (e : Nat) : (s.endToken e).nextReq = s.nextReq := rfl
@[simp] theorem State.endToken_dram (s : State) (e : Nat) : (s.endToken e).dram = s.dram := rfl
@[simp] theorem State.endToken_gran (s : State) (e : Nat) : (s.endToken e).gran = s.gran := rfl
@[simp] theorem State.endToken_chans (s : State) (e : Nat) : (s.endToken e).chans = s.chans := rfl
@[simp] theorem State.endToken_denied (s : State) (e : Nat) : (s.endToken e).denied = s.denied := rfl
@[simp] theorem State.endToken_copyStopped (s : State) (e : Nat) : (s.endToken e).copyStopped = s.copyStopped := rfl
@[simp] theorem State.endToken_mapMark (s : State) (e : Nat) : (s.endToken e).mapMark = s.mapMark := rfl
@[simp] theorem State.endToken_ueSeq (s : State) (e : Nat) : (s.endToken e).ueSeq = s.ueSeq := rfl
@[simp] theorem State.endToken_throttle (s : State) (e : Nat) : (s.endToken e).throttle = s.throttle := rfl
@[simp] theorem State.endToken_ed (s : State) (e : Nat) : (s.endToken e).ed = s.ed := rfl
@[simp] theorem State.endToken_tk (s : State) (e : Nat) : (s.endToken e).tk = s.tk := rfl
@[simp] theorem State.endToken_snap (s : State) (e : Nat) : (s.endToken e).snap = s.snap := rfl
@[simp] theorem State.endToken_ses (s : State) (e : Nat) : (s.endToken e).ses = s.ses := rfl
@[simp] theorem State.endToken_st (s : State) (e : Nat) : (s.endToken e).st = s.st := rfl
@[simp] theorem State.endToken_pt (s : State) (e : Nat) : (s.endToken e).pt = s.pt := rfl
@[simp] theorem State.endToken_faults (s : State) (e : Nat) : (s.endToken e).faults = s.faults := rfl
@[simp] theorem State.endToken_pm (s : State) (e : Nat) : (s.endToken e).pm = s.pm := rfl
@[simp] theorem State.endToken_fc (s : State) (e : Nat) : (s.endToken e).fc = s.fc := rfl
@[simp] theorem State.endToken_pwr (s : State) (e : Nat) : (s.endToken e).pwr = s.pwr := rfl
@[simp] theorem State.endToken_trn (s : State) (e : Nat) : (s.endToken e).trn = s.trn := rfl
@[simp] theorem State.endToken_nv (s : State) (e : Nat) : (s.endToken e).nv = s.nv := rfl
@[simp] theorem State.endToken_mg (s : State) (e : Nat) : (s.endToken e).mg = s.mg := rfl
@[simp] theorem State.endToken_change (s : State) (e : Nat) : (s.endToken e).change = s.change := rfl
@[simp] theorem State.endToken_tap (s : State) (e : Nat) : (s.endToken e).tap = s.tap := rfl
@[simp] theorem State.endToken_inReset (s : State) (e : Nat) : (s.endToken e).inReset = s.inReset := rfl
@[simp] theorem State.endToken_testEn (s : State) (e : Nat) : (s.endToken e).testEn = s.testEn := rfl
@[simp] theorem State.endToken_wdogAt (s : State) (e : Nat) : (s.endToken e).wdogAt = s.wdogAt := rfl
@[simp] theorem State.endToken_wdogLoad (s : State) (e : Nat) : (s.endToken e).wdogLoad = s.wdogLoad := rfl
@[simp] theorem State.endToken_wdogOut (s : State) (e : Nat) : (s.endToken e).wdogOut = s.wdogOut := rfl
@[simp] theorem State.endToken_romLocked (s : State) (e : Nat) : (s.endToken e).romLocked = s.romLocked := rfl
@[simp] theorem State.endToken_free (s : State) (e : Nat) : (s.endToken e).free = s.free := rfl
@[simp] theorem State.endToken_pending (s : State) (e : Nat) : (s.endToken e).pending = s.pending := rfl

/-! ## `State.raise` -/

@[simp] theorem State.raise_part (s : State) (v : FaultEv) : (s.raise v).part = s.part := by unfold State.raise; split <;> rfl
@[simp] theorem State.raise_regs (s : State) (v : FaultEv) : (s.raise v).regs = s.regs := by unfold State.raise; split <;> rfl
@[simp] theorem State.raise_shadow (s : State) (v : FaultEv) : (s.raise v).shadow = s.shadow := by unfold State.raise; split <;> rfl
@[simp] theorem State.raise_holdRd (s : State) (v : FaultEv) : (s.raise v).holdRd = s.holdRd := by unfold State.raise; split <;> rfl
@[simp] theorem State.raise_holdWr (s : State) (v : FaultEv) : (s.raise v).holdWr = s.holdWr := by unfold State.raise; split <;> rfl
@[simp] theorem State.raise_tb (s : State) (v : FaultEv) : (s.raise v).tb = s.tb := by unfold State.raise; split <;> rfl
@[simp] theorem State.raise_tbFrac (s : State) (v : FaultEv) : (s.raise v).tbFrac = s.tbFrac := by unfold State.raise; split <;> rfl
@[simp] theorem State.raise_slewAcc (s : State) (v : FaultEv) : (s.raise v).slewAcc = s.slewAcc := by unfold State.raise; split <;> rfl
@[simp] theorem State.raise_ppsHigh (s : State) (v : FaultEv) : (s.raise v).ppsHigh = s.ppsHigh := by unfold State.raise; split <;> rfl
@[simp] theorem State.raise_ppsLast (s : State) (v : FaultEv) : (s.raise v).ppsLast = s.ppsLast := by unfold State.raise; split <;> rfl
@[simp] theorem State.raise_clkLost (s : State) (v : FaultEv) : (s.raise v).clkLost = s.clkLost := by unfold State.raise; split <;> rfl
@[simp] theorem State.raise_lastRead (s : State) (v : FaultEv) : (s.raise v).lastRead = s.lastRead := by unfold State.raise; split <;> rfl
@[simp] theorem State.raise_strands (s : State) (v : FaultEv) : (s.raise v).strands = s.strands := by unfold State.raise; split <;> rfl
@[simp] theorem State.raise_engs (s : State) (v : FaultEv) : (s.raise v).engs = s.engs := by unfold State.raise; split <;> rfl
@[simp] theorem State.raise_imem (s : State) (v : FaultEv) : (s.raise v).imem = s.imem := by unfold State.raise; split <;> rfl
@[simp] theorem State.raise_scratch (s : State) (v : FaultEv) : (s.raise v).scratch = s.scratch := by unfold State.raise; split <;> rfl
@[simp] theorem State.raise_svram (s : State) (v : FaultEv) : (s.raise v).svram = s.svram := by unfold State.raise; split <;> rfl
@[simp] theorem State.raise_ops (s : State) (v : FaultEv) : (s.raise v).ops = s.ops := by unfold State.raise; split <;> rfl
@[simp] theorem State.raise_nextOp (s : State) (v : FaultEv) : (s.raise v).nextOp = s.nextOp := by unfold State.raise; split <;> rfl
@[simp] theorem State.raise_reqs (s : State) (v : FaultEv) : (s.raise v).reqs = s.reqs := by unfold State.raise; split <;> rfl
@[simp] theorem State.raise_nextReq (s : State) (v : FaultEv) : (s.raise v).nextReq = s.nextReq := by unfold State.raise; split <;> rfl
@[simp] theorem State.raise_dram (s : State) (v : FaultEv) : (s.raise v).dram = s.dram := by unfold State.raise; split <;> rfl
@[simp] theorem State.raise_gran (s : State) (v : FaultEv) : (s.raise v).gran = s.gran := by unfold State.raise; split <;> rfl
@[simp] theorem State.raise_chans (s : State) (v : FaultEv) : (s.raise v).chans = s.chans := by unfold State.raise; split <;> rfl
@[simp] theorem State.raise_denied (s : State) (v : FaultEv) : (s.raise v).denied = s.denied := by unfold State.raise; split <;> rfl
@[simp] theorem State.raise_copyStopped (s : State) (v : FaultEv) : (s.raise v).copyStopped = s.copyStopped := by unfold State.raise; split <;> rfl
@[simp] theorem State.raise_mapMark (s : State) (v : FaultEv) : (s.raise v).mapMark = s.mapMark := by unfold State.raise; split <;> rfl
@[simp] theorem State.raise_ueSeq (s : State) (v : FaultEv) : (s.raise v).ueSeq = s.ueSeq := by unfold State.raise; split <;> rfl
@[simp] theorem State.raise_throttle (s : State) (v : FaultEv) : (s.raise v).throttle = s.throttle := by unfold State.raise; split <;> rfl
@[simp] theorem State.raise_ed (s : State) (v : FaultEv) : (s.raise v).ed = s.ed := by unfold State.raise; split <;> rfl
@[simp] theorem State.raise_tk (s : State) (v : FaultEv) : (s.raise v).tk = s.tk := by unfold State.raise; split <;> rfl
@[simp] theorem State.raise_snap (s : State) (v : FaultEv) : (s.raise v).snap = s.snap := by unfold State.raise; split <;> rfl
@[simp] theorem State.raise_ses (s : State) (v : FaultEv) : (s.raise v).ses = s.ses := by unfold State.raise; split <;> rfl
@[simp] theorem State.raise_st (s : State) (v : FaultEv) : (s.raise v).st = s.st := by unfold State.raise; split <;> rfl
@[simp] theorem State.raise_pt (s : State) (v : FaultEv) : (s.raise v).pt = s.pt := by unfold State.raise; split <;> rfl
@[simp] theorem State.raise_pm (s : State) (v : FaultEv) : (s.raise v).pm = s.pm := by unfold State.raise; split <;> rfl
@[simp] theorem State.raise_fc (s : State) (v : FaultEv) : (s.raise v).fc = s.fc := by unfold State.raise; split <;> rfl
@[simp] theorem State.raise_pwr (s : State) (v : FaultEv) : (s.raise v).pwr = s.pwr := by unfold State.raise; split <;> rfl
@[simp] theorem State.raise_trn (s : State) (v : FaultEv) : (s.raise v).trn = s.trn := by unfold State.raise; split <;> rfl
@[simp] theorem State.raise_nv (s : State) (v : FaultEv) : (s.raise v).nv = s.nv := by unfold State.raise; split <;> rfl
@[simp] theorem State.raise_mg (s : State) (v : FaultEv) : (s.raise v).mg = s.mg := by unfold State.raise; split <;> rfl
@[simp] theorem State.raise_change (s : State) (v : FaultEv) : (s.raise v).change = s.change := by unfold State.raise; split <;> rfl
@[simp] theorem State.raise_tap (s : State) (v : FaultEv) : (s.raise v).tap = s.tap := by unfold State.raise; split <;> rfl
@[simp] theorem State.raise_inReset (s : State) (v : FaultEv) : (s.raise v).inReset = s.inReset := by unfold State.raise; split <;> rfl
@[simp] theorem State.raise_testEn (s : State) (v : FaultEv) : (s.raise v).testEn = s.testEn := by unfold State.raise; split <;> rfl
@[simp] theorem State.raise_wdogAt (s : State) (v : FaultEv) : (s.raise v).wdogAt = s.wdogAt := by unfold State.raise; split <;> rfl
@[simp] theorem State.raise_wdogLoad (s : State) (v : FaultEv) : (s.raise v).wdogLoad = s.wdogLoad := by unfold State.raise; split <;> rfl
@[simp] theorem State.raise_wdogOut (s : State) (v : FaultEv) : (s.raise v).wdogOut = s.wdogOut := by unfold State.raise; split <;> rfl
@[simp] theorem State.raise_romLocked (s : State) (v : FaultEv) : (s.raise v).romLocked = s.romLocked := by unfold State.raise; split <;> rfl
@[simp] theorem State.raise_free (s : State) (v : FaultEv) : (s.raise v).free = s.free := by unfold State.raise; split <;> rfl
@[simp] theorem State.raise_pending (s : State) (v : FaultEv) : (s.raise v).pending = s.pending := by unfold State.raise; split <;> rfl

/-! ## `State.occ` -/

@[simp] theorem State.occ_part (s : State) (o : Occ) : (s.occ o).part = s.part := by unfold State.occ; split <;> rfl
@[simp] theorem State.occ_regs (s : State) (o : Occ) : (s.occ o).regs = s.regs := by unfold State.occ; split <;> rfl
@[simp] theorem State.occ_shadow (s : State) (o : Occ) : (s.occ o).shadow = s.shadow := by unfold State.occ; split <;> rfl
@[simp] theorem State.occ_holdRd (s : State) (o : Occ) : (s.occ o).holdRd = s.holdRd := by unfold State.occ; split <;> rfl
@[simp] theorem State.occ_holdWr (s : State) (o : Occ) : (s.occ o).holdWr = s.holdWr := by unfold State.occ; split <;> rfl
@[simp] theorem State.occ_tb (s : State) (o : Occ) : (s.occ o).tb = s.tb := by unfold State.occ; split <;> rfl
@[simp] theorem State.occ_tbFrac (s : State) (o : Occ) : (s.occ o).tbFrac = s.tbFrac := by unfold State.occ; split <;> rfl
@[simp] theorem State.occ_slewAcc (s : State) (o : Occ) : (s.occ o).slewAcc = s.slewAcc := by unfold State.occ; split <;> rfl
@[simp] theorem State.occ_ppsHigh (s : State) (o : Occ) : (s.occ o).ppsHigh = s.ppsHigh := by unfold State.occ; split <;> rfl
@[simp] theorem State.occ_ppsLast (s : State) (o : Occ) : (s.occ o).ppsLast = s.ppsLast := by unfold State.occ; split <;> rfl
@[simp] theorem State.occ_clkLost (s : State) (o : Occ) : (s.occ o).clkLost = s.clkLost := by unfold State.occ; split <;> rfl
@[simp] theorem State.occ_lastRead (s : State) (o : Occ) : (s.occ o).lastRead = s.lastRead := by unfold State.occ; split <;> rfl
@[simp] theorem State.occ_strands (s : State) (o : Occ) : (s.occ o).strands = s.strands := by unfold State.occ; split <;> rfl
@[simp] theorem State.occ_engs (s : State) (o : Occ) : (s.occ o).engs = s.engs := by unfold State.occ; split <;> rfl
@[simp] theorem State.occ_imem (s : State) (o : Occ) : (s.occ o).imem = s.imem := by unfold State.occ; split <;> rfl
@[simp] theorem State.occ_scratch (s : State) (o : Occ) : (s.occ o).scratch = s.scratch := by unfold State.occ; split <;> rfl
@[simp] theorem State.occ_svram (s : State) (o : Occ) : (s.occ o).svram = s.svram := by unfold State.occ; split <;> rfl
@[simp] theorem State.occ_ops (s : State) (o : Occ) : (s.occ o).ops = s.ops := by unfold State.occ; split <;> rfl
@[simp] theorem State.occ_nextOp (s : State) (o : Occ) : (s.occ o).nextOp = s.nextOp := by unfold State.occ; split <;> rfl
@[simp] theorem State.occ_reqs (s : State) (o : Occ) : (s.occ o).reqs = s.reqs := by unfold State.occ; split <;> rfl
@[simp] theorem State.occ_nextReq (s : State) (o : Occ) : (s.occ o).nextReq = s.nextReq := by unfold State.occ; split <;> rfl
@[simp] theorem State.occ_dram (s : State) (o : Occ) : (s.occ o).dram = s.dram := by unfold State.occ; split <;> rfl
@[simp] theorem State.occ_gran (s : State) (o : Occ) : (s.occ o).gran = s.gran := by unfold State.occ; split <;> rfl
@[simp] theorem State.occ_chans (s : State) (o : Occ) : (s.occ o).chans = s.chans := by unfold State.occ; split <;> rfl
@[simp] theorem State.occ_denied (s : State) (o : Occ) : (s.occ o).denied = s.denied := by unfold State.occ; split <;> rfl
@[simp] theorem State.occ_copyStopped (s : State) (o : Occ) : (s.occ o).copyStopped = s.copyStopped := by unfold State.occ; split <;> rfl
@[simp] theorem State.occ_mapMark (s : State) (o : Occ) : (s.occ o).mapMark = s.mapMark := by unfold State.occ; split <;> rfl
@[simp] theorem State.occ_ueSeq (s : State) (o : Occ) : (s.occ o).ueSeq = s.ueSeq := by unfold State.occ; split <;> rfl
@[simp] theorem State.occ_throttle (s : State) (o : Occ) : (s.occ o).throttle = s.throttle := by unfold State.occ; split <;> rfl
@[simp] theorem State.occ_ed (s : State) (o : Occ) : (s.occ o).ed = s.ed := by unfold State.occ; split <;> rfl
@[simp] theorem State.occ_tk (s : State) (o : Occ) : (s.occ o).tk = s.tk := by unfold State.occ; split <;> rfl
@[simp] theorem State.occ_snap (s : State) (o : Occ) : (s.occ o).snap = s.snap := by unfold State.occ; split <;> rfl
@[simp] theorem State.occ_ses (s : State) (o : Occ) : (s.occ o).ses = s.ses := by unfold State.occ; split <;> rfl
@[simp] theorem State.occ_st (s : State) (o : Occ) : (s.occ o).st = s.st := by unfold State.occ; split <;> rfl
@[simp] theorem State.occ_pt (s : State) (o : Occ) : (s.occ o).pt = s.pt := by unfold State.occ; split <;> rfl
@[simp] theorem State.occ_faults (s : State) (o : Occ) : (s.occ o).faults = s.faults := by unfold State.occ; split <;> rfl
@[simp] theorem State.occ_fc (s : State) (o : Occ) : (s.occ o).fc = s.fc := by unfold State.occ; split <;> rfl
@[simp] theorem State.occ_pwr (s : State) (o : Occ) : (s.occ o).pwr = s.pwr := by unfold State.occ; split <;> rfl
@[simp] theorem State.occ_trn (s : State) (o : Occ) : (s.occ o).trn = s.trn := by unfold State.occ; split <;> rfl
@[simp] theorem State.occ_nv (s : State) (o : Occ) : (s.occ o).nv = s.nv := by unfold State.occ; split <;> rfl
@[simp] theorem State.occ_mg (s : State) (o : Occ) : (s.occ o).mg = s.mg := by unfold State.occ; split <;> rfl
@[simp] theorem State.occ_change (s : State) (o : Occ) : (s.occ o).change = s.change := by unfold State.occ; split <;> rfl
@[simp] theorem State.occ_tap (s : State) (o : Occ) : (s.occ o).tap = s.tap := by unfold State.occ; split <;> rfl
@[simp] theorem State.occ_inReset (s : State) (o : Occ) : (s.occ o).inReset = s.inReset := by unfold State.occ; split <;> rfl
@[simp] theorem State.occ_testEn (s : State) (o : Occ) : (s.occ o).testEn = s.testEn := by unfold State.occ; split <;> rfl
@[simp] theorem State.occ_wdogAt (s : State) (o : Occ) : (s.occ o).wdogAt = s.wdogAt := by unfold State.occ; split <;> rfl
@[simp] theorem State.occ_wdogLoad (s : State) (o : Occ) : (s.occ o).wdogLoad = s.wdogLoad := by unfold State.occ; split <;> rfl
@[simp] theorem State.occ_wdogOut (s : State) (o : Occ) : (s.occ o).wdogOut = s.wdogOut := by unfold State.occ; split <;> rfl
@[simp] theorem State.occ_romLocked (s : State) (o : Occ) : (s.occ o).romLocked = s.romLocked := by unfold State.occ; split <;> rfl
@[simp] theorem State.occ_free (s : State) (o : Occ) : (s.occ o).free = s.free := by unfold State.occ; split <;> rfl
@[simp] theorem State.occ_pending (s : State) (o : Occ) : (s.occ o).pending = s.pending := by unfold State.occ; split <;> rfl

/-! ## Reads that an update does not reach -/

@[simp] theorem State.strand_setFld (s : State) (f : Fld) (i j v : Nat) (a b : Nat) : (s.setFld f i j v).strand a b = s.strand a b := rfl
@[simp] theorem State.eng_setFld (s : State) (f : Fld) (i j v : Nat) (a : Nat) : (s.setFld f i j v).eng a = s.eng a := rfl
@[simp] theorem State.chan_setFld (s : State) (f : Fld) (i j v : Nat) (a : Nat) : (s.setFld f i j v).chan a = s.chan a := rfl
@[simp] theorem State.entry_setFld (s : State) (f : Fld) (i j v : Nat) (a : Nat) : (s.setFld f i j v).entry a = s.entry a := rfl
@[simp] theorem State.sess_setFld (s : State) (f : Fld) (i j v : Nat) (a : Nat) : (s.setFld f i j v).sess a = s.sess a := rfl
@[simp] theorem State.ctx_setFld (s : State) (f : Fld) (i j v : Nat) (a : Nat) : (s.setFld f i j v).ctx a = s.ctx a := rfl
@[simp] theorem State.findOp_setFld (s : State) (f : Fld) (i j v : Nat) (a : Nat) : (s.setFld f i j v).findOp a = s.findOp a := rfl
@[simp] theorem State.opsOf_setFld (s : State) (f : Fld) (i j v : Nat) (a b : Nat) : (s.setFld f i j v).opsOf a b = s.opsOf a b := rfl
@[simp] theorem State.me_setFld (s : State) (f : Fld) (i j v : Nat) (a : Iss) : (s.setFld f i j v).me a = s.me a := rfl
@[simp] theorem State.freeVal_setFld (s : State) (f : Fld) (i j v : Nat) : (s.setFld f i j v).freeVal = s.freeVal := rfl
@[simp] theorem State.units_setFld (s : State) (f : Fld) (i j v : Nat) : (s.setFld f i j v).units = s.units := rfl
@[simp] theorem State.strand_addFld (s : State) (f : Fld) (i j v : Nat) (a b : Nat) : (s.addFld f i j v).strand a b = s.strand a b := rfl
@[simp] theorem State.eng_addFld (s : State) (f : Fld) (i j v : Nat) (a : Nat) : (s.addFld f i j v).eng a = s.eng a := rfl
@[simp] theorem State.chan_addFld (s : State) (f : Fld) (i j v : Nat) (a : Nat) : (s.addFld f i j v).chan a = s.chan a := rfl
@[simp] theorem State.entry_addFld (s : State) (f : Fld) (i j v : Nat) (a : Nat) : (s.addFld f i j v).entry a = s.entry a := rfl
@[simp] theorem State.sess_addFld (s : State) (f : Fld) (i j v : Nat) (a : Nat) : (s.addFld f i j v).sess a = s.sess a := rfl
@[simp] theorem State.ctx_addFld (s : State) (f : Fld) (i j v : Nat) (a : Nat) : (s.addFld f i j v).ctx a = s.ctx a := rfl
@[simp] theorem State.findOp_addFld (s : State) (f : Fld) (i j v : Nat) (a : Nat) : (s.addFld f i j v).findOp a = s.findOp a := rfl
@[simp] theorem State.opsOf_addFld (s : State) (f : Fld) (i j v : Nat) (a b : Nat) : (s.addFld f i j v).opsOf a b = s.opsOf a b := rfl
@[simp] theorem State.me_addFld (s : State) (f : Fld) (i j v : Nat) (a : Iss) : (s.addFld f i j v).me a = s.me a := rfl
@[simp] theorem State.freeVal_addFld (s : State) (f : Fld) (i j v : Nat) : (s.addFld f i j v).freeVal = s.freeVal := rfl
@[simp] theorem State.units_addFld (s : State) (f : Fld) (i j v : Nat) : (s.addFld f i j v).units = s.units := rfl
@[simp] theorem State.fld_setShd (s : State) (f : Fld) (i j v : Nat) (g : Fld) (a b : Nat) : (s.setShd f i j v).fld g a b = s.fld g a b := rfl
@[simp] theorem State.fldB_setShd (s : State) (f : Fld) (i j v : Nat) (g : Fld) (a b : Nat) : (s.setShd f i j v).fldB g a b = s.fldB g a b := rfl
@[simp] theorem State.strand_setShd (s : State) (f : Fld) (i j v : Nat) (a b : Nat) : (s.setShd f i j v).strand a b = s.strand a b := rfl
@[simp] theorem State.eng_setShd (s : State) (f : Fld) (i j v : Nat) (a : Nat) : (s.setShd f i j v).eng a = s.eng a := rfl
@[simp] theorem State.chan_setShd (s : State) (f : Fld) (i j v : Nat) (a : Nat) : (s.setShd f i j v).chan a = s.chan a := rfl
@[simp] theorem State.entry_setShd (s : State) (f : Fld) (i j v : Nat) (a : Nat) : (s.setShd f i j v).entry a = s.entry a := rfl
@[simp] theorem State.sess_setShd (s : State) (f : Fld) (i j v : Nat) (a : Nat) : (s.setShd f i j v).sess a = s.sess a := rfl
@[simp] theorem State.ctx_setShd (s : State) (f : Fld) (i j v : Nat) (a : Nat) : (s.setShd f i j v).ctx a = s.ctx a := rfl
@[simp] theorem State.findOp_setShd (s : State) (f : Fld) (i j v : Nat) (a : Nat) : (s.setShd f i j v).findOp a = s.findOp a := rfl
@[simp] theorem State.opsOf_setShd (s : State) (f : Fld) (i j v : Nat) (a b : Nat) : (s.setShd f i j v).opsOf a b = s.opsOf a b := rfl
@[simp] theorem State.mode_setShd (s : State) (f : Fld) (i j v : Nat) : (s.setShd f i j v).mode = s.mode := rfl
@[simp] theorem State.domOn_setShd (s : State) (f : Fld) (i j v : Nat) (a : Nat) : (s.setShd f i j v).domOn a = s.domOn a := rfl
@[simp] theorem State.engOn_setShd (s : State) (f : Fld) (i j v : Nat) (a : Nat) : (s.setShd f i j v).engOn a = s.engOn a := rfl
@[simp] theorem State.chanOn_setShd (s : State) (f : Fld) (i j v : Nat) (a : Nat) : (s.setShd f i j v).chanOn a = s.chanOn a := rfl
@[simp] theorem State.me_setShd (s : State) (f : Fld) (i j v : Nat) (a : Iss) : (s.setShd f i j v).me a = s.me a := rfl
@[simp] theorem State.freeVal_setShd (s : State) (f : Fld) (i j v : Nat) : (s.setShd f i j v).freeVal = s.freeVal := rfl
@[simp] theorem State.units_setShd (s : State) (f : Fld) (i j v : Nat) : (s.setShd f i j v).units = s.units := rfl
@[simp] theorem State.fld_setStrand (s : State) (e t : Nat) (x : Strand) (g : Fld) (a b : Nat) : (s.setStrand e t x).fld g a b = s.fld g a b := rfl
@[simp] theorem State.shd_setStrand (s : State) (e t : Nat) (x : Strand) (g : Fld) (a b : Nat) : (s.setStrand e t x).shd g a b = s.shd g a b := rfl
@[simp] theorem State.fldB_setStrand (s : State) (e t : Nat) (x : Strand) (g : Fld) (a b : Nat) : (s.setStrand e t x).fldB g a b = s.fldB g a b := rfl
@[simp] theorem State.eng_setStrand (s : State) (e t : Nat) (x : Strand) (a : Nat) : (s.setStrand e t x).eng a = s.eng a := rfl
@[simp] theorem State.chan_setStrand (s : State) (e t : Nat) (x : Strand) (a : Nat) : (s.setStrand e t x).chan a = s.chan a := rfl
@[simp] theorem State.entry_setStrand (s : State) (e t : Nat) (x : Strand) (a : Nat) : (s.setStrand e t x).entry a = s.entry a := rfl
@[simp] theorem State.sess_setStrand (s : State) (e t : Nat) (x : Strand) (a : Nat) : (s.setStrand e t x).sess a = s.sess a := rfl
@[simp] theorem State.ctx_setStrand (s : State) (e t : Nat) (x : Strand) (a : Nat) : (s.setStrand e t x).ctx a = s.ctx a := rfl
@[simp] theorem State.findOp_setStrand (s : State) (e t : Nat) (x : Strand) (a : Nat) : (s.setStrand e t x).findOp a = s.findOp a := rfl
@[simp] theorem State.opsOf_setStrand (s : State) (e t : Nat) (x : Strand) (a b : Nat) : (s.setStrand e t x).opsOf a b = s.opsOf a b := rfl
@[simp] theorem State.mode_setStrand (s : State) (e t : Nat) (x : Strand) : (s.setStrand e t x).mode = s.mode := rfl
@[simp] theorem State.domOn_setStrand (s : State) (e t : Nat) (x : Strand) (a : Nat) : (s.setStrand e t x).domOn a = s.domOn a := rfl
@[simp] theorem State.engOn_setStrand (s : State) (e t : Nat) (x : Strand) (a : Nat) : (s.setStrand e t x).engOn a = s.engOn a := rfl
@[simp] theorem State.chanOn_setStrand (s : State) (e t : Nat) (x : Strand) (a : Nat) : (s.setStrand e t x).chanOn a = s.chanOn a := rfl
@[simp] theorem State.freeVal_setStrand (s : State) (e t : Nat) (x : Strand) : (s.setStrand e t x).freeVal = s.freeVal := rfl
@[simp] theorem State.units_setStrand (s : State) (e t : Nat) (x : Strand) : (s.setStrand e t x).units = s.units := rfl
@[simp] theorem State.fld_setEng (s : State) (e : Nat) (x : Eng) (g : Fld) (a b : Nat) : (s.setEng e x).fld g a b = s.fld g a b := rfl
@[simp] theorem State.shd_setEng (s : State) (e : Nat) (x : Eng) (g : Fld) (a b : Nat) : (s.setEng e x).shd g a b = s.shd g a b := rfl
@[simp] theorem State.fldB_setEng (s : State) (e : Nat) (x : Eng) (g : Fld) (a b : Nat) : (s.setEng e x).fldB g a b = s.fldB g a b := rfl
@[simp] theorem State.strand_setEng (s : State) (e : Nat) (x : Eng) (a b : Nat) : (s.setEng e x).strand a b = s.strand a b := rfl
@[simp] theorem State.chan_setEng (s : State) (e : Nat) (x : Eng) (a : Nat) : (s.setEng e x).chan a = s.chan a := rfl
@[simp] theorem State.entry_setEng (s : State) (e : Nat) (x : Eng) (a : Nat) : (s.setEng e x).entry a = s.entry a := rfl
@[simp] theorem State.sess_setEng (s : State) (e : Nat) (x : Eng) (a : Nat) : (s.setEng e x).sess a = s.sess a := rfl
@[simp] theorem State.ctx_setEng (s : State) (e : Nat) (x : Eng) (a : Nat) : (s.setEng e x).ctx a = s.ctx a := rfl
@[simp] theorem State.findOp_setEng (s : State) (e : Nat) (x : Eng) (a : Nat) : (s.setEng e x).findOp a = s.findOp a := rfl
@[simp] theorem State.opsOf_setEng (s : State) (e : Nat) (x : Eng) (a b : Nat) : (s.setEng e x).opsOf a b = s.opsOf a b := rfl
@[simp] theorem State.mode_setEng (s : State) (e : Nat) (x : Eng) : (s.setEng e x).mode = s.mode := rfl
@[simp] theorem State.domOn_setEng (s : State) (e : Nat) (x : Eng) (a : Nat) : (s.setEng e x).domOn a = s.domOn a := rfl
@[simp] theorem State.engOn_setEng (s : State) (e : Nat) (x : Eng) (a : Nat) : (s.setEng e x).engOn a = s.engOn a := rfl
@[simp] theorem State.chanOn_setEng (s : State) (e : Nat) (x : Eng) (a : Nat) : (s.setEng e x).chanOn a = s.chanOn a := rfl
@[simp] theorem State.me_setEng (s : State) (e : Nat) (x : Eng) (a : Iss) : (s.setEng e x).me a = s.me a := rfl
@[simp] theorem State.freeVal_setEng (s : State) (e : Nat) (x : Eng) : (s.setEng e x).freeVal = s.freeVal := rfl
@[simp] theorem State.units_setEng (s : State) (e : Nat) (x : Eng) : (s.setEng e x).units = s.units := rfl
@[simp] theorem State.fld_setChan (s : State) (c : Nat) (x : Chan) (g : Fld) (a b : Nat) : (s.setChan c x).fld g a b = s.fld g a b := rfl
@[simp] theorem State.shd_setChan (s : State) (c : Nat) (x : Chan) (g : Fld) (a b : Nat) : (s.setChan c x).shd g a b = s.shd g a b := rfl
@[simp] theorem State.fldB_setChan (s : State) (c : Nat) (x : Chan) (g : Fld) (a b : Nat) : (s.setChan c x).fldB g a b = s.fldB g a b := rfl
@[simp] theorem State.strand_setChan (s : State) (c : Nat) (x : Chan) (a b : Nat) : (s.setChan c x).strand a b = s.strand a b := rfl
@[simp] theorem State.eng_setChan (s : State) (c : Nat) (x : Chan) (a : Nat) : (s.setChan c x).eng a = s.eng a := rfl
@[simp] theorem State.entry_setChan (s : State) (c : Nat) (x : Chan) (a : Nat) : (s.setChan c x).entry a = s.entry a := rfl
@[simp] theorem State.sess_setChan (s : State) (c : Nat) (x : Chan) (a : Nat) : (s.setChan c x).sess a = s.sess a := rfl
@[simp] theorem State.ctx_setChan (s : State) (c : Nat) (x : Chan) (a : Nat) : (s.setChan c x).ctx a = s.ctx a := rfl
@[simp] theorem State.findOp_setChan (s : State) (c : Nat) (x : Chan) (a : Nat) : (s.setChan c x).findOp a = s.findOp a := rfl
@[simp] theorem State.opsOf_setChan (s : State) (c : Nat) (x : Chan) (a b : Nat) : (s.setChan c x).opsOf a b = s.opsOf a b := rfl
@[simp] theorem State.mode_setChan (s : State) (c : Nat) (x : Chan) : (s.setChan c x).mode = s.mode := rfl
@[simp] theorem State.domOn_setChan (s : State) (c : Nat) (x : Chan) (a : Nat) : (s.setChan c x).domOn a = s.domOn a := rfl
@[simp] theorem State.engOn_setChan (s : State) (c : Nat) (x : Chan) (a : Nat) : (s.setChan c x).engOn a = s.engOn a := rfl
@[simp] theorem State.chanOn_setChan (s : State) (c : Nat) (x : Chan) (a : Nat) : (s.setChan c x).chanOn a = s.chanOn a := rfl
@[simp] theorem State.me_setChan (s : State) (c : Nat) (x : Chan) (a : Iss) : (s.setChan c x).me a = s.me a := rfl
@[simp] theorem State.freeVal_setChan (s : State) (c : Nat) (x : Chan) : (s.setChan c x).freeVal = s.freeVal := rfl
@[simp] theorem State.units_setChan (s : State) (c : Nat) (x : Chan) : (s.setChan c x).units = s.units := rfl
@[simp] theorem State.fld_setEntry (s : State) (i : Nat) (v : Word64) (g : Fld) (a b : Nat) : (s.setEntry i v).fld g a b = s.fld g a b := rfl
@[simp] theorem State.shd_setEntry (s : State) (i : Nat) (v : Word64) (g : Fld) (a b : Nat) : (s.setEntry i v).shd g a b = s.shd g a b := rfl
@[simp] theorem State.fldB_setEntry (s : State) (i : Nat) (v : Word64) (g : Fld) (a b : Nat) : (s.setEntry i v).fldB g a b = s.fldB g a b := rfl
@[simp] theorem State.strand_setEntry (s : State) (i : Nat) (v : Word64) (a b : Nat) : (s.setEntry i v).strand a b = s.strand a b := rfl
@[simp] theorem State.eng_setEntry (s : State) (i : Nat) (v : Word64) (a : Nat) : (s.setEntry i v).eng a = s.eng a := rfl
@[simp] theorem State.chan_setEntry (s : State) (i : Nat) (v : Word64) (a : Nat) : (s.setEntry i v).chan a = s.chan a := rfl
@[simp] theorem State.sess_setEntry (s : State) (i : Nat) (v : Word64) (a : Nat) : (s.setEntry i v).sess a = s.sess a := rfl
@[simp] theorem State.ctx_setEntry (s : State) (i : Nat) (v : Word64) (a : Nat) : (s.setEntry i v).ctx a = s.ctx a := rfl
@[simp] theorem State.findOp_setEntry (s : State) (i : Nat) (v : Word64) (a : Nat) : (s.setEntry i v).findOp a = s.findOp a := rfl
@[simp] theorem State.opsOf_setEntry (s : State) (i : Nat) (v : Word64) (a b : Nat) : (s.setEntry i v).opsOf a b = s.opsOf a b := rfl
@[simp] theorem State.mode_setEntry (s : State) (i : Nat) (v : Word64) : (s.setEntry i v).mode = s.mode := rfl
@[simp] theorem State.domOn_setEntry (s : State) (i : Nat) (v : Word64) (a : Nat) : (s.setEntry i v).domOn a = s.domOn a := rfl
@[simp] theorem State.engOn_setEntry (s : State) (i : Nat) (v : Word64) (a : Nat) : (s.setEntry i v).engOn a = s.engOn a := rfl
@[simp] theorem State.chanOn_setEntry (s : State) (i : Nat) (v : Word64) (a : Nat) : (s.setEntry i v).chanOn a = s.chanOn a := rfl
@[simp] theorem State.me_setEntry (s : State) (i : Nat) (v : Word64) (a : Iss) : (s.setEntry i v).me a = s.me a := rfl
@[simp] theorem State.freeVal_setEntry (s : State) (i : Nat) (v : Word64) : (s.setEntry i v).freeVal = s.freeVal := rfl
@[simp] theorem State.units_setEntry (s : State) (i : Nat) (v : Word64) : (s.setEntry i v).units = s.units := rfl
@[simp] theorem State.fld_setSess (s : State) (i : Nat) (x : Ses) (g : Fld) (a b : Nat) : (s.setSess i x).fld g a b = s.fld g a b := rfl
@[simp] theorem State.shd_setSess (s : State) (i : Nat) (x : Ses) (g : Fld) (a b : Nat) : (s.setSess i x).shd g a b = s.shd g a b := rfl
@[simp] theorem State.fldB_setSess (s : State) (i : Nat) (x : Ses) (g : Fld) (a b : Nat) : (s.setSess i x).fldB g a b = s.fldB g a b := rfl
@[simp] theorem State.strand_setSess (s : State) (i : Nat) (x : Ses) (a b : Nat) : (s.setSess i x).strand a b = s.strand a b := rfl
@[simp] theorem State.eng_setSess (s : State) (i : Nat) (x : Ses) (a : Nat) : (s.setSess i x).eng a = s.eng a := rfl
@[simp] theorem State.chan_setSess (s : State) (i : Nat) (x : Ses) (a : Nat) : (s.setSess i x).chan a = s.chan a := rfl
@[simp] theorem State.entry_setSess (s : State) (i : Nat) (x : Ses) (a : Nat) : (s.setSess i x).entry a = s.entry a := rfl
@[simp] theorem State.findOp_setSess (s : State) (i : Nat) (x : Ses) (a : Nat) : (s.setSess i x).findOp a = s.findOp a := rfl
@[simp] theorem State.opsOf_setSess (s : State) (i : Nat) (x : Ses) (a b : Nat) : (s.setSess i x).opsOf a b = s.opsOf a b := rfl
@[simp] theorem State.mode_setSess (s : State) (i : Nat) (x : Ses) : (s.setSess i x).mode = s.mode := rfl
@[simp] theorem State.domOn_setSess (s : State) (i : Nat) (x : Ses) (a : Nat) : (s.setSess i x).domOn a = s.domOn a := rfl
@[simp] theorem State.engOn_setSess (s : State) (i : Nat) (x : Ses) (a : Nat) : (s.setSess i x).engOn a = s.engOn a := rfl
@[simp] theorem State.chanOn_setSess (s : State) (i : Nat) (x : Ses) (a : Nat) : (s.setSess i x).chanOn a = s.chanOn a := rfl
@[simp] theorem State.me_setSess (s : State) (i : Nat) (x : Ses) (a : Iss) : (s.setSess i x).me a = s.me a := rfl
@[simp] theorem State.freeVal_setSess (s : State) (i : Nat) (x : Ses) : (s.setSess i x).freeVal = s.freeVal := rfl
@[simp] theorem State.units_setSess (s : State) (i : Nat) (x : Ses) : (s.setSess i x).units = s.units := rfl
@[simp] theorem State.fld_setCtx (s : State) (i : Nat) (c : Ctx) (g : Fld) (a b : Nat) : (s.setCtx i c).fld g a b = s.fld g a b := rfl
@[simp] theorem State.shd_setCtx (s : State) (i : Nat) (c : Ctx) (g : Fld) (a b : Nat) : (s.setCtx i c).shd g a b = s.shd g a b := rfl
@[simp] theorem State.fldB_setCtx (s : State) (i : Nat) (c : Ctx) (g : Fld) (a b : Nat) : (s.setCtx i c).fldB g a b = s.fldB g a b := rfl
@[simp] theorem State.strand_setCtx (s : State) (i : Nat) (c : Ctx) (a b : Nat) : (s.setCtx i c).strand a b = s.strand a b := rfl
@[simp] theorem State.eng_setCtx (s : State) (i : Nat) (c : Ctx) (a : Nat) : (s.setCtx i c).eng a = s.eng a := rfl
@[simp] theorem State.chan_setCtx (s : State) (i : Nat) (c : Ctx) (a : Nat) : (s.setCtx i c).chan a = s.chan a := rfl
@[simp] theorem State.entry_setCtx (s : State) (i : Nat) (c : Ctx) (a : Nat) : (s.setCtx i c).entry a = s.entry a := rfl
@[simp] theorem State.findOp_setCtx (s : State) (i : Nat) (c : Ctx) (a : Nat) : (s.setCtx i c).findOp a = s.findOp a := rfl
@[simp] theorem State.opsOf_setCtx (s : State) (i : Nat) (c : Ctx) (a b : Nat) : (s.setCtx i c).opsOf a b = s.opsOf a b := rfl
@[simp] theorem State.mode_setCtx (s : State) (i : Nat) (c : Ctx) : (s.setCtx i c).mode = s.mode := rfl
@[simp] theorem State.domOn_setCtx (s : State) (i : Nat) (c : Ctx) (a : Nat) : (s.setCtx i c).domOn a = s.domOn a := rfl
@[simp] theorem State.engOn_setCtx (s : State) (i : Nat) (c : Ctx) (a : Nat) : (s.setCtx i c).engOn a = s.engOn a := rfl
@[simp] theorem State.chanOn_setCtx (s : State) (i : Nat) (c : Ctx) (a : Nat) : (s.setCtx i c).chanOn a = s.chanOn a := rfl
@[simp] theorem State.me_setCtx (s : State) (i : Nat) (c : Ctx) (a : Iss) : (s.setCtx i c).me a = s.me a := rfl
@[simp] theorem State.freeVal_setCtx (s : State) (i : Nat) (c : Ctx) : (s.setCtx i c).freeVal = s.freeVal := rfl
@[simp] theorem State.units_setCtx (s : State) (i : Nat) (c : Ctx) : (s.setCtx i c).units = s.units := rfl
@[simp] theorem State.fld_useFree (s : State) (g : Fld) (a b : Nat) : (s.useFree).fld g a b = s.fld g a b := rfl
@[simp] theorem State.shd_useFree (s : State) (g : Fld) (a b : Nat) : (s.useFree).shd g a b = s.shd g a b := rfl
@[simp] theorem State.fldB_useFree (s : State) (g : Fld) (a b : Nat) : (s.useFree).fldB g a b = s.fldB g a b := rfl
@[simp] theorem State.strand_useFree (s : State) (a b : Nat) : (s.useFree).strand a b = s.strand a b := rfl
@[simp] theorem State.eng_useFree (s : State) (a : Nat) : (s.useFree).eng a = s.eng a := rfl
@[simp] theorem State.chan_useFree (s : State) (a : Nat) : (s.useFree).chan a = s.chan a := rfl
@[simp] theorem State.entry_useFree (s : State) (a : Nat) : (s.useFree).entry a = s.entry a := rfl
@[simp] theorem State.sess_useFree (s : State) (a : Nat) : (s.useFree).sess a = s.sess a := rfl
@[simp] theorem State.ctx_useFree (s : State) (a : Nat) : (s.useFree).ctx a = s.ctx a := rfl
@[simp] theorem State.findOp_useFree (s : State) (a : Nat) : (s.useFree).findOp a = s.findOp a := rfl
@[simp] theorem State.opsOf_useFree (s : State) (a b : Nat) : (s.useFree).opsOf a b = s.opsOf a b := rfl
@[simp] theorem State.mode_useFree (s : State) : (s.useFree).mode = s.mode := rfl
@[simp] theorem State.domOn_useFree (s : State) (a : Nat) : (s.useFree).domOn a = s.domOn a := rfl
@[simp] theorem State.engOn_useFree (s : State) (a : Nat) : (s.useFree).engOn a = s.engOn a := rfl
@[simp] theorem State.chanOn_useFree (s : State) (a : Nat) : (s.useFree).chanOn a = s.chanOn a := rfl
@[simp] theorem State.me_useFree (s : State) (a : Iss) : (s.useFree).me a = s.me a := rfl
@[simp] theorem State.units_useFree (s : State) : (s.useFree).units = s.units := rfl
@[simp] theorem State.fld_newOp (s : State) (o : Op) (g : Fld) (a b : Nat) : (s.newOp o).fld g a b = s.fld g a b := rfl
@[simp] theorem State.shd_newOp (s : State) (o : Op) (g : Fld) (a b : Nat) : (s.newOp o).shd g a b = s.shd g a b := rfl
@[simp] theorem State.fldB_newOp (s : State) (o : Op) (g : Fld) (a b : Nat) : (s.newOp o).fldB g a b = s.fldB g a b := rfl
@[simp] theorem State.strand_newOp (s : State) (o : Op) (a b : Nat) : (s.newOp o).strand a b = s.strand a b := rfl
@[simp] theorem State.eng_newOp (s : State) (o : Op) (a : Nat) : (s.newOp o).eng a = s.eng a := rfl
@[simp] theorem State.chan_newOp (s : State) (o : Op) (a : Nat) : (s.newOp o).chan a = s.chan a := rfl
@[simp] theorem State.entry_newOp (s : State) (o : Op) (a : Nat) : (s.newOp o).entry a = s.entry a := rfl
@[simp] theorem State.sess_newOp (s : State) (o : Op) (a : Nat) : (s.newOp o).sess a = s.sess a := rfl
@[simp] theorem State.ctx_newOp (s : State) (o : Op) (a : Nat) : (s.newOp o).ctx a = s.ctx a := rfl
@[simp] theorem State.mode_newOp (s : State) (o : Op) : (s.newOp o).mode = s.mode := rfl
@[simp] theorem State.domOn_newOp (s : State) (o : Op) (a : Nat) : (s.newOp o).domOn a = s.domOn a := rfl
@[simp] theorem State.engOn_newOp (s : State) (o : Op) (a : Nat) : (s.newOp o).engOn a = s.engOn a := rfl
@[simp] theorem State.chanOn_newOp (s : State) (o : Op) (a : Nat) : (s.newOp o).chanOn a = s.chanOn a := rfl
@[simp] theorem State.me_newOp (s : State) (o : Op) (a : Iss) : (s.newOp o).me a = s.me a := rfl
@[simp] theorem State.freeVal_newOp (s : State) (o : Op) : (s.newOp o).freeVal = s.freeVal := rfl
@[simp] theorem State.units_newOp (s : State) (o : Op) : (s.newOp o).units = s.units := rfl
@[simp] theorem State.fld_setOp (s : State) (o : Op) (g : Fld) (a b : Nat) : (s.setOp o).fld g a b = s.fld g a b := rfl
@[simp] theorem State.shd_setOp (s : State) (o : Op) (g : Fld) (a b : Nat) : (s.setOp o).shd g a b = s.shd g a b := rfl
@[simp] theorem State.fldB_setOp (s : State) (o : Op) (g : Fld) (a b : Nat) : (s.setOp o).fldB g a b = s.fldB g a b := rfl
@[simp] theorem State.strand_setOp (s : State) (o : Op) (a b : Nat) : (s.setOp o).strand a b = s.strand a b := rfl
@[simp] theorem State.eng_setOp (s : State) (o : Op) (a : Nat) : (s.setOp o).eng a = s.eng a := rfl
@[simp] theorem State.chan_setOp (s : State) (o : Op) (a : Nat) : (s.setOp o).chan a = s.chan a := rfl
@[simp] theorem State.entry_setOp (s : State) (o : Op) (a : Nat) : (s.setOp o).entry a = s.entry a := rfl
@[simp] theorem State.sess_setOp (s : State) (o : Op) (a : Nat) : (s.setOp o).sess a = s.sess a := rfl
@[simp] theorem State.ctx_setOp (s : State) (o : Op) (a : Nat) : (s.setOp o).ctx a = s.ctx a := rfl
@[simp] theorem State.mode_setOp (s : State) (o : Op) : (s.setOp o).mode = s.mode := rfl
@[simp] theorem State.domOn_setOp (s : State) (o : Op) (a : Nat) : (s.setOp o).domOn a = s.domOn a := rfl
@[simp] theorem State.engOn_setOp (s : State) (o : Op) (a : Nat) : (s.setOp o).engOn a = s.engOn a := rfl
@[simp] theorem State.chanOn_setOp (s : State) (o : Op) (a : Nat) : (s.setOp o).chanOn a = s.chanOn a := rfl
@[simp] theorem State.me_setOp (s : State) (o : Op) (a : Iss) : (s.setOp o).me a = s.me a := rfl
@[simp] theorem State.freeVal_setOp (s : State) (o : Op) : (s.setOp o).freeVal = s.freeVal := rfl
@[simp] theorem State.units_setOp (s : State) (o : Op) : (s.setOp o).units = s.units := rfl
@[simp] theorem State.fld_dropOp (s : State) (id : Nat) (g : Fld) (a b : Nat) : (s.dropOp id).fld g a b = s.fld g a b := rfl
@[simp] theorem State.shd_dropOp (s : State) (id : Nat) (g : Fld) (a b : Nat) : (s.dropOp id).shd g a b = s.shd g a b := rfl
@[simp] theorem State.fldB_dropOp (s : State) (id : Nat) (g : Fld) (a b : Nat) : (s.dropOp id).fldB g a b = s.fldB g a b := rfl
@[simp] theorem State.strand_dropOp (s : State) (id : Nat) (a b : Nat) : (s.dropOp id).strand a b = s.strand a b := rfl
@[simp] theorem State.eng_dropOp (s : State) (id : Nat) (a : Nat) : (s.dropOp id).eng a = s.eng a := rfl
@[simp] theorem State.chan_dropOp (s : State) (id : Nat) (a : Nat) : (s.dropOp id).chan a = s.chan a := rfl
@[simp] theorem State.entry_dropOp (s : State) (id : Nat) (a : Nat) : (s.dropOp id).entry a = s.entry a := rfl
@[simp] theorem State.sess_dropOp (s : State) (id : Nat) (a : Nat) : (s.dropOp id).sess a = s.sess a := rfl
@[simp] theorem State.ctx_dropOp (s : State) (id : Nat) (a : Nat) : (s.dropOp id).ctx a = s.ctx a := rfl
@[simp] theorem State.mode_dropOp (s : State) (id : Nat) : (s.dropOp id).mode = s.mode := rfl
@[simp] theorem State.domOn_dropOp (s : State) (id : Nat) (a : Nat) : (s.dropOp id).domOn a = s.domOn a := rfl
@[simp] theorem State.engOn_dropOp (s : State) (id : Nat) (a : Nat) : (s.dropOp id).engOn a = s.engOn a := rfl
@[simp] theorem State.chanOn_dropOp (s : State) (id : Nat) (a : Nat) : (s.dropOp id).chanOn a = s.chanOn a := rfl
@[simp] theorem State.me_dropOp (s : State) (id : Nat) (a : Iss) : (s.dropOp id).me a = s.me a := rfl
@[simp] theorem State.freeVal_dropOp (s : State) (id : Nat) : (s.dropOp id).freeVal = s.freeVal := rfl
@[simp] theorem State.units_dropOp (s : State) (id : Nat) : (s.dropOp id).units = s.units := rfl
@[simp] theorem State.fld_endToken (s : State) (e : Nat) (g : Fld) (a b : Nat) : (s.endToken e).fld g a b = s.fld g a b := rfl
@[simp] theorem State.shd_endToken (s : State) (e : Nat) (g : Fld) (a b : Nat) : (s.endToken e).shd g a b = s.shd g a b := rfl
@[simp] theorem State.fldB_endToken (s : State) (e : Nat) (g : Fld) (a b : Nat) : (s.endToken e).fldB g a b = s.fldB g a b := rfl
@[simp] theorem State.strand_endToken (s : State) (e : Nat) (a b : Nat) : (s.endToken e).strand a b = s.strand a b := rfl
@[simp] theorem State.chan_endToken (s : State) (e : Nat) (a : Nat) : (s.endToken e).chan a = s.chan a := rfl
@[simp] theorem State.entry_endToken (s : State) (e : Nat) (a : Nat) : (s.endToken e).entry a = s.entry a := rfl
@[simp] theorem State.sess_endToken (s : State) (e : Nat) (a : Nat) : (s.endToken e).sess a = s.sess a := rfl
@[simp] theorem State.ctx_endToken (s : State) (e : Nat) (a : Nat) : (s.endToken e).ctx a = s.ctx a := rfl
@[simp] theorem State.findOp_endToken (s : State) (e : Nat) (a : Nat) : (s.endToken e).findOp a = s.findOp a := rfl
@[simp] theorem State.opsOf_endToken (s : State) (e : Nat) (a b : Nat) : (s.endToken e).opsOf a b = s.opsOf a b := rfl
@[simp] theorem State.mode_endToken (s : State) (e : Nat) : (s.endToken e).mode = s.mode := rfl
@[simp] theorem State.domOn_endToken (s : State) (e : Nat) (a : Nat) : (s.endToken e).domOn a = s.domOn a := rfl
@[simp] theorem State.engOn_endToken (s : State) (e : Nat) (a : Nat) : (s.endToken e).engOn a = s.engOn a := rfl
@[simp] theorem State.chanOn_endToken (s : State) (e : Nat) (a : Nat) : (s.endToken e).chanOn a = s.chanOn a := rfl
@[simp] theorem State.me_endToken (s : State) (e : Nat) (a : Iss) : (s.endToken e).me a = s.me a := rfl
@[simp] theorem State.freeVal_endToken (s : State) (e : Nat) : (s.endToken e).freeVal = s.freeVal := rfl
@[simp] theorem State.units_endToken (s : State) (e : Nat) : (s.endToken e).units = s.units := rfl
@[simp] theorem State.fld_raise (s : State) (v : FaultEv) (g : Fld) (a b : Nat) : (s.raise v).fld g a b = s.fld g a b := by unfold State.raise; split <;> rfl
@[simp] theorem State.shd_raise (s : State) (v : FaultEv) (g : Fld) (a b : Nat) : (s.raise v).shd g a b = s.shd g a b := by unfold State.raise; split <;> rfl
@[simp] theorem State.fldB_raise (s : State) (v : FaultEv) (g : Fld) (a b : Nat) : (s.raise v).fldB g a b = s.fldB g a b := by unfold State.raise; split <;> rfl
@[simp] theorem State.strand_raise (s : State) (v : FaultEv) (a b : Nat) : (s.raise v).strand a b = s.strand a b := by unfold State.raise; split <;> rfl
@[simp] theorem State.eng_raise (s : State) (v : FaultEv) (a : Nat) : (s.raise v).eng a = s.eng a := by unfold State.raise; split <;> rfl
@[simp] theorem State.chan_raise (s : State) (v : FaultEv) (a : Nat) : (s.raise v).chan a = s.chan a := by unfold State.raise; split <;> rfl
@[simp] theorem State.entry_raise (s : State) (v : FaultEv) (a : Nat) : (s.raise v).entry a = s.entry a := by unfold State.raise; split <;> rfl
@[simp] theorem State.sess_raise (s : State) (v : FaultEv) (a : Nat) : (s.raise v).sess a = s.sess a := by unfold State.raise; split <;> rfl
@[simp] theorem State.ctx_raise (s : State) (v : FaultEv) (a : Nat) : (s.raise v).ctx a = s.ctx a := by unfold State.raise; split <;> rfl
@[simp] theorem State.findOp_raise (s : State) (v : FaultEv) (a : Nat) : (s.raise v).findOp a = s.findOp a := by unfold State.raise; split <;> rfl
@[simp] theorem State.opsOf_raise (s : State) (v : FaultEv) (a b : Nat) : (s.raise v).opsOf a b = s.opsOf a b := by unfold State.raise; split <;> rfl
@[simp] theorem State.mode_raise (s : State) (v : FaultEv) : (s.raise v).mode = s.mode := by unfold State.raise; split <;> rfl
@[simp] theorem State.domOn_raise (s : State) (v : FaultEv) (a : Nat) : (s.raise v).domOn a = s.domOn a := by unfold State.raise; split <;> rfl
@[simp] theorem State.engOn_raise (s : State) (v : FaultEv) (a : Nat) : (s.raise v).engOn a = s.engOn a := by unfold State.raise; split <;> rfl
@[simp] theorem State.chanOn_raise (s : State) (v : FaultEv) (a : Nat) : (s.raise v).chanOn a = s.chanOn a := by unfold State.raise; split <;> rfl
@[simp] theorem State.me_raise (s : State) (v : FaultEv) (a : Iss) : (s.raise v).me a = s.me a := by unfold State.raise; split <;> rfl
@[simp] theorem State.freeVal_raise (s : State) (v : FaultEv) : (s.raise v).freeVal = s.freeVal := by unfold State.raise; split <;> rfl
@[simp] theorem State.units_raise (s : State) (v : FaultEv) : (s.raise v).units = s.units := by unfold State.raise; split <;> rfl
@[simp] theorem State.fld_occ (s : State) (o : Occ) (g : Fld) (a b : Nat) : (s.occ o).fld g a b = s.fld g a b := by unfold State.occ; split <;> rfl
@[simp] theorem State.shd_occ (s : State) (o : Occ) (g : Fld) (a b : Nat) : (s.occ o).shd g a b = s.shd g a b := by unfold State.occ; split <;> rfl
@[simp] theorem State.fldB_occ (s : State) (o : Occ) (g : Fld) (a b : Nat) : (s.occ o).fldB g a b = s.fldB g a b := by unfold State.occ; split <;> rfl
@[simp] theorem State.strand_occ (s : State) (o : Occ) (a b : Nat) : (s.occ o).strand a b = s.strand a b := by unfold State.occ; split <;> rfl
@[simp] theorem State.eng_occ (s : State) (o : Occ) (a : Nat) : (s.occ o).eng a = s.eng a := by unfold State.occ; split <;> rfl
@[simp] theorem State.chan_occ (s : State) (o : Occ) (a : Nat) : (s.occ o).chan a = s.chan a := by unfold State.occ; split <;> rfl
@[simp] theorem State.entry_occ (s : State) (o : Occ) (a : Nat) : (s.occ o).entry a = s.entry a := by unfold State.occ; split <;> rfl
@[simp] theorem State.sess_occ (s : State) (o : Occ) (a : Nat) : (s.occ o).sess a = s.sess a := by unfold State.occ; split <;> rfl
@[simp] theorem State.ctx_occ (s : State) (o : Occ) (a : Nat) : (s.occ o).ctx a = s.ctx a := by unfold State.occ; split <;> rfl
@[simp] theorem State.findOp_occ (s : State) (o : Occ) (a : Nat) : (s.occ o).findOp a = s.findOp a := by unfold State.occ; split <;> rfl
@[simp] theorem State.opsOf_occ (s : State) (o : Occ) (a b : Nat) : (s.occ o).opsOf a b = s.opsOf a b := by unfold State.occ; split <;> rfl
@[simp] theorem State.mode_occ (s : State) (o : Occ) : (s.occ o).mode = s.mode := by unfold State.occ; split <;> rfl
@[simp] theorem State.domOn_occ (s : State) (o : Occ) (a : Nat) : (s.occ o).domOn a = s.domOn a := by unfold State.occ; split <;> rfl
@[simp] theorem State.engOn_occ (s : State) (o : Occ) (a : Nat) : (s.occ o).engOn a = s.engOn a := by unfold State.occ; split <;> rfl
@[simp] theorem State.chanOn_occ (s : State) (o : Occ) (a : Nat) : (s.occ o).chanOn a = s.chanOn a := by unfold State.occ; split <;> rfl
@[simp] theorem State.me_occ (s : State) (o : Occ) (a : Iss) : (s.occ o).me a = s.me a := by unfold State.occ; split <;> rfl
@[simp] theorem State.freeVal_occ (s : State) (o : Occ) : (s.occ o).freeVal = s.freeVal := by unfold State.occ; split <;> rfl
@[simp] theorem State.units_occ (s : State) (o : Occ) : (s.occ o).units = s.units := by unfold State.occ; split <;> rfl

end Sys2Proof.Machine
end

