-- ==== Sys2Proof/Laws/Fields.lean ====
section
/-!
SUPPORT. Reads after writes: register fields, strands, engines, channels, directory entries, sessions, operations, and a
strand's registers.
-/

namespace Sys2Proof.Machine

/-! ## Register fields -/

@[simp] theorem State.fld_setFld_same (s : State) (f : Fld) (i j v : Nat) :
    (s.setFld f i j v).fld f i j = v % 2 ^ f.w := by
  simp [State.fld, State.setFld]

theorem State.fld_setFld_ne (s : State) (f g : Fld) (i j v a b : Nat) (h : fldKey g a b ≠ fldKey f i j) :
    (s.setFld f i j v).fld g a b = s.fld g a b := by
  simp only [State.fld, State.setFld]
  exact smapGet_put_ne _ _ _ _ h

@[simp] theorem State.shd_setShd_same (s : State) (f : Fld) (i j v : Nat) :
    (s.setShd f i j v).shd f i j = v % 2 ^ f.w := by
  simp [State.shd, State.setShd, smapFind_insert_same]

/-- A commit makes the pending value of a field its active one (R8). -/
theorem State.fld_commitFld (s : State) (f : Fld) (i j : Nat) (v : Nat)
    (h : smapFind s.shadow (fldKey f i j) = some v) : (s.commitFld f i j).fld f i j = v % 2 ^ f.w := by
  simp only [State.commitFld, h]
  simp [State.fld, State.setFld]

theorem State.fldB_eq (s : State) (f : Fld) (i j : Nat) : s.fldB f i j = (s.fld f i j != 0) := rfl

/-! ## Strands, engines, channels -/

@[simp] theorem State.strand_setStrand_same (s : State) (e t : Nat) (x : Strand) :
    (s.setStrand e t x).strand e t = x := by
  simp [State.strand, State.setStrand]

theorem State.strand_setStrand_ne (s : State) (e t a b : Nat) (x : Strand) (h : skey a b ≠ skey e t) :
    (s.setStrand e t x).strand a b = s.strand a b := by
  simp only [State.strand, State.setStrand]
  exact smapGet_put_ne _ _ _ _ h

/-- Two strands have different keys. -/
theorem skey_ne {e t a b : Nat} (ht : t < 16) (hb : b < 16) (h : (a, b) ≠ (e, t)) : skey a b ≠ skey e t := by
  intro hk
  apply h
  unfold skey at hk
  have : a = e := by omega
  have : b = t := by omega
  simp [*]

@[simp] theorem State.eng_setEng_same (s : State) (e : Nat) (x : Eng) : (s.setEng e x).eng e = x := by
  simp [State.eng, State.setEng]

theorem State.eng_setEng_ne (s : State) (e a : Nat) (x : Eng) (h : a ≠ e) : (s.setEng e x).eng a = s.eng a := by
  simp only [State.eng, State.setEng]
  exact smapGet_put_ne _ _ _ _ h

@[simp] theorem State.chan_setChan_same (s : State) (c : Nat) (x : Chan) : (s.setChan c x).chan c = x := by
  simp [State.chan, State.setChan]

theorem State.chan_setChan_ne (s : State) (c a : Nat) (x : Chan) (h : a ≠ c) : (s.setChan c x).chan a = s.chan a := by
  simp only [State.chan, State.setChan]
  exact smapGet_put_ne _ _ _ _ h

/-! ## Directory, sessions -/

@[simp] theorem State.entry_setEntry_same (s : State) (i : Nat) (v : Word64) : (s.setEntry i v).entry i = v := by
  simp [State.entry, State.setEntry]

theorem State.entry_setEntry_ne (s : State) (i a : Nat) (v : Word64) (h : a ≠ i) :
    (s.setEntry i v).entry a = s.entry a := by
  simp only [State.entry, State.setEntry]
  exact smapGet_put_ne _ _ _ _ h

@[simp] theorem State.sess_setSess_same (s : State) (i : Nat) (x : Ses) : (s.setSess i x).sess i = x := by
  simp [State.sess, State.setSess]

theorem State.sess_setSess_ne (s : State) (i a : Nat) (x : Ses) (h : a ≠ i) : (s.setSess i x).sess a = s.sess a := by
  simp only [State.sess, State.setSess]
  exact smapGet_put_ne _ _ _ _ h

@[simp] theorem State.ctx_setCtx_same (s : State) (i : Nat) (c : Ctx) : (s.setCtx i c).ctx i = c := by
  simp [State.ctx, State.setCtx]

/-! ## A strand's registers (R61) -/

@[simp] theorem Strand.rg_zero (x : Strand) : x.rg 0 = 0 := rfl
@[simp] theorem Strand.wg_zero (x : Strand) (v : Word64) : x.wg 0 v = x := rfl

theorem Strand.rg_wg_same (x : Strand) (n : Nat) (v : Word64) (h : n ≠ 0) : (x.wg n v).rg n = v := by
  simp [Strand.rg, Strand.wg, h]

theorem Strand.rg_wg_ne (x : Strand) (n m : Nat) (v : Word64) (h : m ≠ n) : (x.wg n v).rg m = x.rg m := by
  unfold Strand.rg Strand.wg
  by_cases hm : m = 0
  · simp [hm]
  · by_cases hn : n = 0
    · simp [hn]
    · simp only [hm, hn, if_false]
      exact smapGet_put_ne _ _ _ _ h

@[simp] theorem Strand.rv_wv_same (x : Strand) (n : Nat) (v : Vec128) : (x.wv n v).rv n = v := by
  simp [Strand.rv, Strand.wv]

theorem Strand.rv_wv_ne (x : Strand) (n m : Nat) (v : Vec128) (h : m ≠ n) : (x.wv n v).rv m = x.rv m := by
  simp only [Strand.rv, Strand.wv]
  exact smapGet_put_ne _ _ _ _ h

@[simp] theorem Strand.rdl_wdl_same (x : Strand) (n : Nat) (v : Word64) : (x.wdl n v).rdl n = v := by
  simp [Strand.rdl, Strand.wdl]

@[simp] theorem Strand.rp_zero (x : Strand) : x.rp 0 = true := rfl

/-! ## Operations -/

/-- A new operation is found under its number, if no earlier one has it. -/
theorem State.findOp_newOp (s : State) (o : Op) (h : s.findOp s.nextOp = none) :
    (s.newOp o).findOp s.nextOp = some { o with id := s.nextOp } := by
  simp only [State.findOp, State.newOp] at *
  rw [List.find?_append, h]
  simp

end Sys2Proof.Machine
end

