-- ==== Sys2Proof/Laws/Issue.lean ====
section
/-!
SUPPORT. What issue can do: the effect of an instruction that issues, its traps, and what the accounts of issue leave
alone.
-/

namespace Sys2Proof.Machine

/-! ## The accounts -/

/-- An occurrence changes only the performance monitor. -/
theorem occ_shape (s : State) (o : Occ) : ∃ p, s.occ o = { s with pm := p } := by
  unfold State.occ; split
  · exact ⟨_, rfl⟩
  · exact ⟨s.pm, rfl⟩

/-- A saturating count changes only register fields. -/
theorem addFld_shape (s : State) (f : Fld) (i j n : Nat) : ∃ r, s.addFld f i j n = { s with regs := r } := ⟨_, rfl⟩

theorem fetchCorrected_shape (s : State) (e : Nat) : ∃ r, s.fetchCorrected e = { s with regs := r } := by
  unfold State.fetchCorrected
  split
  · exact addFld_shape s _ _ _ _
  · exact addFld_shape s _ _ _ _

/-- `t` is `s` but for register fields, engine records and the performance monitor. -/
def Accounts (s t : State) : Prop := ∃ r g p, t = { s with regs := r, engs := g, pm := p }

theorem Accounts.refl (s : State) : Accounts s s := ⟨s.regs, s.engs, s.pm, rfl⟩
theorem Accounts.setFld {s t : State} (h : Accounts s t) (f : Fld) (i j n : Nat) : Accounts s (t.setFld f i j n) := by
  obtain ⟨r, g, p, rfl⟩ := h; exact ⟨_, g, p, rfl⟩
theorem Accounts.setEng {s t : State} (h : Accounts s t) (e : Nat) (x : Eng) : Accounts s (t.setEng e x) := by
  obtain ⟨r, g, p, rfl⟩ := h; exact ⟨r, _, p, rfl⟩
theorem Accounts.occ {s t : State} (h : Accounts s t) (o : Occ) : Accounts s (t.occ o) := by
  obtain ⟨r, g, p, rfl⟩ := h
  obtain ⟨q, hq⟩ := occ_shape { s with regs := r, engs := g, pm := p } o
  exact ⟨r, g, q, hq⟩

/-- Issue's accounts change only register fields, engine records and the performance monitor. -/
theorem takeToken_shape (s : State) (e t : Nat) (d : Info) :
    ∃ r g p, s.takeToken e t d = { s with regs := r, engs := g, pm := p } := by
  unfold State.takeToken
  simp only
  split
  · exact ((((Accounts.refl s).occ _).setFld _ _ _ _).setEng _ _).setFld _ _ _ _
  · exact (((((Accounts.refl s).occ _).setFld _ _ _ _).setEng _ _).setFld _ _ _ _).occ _

theorem issued_shape (s : State) (i : Iss) (d : Info) :
    ∃ r g p, issued s i d = { s with regs := r, engs := g, pm := p } := by
  unfold issued
  split
  · obtain ⟨r, hr⟩ := fetchCorrected_shape s i.e.val
    obtain ⟨r', g, p, h⟩ := takeToken_shape (s.fetchCorrected i.e.val) i.e.val i.t.val d
    exact ⟨r', g, p, by rw [h, hr]⟩
  · exact takeToken_shape s _ _ d

theorem issued_frame (s : State) (i : Iss) (d : Info) :
    { issued s i d with regs := s.regs, engs := s.engs, pm := s.pm } = s := by
  obtain ⟨r, g, p, h⟩ := issued_shape s i d
  rw [h]

@[simp] theorem issued_strands (s : State) (i : Iss) (d : Info) : (issued s i d).strands = s.strands := by
  obtain ⟨r, g, p, h⟩ := issued_shape s i d; rw [h]
@[simp] theorem issued_strand (s : State) (i : Iss) (d : Info) (e t : Nat) :
    (issued s i d).strand e t = s.strand e t := by simp [State.strand]
@[simp] theorem issued_me (s : State) (i j : Iss) (d : Info) : (issued s i d).me j = s.me j := by simp [State.me]
@[simp] theorem issued_tb (s : State) (i : Iss) (d : Info) : (issued s i d).tb = s.tb := by
  obtain ⟨r, g, p, h⟩ := issued_shape s i d; rw [h]
@[simp] theorem issued_ops (s : State) (i : Iss) (d : Info) : (issued s i d).ops = s.ops := by
  obtain ⟨r, g, p, h⟩ := issued_shape s i d; rw [h]
@[simp] theorem issued_nextOp (s : State) (i : Iss) (d : Info) : (issued s i d).nextOp = s.nextOp := by
  obtain ⟨r, g, p, h⟩ := issued_shape s i d; rw [h]
@[simp] theorem issued_scratch (s : State) (i : Iss) (d : Info) : (issued s i d).scratch = s.scratch := by
  obtain ⟨r, g, p, h⟩ := issued_shape s i d; rw [h]
@[simp] theorem issued_svram (s : State) (i : Iss) (d : Info) : (issued s i d).svram = s.svram := by
  obtain ⟨r, g, p, h⟩ := issued_shape s i d; rw [h]
@[simp] theorem issued_ed (s : State) (i : Iss) (d : Info) : (issued s i d).ed = s.ed := by
  obtain ⟨r, g, p, h⟩ := issued_shape s i d; rw [h]
@[simp] theorem issued_part (s : State) (i : Iss) (d : Info) : (issued s i d).part = s.part := by
  obtain ⟨r, g, p, h⟩ := issued_shape s i d; rw [h]

/-- Fields other than those of the slot accounts are as before. -/
theorem takeToken_fld (s : State) (e t : Nat) (d : Info) (f : Fld) (a b : Nat)
    (h0 : fldKey f a b ≠ fldKey F.PM_TD_slots e 0) (h1 : fldKey f a b ≠ fldKey F.PM_TD_slots e 1) :
    (s.takeToken e t d).fld f a b = s.fld f a b := by
  unfold State.takeToken
  simp only
  split
  · rw [State.fld_setFld_ne _ _ _ _ _ _ _ _ h1, State.fld_setEng, State.addFld, State.fld_setFld_ne _ _ _ _ _ _ _ _ h0,
      State.fld_occ]
  · rw [State.fld_occ, State.addFld, State.fld_setFld_ne _ _ _ _ _ _ _ _ h1, State.fld_setEng, State.addFld,
      State.fld_setFld_ne _ _ _ _ _ _ _ _ h0, State.fld_occ]

theorem takeToken_eng_ne (s : State) (e t : Nat) (d : Info) (a : Nat) (h : a ≠ e) :
    (s.takeToken e t d).eng a = s.eng a := by
  unfold State.takeToken
  simp only
  split
  · rw [State.eng_setFld, State.eng_setEng_ne _ _ _ _ h, State.eng_addFld, State.eng_occ]
  · rw [State.eng_occ, State.eng_addFld, State.eng_setEng_ne _ _ _ _ h, State.eng_addFld, State.eng_occ]

theorem fetchCorrected_fld (s : State) (e : Nat) (f : Fld) (a b : Nat)
    (h2 : fldKey f a b ≠ fldKey F.CE_IMEM_ECC_corrected e 0) (h3 : fldKey f a b ≠ fldKey F.SV_SRAM_ECC_corrected 0 0) :
    (s.fetchCorrected e).fld f a b = s.fld f a b := by
  unfold State.fetchCorrected State.addFld
  split
  · exact State.fld_setFld_ne _ _ _ _ _ _ _ _ h3
  · exact State.fld_setFld_ne _ _ _ _ _ _ _ _ h2

/-- Fields other than those of issue's accounts are as before. -/
theorem issued_fld (s : State) (i : Iss) (d : Info) (f : Fld) (a b : Nat) (h : fldKey f a b ∉ issueKeys i.e.val) :
    (issued s i d).fld f a b = s.fld f a b := by
  simp only [issueKeys, List.mem_cons, List.not_mem_nil, not_or, or_false] at h
  obtain ⟨h0, h1, h2, h3⟩ := h
  unfold issued
  rw [takeToken_fld _ _ _ _ _ _ _ h0 h1]
  split
  · exact fetchCorrected_fld s _ f a b h2 h3
  · rfl

theorem issued_eng_ne (s : State) (i : Iss) (d : Info) (e : Nat) (h : e ≠ i.e.val) :
    (issued s i d).eng e = s.eng e := by
  unfold issued
  rw [takeToken_eng_ne _ _ _ _ _ h]
  split
  · unfold State.fetchCorrected; split <;> rfl
  · rfl

/-! ## The outcomes of issue -/

theorem fetched_strand (s : State) (i : Iss) (e t : Nat) :
    (if i.ecc = .single then s.fetchCorrected i.e.val else s).strand e t = s.strand e t := by
  split
  · unfold State.fetchCorrected; split <;> rfl
  · rfl

theorem fetched_hazard (s : State) (i : Iss) (d : Info) (e t : Nat) :
    (if i.ecc = .single then s.fetchCorrected i.e.val else s).hazard e t d = s.hazard e t d := by
  split
  · obtain ⟨r, hr⟩ := fetchCorrected_shape s i.e.val
    rw [hr]; rfl
  · rfl

/-- Nothing wakes a READY strand. -/
theorem wakeCome_ready {s : State} {e t : Nat} (h : (s.strand e t).st = .ready) : s.wakeCome e t = s := by
  simp [State.wakeCome, State.resultCome, h]

/-- An instruction that issues with a good encoding comes to what its own part answers. -/
theorem issue_eq {s : State} {i : Iss} {d : Info} (body : State → Res) (h : Issues s i d) :
    issue s i d none body =
      match body (issued s i d) with
      | .trap tr => (issued s i d.bare).issueTrap i.e.val i.t.val tr
      | .stall mem => (if i.ecc = .single then s.fetchCorrected i.e.val else s).stallStrand i.e.val i.t.val none mem
      | .go s1 => s1 := by
  obtain ⟨h0, h1, h2, h3, h4⟩ := h
  have hpc : ((if i.ecc = .single then s.fetchCorrected i.e.val else s).strand i.e.val i.t.val).pc = (s.me i).pc := by
    rw [fetched_strand]; rfl
  have hl : ((if i.ecc = .single then s.fetchCorrected i.e.val else s).strand i.e.val i.t.val).pc = 0xFFFF → d.last = true := by
    intro hp; rw [hpc] at hp; exact h3.resolve_left (fun h => h hp)
  have hz := (fetched_hazard s i d i.e.val i.t.val).trans h4
  unfold issue
  simp only [h1, Bool.not_true, Bool.false_eq_true, if_false, wakeCome_ready h0]
  have hc : ((decide (((if i.ecc = .single then s.fetchCorrected i.e.val else s).strand i.e.val i.t.val).pc = 0xFFFF)) && !d.last) = false := by
    rw [Bool.and_eq_false_iff]
    by_cases hp : ((if i.ecc = .single then s.fetchCorrected i.e.val else s).strand i.e.val i.t.val).pc = 0xFFFF
    · right; simp [hl hp]
    · left; simp only [decide_eq_false_iff_not]; exact hp
  cases hecc : i.ecc with
  | double => exact absurd hecc h2
  | clean =>
    simp only [hecc] at hc hz ⊢
    simp only [reduceCtorEq, if_false] at hc hz ⊢
    simp only [hc, hz, Bool.false_eq_true, if_false, issued, hecc, reduceCtorEq]
    all_goals (cases body (s.takeToken i.e.val i.t.val d) <;> rfl)
  | single =>
    simp only [hecc] at hc hz ⊢
    simp only [if_true] at hc hz ⊢
    simp only [hc, hz, Bool.false_eq_true, if_false, issued, hecc, if_true]
    all_goals (cases body ((s.fetchCorrected i.e.val).takeToken i.e.val i.t.val d) <;> rfl)

/-- A bad encoding traps ILLEGAL with its subcode, before anything of the instruction is looked at (R62, R66). -/
theorem issue_ill {s : State} {i : Iss} {d : Info} (sub : Nat) (body : State → Res) (h0 : (s.me i).st = .ready)
    (h1 : s.canIssue i.e.val i.t.val d = true) (h2 : i.ecc ≠ .double) :
    issue s i d (some sub) body = (issued s i d.bare).issueTrap i.e.val i.t.val { cause := .illegal, sub := sub } := by
  unfold issue
  simp only [h1, Bool.not_true, Bool.false_eq_true, if_false, wakeCome_ready h0]
  cases hecc : i.ecc with
  | double => exact absurd hecc h2
  | clean => simp [issued, hecc]
  | single => simp [issued, hecc]

/-- An instruction that cannot issue now does not happen. -/
theorem issue_idle {s : State} {i : Iss} {d : Info} (ill : Option Nat) (body : State → Res)
    (h : s.canIssue i.e.val i.t.val d = false) : issue s i d ill body = s := by
  simp [issue, h]

/-! ## Instructions that only change their strand -/

@[simp] theorem retire_me (s : State) (i : Iss) (f : Strand → Strand) : (s.retire i f).me i = (f (s.me i)).next := by
  simp [State.retire, State.me]

/-- Retiring an instruction that changes only its strand changes nothing else. -/
theorem setStrand_onlyStrand (s : State) (i : Iss) (d : Info) (x : Strand) :
    OnlyStrand s ((issued s i d).setStrand i.e.val i.t.val x) i := by
  refine ⟨?_, ?_, ?_, ?_⟩
  · have := issued_frame s i d
    calc _ = { { issued s i d with regs := s.regs, engs := s.engs, pm := s.pm } with strands := s.strands } := rfl
      _ = { s with strands := s.strands } := by rw [this]
      _ = s := rfl
  · intro e u hu hne
    rw [State.strand_setStrand_ne _ _ _ _ _ _ (skey_ne i.t.isLt hu hne), issued_strand]
  · intro f a b hk
    rw [State.fld_setStrand, issued_fld s i d f a b hk]
  · intro e he
    rw [State.eng_setStrand, issued_eng_ne s i d e he]

theorem retire_onlyStrand (s : State) (i : Iss) (d : Info) (f : Strand → Strand) :
    OnlyStrand s ((issued s i d).retire i f) i := setStrand_onlyStrand s i d _

end Sys2Proof.Machine
end

