-- ==== Sys2Proof/Laws/Operands.lean ====
section
/-!
SUPPORT. What each operand form comes to when it issues: the strand it leaves, and that nothing else changes.
-/

namespace Sys2Proof.Machine

/-- An instruction that only changes its strand. -/
theorem issue_retire {s : State} {i : Iss} {d : Info} (f : Strand → Strand) (h : Issues s i d) :
    issue s i d none (fun s => .go (s.retire i f)) = (issued s i d).retire i f := by
  rw [issue_eq _ h]

theorem regA_eq {s : State} {i : Iss} {f : FmtA} (r : Strand → Word64)
    (h : Issues s i { reads := gN f.rs1 ++ gN f.rs2 ++ pN f.pred.toNat, writes := gN f.rd }) :
    regA s i f false r =
      (issued s i { reads := gN f.rs1 ++ gN f.rs2 ++ pN f.pred.toNat, writes := gN f.rd }).retire i
        fun x => if x.guard f.pred f.neg then x.wg f.rd.toNat (r x) else x :=
  issue_retire _ h

theorem aluI_eq {s : State} {i : Iss} {f : FmtI} (g : Word64 → Word64)
    (h : Issues s i { reads := gN f.rs1 ++ pN f.pred.toNat, writes := gN f.rd }) :
    aluI s i f false g =
      (issued s i { reads := gN f.rs1 ++ pN f.pred.toNat, writes := gN f.rd }).retire i
        fun x => if x.guard f.pred false then x.wg f.rd.toNat (g (x.rg f.rs1.toNat)) else x :=
  issue_retire _ h

theorem regN_eq {s : State} {i : Iss} {f : FmtA} (n : Nat) (unit : List Nat) (r : Strand → Word64)
    (h : Issues s i { reads := gN f.rs1 ++ gN f.rs2 ++ pN f.pred.toNat, writes := gN f.rd ++ unit,
                      lat := s.latIf i f.pred f.neg n }) :
    regN s i f n unit r =
      (issued s i { reads := gN f.rs1 ++ gN f.rs2 ++ pN f.pred.toNat, writes := gN f.rd ++ unit,
                    lat := s.latIf i f.pred f.neg n }).retire i
        fun x => if x.guard f.pred f.neg then x.wg f.rd.toNat (r x) else x :=
  issue_retire _ h

theorem predA_eq {s : State} {i : Iss} {f : FmtA} (reads : List Nat) (c : Strand → Bool) (hd : pdOk f.rd = true)
    (h : Issues s i { reads := reads ++ pN f.pred.toNat, writes := pN f.rd.toNat }) :
    predA s i f reads false c =
      (issued s i { reads := reads ++ pN f.pred.toNat, writes := pN f.rd.toNat }).retire i
        fun x => if x.guard f.pred f.neg then x.wp f.rd.toNat (c x) else x := by
  simp only [predA, hd, Bool.not_true, Bool.or_false, illIf, Bool.false_eq_true, if_false]
  exact issue_retire _ h

/-- A floating-point instruction with a good encoding and a rounding mode of 0 to 3 is no bad encoding (R70). -/
theorem fpIll_none {s : State} {i : Iss} (h : (s.me i).round < 4) : fpIll s i false = none := by
  unfold fpIll; simp; omega

theorem fpA_eq {s : State} {i : Iss} {f : FmtA} (n : Nat) (g : Strand → Word32 × Nat) (hr : (s.me i).round < 4)
    (h : Issues s i { reads := gN f.rs1 ++ gN f.rs2 ++ gN f.rd ++ pN f.pred.toNat, writes := gN f.rd, fp := true,
                      lat := s.latIf i f.pred f.neg n }) :
    fpA s i f n false g =
      (issued s i { reads := gN f.rs1 ++ gN f.rs2 ++ gN f.rd ++ pN f.pred.toNat, writes := gN f.rd, fp := true,
                    lat := s.latIf i f.pred f.neg n }).retire i
        fun x => if x.guard f.pred f.neg then (x.wg f.rd.toNat ((g x).1.setWidth 64)).sticky (g x).2 else x := by
  simp only [fpA, fpIll_none hr]
  exact issue_retire _ h

theorem fpCmpA_eq {s : State} {i : Iss} {f : FmtA} (c : Word32 → Word32 → Bool × Nat) (hr : (s.me i).round < 4)
    (hd : pdOk f.rd = true)
    (h : Issues s i { reads := gN f.rs1 ++ gN f.rs2 ++ pN f.pred.toNat, writes := pN f.rd.toNat, fp := true,
                      lat := s.latIf i f.pred f.neg 4 }) :
    fpCmpA s i f c =
      (issued s i { reads := gN f.rs1 ++ gN f.rs2 ++ pN f.pred.toNat, writes := pN f.rd.toNat, fp := true,
                    lat := s.latIf i f.pred f.neg 4 }).retire i
        fun x => if x.guard f.pred f.neg then
          (x.wp f.rd.toNat (c (x.rf f.rs1) (x.rf f.rs2)).1).sticky (c (x.rf f.rs1) (x.rf f.rs2)).2 else x := by
  simp only [fpCmpA, hd, Bool.not_true, fpIll_none hr]
  exact issue_retire _ h

theorem vecMove_eq {s : State} {i : Iss} {f : FmtA} (reads writes : List Nat) (g : Strand → Strand)
    (hr : (s.me i).round < 4) (h : Issues s i { reads := reads ++ pN f.pred.toNat, writes := writes, fp := true }) :
    vecMove s i f reads writes false g =
      (issued s i { reads := reads ++ pN f.pred.toNat, writes := writes, fp := true }).retire i
        fun x => if x.guard f.pred f.neg then g x else x := by
  simp only [vecMove, fpIll_none hr]
  exact issue_retire _ h

end Sys2Proof.Machine
end

