-- ==== Sys2Proof/Tests/Slice0.lean ====
section
/-!
SUPPORT. Tests: for each statement a concrete state and operands that meet its hypotheses, clause by clause; words of the
spec's encodings; ill-formed commands; and a few steps whose results the spec gives.
-/

set_option maxRecDepth 20000

namespace Sys2Proof.Tests
open Sys2Proof Sys2Proof.Machine

/-! ## Small states -/

/-- The stack out of reset with one strand of the SV. -/
def sv (x : Strand) : State := { State.reset with inReset := false, strands := [(skey 34 0, x)] }
/-- The stack with engine 0 powered and running, and one strand of it. -/
def ce (x : Strand) : State :=
  (({ State.reset with inReset := false, strands := [(skey 0 0, x)] }).setFld F.PWR_DOM_powered 0 0 1).setFld F.CE_CTRL_run 0 0 1
/-- A READY supervisor strand. -/
def rdy : Strand := { st := .ready, title := false, pc := 0xFFFE }
/-- A READY strand with v in g1 and w in g2. -/
def rdy2 (v w : Word64) : Strand := { st := .ready, title := false, pc := 5, g := [(1, v), (2, w)] }
def iSv : Iss := ⟨34, 0, .clean, .clean⟩
def iCe : Iss := ⟨0, 0, .single, .clean⟩
/-- The next state of a command. -/
def after (c : Instr) (s : State) : State :=
  match exec c s with
  | .next t => t
  | _ => s
def issuesB (s : State) (i : Iss) (d : Info) : Bool :=
  (s.me i).st == .ready && s.canIssue i.e.val i.t.val d && i.ecc != .double && ((s.me i).pc != 0xFFFF || d.last) &&
  !s.hazard i.e.val i.t.val d
theorem issuesB_sound {s : State} {i : Iss} {d : Info} (h : issuesB s i d = true) : Issues s i d := by
  simp only [issuesB, Bool.and_eq_true, Bool.or_eq_true, beq_iff_eq, bne_iff_ne, ne_eq, Bool.not_eq_true'] at h
  exact ⟨h.1.1.1.1, h.1.1.1.2, h.1.1.2, h.1.2, h.2⟩
def fetchedB (s : State) (i : Iss) (d : Info) : Bool := (s.me i).st == .ready && s.canIssue i.e.val i.t.val d && i.ecc != .double
theorem fetchedB_sound {s : State} {i : Iss} {d : Info} (h : fetchedB s i d = true) : Fetched s i d := by
  simp only [fetchedB, Bool.and_eq_true, beq_iff_eq, bne_iff_ne, ne_eq] at h
  exact ⟨h.1.1, h.1.2, h.2⟩

/-! ## Registers -/

def fA : FmtA := { neg := true, pred := 7, rs2 := 31, rs1 := 31, rd := 31 }
def fA1 : FmtA := { neg := false, pred := 0, rs2 := 0, rs1 := 31, rd := 0 }
/-- IntegerResult: a register form at its highest numbers, one over rs1 alone, and an immediate; on the SV and on an engine
with a corrected fetch. -/
theorem test_integer_hyps : Issues (sv rdy) iSv (infoA fA) ∧ Issues (ce rdy) iCe (infoA fA) ∧
    (fA1.rs2 = 0 ∧ Issues (sv rdy) iSv (infoA fA1)) ∧
    Issues (sv rdy) iSv (infoN (sv rdy) iSv fA1 3 []) ∧ Issues (sv rdy) iSv (infoN (sv rdy) iSv fA1 18 [regDiv]) ∧
    Issues (sv rdy) iSv (infoI { imm := 0xFFF, pred := 7, rs1 := 31, rd := 31 }) ∧
    ((191#12).toNat < 192 ∧ Issues (sv rdy) iSv (infoI { imm := 191, pred := 0, rs1 := 1, rd := 1 })) :=
  ⟨issuesB_sound (by decide), issuesB_sound (by decide), ⟨by decide, issuesB_sound (by decide)⟩,
   issuesB_sound (by decide), issuesB_sound (by decide), issuesB_sound (by decide), by decide, issuesB_sound (by decide)⟩

def fP : FmtA := { neg := false, pred := 0, rs2 := 7, rs1 := 7, rd := 7 }
/-- PredicateResult: compares, logic, PSET and PCLR, PNZ; and each bad source field. -/
theorem test_predicate_hyps :
    (0 < fP.rd.toNat ∧ fP.rd.toNat < 8 ∧
      Issues (sv rdy) iSv { reads := gN fP.rs1 ++ gN fP.rs2 ++ pN fP.pred.toNat, writes := pN fP.rd.toNat }) ∧
    (fP.rs1.toNat < 8 ∧ fP.rs2.toNat < 8 ∧
      Issues (sv rdy) iSv { reads := pN fP.rs1.toNat ++ pN fP.rs2.toNat ++ pN fP.pred.toNat, writes := pN fP.rd.toNat }) ∧
    Issues (sv rdy) iSv { reads := pN 0, writes := pN 1 } ∧ Issues (sv rdy) iSv { reads := gN 31 ++ pN 0, writes := pN 1 } ∧
    (8 ≤ (8#5).toNat ∧ Fetched (sv rdy) iSv { reads := pN 8 ++ pN 0 ++ pN 0, writes := pN 1 }) ∧
    Fetched (sv rdy) iSv { reads := pN 0, writes := pN 1 } ∧ Fetched (sv rdy) iSv { reads := gN 31 ++ pN 0, writes := pN 1 } :=
  ⟨⟨by decide, by decide, issuesB_sound (by decide)⟩, ⟨by decide, by decide, issuesB_sound (by decide)⟩,
   issuesB_sound (by decide), issuesB_sound (by decide), ⟨by decide, fetchedB_sound (by decide)⟩,
   fetchedB_sound (by decide), fetchedB_sound (by decide)⟩

def fV : FmtA := { neg := false, pred := 0, rs2 := 15, rs1 := 15, rd := 15 }
/-- FloatResult: scalars, FCVT.W.S, compares; lanes, VDOT, VSPLAT, VEXT, VINS, VMOV, with the rounding mode 3. -/
theorem test_float_hyps : let s := sv { rdy with fpstat := 3 }
    ((s.me iSv).round < 4 ∧ Issues s iSv (infoFp s iSv fA 4)) ∧
    Issues s iSv { reads := gN fA1.rs1 ++ pN fA1.pred.toNat, writes := gN fA1.rd, fp := true, lat := s.latIf iSv 0 false 4 } ∧
    Issues s iSv { reads := gN fP.rs1 ++ gN fP.rs2 ++ pN fP.pred.toNat, writes := pN fP.rd.toNat, fp := true,
                   lat := s.latIf iSv 0 false 4 } ∧
    (fV.rd.toNat < 16 ∧ fV.rs1.toNat < 16 ∧ fV.rs2.toNat < 16 ∧ Issues s iSv (infoV s iSv fV)) ∧
    Issues s iSv { reads := vN fV.rs1 ++ vN fV.rs2 ++ pN fV.pred.toNat, writes := gN fV.rd, fp := true,
                   lat := s.latIf iSv 0 false 8 } ∧
    Issues s iSv { reads := gN fV.rs1 ++ pN fV.pred.toNat, writes := vN fV.rd, fp := true } ∧
    ((3#5).toNat < 4 ∧ Issues s iSv { reads := vN fV.rs1 ++ pN fV.pred.toNat, writes := gN fV.rd, fp := true }) ∧
    Issues s iSv { reads := gN fV.rs1 ++ vN fV.rd ++ pN fV.pred.toNat, writes := vN fV.rd, fp := true } ∧
    Issues s iSv { reads := vN fV.rs1 ++ pN fV.pred.toNat, writes := vN fV.rd, fp := true } :=
  ⟨⟨by decide, issuesB_sound (by decide)⟩, issuesB_sound (by decide), issuesB_sound (by decide),
   ⟨by decide, by decide, by decide, issuesB_sound (by decide)⟩, issuesB_sound (by decide), issuesB_sound (by decide),
   ⟨by decide, issuesB_sound (by decide)⟩, issuesB_sound (by decide), issuesB_sound (by decide)⟩

/-- LateResults: a multiply, a divide and an FDIV into g2, then an ADD that reads g2, and a second divide: each can issue
after the first; a strand STALLED on a result that the token at hand brings. -/
theorem test_late_hyps :
    let s := sv (rdy2 9 4)
    let f : FmtA := { neg := false, pred := 0, rs2 := 2, rs1 := 1, rd := 2 }
    let g : FmtA := { neg := false, pred := 0, rs2 := 0, rs1 := 2, rd := 3 }
    (((s.me iSv).rp f.pred.toNat != f.neg) = true ∧ f.rd ≠ 0 ∧ (s.me iSv).busy = [] ∧ (s.me iSv).pc + 1 ≠ 0xFFFF ∧
      (s.me iSv).round < 4 ∧ g.rs1 = f.rd) ∧
    (Issues s iSv (infoN s iSv f 3 []) ∧ (after (.mulh iSv f) s).canIssue 34 0 (infoA g) = true) ∧
    (Issues s iSv (infoN s iSv f 18 [regDiv]) ∧ (after (.div iSv f) s).canIssue 34 0 (infoA g) = true ∧
      (after (.div iSv f) s).canIssue 34 0 (infoN (after (.div iSv f) s) iSv g 18 [regDiv]) = true) ∧
    (Issues s iSv (infoFp s iSv f 12) ∧ (after (.fmin iSv f) s).canIssue 34 0 (infoA g) = true) ∧
    (let u := (sv { rdy2 9 4 with st := .stalled }).setEng 34 { lates := [(0, 2, 4)], tills := [(0, 4)], slot := 2 }
     u.resultCome 34 0 = true ∧ u.canIssue 34 0 (infoA g) = true ∧ (u.wakeCome 34 0).canIssue 34 0 (infoA g) = true) :=
  ⟨by decide, ⟨issuesB_sound (by decide), by decide⟩, ⟨issuesB_sound (by decide), by decide, by decide⟩,
   ⟨issuesB_sound (by decide), by decide⟩, by decide⟩

/-! ## Memory, control, CSRs, traps -/

def top8 : Word64 := 0xFFFFFFFF0
def fL (size rt : Nat) : FmtL :=
  { imm := 0, size := BitVec.ofNat 2 size, dl := 7, rs1 := 1, rt := BitVec.ofNat 5 rt }
def fS (size rt : Nat) : FmtL :=
  { imm := 0, size := BitVec.ofNat 2 size, dl := 0, rs1 := 1, rt := BitVec.ofNat 5 rt }
/-- MemoryAccessesStart: LD.D and LDU at the top of the last channel, VLD and VST of v15, ST, and an atomic. -/
theorem test_access_hyps : let s := sv (rdy2 top8 1); let f := fL 3 31
    ∃ r, (eaL f (s.me iSv) (bytesL f) = top8 ∧
      Reaches s iSv (infoMem f [] (gN f.rt)) top8 (bytesL f) (bytesL f) .read f.dl .ld 31 0x7FFFFFF0 r ∧
      Reaches s iSv (infoMem f [] (gN f.rt)) top8 (bytesL f) (bytesL f) .read f.dl .ldu 31 0x7FFFFFF0 r ∧
      Reaches s iSv (infoMem f (gN f.rt) []) top8 (bytesL f) (bytesL f) .write f.dl .st 31 0x7FFFFFF0 r) ∧
    (eaL (fL 0 15) (s.me iSv) 16 = top8 ∧ (fL 0 15).size = 0 ∧ (fL 0 15).rt.toNat < 16 ∧
      Reaches s iSv (infoMem (fL 0 15) [] (vN 15)) top8 16 16 .read 7 .vld 31 0x7FFFFFF0 r ∧
      Reaches s iSv (infoMem (fL 0 15) (vN 15) []) top8 16 16 .write 7 .vst 31 0x7FFFFFF0 r) ∧
    Reaches s iSv { reads := gN 1 ++ gN 2 ++ gN 3, writes := gN 3, mem := true } ((s.me iSv).rg 1) 8 8 .atomic 0
      (.amo 9 true) 31 0x7FFFFFF0 r := by
  refine ⟨⟨31, [31]⟩, ⟨by decide, ?_, ?_, ?_⟩, ⟨by decide, by decide, by decide, ?_, ?_⟩, ?_⟩ <;>
    exact ⟨issuesB_sound (by decide), by decide, by decide, by decide, by decide, by decide, by unfold Fresh; decide⟩

/-- ScratchResult: the last doubleword and the last vector of scratch; a bad field, a misaligned address, and the first address
past the reach of a supervisor and of a title strand. -/
theorem test_scratch_hyps : let s := sv (rdy2 131064 131056); let f := fS 3 31
    (eaL f (s.me iSv) (bytesL f) = 131064 ∧ f.dl = 0 ∧ ScratchOk s iSv 131064 (bytesL f) ∧
      Issues s iSv (infoSld f (gN f.rt)) ∧ Issues s iSv (infoMem f (gN f.rt) [])) ∧
    (let v : FmtL := { fS 0 15 with rs1 := 2 }
     eaL v (s.me iSv) 16 = 131056 ∧ v.dl = 0 ∧ v.size = 0 ∧ v.rt.toNat < 16 ∧ ScratchOk s iSv 131056 16 ∧
      Issues s iSv (infoSld v (vN v.rt)) ∧ Issues s iSv (infoMem v (vN v.rt) [])) ∧
    ((fL 3 31).dl ≠ 0 ∧ Fetched s iSv (infoSld (fL 3 31) (gN 31))) ∧
    (let u := sv (rdy2 4 131072)
     (eaL f (u.me iSv) 8).toNat % 8 ≠ 0 ∧ Issues u iSv (infoSld f (gN f.rt)) ∧
     eaL { f with rs1 := 2 } (u.me iSv) 8 = 131072 ∧ Issues u iSv (infoSld { f with rs1 := 2 } (gN f.rt))) ∧
    (let u := (ce { rdy2 1024 0 with title := true }).setFld F.CE_SCRATCH_SPLIT_title_kib 0 0 1
     (eaL f (u.me iCe) 8).toNat % 8 = 0 ∧ u.unprivileged iCe = true ∧ u.titleShare 0 = 1024 ∧
     Issues u iCe (infoSld f (gN f.rt))) := by
  refine ⟨⟨by decide, by decide, ⟨by decide, by decide⟩, ?_, ?_⟩, ⟨by decide, by decide, by decide, by decide,
    ⟨by decide, by decide⟩, ?_, ?_⟩, ⟨by decide, fetchedB_sound (by decide)⟩, ⟨by decide, ?_, by decide, ?_⟩,
    ⟨by decide, by decide, by decide, ?_⟩⟩ <;> exact issuesB_sound (by decide)

def fE : FmtE := { dl := 0, rs2 := 2, rs1 := 1, rd := 3 }
/-- BulkStarts: a FILL of a whole channel, a scratch DMA of 32,768 bytes each way. -/
theorem test_bulk_hyps :
    (let s := sv (rdy2 0 (2 ^ 31))
     Fresh s ∧ BulkOk s iSv (infoE fE) 0 (2 ^ 31) .fill 0 ∧ (0 : Nat) / 2 ^ 31 = (0 + 2 ^ 31 - 1) / 2 ^ 31 ∧
     (issued s iSv (infoE fE)).lsqRoom 34 0 = true ∧ (issued s iSv (infoE fE)).fenced 34 0 3 = false ∧
     ∃ l off r, s.place 0 = .at l off ∧ s.route l off = some r) ∧
    (let s := sv (rdy2 64 32768)
     Fresh s ∧ BulkOk s iSv (infoE fE) 64 32768 .read 0 ∧ BulkOk s iSv (infoE fE) 64 32768 .fill 0 ∧
     ((s.me iSv).rg 3).toNat % 64 = 0 ∧ ((s.me iSv).rg 3).toNat + 32768 ≤ s.scratchReach iSv ∧ (s.me iSv).dma = 0 ∧
     (issued s iSv (infoE fE)).fenced 34 0 4 = false ∧ dmaBufs 32768 ≤ (s.eng 34).dmaFree ∧
     (∃ l off r, s.place 64 = .at l off ∧ s.route l off = some r) ∧
     (∀ h, s.creditFree h = true) ∧ ∀ o ∈ s.ops, ∀ h, o.credit ≠ .asked h) :=
  ⟨⟨by unfold Fresh; decide, ⟨issuesB_sound (by decide), by decide, by decide, by decide, by decide, by decide⟩, by decide,
    by decide, by decide, 0, 0, ⟨0, [0]⟩, by decide, by decide⟩,
   ⟨by unfold Fresh; decide, ⟨issuesB_sound (by decide), by decide, by decide, by decide, by decide, by decide⟩,
    ⟨issuesB_sound (by decide), by decide, by decide, by decide, by decide, by decide⟩, by decide, by decide, by decide,
    by decide, by decide, ⟨0, 64, ⟨0, [0]⟩, by decide, by decide⟩, fun h => decide_eq_true (Nat.succ_pos _),
    fun _ h => (List.not_mem_nil h).elim⟩⟩

/-- BranchResult: BR to 0, CALL to 65,535, JR to 65,535 by a register. -/
theorem test_branch_hyps : let s := sv (rdy2 65535 0); let d : FmtB := { imm := -5, rs1 := 0, neg := false, pred := 0 }
    (0 ≤ ((s.me iSv).pc.toNat : Int) + d.imm.toInt ∧ ((s.me iSv).pc.toNat : Int) + d.imm.toInt ≤ 65535) ∧
    Issues s iSv { reads := pN d.pred.toNat, branch := true, last := uncond d } ∧
    Issues s iSv { reads := pN d.pred.toNat, writes := [31], branch := true, last := uncond d } ∧
    (let j : FmtB := { imm := 0, rs1 := 1, neg := false, pred := 0 }
     ((s.me iSv).rg j.rs1.toNat).toNat ≤ 65535 ∧
     Issues s iSv { reads := gN j.rs1 ++ pN j.pred.toNat, branch := true, last := uncond j }) :=
  ⟨by decide, issuesB_sound (by decide), issuesB_sound (by decide), by decide, issuesB_sound (by decide)⟩

def fX (imm : Nat) : FmtX := { imm := BitVec.ofNat 12 imm, rs1 := 0, rd := 0 }
/-- FenceAndYieldResult: the widest mask, with a load outstanding; a YIELD that takes a token and one that joins its strand's;
a load and a store under a fence in force. -/
theorem test_fence_hyps :
    let s := { sv rdy with ops := [{ id := 1, e := 34, t := 0, kind := .ld }], nextOp := 2 }
    ((fX 127).imm.toNat < 128 ∧ Issues s iSv (infoX [] [])) ∧
    ((sv rdy).pairs 34 0 (infoX [] []) = true → ((sv rdy).eng 34).rr = 0) ∧
    (let u := (sv rdy).setEng 34 { rr := 0, token := some ⟨0, [], false, false⟩ }
     Issues u iSv (infoX [] []) ∧ u.pairs 34 0 (infoX [] []) = true ∧ (u.eng 34).rr = 0) ∧
    (let u := { sv { rdy2 64 0 with fences := [(3, [1])] } with ops := [{ id := 1, e := 34, t := 0, kind := .ld }], nextOp := 2 }
     let f := fS 3 3
     let c := infoMem f [] (gN f.rt)
     let d := infoMem f (gN f.rt) []
     (Issues u iSv c ∧ (issued u iSv c).worldChecks iSv (eaL f (u.me iSv) 8) 8 8 .read f.dl = none ∧ u.fenced 34 0 0 = true) ∧
     Issues u iSv d ∧ (issued u iSv d).worldChecks iSv (eaL f (u.me iSv) 8) 8 8 .write f.dl = none ∧ u.fenced 34 0 1 = true) :=
  ⟨⟨by decide, issuesB_sound (by decide)⟩, by decide, ⟨issuesB_sound (by decide), by decide, by decide⟩,
   ⟨issuesB_sound (by decide), by decide, by decide⟩, issuesB_sound (by decide), by decide, by decide⟩

/-- CsrAndRegisterResult: `preds`, `tscratch` and dl7 are reachable; a supervisor reads and writes a register, and reads and
writes `pc` of a strand that is DISABLED. -/
theorem test_csr_hyps : let s := sv (rdy2 (34 + 256) 4)
    (csrIll 6 false = false ∧ csrIll 6 true = false ∧ csrIll 0x17 true = false ∧ s.csrDenied iSv 6 = false ∧
      s.csrDenied iSv 0x17 = false) ∧
    Issues s iSv (infoX (csrP 6) (gN 3)) ∧ Issues s iSv (infoX (gN 1) (csrP 6)) ∧
    Issues s iSv (infoX (gN 1 ++ gN 3) (csrP 0x17)) ∧ Issues s iSv (infoX (gN 1) [56 + 7]) ∧
    (s.unprivileged iSv = false ∧ ((s.me iSv).rg 2).toNat % 4 = 0 ∧
      (issued s iSv (infoX (gN 2) (gN 3))).fenced 34 0 6 = false ∧ Issues s iSv (infoX (gN 2) (gN 3)) ∧
      (issued s iSv (infoX (gN 2 ++ gN 3) [])).fenced 34 0 6 = false ∧ Issues s iSv (infoX (gN 2 ++ gN 3) [])) ∧
    ((csrKind 0x840).isSome = true ∧ (csrKind 0x840).map (·.2) = some true ∧ ((s.me iSv).rg 1).toNat % 64 = 34 ∧
      ((s.me iSv).rg 1).toNat / 256 % 16 = 1 ∧ (issued s iSv (infoX (gN 1 ++ gN 3) [])).remoteOn 34 = true ∧
      (s.strand 34 1).st = .disabled) ∧
    (let u := sv (rdy2 34 0)
     ((u.me iSv).rg 1).toNat % 64 = 34 ∧ ((u.me iSv).rg 1).toNat / 256 % 16 = 0 ∧ Issues u iSv (infoX (gN 1 ++ gN 3) []) ∧
     (issued u iSv (infoX (gN 1 ++ gN 3) [])).remoteOn 34 = true ∧ (u.strand 34 0).st = .ready) ∧
    (let u := sv (rdy2 33 0)
     ((u.me iSv).rg 1).toNat % 64 = 33 ∧ Issues u iSv (infoX (gN 1 ++ gN 3) []) ∧
     (issued u iSv (infoX (gN 1 ++ gN 3) [])).remoteOn 33 = false ∧ u.unprivileged iSv = false ∧
     (issued u iSv (infoX (gN 1 ++ gN 3) [])).fenced 34 0 6 = false) :=
  ⟨by decide, issuesB_sound (by decide), issuesB_sound (by decide), issuesB_sound (by decide), issuesB_sound (by decide),
   ⟨by decide, by decide, by decide, issuesB_sound (by decide), by decide, issuesB_sound (by decide)⟩, by decide,
   ⟨by decide, by decide, issuesB_sound (by decide), by decide, by decide⟩,
   by decide, issuesB_sound (by decide), by decide, by decide, by decide⟩

/-- TrapsTaken: a SYSCALL; a report of STALE that a title strand's vector takes, and one that a supervisor's does not. -/
theorem test_trap_hyps : Issues (sv rdy) iSv (infoX (gN 0) []) ∧
    (let r : Report := { trap := { cause := .stale }, fpc := 3 }
     let s := ce { rdy with title := true, tvec := 16, report := some r }
     (s.strand 0 0).report = some r ∧ (s.strand 0 0).st ≠ .trapped ∧ (s.strand 0 0).st ≠ .disabled ∧
       (s.strand 0 0).wait = none ∧ (s.strand 0 0).takesTitle .stale = true ∧
     (let u := sv { rdy with report := some r }
      (u.strand 34 0).report = some r ∧ (u.strand 34 0).wait = none ∧ (u.strand 34 0).takesTitle .stale = false)) :=
  ⟨issuesB_sound (by decide), by decide⟩

/-- TretResult: TRET in a handler at the last index, and outside one. -/
theorem test_tret_hyps :
    (let s := ce { rdy with title := true, pc := 0xFFFF, inHandler := true }
     (s.me iCe).inHandler = true ∧ Issues s iCe { mem := true, last := true }) ∧
    ((sv rdy).me iSv).inHandler = false ∧ Issues (sv rdy) iSv { mem := true, last := true } :=
  ⟨⟨by decide, issuesB_sound (by decide)⟩, by decide, issuesB_sound (by decide)⟩

/-- EvwaitResult: with an engine event present and with none; on an engine; a wake by a deadline reached. -/
theorem test_evwait_hyps :
    (let s := (sv rdy).setFld F.SV_EVENT_LO_engine 0 0 1
     (issued s iSv (infoX [] (gN 3))).evReasons ((s.me iSv).rdl 7) ≠ 0 ∧ Issues s iSv (infoX [] (gN 3))) ∧
    ((issued (sv rdy) iSv (infoX [] (gN 3))).evReasons (((sv rdy).me iSv).rdl 7) = 0 ∧ Issues (sv rdy) iSv (infoX [] (gN 3))) ∧
    (iCe.e.val ≠ 34 ∧ Issues (ce rdy) iCe (infoX [] (gN 3))) ∧
    (let s := sv { rdy with st := .waiting, wait := some (.event 3 7), dl := [(7, 0)] }
     (s.strand 34 0).st = .waiting ∧ (s.strand 34 0).wait = some (.event 3 7) ∧
     s.evReasons ((s.strand 34 0).rdl 7) ≠ 0) :=
  ⟨⟨by decide, issuesB_sound (by decide)⟩, ⟨by decide, issuesB_sound (by decide)⟩, ⟨by decide, issuesB_sound (by decide)⟩,
   by decide⟩

/-! ## The directory, sessions, ticks, completions -/

/-- A READY state of the stack's directory: powered quarters, mode READY. -/
def ready (s : State) : State := (((((s.setFld F.GLOBAL_MODE_mode 0 0 2).setFld F.PWR_DOM_powered 93 0 1).setFld
  F.PWR_DOM_powered 97 0 1).setFld F.PWR_DOM_powered 98 0 1).setFld F.PWR_DOM_powered 94 0 1)
/-- A valid, published entry of generation 1 in slot class 0. -/
def ent1 : Word64 := BitVec.ofNat 64 (0x3F * 2 ^ 36 + 2 ^ 53 + 2 ^ 54 + 2 ^ 34)
def h1 : Nat := mkHandle 7 1
def withEnt (s : State) : State := (ready s).setEntry 7 ent1
theorem issuesE {s : State} {i : Iss} {d : Info} (h : issuesB s i d = true)
    (k : (issued s i d).fenced i.e.val i.t.val 5 = false) : IssuesE s i d := ⟨issuesB_sound h, k⟩
def fEnt (rs2 rd : Nat) : FmtE := { dl := 0, rs2 := BitVec.ofNat 5 rs2, rs1 := 1, rd := BitVec.ofNat 5 rd }

/-- DirectoryOperationsStart, entities: ENT.GET, ENT.UNLOCK and ENT.FREE of a held lock, ENT.PUB and ENT.MOVE, ENT.NEW of size
class 6 with a slot pair at the end of a channel, ENT.LOCK with seven locks held. -/
theorem test_entity_hyps :
    let s := ready (sv { rdy2 (BitVec.ofNat 64 h1) 5 with locks := [hIndex h1] })
    IssuesE s iSv { reads := gN 1, writes := gN 3, mem := true } ∧
    ((s.me iSv).locks.contains (hIndex h1) = true ∧ IssuesE s iSv { reads := gN 1, mem := true } ∧
      (issued s iSv { reads := gN 1, mem := true }).entState iSv = false) ∧
    (IssuesE s iSv { reads := gN 1 ++ gN 2, mem := true } ∧
      (issued s iSv { reads := gN 1 ++ gN 2, mem := true }).entState iSv = false ∧
      ((s.me iSv).rg 2).toNat % 2 ^ 20 < s.gridCells) ∧
    (let u := ready (sv (rdy2 (BitVec.ofNat 64 (2 ^ 31 - 8192)) 6))
     let d : Info := { reads := gN 1 ++ gN 2, writes := gN 3, mem := true }
     let a := (u.me iSv).rg 1
     IssuesE u iSv d ∧ (issued u iSv d).entState iSv = false ∧ descBad 6 = false ∧ a.toNat % (64 * 2 ^ (6 % 8)) = 0 ∧
     (issued u iSv d).rangeBad iSv a (2 * (64 * 2 ^ (6 % 8))) .write = false ∧
     a.toNat / 2 ^ 31 = (a.toNat + 2 * (64 * 2 ^ (6 % 8)) - 1) / 2 ^ 31 ∧
     u.inView (a.toNat % 2 ^ 36) (2 * (64 * 2 ^ (6 % 8))) = false) ∧
    (let u := ready (sv { rdy2 (BitVec.ofNat 64 h1) 5 with locks := [0, 1, 2, 3, 4, 5, 6] })
     (u.me iSv).dma = 0 ∧ (u.me iSv).slots = [] ∧ (∀ k ∈ (u.me iSv).locks, k < hIndex h1) ∧ (u.me iSv).locks.length < 8 ∧
     IssuesE u iSv { reads := gN 1, writes := gN 3, mem := true }) :=
  ⟨issuesE (by decide) (by decide), ⟨by decide, issuesE (by decide) (by decide), by decide⟩,
   ⟨issuesE (by decide) (by decide), by decide, by decide⟩,
   ⟨issuesE (by decide) (by decide), by decide, by decide, by decide, by decide, by decide, by decide⟩,
   ⟨by decide, by decide, by decide, by decide, issuesE (by decide) (by decide)⟩⟩

/-- DirectoryOperationsStart, sessions: SES.RECV into the last 2,048 bytes, a further and a first part of SES.SEND, SES.INFO and
SES.INFO.SET at the top of each field. -/
theorem test_session_hyps :
    let s := ready (sv { st := .ready, title := false, pc := 5, slots := [1],
                         g := [(1, 0x4001), (2, 129024), (3, 0x10400), (4, 2), (5, 2 ^ 28 - 1), (6, 3), (7, 65535)] })
    let d : Info := { reads := gN 1 ++ gN 2, writes := gN 3, mem := true }
    let e : Info := { reads := gN 1 ++ gN 2 ++ gN 3, writes := gN 3, mem := true }
    (((s.me iSv).rg 2).toNat % 8 = 0 ∧ ((s.me iSv).rg 2).toNat + 2048 ≤ s.scratchReach iSv ∧
      (issued s iSv d).dlBad iSv 7 = false ∧ IssuesE s iSv d) ∧
    (sendBad 0x10400 = false ∧ ((s.me iSv).rg 2).toNat + sendLen 0x10400 ≤ s.scratchReach iSv ∧
      (issued s iSv e).dlBad iSv 7 = false ∧ IssuesE s iSv e ∧ (s.me iSv).slots.contains (0x4001 / 2 ^ 14) = true) ∧
    (∀ k ∈ (s.me iSv).slots, k < 0x8001 / 2 ^ 14) ∧ (s.me iSv).dma = 0 ∧
    s.lastPartOut 34 0 (0x4001 / 2 ^ 14) = false ∧ s.lastPartOut 34 0 (0x8001 / 2 ^ 14) = false ∧
    (((s.me iSv).rg 4).toNat = 2 ∧ ((s.me iSv).rg 5).toNat < 2 ^ 28 ∧ ((s.me iSv).rg 6).toNat = 3 ∧
      ((s.me iSv).rg 7).toNat < 2 ^ 16 ∧ IssuesE s iSv { reads := gN 1 ++ gN 4 ++ gN 5, mem := true }) :=
  ⟨⟨by decide, by decide, by decide, issuesE (by decide) (by decide)⟩,
   ⟨by decide, by decide, by decide, issuesE (by decide) (by decide), by decide⟩, by decide, by decide, by decide, by decide,
   ⟨by decide, by decide, by decide, by decide, issuesE (by decide) (by decide)⟩⟩

/-- WaitsGranted: a free entity with a lock request queued, and a session with a part waiting for its slot. -/
theorem test_grant_hyps :
    (let o : Op := { id := 1, e := 34, t := 0, kind := .entLock, dst := 3, addr := h1, st := .waiting }
     let s := { withEnt (sv { rdy with st := .waiting, wait := some (.lock 1 7) }) with ops := [o], nextOp := 2 }
     entLock (s.entry 7) = false ∧ s.lockQueue 7 = [o] ∧ 7 ∉ s.ed.upset ∧ (s.eng o.e).fenced = false ∧
     s.edCheck o.addr .entLock = none ∧
     (s.strand o.e o.t).st = .waiting) ∧
    (let o : Op := { id := 1, e := 34, t := 0, kind := .sesSend, dst := 3, addr := 0x4001, a2 := 0x10400, st := .waiting }
     let s := { ({ ready (sv { rdy with st := .waiting, wait := some (.slot 1 1) }) with ops := [o], nextOp := 2 }).setSess 1
                  { ctx := { st := .live, gen := 1 } } with inReset := false }
     (s.slotQueue 0).find? (fun o => s.slotRoom (o.addr / 2 ^ 14)) = some o ∧ (s.strand o.e o.t).st = .waiting ∧
     s.filling (o.addr / 2 ^ 14) o.e o.t = none ∧ sendLen o.a2 ≤ 1024) := by decide

/-- DirectoryAnswers: a good handle, a stale one; ENT.FREE with one free left, and with none; ENT.NEW at its last birth, past
it, and with no index free. -/
theorem test_directory_hyps :
    (let o : Op := { id := 1, e := 34, t := 0, kind := .entFree, addr := h1, a2 := 0 }
     let s := { withEnt (sv rdy) with ops := [o], nextOp := 2 }
     s.findOp 1 = some o ∧ o.sram ≠ .double ∧ hIndex o.addr ∉ s.ed.upset ∧ o.st = .sent ∧ (s.strand 34 0).st ≠ .disabled ∧
     (s.eng o.e).fenced = false ∧ s.edOn (hIndex o.addr) = true ∧
     s.edCheck o.addr o.kind = none ∧ s.ed.frees < 16384 ∧ (s.strand 34 0).report = none ∧
     s.edCheck (mkHandle 7 2) .entGetL = some { cause := .stale, addr := BitVec.ofNat 64 (mkHandle 7 2) }) ∧
    (let s := withEnt (sv rdy)
     16384 ≤ ({ s with ed := { s.ed with frees := 16384 } }).ed.frees ∧ s.edOn 0 = true ∧
     freeTake s.ed.quar (s.ed.quar.length + 1) s.ed.free = some (0, [(1, 2097152)]) ∧ 0 ∉ s.ed.upset ∧ s.ed.births < 16384 ∧
     freeTake [] 1 [] = none) := by decide

/-- DirectoryAnswers: an entry and a context with a double-bit error. -/
theorem test_upset_hyps :
    (let o : Op := { id := 1, e := 34, t := 0, kind := .entGetE, addr := h1, sram := .double }
     let s := { withEnt (sv rdy) with ops := [o], nextOp := 2 }
     s.findOp 1 = some o ∧ o.sram = .double ∧ o.st = .sent ∧ (s.strand 34 0).st ≠ .disabled ∧ (s.strand 34 0).report = none ∧
     (s.eng o.e).fenced = false ∧ (∀ v ∈ s.faults, v.group ≠ 45 ∧ v.group ≠ 46) ∧ s.edOn (hIndex o.addr) = true ∧ o.addr < 2 ^ 31 ∧
     hIndex o.addr ∉ s.ed.quar) ∧
    (let o : Op := { id := 1, e := 34, t := 0, kind := .sesInfo, addr := 0x4001, sram := .double }
     let s := { ready (sv rdy) with ops := [o], nextOp := 2 }
     s.findOp 1 = some o ∧ o.sram = .double ∧ (s.eng o.e).fenced = false ∧ (∀ v ∈ s.faults, v.group ≠ 45 ∧ v.group ≠ 46) ∧ s.stOn (o.addr / 2 ^ 14) = true ∧
     o.addr < 2 ^ 32) := by decide

/-- EntityChanges: ENT.PUB, ENT.FREE, ENT.MOVE and ENT.NEW with a good handle, of a title and of a supervisor strand. -/
theorem test_changes_hyps :
    (∀ k ∈ [OpKind.entPub, .entFree, .entMove], ∀ a ∈ [0, 1],
      let o : Op := { id := 1, e := 34, t := 0, kind := k, addr := h1, a2 := a }
      let s := { withEnt (sv rdy) with ops := [o], nextOp := 2 }
      s.findOp 1 = some o ∧ o.sram ≠ .double ∧ hIndex o.addr ∉ s.ed.upset ∧ o.st = .sent ∧ (s.strand 34 0).st ≠ .disabled ∧
      (s.eng o.e).fenced = false ∧ s.edOn (hIndex o.addr) = true ∧ s.edCheck o.addr o.kind = none ∧
      s.fld F.PM_LOUPE_CTRL_drain 0 0 = 0) ∧
    (let o : Op := { id := 1, e := 34, t := 0, kind := .entNew, a2 := 1 }
     let s := { withEnt (sv rdy) with ops := [o], nextOp := 2 }
     s.findOp 1 = some o ∧ o.sram ≠ .double ∧ o.st = .sent ∧ (s.strand 34 0).st ≠ .disabled ∧ (s.eng o.e).fenced = false ∧
     s.edOn 0 = true ∧ freeTake s.ed.quar (s.ed.quar.length + 1) s.ed.free = some (0, [(1, 2097152)]) ∧ 0 ∉ s.ed.upset) := by decide

/-- R105: the fault names the entry's index. -/
theorem test_upset_fault :
    (let o : Op := { id := 1, e := 34, t := 0, kind := .entGetE, addr := h1, sram := .double }
     (({ withEnt (sv rdy) with ops := [o], nextOp := 2 }).directoryResponse 1).faults.map fun (v : FaultEv) => (v.group, v.src, v.addr)) =
    [(45, 0, 7)] := by decide

/-- TickResult: TICK.WAIT of a strand counted for the open tick and of one that is not; TICK.DONE in a window. -/
theorem test_tick_hyps :
    let x : Strand := { rdy with title := true }
    let s := { ce x with tk := { sim := some 9, counted := [0], simDl := 5 } }
    let d : Info := { writes := gN 31 ++ [56 + 7], mem := true }
    ((s.me iCe).inWin = false ∧ (s.me iCe).locks = [] ∧ (s.me iCe).slots = [] ∧ (s.me iCe).dma = 0 ∧ IssuesE s iCe d ∧
      s.tk.sim = some 9 ∧ s.simWaits (skey 0 0) = true) ∧
    (IssuesE (ce x) iCe d ∧ (ce x).simWaits (skey 0 0) = false) ∧
    ((ce { x with inWin := true }).me iCe).inWin = true ∧ IssuesE (ce { x with inWin := true }) iCe { mem := true } ∧
    s.fld F.PM_LOUPE_CTRL_drain 0 0 = 0 :=
  ⟨⟨by decide, by decide, by decide, by decide, issuesE (by decide) (by decide), by decide, by decide⟩,
   ⟨issuesE (by decide) (by decide), by decide⟩, by decide, issuesE (by decide) (by decide), by decide⟩

/-- OperationsComplete: data for a load, a vector load and an atomic; a store, a FILL and a scratch DMA with nothing left. -/
theorem test_complete_hyps :
    let q : Req := { id := 3, op := 4, master := 34, kind := .atomic, phys := 0, gran := 0 }
    let o (n : Nat) (k : OpKind) (st : OpSt) : Op := { id := n, e := 34, t := 0, kind := k, dst := 3, len := 8, need := 0, st := st }
    let l : List Op := [o 1 .ld (.data 5), { o 2 .vld (.data 5) with dst := 47 }, o 3 .st .sent, o 4 (.amo 0 true) (.data 1),
      { o 5 .fill .sent with len := 64, prog := 1 }, { o 6 .sdmaIn .sent with len := 64, prog := 1 }]
    let s := { (sv rdy).setChan 0 { chan0 with rq := [q] } with ops := l, nextOp := 7 }
    (s.strand 34 0).st ≠ .disabled ∧ (s.eng 34).fenced = false ∧ s.fld F.PM_LOUPE_CTRL_drain 0 0 = 0 ∧
    s.findOp 1 = some (o 1 .ld (.data 5)) ∧ (s.findOp 2).map (·.dst) = some (32 + 15) ∧
    ((s.findOp 3).map (·.need) = some 0) ∧ ((s.findOp 5).map fun o => (o.prog == o.granules, o.need)) = some (true, 0) ∧
    ((s.findOp 6).map fun o => (o.prog == o.granules, o.need)) = some (true, 0) ∧
    (List.range 34).findSome? (fun c => ((s.chan c).rq.find? fun r => r.op == 4).map fun r => (c, r)) = some (0, q) ∧
    (s.chan 0).roomWhole q.gran q.seq = true ∧
    ∀ o ∈ s.ops, o.e = 34 → o.st ≠ .waiting := by decide

/-! ## Engines, ticks, commits, snapshots -/

/-- The stack with these register fields set. -/
def regs (l : List ((Fld × Nat) × Nat)) (s : State) : State := l.foldl (fun s p => s.setFld p.1.1 p.1.2 0 p.2) s
/-- The stack out of reset. -/
def up : State := { State.reset with inReset := false }

/-- EngineControl: engine 33 powered, its window at its last word; locked, and not. -/
theorem test_engine_hyps : let s := regs [((F.PWR_DOM_powered, 33), 1), ((F.CE_IMEM_ADDR_index, 33), 65535)] up
    s.engOn 33 = true ∧ s.fld F.CE_IMEM_ADDR_index 33 0 = 65535 ∧ s.fld F.CE_CTRL_imem_lock 33 0 = 0 ∧
    (regs [((F.CE_CTRL_imem_lock, 33), 1)] s).fld F.CE_CTRL_imem_lock 33 0 ≠ 0 ∧
    smapFind (s.setShd F.CE_RANGE_BASE_base 33 63 5).shadow (fldKey F.CE_RANGE_BASE_base 33 63) = some 5 := by decide

/-- StrandControl: strand 15 of engine 33 enabled and disabled by a write that leaves the others; trapped, and with a title
vector; a due wait for a lock that no strand holds, and for one that a waiting strand holds. -/
theorem test_strand_hyps :
    (let s := regs [((F.PWR_DOM_powered, 33), 1), ((F.CE_STRAND_EN_en, 33), 1)] up
     s.engOn 33 = true ∧ (∀ k, k < 16 → k ≠ 15 → bitOf 0x8001 k = bitOf (s.fld F.CE_STRAND_EN_en 33 0) k) ∧
     bitOf 0x8001 15 = true ∧ bitOf (s.fld F.CE_STRAND_EN_en 33 0) 15 = false ∧ s.opsOf 33 15 = []) ∧
    (let s := { regs [((F.PWR_DOM_powered, 33), 1), ((F.CE_STRAND_EN_en, 33), 0x8001)] up with
                strands := [(skey 33 15, { st := .trapped, tvec := 1 })] }
     bitOf (s.fld F.CE_STRAND_EN_en 33 0) 15 = true ∧ (s.strand 33 15).wait = none ∧ (s.strand 33 15).st = .trapped ∧
     (s.strand 33 15).title = true ∧ (s.strand 33 15).tvec ≠ 0) ∧
    (let w : Wait := .lock 1 7
     let o : Op := { id := 1, e := 0, t := 0, kind := .entLock, addr := h1, st := .waiting }
     let x : Strand := { rdy with title := true, st := .waiting, wait := some w }
     let s := { ce x with ops := [o], nextOp := 2, tb := 2000000 }
     (s.strand 0 0).wait = some w ∧ s.breakDue 0 0 = true ∧ s.holderOf 0 w = none ∧
     (let v : Wait := .lock 2 9
      let p : Op := { o with id := 2, e := 1, addr := mkHandle 9 1 }
      let u := { s with strands := [(0, x), (16, { x with wait := some v, locks := [7] })], ops := [o, p], nextOp := 3 }
      u.breakDue 0 0 = true ∧ u.holderOf 0 w = some 16 ∧ (∀ k, w ≠ .dma k ∧ w ≠ .credit k) ∧
      (u.strand (16 / 16) (16 % 16)).inWait = true ∧ u.inTransit (16 / 16) = false ∧
      ∀ o ∈ u.ops, o.e = 16 / 16 → o.t = 16 % 16 ∧ o.id = (u.strand (16 / 16) (16 % 16)).waitOp)) := by
  refine ⟨by decide, by decide, by decide, by decide, by decide, by decide, by decide, ?_, by decide, by decide, by decide⟩
  intro k; exact ⟨(nomatch ·), (nomatch ·)⟩

/-- MigrationAndWatchdogs: a start, a wait that is quiet and expired, forced and not, and a copy with nothing outstanding; a
kick, a count run out; an engine with a READY strand and no token for 100 µs. -/
theorem test_migration_hyps :
    (let s := regs [((F.PWR_DOM_powered, 0), 1), ((F.PWR_DOM_powered, 33), 1)] up
     s.engOn 0 = true ∧ s.engOn 33 = true ∧ (s.eng 0).mig = none ∧ (s.eng 0).fenced = false ∧ (s.eng 33).fenced = false) ∧
    (let m : Mig := { target := 33, startTick := 0 }
     let s := (regs [((F.TK_NEXT_tick, 0), 4)] up).setEng 0 { mig := some m }
     (s.eng 0).mig = some m ∧ m.copying = false ∧ m.stopped = false ∧ (s.eng 0).fenced = false ∧
     (s.eng m.target).fenced = false ∧ s.quiet 0 = true ∧
     m.startTick + max 1 (s.fld F.CE_MIG_WAIT_ticks 0 0) ≤ s.fld F.TK_NEXT_tick 0 0 ∧ s.fld F.CE_MIG_CTRL_force 0 0 = 0 ∧
     (regs [((F.CE_MIG_CTRL_force, 0), 1)] s).fld F.CE_MIG_CTRL_force 0 0 ≠ 0 ∧ (∀ o ∈ s.ops, o.e = 0 → o.st = .waiting) ∧
     (let u := { s with ops := [{ id := 1, e := 0, t := 0, kind := .ld }], nextOp := 2 }
      (u.eng 0).mig = some m ∧ ∃ o ∈ u.ops, o.e = 0 ∧ o.st ≠ .waiting)) ∧
    (let m : Mig := { target := 33, startTick := 0, copying := true }
     let s := up.setEng 0 { mig := some m }
     (s.eng 0).mig = some m ∧ m.copying = true ∧ m.target ≠ 0 ∧ m.target < 34 ∧ (s.eng 0).fenced = false ∧
     (s.eng m.target).fenced = false ∧ ∀ o ∈ s.ops, o.e ≠ 0 ∧ o.e ≠ m.target) ∧
    (let s := { up with tb := 100000000 }
     s.fld F.SV_WDOG_enable 0 0 ≠ 0 ∧ s.wdogRemain = 0 ∧ s.wdogOut = false) ∧
    (let s := { ce rdy with tb := 100000 }
     s.engIssues 0 = true ∧ (s.strand 0 0).st = .ready ∧ (s.eng 0).lastTok + 100000 ≤ s.tb) := by decide

/-- TickOpens: a tick due in SERVE, in time and more than a period late; SIMULATE at the end of ingest with a strand waiting; a
deadline missed, a first time and again, the last before the limit. -/
theorem test_tick_open_hyps :
    (let s := { regs [((F.GLOBAL_MODE_mode, 0), 3), ((F.TK_CTRL_run, 0), 1)] up with tb := 7812501 }
     s.mode = 3 ∧ s.fld F.TK_CTRL_run 0 0 ≠ 0 ∧ s.fld F.TK_START_time 0 0 ≤ s.tb ∧ s.missDue = false ∧
     s.fld F.TK_START_time 0 0 + s.fld F.TK_PERIOD_ns 0 0 < s.tb) ∧
    (let s := regs [((F.GLOBAL_MODE_mode, 0), 3), ((F.TK_STATUS_phase, 0), 1), ((F.CE_STRAND_EN_en, 0), 1)]
                { ce { rdy with title := true, st := .waiting, wait := some (.tick 31 7) } with
                  tk := { cur := some 9, start := 100, ing := 50 }, tb := 150 }
     s.tk.cur = some 9 ∧ s.mode = 3 ∧ s.tk.sim = none ∧ s.fld F.TK_STATUS_phase 0 0 = 1 ∧ s.tk.start + s.tk.ing ≤ s.tb ∧
     (∀ b ∈ s.st.builds, 9 < b.tick + 2) ∧ skey 0 0 ∈ s.countedNow ∧ (s.strand 0 0).st = .waiting ∧
     (s.strand 0 0).wait = some (.tick 31 7)) ∧
    (let s := { regs [((F.GLOBAL_MODE_mode, 0), 3), ((F.TK_STATUS_phase, 0), 2), ((F.TK_CTRL_run, 0), 1)] up with
                tk := { cur := some 9, sim := some 9, start := 0, per := 1000000, dl := 1000000 }, tb := 9000000 }
     s.tk.cur = some 9 ∧ s.missDue = true ∧ s.tk.slips = 0 ∧
     (let u := { s with tk := { s.tk with slips := 7 } }
      u.missDue = true ∧ u.tk.slips ≠ 0 ∧ u.tk.slips + 1 = max 1 (u.fld F.TK_CTRL_late_limit 0 0))) := by decide

/-- CommitSteps: a tick whose conditions are met, one that may open over a good, a torn, an unpublished entry, one that closes. -/
theorem test_commit_hyps :
    (let s := { up with tk := { sim := some 9, cur := some 9 } }
     s.tk.sim = some 9 ∧ s.allDrained = true ∧ s.snapHolds 9 = false) ∧
    (let s := (({ up with tk := { sim := some 9, cond := some 5 } }).setEntry 7 ent1).setEntry 8 (withTorn ent1 true)
     s.tk.cond = some 5 ∧ s.fld F.TK_STATUS_commit_open 0 0 = 0 ∧ s.st.builds = [] ∧ s.mode ≠ 7 ∧ DirectoryForm s ∧
     s.ed.quar.contains 7 = false ∧ s.ed.quar.contains 8 = false ∧ 7 ∉ s.ed.upset ∧ 8 ∉ s.ed.upset ∧
     entValid (s.entry 7) = true ∧ entFreeing (s.entry 7) = false ∧ entPublished (s.entry 7) = true ∧
     entTorn (s.entry 7) = false ∧ s.tk.fenced.contains (entOwner (s.entry 7)) = false ∧ entTorn (s.entry 8) = true ∧
     entValid (s.entry 8) = true) ∧
    (let s := regs [((F.TK_STATUS_commit_open, 0), 1)] { up with tk := { sim := some 9 } }
     s.tk.sim = some 9 ∧ s.fld F.TK_STATUS_commit_open 0 0 ≠ 0 ∧ s.mode ≠ 7 ∧ s.fc.keepOpen = false ∧
     (regs [((F.GLOBAL_MODE_mode, 0), 7)] s).mode = 7 ∧ ({ s with fc := { s.fc with keepOpen := true } }).fc.keepOpen = true) := by
  unfold DirectoryForm; decide

/-- Channel `c` serves logical channel `c`: its sequencer is on, and it has been trained. -/
def chOnAt (c : Nat) (s : State) : State :=
  (((s.setFld F.RG_CHMAP_state c 0 0).setFld F.RG_CHMAP_phys c 0 c).setFld F.CH_ID_state c 0 2).setFld F.PWR_DOM_powered (34 + c) 0 1
def chOn (s : State) : State := chOnAt 0 s
/-- A record's worth of bytes: tick `n` and the commit word `w`. -/
def recordIs (n w : Nat) (s : State) : State := s.worldPut (recordAddr n) 57 (leBytes 64 (n * 2 ^ 64 + w * 2 ^ 480))

/-- TickAndDirectoryControls, the tick unit: a start outside SERVE; a warm restart that finds no record, one whose newest record has a
blank slot after it, a lost list, and a good one. -/
theorem test_tick_controls_hyps :
    (up.mode ≠ 3 ∧ up.fld F.TK_WARM_busy 0 0 = 0) ∧
    (let s := regs [((F.TK_WARM_busy, 0), 1)] (chOn up)
     s.fld F.TK_WARM_busy 0 0 ≠ 0 ∧ s.newestRecord.1 = none) ∧
    (let s := recordIs 9 (commitWord 9) (regs [((F.TK_WARM_busy, 0), 1)] (chOn up))
     s.fld F.TK_WARM_busy 0 0 ≠ 0 ∧ s.newestRecord.1 = some 9 ∧ (s.newestRecord.2.ringRecord? 10).2.1 = 0 ∧
     (let u := recordIs 10 (commitWord 9) s
      u.newestRecord.1 = some 9 ∧ (u.newestRecord.2.ringRecord? 10).2.1 ≠ 0 ∧ u.ed.lost = false ∧
      ({ u with ed := { u.ed with lost := true } }).newestRecord.1 = some 9 ∧ u.fld F.TK_WARM_busy 0 0 ≠ 0)) := by decide +kernel

/-- TickAndDirectoryControls, the directory: a stale handle, one that is not torn, a torn one in SERVE and not; the largest grid in
READY, one too large. -/
theorem test_directory_controls_hyps :
    (let s := (up.setEntry 7 ent1).setEntry 8 (withTorn ent1 true)
     s.ed.upset = [] ∧ s.resolveCheck (mkHandle 9 1) = 1 ∧ s.resolveCheck h1 = 2 ∧ s.resolveCheck (mkHandle 8 (entGen ent1)) = 0 ∧ s.mode ≠ 3 ∧
     (regs [((F.GLOBAL_MODE_mode, 0), 3)] s).mode = 3 ∧
     (regs [((F.GLOBAL_MODE_mode, 0), 3)] s).resolveCheck (mkHandle 8 (entGen ent1)) = 0) ∧
    (let s := regs [((F.GLOBAL_MODE_mode, 0), 2)] up
     s.mode = 2 ∧ bitsOf 0xAA 0 4 + bitsOf 0xAA 4 4 ≤ 20 ∧ ¬ (s.mode = 2 ∧ bitsOf 0xAB 0 4 + bitsOf 0xAB 4 4 ≤ 20)) := by
  decide

/-- SnapshotSteps, the export: a start that may run, one whose MTU is one too small, one whose port is down; a running export; a round's
end with few changes and with many; a hold that has expired, and a final round that has left. -/
theorem test_export_hyps :
    (let s := regs [((F.PT_GRP_MTU_bytes, up.groupOf 0), 9000), ((F.PT_PORT_STATUS_up, 0), 1)] up
     s.snapRuns = false ∧ 9000 ≤ s.snapMtu ∧ s.fld F.PT_PORT_STATUS_up (s.fld F.SNAP_CTRL_port 0 0) 0 ≠ 0 ∧
     (regs [((F.PT_GRP_MTU_bytes, up.groupOf 0), 8999)] s).snapMtu < 9000 ∧
     (let u := regs [((F.PT_PORT_STATUS_up, 0), 0)] s
      9000 ≤ u.snapMtu ∧ u.fld F.PT_PORT_STATUS_up (u.fld F.SNAP_CTRL_port 0 0) 0 = 0)) ∧
    (let s := regs [((F.SNAP_STATUS_state, 0), 1), ((F.TK_COMMITTED_tick, 0), 9), ((F.SNAP_FINAL_indices, 0), 1)] up
     s.snapRuns = true ∧ s.fld F.SNAP_STATUS_state 0 0 = 1 ∧ s.snapSent = true ∧ s.tk.cond = none ∧
     s.fld F.TK_STATUS_commit_open 0 0 = 0 ∧ s.noneCommitted = false ∧
     s.snap.dirty.length ≤ s.fld F.SNAP_FINAL_indices 0 0 ∧
     (let u := { s with snap := { s.snap with dirty := [1, 2] } }
      u.fld F.SNAP_FINAL_indices 0 0 < u.snap.dirty.length ∧ u.drainFinal = false)) ∧
    (let s := regs [((F.SNAP_STATUS_state, 0), 3)] { up with tb := 10 ^ 9, snap := { todo := [(0, [])] } }
     s.fld F.SNAP_STATUS_state 0 0 = 3 ∧ s.snapSent = false ∧
     s.snap.holdAt + s.fld F.SNAP_HOLD_MAX_us 0 0 * 1000 < s.tb ∧
     (let u := { s with snap := { s.snap with todo := [], final := some 9 } }
      u.snapSent = true ∧ u.snap.final ≠ none)) := by decide

/-- SnapshotSteps, the restore: a start in READY with all stopped, and one with an engine running; an end with a span no channel serves. -/
theorem test_restore_hyps :
    (let s := regs [((F.GLOBAL_MODE_mode, 0), 2)] up
     s.fld F.GLOBAL_RESTORE_CTRL_busy 0 0 = 0 ∧ s.mode = 2 ∧ s.allStopped = true ∧
     (regs [((F.CE_CTRL_run, 33), 1)] s).allStopped = false) ∧
    (let s := regs [((F.GLOBAL_RESTORE_CTRL_busy, 0), 1), ((F.RG_CHMAP_state, 0), 2),
       ((F.GLOBAL_RESTORE_LEN_bytes, 0), 64)] up
     s.fld F.GLOBAL_RESTORE_CTRL_busy 0 0 ≠ 0 ∧
     (s.worldGet (s.fld F.GLOBAL_RESTORE_BASE_base 0 0 * 64) (s.fld F.GLOBAL_RESTORE_LEN_bytes 0 0) 57
       none).2.1 ≠ some .clean) := by decide

/-! ## Sessions, rounds, delta units -/

/-- Session `i` is `x`. -/
def ses1 (i : Nat) (x : Ses) (s : State) : State := s.setSess i x
def live1 : Ctx := { st := .live, gen := 1, peerPort := 7000, addr := 0xFFFF0A000001 }

/-- ContextCommands: a context to create, and each of its four fields out of bounds; a session in use, closing, and free; a
port that is there and one that is not. -/
theorem test_context_hyps :
    (let s := regs [((F.ST_CTX_INDEX_index, 0), 0x3FFFF)] up
     let c : Ctx := { ringZ := 4, ringBase := 16368, home := 31, port := 0 }
     (s.ctx (s.fld F.ST_CTX_INDEX_index 0 0)).st = .free ∧
     (let d := ctxOf ((List.range 16).map fun k => (regs (c.words.zipIdx.map fun e => ((F.ST_CTX_DATA_word, e.2), e.1)) s).fld
        F.ST_CTX_DATA_word k 0)
      d.ringZ ≤ 4 ∧ d.ringBase + 2 ^ d.ringZ ≤ 16384 ∧ d.home < logicals s.part ∧ d.port < s.ports) ∧
     4 < 5 ∧ 16384 < 16369 + 2 ^ 4 ∧ logicals s.part ≤ 32 ∧ s.ports ≤ 8) ∧
    (let s := ses1 0 { ctx := live1 } up
     s.fld F.ST_CTX_INDEX_index 0 0 = 0 ∧ (s.ctx 0).st ≠ .free ∧ (s.ctx 0).st ≠ .closing ∧ 0 < s.ports ∧ 0 ∉ s.st.upset ∧
     0 ∈ ({ s with st := { s.st with upset := [0] } }).st.upset) ∧
    ((ses1 0 { ctx := { live1 with st := .closing } } up).ctx 0).st = .closing ∧
    (up.fld F.ST_CTX_INDEX_index 0 0 = 0 ∧ (up.ctx 0).st = .free) := by decide

/-- SessionLifetime: a closing session with nothing under way; a pop of one event and of none; a due sweep over a session that
was heard and one that was not. -/
theorem test_lifetime_hyps :
    (let s := ses1 0x3FFFF { ctx := { live1 with st := .closing } } up
     (s.ctx 0x3FFFF).st = .closing ∧ s.sesBusy 0x3FFFF = false ∧ s.st.fwEv.length < 1024 ∧ s.st.fwEv = []) ∧
    ({ up with st := { up.st with fwEv := [(0x4001, 2, 6)] } }).st.fwEv = [(0x4001, 2, 6)] ∧
    (let s := regs [((F.ST_AGE_close, 0), 63), ((F.ST_AGE_quiet, 0), 10)] (ses1 1 { ctx := { live1 with heard := true, age := 5 } }
       (ses1 0 { ctx := { live1 with age := 8 } } { up with tb := 10 ^ 13 }))
     s.mode ≠ 7 ∧ s.st.lastSweep + s.fld F.ST_AGE_period_ms 0 0 * 1000000 ≤ s.tb ∧ (s.ses.map (·.1)).Nodup ∧
     s.st.upset = [] ∧ (s.ctx 1).st ≠ .free ∧ (s.ctx 0).st ≠ .free ∧ (s.ctx 1).heard = true ∧ (s.ctx 0).heard = false ∧
     min 63 ((s.ctx 0).age + 1) < s.fld F.ST_AGE_close 0 0 ∧ min 63 ((s.ctx 0).age + 1) < s.fld F.ST_AGE_quiet 0 0) := by decide

/-- RoundSteps: a due slot of a live session; a finished build that fits; a packet that may go. -/
theorem test_round_hyps :
    (let s := regs [((F.GLOBAL_MODE_mode, 0), 3), ((F.PT_PORT_STATUS_dist, 0), 1), ((F.PWR_DOM_powered, 77), 1),
        ((F.TK_COMMITTED_tick, 0), 9)]
       (ses1 0 { ctx := live1 } { up with tb := 1000, st := { up.st with slots := [⟨1, 9, 1000, 16000000⟩] } })
     s.dueSlot 0 = some ⟨1, 9, 1000, 16000000⟩ ∧ s.canBuild 0 = true ∧ 0 ∉ s.st.upset) ∧
    (let b : Build := { du := 0, ses := 0, slot := 1, tick := 9, opens := 0, closes := 10, delta := 0, dgrams := [(3, [])], chans := [],
                        since := 0, per := 16 }
     let s := ses1 0 { ctx := live1 } { up with st := { up.st with builds := [b] } }
     s.st.builds.find? (fun b => b.ses == 0) = some b ∧
     s.queued (s.duOf 0 / 2) + (b.dgrams.map fun d => d.2.length + 32).sum ≤ 2 ^ 20 ∧
     (let u := ses1 0 { ctx := { live1 with st := .closing } } s
      (u.ctx 0).st ≠ .live ∧ u.st.builds.find? (fun b => b.ses == 0) = some b)) ∧
    (let p : Pkt := { lane := 0, q := 0, port := 0, bytes := List.replicate 60 0 }
     let s := regs [((F.LN_STATUS_up, 0), 1), ((F.PT_PORT_STATUS_up, 0), 1), ((F.PWR_DOM_powered, 68), 1)]
       { up with pt := { up.pt with egress := [p] } }
     s.nextPkt 0 = some p ∧ p.port < 8 ∧ s.NothingWaits) :=
  ⟨by decide, by decide, by decide, by decide, by decide, by decide, fun _ h => (List.not_mem_nil h).elim⟩

/-- DeltaUnits: a near read newly seen and gone; a build open too long; a pending and an absent encoder field; a join pass
whose last datagram alone is left. -/
theorem test_delta_hyps :
    (let b : Build := { du := 0, ses := 0, slot := 1, tick := 9, opens := 0, closes := 10, delta := 0, dgrams := [], chans := [33],
                        since := 0, per := 16 }
     let s := ses1 0 { ctx := live1 } { up with st := { up.st with builds := [b] } }
     bitOf (s.chan 33).panicDus 0 = false ∧ s.duNear 0 33 = true ∧
     s.st.builds.find? (fun b => b.ses == 0) = some b ∧ b.since + b.per < ({ s with tb := 17 }).tb) ∧
    (let s := up.setChan 33 { up.chan 33 with panicDus := 2 ^ 15 }
     bitOf (s.chan 33).panicDus 15 = true ∧ s.duNear 15 33 = false ∧ (s.chan 33).panicDus = 2 ^ 15) ∧
    smapFind (up.setShd F.DU_ENC_scale 15 62 5).shadow (fldKey F.DU_ENC_scale 15 62) = some 5 ∧
    smapFind up.shadow (fldKey F.DU_ENC_scale 15 62) = none ∧
    (let s := ses1 5 { ctx := { live1 with ctr := 7 }, join := some { k0 := some 9, last := [1] } } up
     (s.sess 5).join = some { k0 := some 9, last := [1] } ∧ ({ k0 := some 9, last := [1] } : JoinSt).ended = false ∧ (∀ p ∈ s.pt.egress, ¬ (p.ses = some 5 ∧ p.q = 2)) ∧
     (s.ctx 5).ctr + 1 < 2 ^ 31 - 1 ∧ ({ k0 := some 9, last := [1] } : JoinSt).todo = [] ∧
     s.laneRoom (s.laneOfSes 5) (1 + 32) = true) := by decide

/-! ## A world datagram, and the crypto's own vectors -/

/-- RFC 3394, 4.1: a 128-bit key wrapped under a 128-bit key. -/
theorem test_rfc3394 : keyUnwrap (List.range 16)
    [0x1F, 0xA6, 0x8B, 0x0A, 0x81, 0x12, 0xB4, 0x47, 0xAE, 0xF3, 0x4B, 0xD8, 0xFB, 0x5A, 0x7B, 0x82, 0x9D, 0x3E, 0x86, 0x23,
     0x71, 0xD2, 0xCF, 0xE5] = some ((List.range 16).map (· * 17)) := by decide +kernel
/-- The key-encryption key of a management key of bytes 0 to 31 and nonce 0 (R192), and a 256-bit key wrapped under it. -/
def kek256 : List Nat := beBytes 32 0x0D2C726BA166E8AB6B74CF2EA0DC32909511BD348038624E8B5943D0AFBA0C0E
def key256 : List Nat := (List.range 16).map (fun k => k * 17) ++ List.range 16
def wrapped256 : List Nat :=
  [0x59, 0xB0, 0x1C, 0x3D, 0x1C, 0xC0, 0xE0, 0x11, 0x22, 0xB4, 0x3D, 0xE5, 0x65, 0xFC, 0x89, 0x0F, 0xC0, 0xAC, 0xEA, 0x04,
   0x09, 0x61, 0xB6, 0x11, 0xAC, 0x93, 0xC0, 0x66, 0xAC, 0x8A, 0xE5, 0xFC, 0xFA, 0x23, 0x13, 0x07, 0x37, 0xD7, 0x61, 0xB6]
theorem test_key_unwrap : keyUnwrap kek256 wrapped256 = some key256 := by decide +kernel
/-- The GCM specification's test case 1: a zero key, a zero nonce, nothing to seal. -/
theorem test_gcm : gcmSeal (List.replicate 16 0) (List.replicate 12 0) [] [] =
    [0x58, 0xE2, 0xFC, 0xCE, 0xFA, 0x7E, 0x30, 0x61, 0x36, 0x7F, 0x1D, 0x57, 0xA4, 0xE7, 0x45, 0x5A] := by decide +kernel
/-- The check values of the two CRCs over "123456789", and FIPS 180-4's SHA-256 of "abc". -/
theorem test_crcs : crc32c (List.range' 49 9) = 0xE3069283 ∧ crcEth ((List.range' 49 9).map (BitVec.ofNat 8)) = 0xCBF43926 := by
  decide +kernel
theorem test_sha256 : beNat (sha256 [0x61, 0x62, 0x63]) =
    0xBA7816BF8F01CFEA414140DE5DAE2223B00361A396177A9CB410FF61F20015AD := by decide +kernel

/-- A client datagram with no record that acknowledges no tick: handle 0x4001, counter 0, and the tag under `key256`. -/
def dgram : List Byte := ofNats ([1, 0, 0xFF, 0xFF, 1, 0x40, 0, 0, 0, 0, 0, 0, 0, 0, 0, 0] ++
  [47, 65, 37, 48, 209, 95, 20, 241, 155, 180, 16, 165, 127, 106, 167, 239])
/-- Session 1, live, its key wrapped in memory. -/
def keyed : State :=
  let s := ses1 1 { ctx := { live1 with aes256 := true } } (regs [((F.ST_CTRL_enable, 0), 1), ((F.PWR_DOM_powered, 97), 1),
    ((F.CH_ID_state, 1), 2), ((F.PWR_DOM_powered, 35), 1), ((F.RG_CHMAP_state, 1), 0), ((F.RG_CHMAP_phys, 1), 1)]
    { up with st := { up.st with kek := ofNats kek256 } })
  s.worldPut (s.keyRec 1) 56 (ofNats wrapped256)
theorem test_keyed_record : toNats (keyed.worldGet (keyed.keyRec 1) 40 56 (some 2)).1 = wrapped256 ∧
    (keyed.worldGet (keyed.keyRec 1) 40 56 (some 2)).2.1 = some .clean ∧ keyed.keyCached 1 (keyed.firstLane 0) = none ∧
    toNats keyed.st.kek = kek256 ∧ (keyed.ctx 1).aes256 = true := by decide +kernel
theorem test_keyed : (keyed.sesKey 1 (keyed.firstLane 0) 2 none).1 = some key256 := by
  obtain ⟨h1, h2, h3, h4, h5⟩ := test_keyed_record
  unfold State.sesKey
  simp only [h2, h3, h5]
  rw [h1, h4, test_key_unwrap]
  simp only [if_true]
/-- WorldDatagram: too short and the wrong version; a free session, a wrong generation, a closing one; one that passes. -/
theorem test_world_hyps :
    (keyed.fld F.ST_CTRL_enable 0 0 ≠ 0 ∧ keyed.mode ≠ 7 ∧ (dgram.take 31).length < 32 ∧ leNat (dgram.take 1) = 1 ∧
      32 ≤ dgram.length ∧ leNat ((dgram.drop 12).take 4) < 2 ^ 31 ∧ leNat ((dgram.drop 4).take 4) = 0x4001) ∧
    1 ∉ keyed.st.upset ∧ (up.ctx 1).st = .free ∧ (keyed.ctx 1).gen ≠ 0x4002 % 2 ^ 14 ∧ (keyed.ctx 1).gen = 0x4001 % 2 ^ 14 ∧
    keyed.stOn 1 = true ∧ (keyed.ctx 1).st = .live ∧
    ((ses1 1 { ctx := { live1 with st := .closing } } keyed).ctx 1).st = .closing ∧
    keyed.groupOf 0 = keyed.groupOf (keyed.ctx 1).port ∧ (keyed.ctx 1).addr = (0xFFFF0A000001#128).toNat ∧
    (keyed.ctx 1).peerPort = (7000#16).toNat ∧
    replayStep (keyed.sess 1).anyRx (keyed.ctx 1).high (keyed.ctx 1).replay 0 ≠ none ∧
    leNat (((dgram.take 16).drop 2).take 2) = 0xFFFF := by decide +kernel
theorem test_world_tag : gcmOpen key256 (toNats ((dgram.take 16).drop 4)) (toNats (dgram.take 16))
    (toNats ((dgram.drop 16).take ((dgram.drop 16).length - 16))) (toNats ((dgram.drop 16).drop ((dgram.drop 16).length - 16))) =
    some [] := by decide +kernel

/-! ## Lanes, ports, the timebase -/

/-- LaneControl: lane 7, ready to come up with its port enabled; up; disabled; in pattern mode with lock and without, and manual
slips up to the bound and past it. -/
theorem test_lane_hyps :
    (let s := regs [((F.PWR_DOM_powered, 75), 1), ((F.LN_CTRL_enable, 7), 1), ((F.LN_PAT_CTRL_mode, 7), 0),
       ((F.LN_STATUS_retired, 7), 0), ((F.LN_ALIGN_manual, 7), 0), ((F.PT_PORT_GRP_enable, 7), 1), ((F.PT_CFG_mode, 0), 0)] up
     let e := regs [((F.LN_CTRL_enable, 7), 0)] s
     s.laneOn 7 = true ∧ s.fld F.LN_CTRL_enable 7 0 ≠ 0 ∧ s.fld F.LN_STATUS_retired 7 0 = 0 ∧
     s.fld F.LN_ALIGN_manual 7 0 = 0 ∧ s.fld F.LN_PAT_CTRL_mode 7 0 = 0 ∧ s.pwr.tripped = false ∧
     s.portPresent (s.portOf 7) = true ∧ s.fld F.PT_PORT_GRP_enable (s.portOf 7) 0 ≠ 0 ∧
     (∀ k ∈ s.lanesOf (s.portOf 7), k ≠ 7 → s.fld F.LN_STATUS_up k 0 ≠ 0) ∧ s.inReset = false ∧
     (let u := regs [((F.LN_STATUS_up, 7), 1), ((F.LN_STATUS_up, 8), 1)] s
      u.laneOn 7 = true ∧ u.fld F.LN_STATUS_up 7 0 ≠ 0 ∧ u.fld F.LN_STATUS_up 8 0 ≠ 0) ∧
     s.txOn 7 = true ∧ (e.txOn 7 = false ∧ e.fld F.LN_STATUS_retired 7 0 = 0 ∧ e.fld F.LN_CTRL_enable 7 0 = 0 ∧ e.mode ≠ 1 ∧
      (regs [((F.GLOBAL_MODE_mode, 0), 1)] e).mode = 1) ∧
     (let u := regs [((F.PT_PORT_GRP_enable, 7), 0)] s
      u.fld F.PT_PORT_GRP_enable (u.portOf 7) 0 = 0 ∧ u.fld F.LN_PAT_CTRL_mode 7 0 = 0 ∧ u.fld F.LN_CTRL_enable 7 0 ≠ 0 ∧
      (let v := regs [((F.LN_PAT_CTRL_mode, 7), 1)] u
       v.fld F.PT_PORT_GRP_enable (v.portOf 7) 0 = 0 ∧ v.fld F.LN_PAT_CTRL_mode 7 0 ≠ 0 ∧ v.fld F.LN_CTRL_enable 7 0 ≠ 0 ∧
       v.fld F.LN_PAT_STATUS_lock 7 0 = 0)) ∧
     (let u := regs [((F.LN_PAT_CTRL_mode, 7), 1), ((F.LN_PAT_STATUS_lock, 7), 1), ((F.LN_ALIGN_manual, 7), 1)] s
      u.fld F.LN_PAT_CTRL_mode 7 0 ≠ 0 ∧ u.fld F.LN_PAT_STATUS_lock 7 0 ≠ 0 ∧ u.fld F.LN_ALIGN_manual 7 0 ≠ 0 ∧
      u.slipsLeft 7 + (15#4).toNat ≤ 15 ∧
      (let v := { u with pt := { u.pt with slips := [(7, (u.tb, 1))] } }
       15 < v.slipsLeft 7 + (15#4).toNat ∧ v.slipsLeft 7 + (14#4).toNat ≤ 15))) := by decide

/-- LaneControl, training: expert and idle, with a preset at each bound; busy; basic; a command under way. -/
theorem test_training_hyps :
    let s := regs [((F.PWR_DOM_powered, 75), 1)] { up with pt := { up.pt with level := [(7, 1)] } }
    s.laneOn 7 = true ∧ s.fld F.LN_TRAIN_CMD_busy 7 0 = 0 ∧ smapGet 0 s.pt.level 7 ≠ 0 ∧
    (1 ≤ (1#4).toNat ∧ (5#4).toNat ≤ 5 ∧ 5 < (6#4).toNat) ∧
    (regs [((F.LN_TRAIN_CMD_busy, 7), 1)] s).fld F.LN_TRAIN_CMD_busy 7 0 ≠ 0 ∧ smapGet 0 up.pt.level 7 = 0 ∧
    smapFind ({ s with pt := { s.pt with trainOp := [(7, 3)] } }).pt.trainOp 7 = some 3 := by decide

def withFcs (bs : List Byte) : List Byte := bs ++ leBytes 4 (crcEth bs)
/-- An ARP frame to all, and an IPv4 UDP frame from 10.0.0.1, port 7000, to 10.0.0.2, port 0x1234, with 18 bytes. -/
def arpFrame : List Byte := List.replicate 6 0xFF ++ bytesOf [2, 0, 0, 0, 0, 1, 8, 6] ++ List.replicate 46 0
def udpFrame : List Byte := List.replicate 6 0xFF ++ bytesOf [2, 0, 0, 0, 0, 1, 8, 0] ++
  bytesOf [0x45, 0, 0, 46, 0, 0, 0, 0, 0x40, 17, 0x66, 0xBD, 10, 0, 0, 1, 10, 0, 0, 2] ++
  bytesOf [0x1B, 0x58, 0x12, 0x34, 0, 26, 0, 0] ++ List.replicate 18 0
/-- A PAUSE frame. -/
def pauseFrame : List Byte := bytesOf [1, 0x80, 0xC2, 0, 0, 1, 2, 0, 0, 0, 0, 1, 0x88, 8, 0, 1] ++ List.replicate 44 0
def port0 : State := regs [((F.PWR_DOM_powered, 68), 1), ((F.PT_PORT_STATUS_up, 0), 1), ((F.PT_PORT_GRP_enable, 0), 1),
  ((F.PT_PORT_CTRL_untagged, 0), 1), ((F.ST_WORLD_PORT_port, 0), 0x1234), ((F.PT_GRP_IPV4_addr, up.groupOf 0), 0x0A000002)] up
/-- PortsAndFrames: the configuration with every lane disabled and with one enabled; a port that may enter distribution;
frames too short, too long, with a bad FCS, PAUSE, refused by the parser, for firmware and past its policer or its buffer, and for
the sessions; a frame to send at each bound of its length; a timestamp. -/
theorem test_ports_hyps :
    ((∀ l, l < lanes up.part → up.fld F.LN_CTRL_enable l 0 = 0) ∧ (2#32).toNat % 4 ≠ 3 ∧ 7 < lanes up.part ∧
      (regs [((F.LN_CTRL_enable, 7), 1)] up).fld F.LN_CTRL_enable 7 0 ≠ 0) ∧
    (port0.portPresent 0 = true ∧ port0.fld F.PT_PORT_STATUS_up 0 0 ≠ 0 ∧ port0.fld F.PT_PORT_GRP_enable 0 0 ≠ 0 ∧
      ∀ q ∈ port0.members? (port0.groupOf 0), port0.sameVlan 0 q = true) ∧
    (let u := (port0.addFld F.PT_CNT_RXFRM_count 0 0 1).addFld F.PT_CNT_RXBYTE_count 0 0 64
     port0.laneOn 0 = true ∧ port0.portOf 0 = 0 ∧ port0.fld F.PT_PORT_STATUS_up 0 0 ≠ 0 ∧ port0.mode ≠ 7 ∧
     (withFcs arpFrame).length = 64 ∧ (withFcs udpFrame).length = 64 ∧
     64 ≤ clampNat 576 9194 (port0.fld F.PT_GRP_MTU_bytes (port0.groupOf 0) 0) + 22 ∧
     leNat ((withFcs arpFrame).drop 60) = crcEth ((withFcs arpFrame).take 60) ∧
     leNat ((withFcs udpFrame).drop 60) = crcEth ((withFcs udpFrame).take 60) ∧
     leNat ((arpFrame ++ [0, 0, 0, 0]).drop 60) ≠ crcEth arpFrame ∧
     flowControl arpFrame = false ∧ flowControl udpFrame = false ∧
     u.parse 0 arpFrame = .ok .firmware ∧ u.fwRoom (u.firstLane 0) 60 = true ∧ u.policeLack 0 + 1000000 ≤ 64000000 ∧
     (let f := { u with pt := { u.pt with fwRx := [(0, List.replicate 64 ([], 0, 0))] } }
      f.parse 0 arpFrame = .ok .firmware ∧ f.fwRoom (f.firstLane 0) 60 = false) ∧
     (let q := { u with pt := { u.pt with police := [(0, (u.tb, 64000000))] } }
      64000000 < q.policeLack 0 + 1000000 ∧ q.parse 0 arpFrame = .ok .firmware) ∧
     (withFcs pauseFrame).length = 64 ∧ leNat ((withFcs pauseFrame).drop 60) = crcEth ((withFcs pauseFrame).take 60) ∧
     flowControl pauseFrame = true ∧
     clampNat 576 9194 (port0.fld F.PT_GRP_MTU_bytes (port0.groupOf 0) 0) + 22 < 1523 ∧ (1523 : Nat) ≤ 9216 ∧
     u.parse 0 udpFrame = .ok .world ∧
     (u.setFld F.PT_PORT_CTRL_untagged 0 0 0).parse 0 udpFrame = .error 2) ∧
    (let v : Word32 := 0x800023FC
     v.getLsbD 31 = true ∧ bitsOf v.toNat 0 14 = 9212 ∧ port0.portPresent (bitsOf v.toNat 14 3) = true ∧
     port0.queued (port0.firstLane 0) + 9212 ≤ 1048576 ∧ bitsOf (0x8000003C#32).toNat 0 14 = 60) ∧
    (let s := { up with pt := { up.pt with txTs := [(5, 6, 7)] } }
     s.pt.txTs = [(5, 6, 7)] ∧ smapFind s.holdRd (pathKey .mgmt) = none) := by decide +kernel

/-- TimebaseSteps: steps back in SERVE, out of range and in range; no slew left; a second's edge with the output on; a pulse in;
a clock not yet lost, and the part without one of them. -/
theorem test_timebase_hyps :
    ((regs [((F.GLOBAL_MODE_mode, 0), 3)] up).mode = 3 ∧ (-1#64).toInt < 0) ∧ up.mode ≠ 3 ∧
    ((up.tb : Int) + (-1#64).toInt < 0 ∧ 0 ≤ (5#64).toInt ∧
      (2 : Int) ^ 64 ≤ (({ up with tb := 2 ^ 64 - 1 }).tb : Int) + (5#64).toInt ∧ (up.tb : Int) + (5#64).toInt < 2 ^ 64) ∧
    up.slewLeft = 0 ∧
    (let s := regs [((F.TB_PPS_out_en, 0), 1)] { up with tb := 3000000000, ppsLast := some 2000000000 }
     s.fld F.TB_PPS_out_en 0 0 ≠ 0 ∧ s.tb % 1000000000 = 0 ∧ s.pwr.tripped = false ∧
     (∀ u, s.ppsLast = some u → u + 500000000 ≤ s.tb)) ∧
    (∀ c : Refclk, up.clkLost.contains (clkCode c) = false) ∧ up.inReset = false ∧ up.part ≠ .tkw3209 ∧
    ({ up with part := .tkw3209 }).part = .tkw3209 := by
  refine ⟨by decide, by decide, by decide, by decide, ⟨by decide, by decide, by decide, ?_⟩, ?_, by decide⟩
  · intro u h; cases h; decide
  · intro c; cases c <;> decide

/-- TimebaseSteps, the cycle: the stack in reset; an idle stack with no slew left, nothing that waits and a count within 64 bits. -/
theorem test_cycle_hyps : (State.reset.pending = [] ∧ State.reset.inReset = true) ∧ up.pending = [] ∧ up.inReset = false ∧
    up.slewLeft = 0 ∧ up.pm.staging = [] ∧ up.NothingWaits ∧ (∀ e ∈ up.ses, ∀ j, e.2.join = some j → j.due = false) ∧
    up.tb * 2 ^ 32 + up.tbFrac + up.fld F.TB_INCR_incr 0 0 < 2 ^ 96 :=
  ⟨by decide, rfl, rfl, rfl, rfl, ⟨rfl, rfl, fun _ h => (List.not_mem_nil h).elim⟩, fun _ h => (List.not_mem_nil h).elim, by decide⟩

/-! ## The management port -/

def mgKeyB : List Byte := ofNats (List.range 32)
/-- A frame of command `code` with argument `arg`, sequence 1, as the host signs it (R190, R193). -/
def bare (code flags : Nat) (arg : List Byte) : Frame :=
  { transport := .ether, srcMac := 2, broadcast := false, dstMac := 0, etherType := 0x88B5, dstIp := 0, dstPort := 0,
    len := 60 + arg.length, version := 1, flags := BitVec.ofNat 8 flags,
    code := BitVec.ofNat 8 code, status := 0, a := BitVec.ofNat 16 arg.length, rsvd := 0, seq := 1, nonce := 0, arg := arg,
    crc := 0, hmac := 0 }
def crced (code flags : Nat) (arg : List Byte) : Frame :=
  { bare code flags arg with crc := BitVec.ofNat 32 (crc32c (toNats (frameHead code (bare code flags arg)))) }
def frm (code flags : Nat) (arg : List Byte) : Frame :=
  { crced code flags arg with hmac := BitVec.ofNat 256 (beNat (hmac256 (toNats mgKeyB)
      (toNats (frameHead code (crced code flags arg) ++ leBytes 4 (crced code flags arg).crc.toNat)))) }

theorem toNats_small (bs : List Byte) : ∀ b ∈ toNats bs, b < 2 ^ 32 := by
  intro b hb
  obtain ⟨x, -, rfl⟩ := List.mem_map.1 hb
  exact lt_of_lt_of_le x.isLt (by decide)
theorem frm_good (code flags : Nat) (arg : List Byte) (h : arg.length ≤ 1280) : frameBad code (frm code flags arg) = none := by
  have ha : (frm code flags arg).a.toNat = arg.length := by
    show (BitVec.ofNat 16 arg.length).toNat = _
    rw [BitVec.toNat_ofNat]; omega
  have hc : (frm code flags arg).crc.toNat = crc32c (toNats (frameHead code (frm code flags arg))) := by
    show (BitVec.ofNat 32 (crc32c (toNats (frameHead code (bare code flags arg))))).toNat = _
    rw [BitVec.toNat_ofNat]
    exact Nat.mod_eq_of_lt (crc32c_lt (toNats_small _))
  have hl : (frm code flags arg).len = 60 + arg.length := rfl
  unfold frameBad
  rw [hc, ha, hl, if_neg (by omega), if_neg (by simp), if_neg (by simp [frm, crced, bare])]
theorem frm_signed (code flags : Nat) (arg : List Byte) (s : State) (hf : unauth (frm code flags arg) = false)
    (hk : s.mgKey = some mgKeyB) (hn : s.fld F.MG_NONCE_nonce 0 0 = 0) (hq : s.fld F.MG_SEQ_seq 0 0 = 0) :
    s.authentic code (frm code flags arg) = true := by
  unfold State.authentic
  rw [hf, hk, hn, hq]
  have hh : (frm code flags arg).hmac.toNat = beNat (hmac256 (toNats mgKeyB)
      (toNats (frameHead code (frm code flags arg) ++ leBytes 4 (frm code flags arg).crc.toNat))) := by
    show (BitVec.ofNat 256 _).toNat = _
    rw [BitVec.toNat_ofNat]
    exact Nat.mod_eq_of_lt (hmac256_lt _ _)
  simp only [hh, Bool.false_eq_true, if_false, beq_self_eq_true, Bool.true_and]
  rfl

def acceptsB (s : State) (c : Cmd) (flags : Nat) (arg : List Byte) (late : State → Option Nat) : Bool :=
  decide (arg.length ≤ 1280) && s.arrives (frm c.code flags arg) (c.code == 1) && !s.behindSlot &&
  (if unauth (frm c.code flags arg) then c.code == 1 || c.code == 2
   else s.mgKey == some mgKeyB && s.fld F.MG_NONCE_nonce 0 0 == 0 && s.fld F.MG_SEQ_seq 0 0 == 0) &&
  (s.consume (frm c.code flags arg)).cmdBad c (frm c.code flags arg) == none &&
  late (s.consume (frm c.code flags arg)) == none
theorem acceptsB_sound {s : State} {c : Cmd} {flags : Nat} {arg : List Byte} {late : State → Option Nat}
    (h : acceptsB s c flags arg late = true) : Accepts s c (frm c.code flags arg) late := by
  simp only [acceptsB, Bool.and_eq_true, decide_eq_true_eq, beq_iff_eq, Bool.not_eq_true'] at h
  obtain ⟨⟨⟨⟨⟨h1, h2⟩, h6⟩, h3⟩, h4⟩, h5⟩ := h
  refine ⟨h2, h6, frm_good _ _ _ h1, ?_, h4, h5⟩
  by_cases hu : unauth (frm c.code flags arg) = true
  · rw [if_pos hu] at h3
    unfold State.authentic
    rw [if_pos hu]
    exact h3
  · rw [if_neg hu] at h3
    simp only [Bool.and_eq_true, beq_iff_eq] at h3
    exact frm_signed _ _ _ _ (by simpa using hu) h3.1.1 h3.1.2 h3.2

/-- The stack in mode `m`, firmware running, channel 0 serving logical channel 0, one management key. -/
def mg (m : Nat) : State := regs [((F.LN_STATUS_up, 8), 1), ((F.GLOBAL_MODE_mode, 0), m), ((F.MG_NONCE_nonce, 0), 0),
  ((F.GLOBAL_BOOT_fw_running, 0), 1), ((F.RG_CHMAP_state, 0), 0), ((F.RG_CHMAP_phys, 0), 0), ((F.CH_ID_state, 0), 2),
  ((F.GLOBAL_BOOT_boot_sel, 0), 1), ((F.PWR_DOM_powered, 34), 1), ((F.PWR_DOM_powered, 97), 1)]
    { up with nv := { up.nv with keys := [(0, mgKeyB)] } }
/-- The stack with `m` in its management port. -/
def withMg (s : State) (f : Mg → Mg) : State := { s with mg := f s.mg }

/-- ManagementRefusals: a frame too short, one not signed where no key is, one whose argument is too long; a full queue; bad
frames of each kind; a frame to another address, frames held behind a command and one too many; an ARP request. -/
theorem test_mg_refusals :
    MgCommand .identify identifyCmd ∧
    (mg 2).arrives { frm 1 0 [] with dstMac := 5 } true = false ∧
    (let w : SlotWait := ⟨frm 9 0 [], 9, 0, 0, [], []⟩
     let s := withMg (mg 2) fun m => { m with slotWaits := [w] }
     let u := withMg s fun m => { m with waitFrames := List.replicate 8 (1, frm 1 0 []) }
     s.behindSlot = true ∧ s.framesHeld < 8 ∧ s.arrives (frm 1 0 []) true = true ∧ u.behindSlot = true ∧ 8 ≤ u.framesHeld ∧
     (mg 2).behindSlot = false) ∧
    (regs [((F.MG_IPV4_addr, 0), 0x0A000002)] (mg 2)).arpAsked
      { bare 1 0 [] with transport := .udp 0x0A000001 0, etherType := 0x0806, dstIp := 0x0A000002 } = true ∧
    (let f := { frm 1 0 [] with len := 59 }
     (mg 2).arrives f (identifyCmd.code == 1) = true ∧ frameBad 1 f = some 0x12 ∧ (mg 2).arrives f (f.code == 1) = true ∧
     (mg 2).arrives f false = true) ∧
    (let s := { mg 2 with nv := up.nv }
     s.arrives (frm 1 0 []) true = true ∧ s.authentic 1 (frm 1 0 []) = false ∧
     s.arrives (frm 0xFF 0 []) false = true ∧ s.authentic 0xFF (frm 0xFF 0 []) = false) ∧
    frameBad 1 (frm 1 0 []) = none ∧ frameBad 0xFF (frm 0xFF 0 []) = none ∧
    ((mg 2).arrives (frm 1 4 [0]) true = true ∧ frameBad 1 (frm 1 4 [0]) = none ∧ (mg 2).authentic 1 (frm 1 4 [0]) = true ∧
      ((mg 2).consume (frm 1 4 [0])).cmdBad identifyCmd (frm 1 4 [0]) = some 0x12) ∧
    ((mg 2).authentic 0xFF (frm 0xFF 0 []) = true ∧ codeDefined 0xFF = false) := by
  refine ⟨by simp [MgCommand], by decide +kernel, by decide +kernel, by decide +kernel, by decide +kernel,
    by decide +kernel, frm_good _ _ _ (by decide), frm_good _ _ _ (by decide),
    ⟨by decide +kernel, frm_good _ _ _ (by decide), by decide +kernel, by decide +kernel⟩, ?_, by decide⟩
  exact frm_signed _ _ _ _ (by decide +kernel) (by decide +kernel) (by decide +kernel) (by decide +kernel)

/-- Words of an argument. -/
def w4 (v : Nat) : List Byte := leBytes 4 v
/-- RegisterMemorySessionCommands, registers and memory: reads, writes that are taken and refused, clean and poisoned granules. -/
theorem test_mg_register_hyps :
    Accepts (mg 2) regReadCmd (frm 8 0 (w4 0 ++ [1, 0, 0, 0])) noLate ∧
    (Accepts (mg 2) regWriteCmd (frm 9 0 (w4 0 ++ [1, 0, 0, 0] ++ w4 7)) noLate ∧ (regPuts [7] 0 (mg 2)).1 = .done) ∧
    (Accepts (mg 2) regWriteCmd (frm 9 0 (w4 0x40594 ++ [1, 0, 0, 0] ++ w4 0)) noLate ∧ (regPuts [0] 0x40594 (mg 2)).1 = .refused) ∧
    (Accepts (mg 2) regModifyCmd (frm 10 0 (w4 0 ++ w4 1 ++ w4 1)) noLate ∧ (regPuts [1] 0 (mg 2)).1 = .done) ∧
    (Accepts (mg 2) regModifyCmd (frm 10 0 (w4 0x40594 ++ w4 0xFFFFFFFF ++ w4 0)) noLate ∧
      (regPuts [0] 0x40594 (mg 2)).1 = .refused) ∧
    (let s := regs [((F.CH_ID_state, 0), 2), ((F.PWR_DOM_powered, 34), 1)] (mg 2)
     Accepts s regWriteCmd (frm 9 0 (w4 0x1000020 ++ [2, 0, 0, 0] ++ w4 1 ++ w4 5)) noLate ∧
     (regPuts [1, 5] 0x1000020 s).1 = .waits 0 0x1000024 [5] ∧
     Accepts s regModifyCmd (frm 10 0 (w4 0x1000020 ++ w4 1 ++ w4 1)) noLate ∧
     (regPuts [1] 0x1000020 s).1 = .waits 0 0x1000024 []) ∧
    (Accepts (mg 2) memReadCmd (frm 0x20 0 (leBytes 8 0 ++ [8, 0] ++ leBytes 6 0)) noLate ∧
      (memBytes 2 (mg 2) 0 0 8 []).1 = .ok (List.replicate 8 0) ∧
      (memBytes 2 ((mg 2).storePoison 0 0 []) 0 0 8 []).1 = .error 0) ∧
    (Accepts (mg 2) memWriteCmd (frm 0x21 0 (leBytes 8 0 ++ [8, 0] ++ leBytes 6 0 ++ leBytes 8 5)) noLate ∧
      (memPuts (granPieces 2 0 (leBytes 8 5)) 0 (mg 2) none).1 = none ∧
      (memPuts (granPieces 2 0 (leBytes 8 5)) 0 ((mg 2).storePoison 0 0 []) none).1 = some 0) :=
  ⟨acceptsB_sound (by decide +kernel), ⟨acceptsB_sound (by decide +kernel), by decide +kernel⟩,
   ⟨acceptsB_sound (by decide +kernel), by decide +kernel⟩, ⟨acceptsB_sound (by decide +kernel), by decide +kernel⟩,
   ⟨acceptsB_sound (by decide +kernel), by decide +kernel⟩,
   ⟨acceptsB_sound (by decide +kernel), by decide +kernel, acceptsB_sound (by decide +kernel), by decide +kernel⟩,
   ⟨acceptsB_sound (by decide +kernel), by decide +kernel, by decide +kernel⟩,
   acceptsB_sound (by decide +kernel), by decide +kernel, by decide +kernel⟩

theorem test_kek : (mg 2).kek = kek256 := by decide +kernel
/-- A wrapped key in an argument is unwrapped. -/
theorem unwraps (s : State) (code o : Nat) (arg : List Byte) (hk : s.kek = kek256) (h : toNats (arg.drop o) = wrapped256) :
    s.unwrap (frm code 0 arg) o = some (ofNats key256) := by
  unfold State.unwrap
  rw [hk, show toNats ((frm code 0 arg).arg.drop o) = wrapped256 from h, test_key_unwrap]
  rfl
theorem kek_of {s t : State} (h : s.kek = kek256) (h1 : t.mgKey = s.mgKey)
    (h2 : t.fld F.MG_NONCE_nonce 0 0 = s.fld F.MG_NONCE_nonce 0 0) : t.kek = kek256 := by
  rw [← h]; unfold State.kek; rw [h1, h2]
theorem kek_consume {s : State} (f : Frame) (h : s.kek = kek256) : (s.consume f).kek = kek256 := by
  unfold State.consume
  split
  · exact h
  · exact kek_of h rfl (State.fld_setFld_ne _ _ _ _ _ _ _ _ (by decide))
theorem accepts_wrapped {s : State} {c : Cmd} {arg : List Byte} {o : Nat} (h : acceptsB s c 0 arg noLate = true)
    (hu : ((s.consume (frm c.code 0 arg)).unwrap (frm c.code 0 arg) o).isSome = true) :
    Accepts s c (frm c.code 0 arg) (fun s => s.wrapBad (frm c.code 0 arg) o) := by
  obtain ⟨h1, h2, h3, h4, h5, -⟩ := acceptsB_sound h
  refine ⟨h1, h2, h3, h4, h5, ?_⟩
  show (if ((s.consume (frm c.code 0 arg)).unwrap (frm c.code 0 arg) o).isNone then some 0x14 else none) = none
  rw [← Option.not_isSome, hu]
  rfl

/-- KeyEventAndImageCommands, keys and events, in the statement's order. -/
theorem test_mg_key_hyps :
    Accepts (mg 2) identifyCmd (frm 1 0 []) noLate ∧
    Accepts (withMg (mg 2) fun m => { m with polls := [⟨5, 8, 0⟩] }) pollCmd (frm 0x50 0 (leBytes 8 5)) noLate ∧
    Accepts { mg 2 with nv := up.nv } provisionCmd (frm 2 4 mgKeyB) noLate ∧
    ((mg 2).nextKeySlot = some 1 ∧
      Accepts (mg 2) rotateCmd (frm 3 0 (ofNats wrapped256)) (fun s => s.wrapBad (frm 3 0 (ofNats wrapped256)) 0) ∧
      ((mg 2).consume (frm 3 0 (ofNats wrapped256))).unwrap (frm 3 0 (ofNats wrapped256)) 0 = some (ofNats key256)) ∧
    ({ mg 2 with nv := { (mg 2).nv with keyWrite := some (3, mgKeyB) } }).nv.keyWrite = some (3, mgKeyB) ∧
    Accepts (mg 2) snapKeyCmd (frm 0x30 0 (ofNats wrapped256)) (fun s => s.wrapBad (frm 0x30 0 (ofNats wrapped256)) 0) ∧
    Accepts (mg 2) titleKeyCmd (frm 0x1B 0 (List.replicate 96 1)) noLate ∧
    Accepts (mg 2) dumpInfoCmd (frm 0x38 0 []) noLate ∧
    (Accepts (mg 2) dumpReadCmd (frm 0x39 0 (w4 0xFFFFF8 ++ [8, 0, 0, 0])) noLate ∧
      (memBytes 2 (mg 2) (negAddr 0xFFFFF8) 0 8 []).1 = .ok (List.replicate 8 0)) ∧
    Accepts (mg 2) dumpClearCmd (frm 0x3A 0 []) noLate ∧
    Accepts (mg 2) eventReadCmd (frm 0x40 0 [48, 0, 0, 0]) noLate := by
  have hc : ∀ code, (((mg 2).consume (frm code 0 (ofNats wrapped256))).unwrap (frm code 0 (ofNats wrapped256)) 0) =
      some (ofNats key256) := by
    exact fun code => unwraps _ _ _ _ (kek_consume _ test_kek) (by decide +kernel)
  exact ⟨acceptsB_sound (by decide +kernel), acceptsB_sound (by decide +kernel), acceptsB_sound (by decide +kernel),
    ⟨by decide +kernel, accepts_wrapped (by decide +kernel) (by rw [hc]; rfl), hc 3⟩, rfl,
    accepts_wrapped (by decide +kernel) (by rw [hc]; rfl), acceptsB_sound (by decide +kernel), acceptsB_sound (by decide +kernel),
    ⟨acceptsB_sound (by decide +kernel), by decide +kernel⟩, acceptsB_sound (by decide +kernel), acceptsB_sound (by decide +kernel)⟩

/-- KeyEventAndImageCommands, images, in the statement's order. -/
theorem test_mg_image_hyps :
    Accepts (mg 0) imageBeginCmd (frm 0x18 0 ([1, 0, 0, 0] ++ w4 786432)) noLate ∧
    Accepts (withMg (mg 0) fun m => { m with image := some ⟨1, 4, 0, 0⟩ }) imageDataCmd (frm 0x19 0 (w4 0 ++ w4 9)) noLate ∧
    Accepts (withMg (mg 0) fun m => { m with image := some ⟨1, 4, 4, 0⟩ }) imageEndCmd (frm 0x1A 0 []) State.imageShort ∧
    (let s := withMg (mg 0) fun m => { m with verify := some (1, 4) }
     s.mg.verify = some (1, 4) ∧ s.mode = 0 ∧ (s.rdScratch 34 stageAt 4).length = 4 ∧ s.fld F.GLOBAL_BOOT_boot_sel 0 0 ≠ 0) ∧
    (let s := withMg { mg 0 with tb := 10000000000 } fun m => { m with image := some ⟨1, 4, 0, 0⟩ }
     s.mg.image = some ⟨1, 4, 0, 0⟩ ∧ (0 : Nat) + 10000000000 ≤ s.tb) ∧
    Accepts (mg 3) resetCmd (frm 0x11 0 [1, 0, 0, 0]) noLate ∧
    (Accepts (mg 0) chRateCmd (frm 0x48 0 (w4 0xFFFFFFFF ++ [1, 0, 0, 0])) noLate ∧ (mg 0).mode = 0) :=
  ⟨acceptsB_sound (by decide +kernel), acceptsB_sound (by decide +kernel), acceptsB_sound (by decide +kernel),
   by decide +kernel, by decide +kernel, acceptsB_sound (by decide +kernel), acceptsB_sound (by decide +kernel), by decide +kernel⟩

def sesArg : List Byte := w4 0 ++ w4 0 ++ w4 8 ++ List.replicate 60 0 ++ ofNats wrapped256
/-- RegisterMemorySessionCommands, sessions, in the statement's order. -/
theorem test_mg_session_hyps :
    (Accepts (mg 3) sesCreateCmd (frm 0x28 0 sesArg) (fun s => s.wrapBad (frm 0x28 0 sesArg) 72) ∧ ((mg 3).ctx 0).st = .free ∧
      (let c := ctxOf ((List.range 16).map fun k => leAt ((sesArg.drop 8).take 64) (4 * k) 4)
       c.ringZ ≤ 4 ∧ c.home < logicals (mg 3).part ∧ c.port < (mg 3).ports ∧ (mg 3).ringAlloc c.home c.ringZ = some 0)) ∧
    (let s := ses1 0 { ctx := live1 } (mg 3)
     (s.ctx (1 / 2 ^ 14)).st ≠ .free ∧ (s.ctx (1 / 2 ^ 14)).st ≠ .closing ∧
     Accepts s sesCloseCmd (frm 0x29 0 (w4 1 ++ [15, 0, 0, 0])) noLate ∧
     Accepts s sesMoveCmd (frm 0x2A 0 (w4 1 ++ [7, 0, 0, 0])) noLate ∧
     Accepts s sesKeyframeCmd (frm 0x2B 0 (w4 1)) noLate ∧
     Accepts s sesReadCmd (frm 0x2C 0 (w4 262143)) noLate) := by
  have hk : (mg 3).kek = kek256 := kek_of test_kek rfl (by decide +kernel)
  refine ⟨⟨accepts_wrapped (by decide +kernel) ?_, by decide +kernel, by decide +kernel⟩, by decide +kernel, by decide +kernel,
    acceptsB_sound (by decide +kernel), acceptsB_sound (by decide +kernel), acceptsB_sound (by decide +kernel),
    acceptsB_sound (by decide +kernel)⟩
  exact (congrArg Option.isSome (unwraps _ 0x28 72 sesArg (kek_consume _ hk) (by decide +kernel))).trans rfl

/-! ## Register access, modes, resets, faults -/

/-- A plain register at `a`, with a field of access `k` beside fields at other keys. -/
def plainWith (s : State) (a : Nat) (k : Acc) : Bool :=
  s.blkLive a && match regAt a with
  | some (r, i, j, 0) => !r.wide && r.base != 0x40400 && (s.actLow .mgmt r i j 1).isNone && (s.actHigh r i j 1).isNone &&
      r.flds.any fun f => f.acc == k && r.flds.all fun g => g == f || fldKey g i j != fldKey f i j
  | _ => false
/-- RegisterAccess: an address of no register; a pair; a plain register of each access. -/
theorem test_register_hyps :
    regAt 0x1C = none ∧ (up.blkLive 56 = true ∧ (regAt 56).any (fun x => x.1.wide && x.2.2.2 == 0) = true) ∧
    plainWith up 44 .rw = true ∧ plainWith up 196672 .rws = true ∧ plainWith up 131088 .w1c = true ∧
    plainWith up 0 .ro = true ∧ regSeen (.ce 0 0) 0x3FFFC = false ∧ regSeen .mgmt 56 = true ∧
    (svOnly (.ce 33 15) 0x50800 = true ∧ (regAt 0x508F8).any (fun x => !x.1.wide && x.1.base == 0x50800) = true ∧
      svOnly (.sv 0) 0x50800 = false) := by decide +kernel

/-- ModeChanges, requests: firmware not running; a target outside the table, one whose condition fails, and one that is made; MODE_SET
for the mode in force, for a refused and for an allowed one. -/
theorem test_mode_hyps :
    (up.fld F.GLOBAL_BOOT_fw_running 0 0 = 0 ∧ State.reset.inReset = true) ∧
    ((mg 2).inReset = false ∧ (mg 2).fld F.GLOBAL_BOOT_fw_running 0 0 ≠ 0 ∧ (4#3).toNat ∉ modeTargets (mg 2).mode ∧
      (3#3).toNat ∈ modeTargets (mg 2).mode ∧ (mg 2).modeCond 3 = false ∧ (6#3).toNat ∈ modeTargets (mg 2).mode ∧
      (mg 2).modeCond 6 = true) ∧
    Accepts (mg 2) modeSetCmd (frm 0x10 0 [2, 0, 0, 0]) noLate ∧
    (Accepts (mg 2) modeSetCmd (frm 0x10 0 [3, 0, 0, 0]) noLate ∧
      (((mg 2).consume (frm 0x10 0 [3, 0, 0, 0])).longStart 1 0x10).modeCond 3 = false) ∧
    (Accepts (mg 2) modeSetCmd (frm 0x10 0 [7, 0, 0, 0]) noLate ∧
      (((mg 2).consume (frm 0x10 0 [7, 0, 0, 0])).longStart 1 0x10).modeCond 7 = true) :=
  ⟨by decide, by decide +kernel, acceptsB_sound (by decide +kernel), ⟨acceptsB_sound (by decide +kernel), by decide +kernel⟩,
   acceptsB_sound (by decide +kernel), by decide +kernel⟩

/-- ModeChanges, ends: a drain whose sessions are to close, one that is done, one that has lasted too long; FOCUS with nothing being
trained; a HALT due in SAFELIGHT and in READY, one that has drained and one that has not. -/
theorem test_mode_ends_hyps :
    (let s := { mg 4 with change := some { target := 2, since := 0, host := true, closeAt := 5 }, tb := 5 }
     s.mode = 4 ∧ s.fc.haltDue = none ∧ s.change = some { target := 2, since := 0, host := true, closeAt := 5 } ∧ (5 : Nat) ≤ s.tb) ∧
    (let s := { mg 4 with change := some { target := 2, since := 0, host := true, drainT := some 9, closed := true } }
     s.allFree = true ∧ s.pt.egress = [] ∧ s.snapRuns = false ∧ s.tk.sim = none ∧
     0 + max 10 (min 60000 (s.fld F.GLOBAL_DRAIN_max_ms 0 0)) * 1000000 ≤ ({ s with tb := 60000000000 }).tb) ∧
    ((mg 1).mode = 1 ∧ (mg 1).fc.haltDue = none ∧ ∀ c, c < 34 → ((mg 1).trnOf c).gathering = false) ∧
    (let s := { mg 2 with fc := { (mg 2).fc with haltDue := some .fault } }
     s.fc.halt = none ∧ s.fc.haltDue = some .fault ∧ s.fencing = false ∧ s.mode ≠ 0 ∧ s.mode ≠ 7 ∧ (mg 0).mode = 0 ∧
     s.fc.haltAt + 10000 ≤ ({ s with tb := 10000 }).tb) ∧
    (let h : Halting := { cause := .fault, was := 2, status := 0, time := 0, dump := true }
     (mg 7).haltDrained h = true ∧ (mg 7).fwAlive = true ∧
     ({ mg 7 with ops := [{ id := 1, e := 0, t := 0, kind := .ld, st := .sent }] }).haltDrained h = false) := by decide +kernel

/-- Resets: a trip and none; held in reset and not; a RESET command of each kind whose time has come, and one too early. -/
theorem test_reset_hyps :
    ({ up with pwr := { up.pwr with tripped := true } }).pwr.tripped = true ∧ up.pwr.tripped = false ∧
    State.reset.inReset = true ∧ up.inReset = false ∧
    (let s := withMg { mg 2 with tb := 7 } fun m => { m with reset := some (0, 7) }
     s.mg.reset = some (0, 7) ∧ 7 ≤ s.tb ∧ ({ s with tb := 6 }).tb < 7) ∧
    (withMg { mg 2 with tb := 7 } fun m => { m with reset := some (1, 7) }).mg.reset = some (1, 7) ∧ up.mg.reset = none := by decide

/-- FaultAccept: no event; one that merges into a reaction of its own instance; one of group 57, source 7 of real and forced
origin with no capture held and no first fault; reactions of HALT and of none. -/
theorem test_fault_hyps :
    up.faults = [] ∧
    (let v : FaultEv := { group := 57, src := 7, origin := 3 }
     let s := { up with faults := [v] }
     nextEv s.faults = some v ∧ v.group < 58 ∧ v.src < 8 ∧ s.mergesInto v = none ∧ bitOf v.origin 0 = true ∧
     bitOf v.origin 1 = true ∧ s.fld F.FC_G_CAP_INFO_valid v.group 0 = 0 ∧ s.fld F.FC_FIRST_valid 0 0 = 0 ∧ s.runsOn v = none ∧
     (let r : React := { group := 57, inst := 0, src := 7, level := 1, start := 0, stage := .fencing }
      let u := { s with fc := { s.fc with reacts := [r] } }
      u.mergesInto v = some r) ∧
     (let u := (s.setFld F.FC_G_SRC_CFG_event 57 7 4).setFld F.FC_G_SRC_CFG_severe 57 7 4
      4 ≤ u.fld F.FC_G_SRC_CFG_event 57 7 ∧ 4 ≤ u.fld F.FC_G_SRC_CFG_severe 57 7) ∧
     (let u := (s.setFld F.FC_G_SRC_CFG_event 57 7 0).setFld F.FC_G_SRC_CFG_severe 57 7 0
      u.fld F.FC_G_SRC_CFG_event 57 7 = 0 ∧ u.fld F.FC_G_SRC_CFG_severe 57 7 = 0)) := by decide +kernel

/-- FaultCommands: a fence that is clear and one that is not; injections that are and are not mapped to an instance; an engine
to replace, and one that is not fenced; an entry lost and one not, values to write; a mesh domain on and off. -/
theorem test_fault_commands_hyps :
    (let r : React := { group := 48, inst := 33, src := 0, level := 2, start := 0, party := 33, stage := .fencing }
     let s := { up with fc := { up.fc with reacts := [r] } }
     s.fc.reacts.find? (fun r => decide (r.stage = .fencing) && r.party == 33) = some r ∧ s.fenceClear 33 = true ∧
     (s.setChan 0 { s.chan 0 with rq := [{ id := 1, op := 1, seq := 1, master := 33, e := 33, phys := 0, gran := 0, kind := .read }] }).fenceClear 33 =
       false) ∧
    (bitOf (0x80003307#32).toNat 31 = true ∧ bitsOf (0x80003700#32).toNat 8 6 = 55 ∧ (faultMap 55 0).isSome = true ∧
      up.srcOn 55 0 = true ∧ up.instOn 55 0 0 = true ∧ up.instOn 48 0 33 = false ∧ bitOf (0#32).toNat 31 = false) ∧
    (let s := regs [((F.PWR_DOM_powered, 33), 1), ((F.CE_CTRL_imem_lock, 33), 1), ((F.CE_ID_logical, 33), 0x3F),
        ((F.FC_FENCE_master, 0), 1)] up
     bitOf (s.fld F.FC_FENCE_master 0 0) 0 = true ∧ s.engStopped 33 = true ∧ (s.eng 33).fenced = false ∧
     s.fld F.CE_CTRL_imem_lock 33 0 ≠ 0 ∧ s.fld F.CE_ID_logical 33 0 = 0x3F ∧
     ¬ (1 < 34 ∧ bitOf (s.fld F.FC_FENCE_master 0 0) 1 = true) ∧ bitOf (0x80002100#32).toNat 31 = true ∧
     bitsOf (0x80002100#32).toNat 8 6 = 33) ∧
    (let s := { up with ed := { up.ed with quar := [7] } }
     7 ∈ s.ed.quar ∧ 8 ∉ s.ed.quar ∧ entValid (0#64) = false ∧ entValid ent1 = true ∧ entK ent1 ≠ 7) ∧
    ((regs [((F.FC_DUMP_CTRL_busy, 0), 1)] up).fld F.FC_DUMP_CTRL_busy 0 0 ≠ 0) ∧
    ((regs [((F.PWR_DOM_powered, 103), 1)] up).domOn 103 = true ∧ (regs [((F.PWR_DOM_powered, 103), 0)] up).domOn 103 = false) := by
  decide +kernel

/-- A stack whose FUSE gives lane 3 its transmit latency, with a command waiting. -/
def fused : State := { State.reset with nv := { State.reset.nv with fuse := [(fldKey F.LN_LATENCY_tx 3 0, 5)] }, pending := [.tkRunSet] }
theorem test_fuse_form : FuseForm fused := by
  intro e he
  obtain rfl := List.mem_singleton.1 he
  exact ⟨F.LN_LATENCY_tx, by decide, 3, by decide, rfl⟩
/-- StepsKeepForm, and the halt and the cold reset that keep what FUSE holds: a state that meets the forms, with a command in front that
steps. -/
theorem test_steps_hyps : MemoryForm fused ∧ DirectoryForm fused ∧ OperationNumbers fused ∧ FuseForm fused ∧
    ∃ t, step fused = .next t := by
  refine ⟨⟨by decide, by decide, by decide, by decide⟩, by unfold DirectoryForm; decide,
    ⟨fun o ho => absurd ho (List.not_mem_nil), List.nodup_nil⟩, test_fuse_form, _, rfl⟩

/-! ## Memory channels, training, repairs -/

/-- Channel 0 in service, as logical channel 0, with these queues. -/
def ch0 (x : Chan) : State := (regs [((F.RG_CHMAP_state, 0), 0), ((F.RG_CHMAP_phys, 0), 0), ((F.CH_ID_state, 0), 2),
  ((F.PWR_DOM_powered, 34), 1)] up).setChan 0 x
def rd0 : Req := { id := 7, op := 1, master := 0, e := 0, kind := .read, phys := 0, gran := 0, len := 8, cls := 0, dl := 5 }
def wq0 : WEnt := { id := 9, gran := 3, bytes := (List.range 64).map fun k => (k, 1), writers := [], cls := 1, due := 9, seq := 4 }
def isRefresh (x : Slot) : Bool := match x with | .refresh _ _ => true | _ => false
def serves (w : Bool) (x : Slot) : Option Nat := match x with | .serve k _ _ => if k.wr = w then some k.seq else none | _ => none

/-- ChannelQueues: a read and a write to admit, late and not; a source that copies no more; a channel out of service and one no longer
bound; a count run out; a frame at its end, and with it a refused schedule that a command waits for. -/
theorem test_queue_hyps :
    (up.works 0 = false ∧ (ch0 {}).grant 0 = none) ∧
    (let s := { ch0 {} with reqs := [rd0], nextReq := 8 }
     s.works 0 = true ∧ s.copyRefuses rd0 = false ∧ (s.chan 0).answers { rd0 with seq := (s.chan 0).seq } = false ∧
     (s.grant 0).map (fun x => x.2.1) = some rd0 ∧ rd0.id < s.nextReq ∧ s.fld F.PM_LOUPE_CTRL_drain 0 0 = 0 ∧
     (s.admitDue rd0).2 = false ∧
     (s.admitDue { rd0 with late := true }).2 = true) ∧
    (let w : Req := { rd0 with kind := .write, wr := [(0, 1)] }
     let s := { ch0 {} with reqs := [w], nextReq := 8 }
     (s.grant 0).map (fun x => x.2.1) = some w ∧ s.copyRefuses w = false ∧ w.master ≠ 58 ∧ (s.chan 0).canMerge w.gran = none) ∧
    (let s := regs [((F.RG_CHMAP_state, 0), 1), ((F.RG_CHMAP_phys, 0), 33), ((F.RG_CHMAP_old, 0), 0)]
       { ch0 {} with reqs := [rd0], nextReq := 8, copyStopped := [0] }
     s.works 0 = true ∧ (s.grant 0).map (fun x => x.2.1) = some rd0 ∧ s.copyRefuses rd0 = true) ∧
    (let s := { regs [((F.CH_ID_state, 0), 5)] (ch0 {}) with reqs := [rd0], nextReq := 8 }
     s.works 0 = true ∧ s.inService 0 = false ∧ (s.grant 0).map (fun x => x.2.1) = some rd0) ∧
    (let s := ch0 { rq := [rd0] }
     s.tb = 0 ∧ (s.chan 0).rq.find? (fun r => r.id == 7 && !r.late && decide (r.due ≤ s.units)) = some rd0) ∧
    ((ch0 { pos := 256 }).works 0 = true ∧ 256 ≤ ((ch0 { pos := 256 }).chan 0).pos ∧ (ch0 { pos := 256 }).mg.waitFrames = [] ∧
      ∀ w ∈ (ch0 { pos := 256 }).mg.slotWaits, w.ch ≠ 0) ∧
    (let s := (List.range 256).foldl (fun s p => s.setShd (slotFld p) 0 (p / 8) 0)
       ((regs [((F.CH_SLOTCOMMIT_pending, 0), 1)] (ch0 { pos := 256 })).setShd F.CH_SCHED_level 0 0 1)
     let u := withMg s fun m => { m with slotWaits := [⟨frm 9 0 [], 9, 0, 0, [], []⟩] }
     (u.frameBoundary 0).fld F.CH_SLOTCOMMIT_result 0 0 = 0x22 ∧ u.works 0 = true ∧ u.mg.waitFrames = [] ∧
     u.mg.slotWaits = [⟨frm 9 0 [], 9, 0, 0, [], []⟩]) := by decide +kernel

/-- ChannelQueues, slots and panic: slots that refresh, read and write, with slots of an operation left and none; a read in flight for
a load; a merge under way; a panic not yet told, past its limit and before. -/
theorem test_slot_hyps :
    (let s := ch0 { slotsLeft := 3, pos := 255 }
     (s.chan 0).pos < 256 ∧ voidPos (s.halves 0) 255 = false ∧ (s.chan 0).slotsLeft ≠ 0) ∧
    (let s := ch0 { debt := [(4, 100)] }
     (s.chan 0).slotsLeft = 0 ∧ isRefresh ((s.countHeld 0 0xFFFFFFFF).slotChoice 0 0xFFFFFFFF) = true) ∧
    (let s := ch0 { rq := [{ rd0 with seq := 2 }] }
     serves false ((s.countHeld 0 1).slotChoice 0 1) = some 2 ∧
     ((s.countHeld 0 1).chan 0).rq.find? (fun r => r.seq == 2) = some { rd0 with seq := 2 }) ∧
    (let s := ch0 { wq := [wq0] }
     serves true ((s.countHeld 0 0xFFFFFFFF).slotChoice 0 0xFFFFFFFF) = some 4 ∧
     ((s.countHeld 0 0xFFFFFFFF).chan 0).wq.find? (fun w => w.seq == 4) = some wq0 ∧ wq0.bytes.length = 64 ∧
     wq0.id < ({ s with nextReq := 10 }).nextReq) ∧
    (let o : Op := { id := 1, e := 0, t := 0, kind := .ld, st := .sent }
     let r : Req := { rd0 with inFlight := true }
     let s := { ch0 { rq := [r] } with ops := [o] }
     s.inFlightAt 7 = some (0, r) ∧ s.findOp 1 = some o ∧ s.inFlightAt 8 = none ∧
     ((s.chan 0).queued r.gran r.seq).length < 64 ∧ (s.decode 0 r.gran []).1.out.bad = false) ∧
    (let s := ch0 { wq := [{ wq0 with merging := true }] }
     (s.chan 0).wq.find? (fun w => w.gran == 3 && w.merging) = some { wq0 with merging := true } ∧
     (s.chan 0).wq.find? (fun w => w.gran == 4 && w.merging) = none ∧ (s.decode 0 3 []).1.out.bad = false ∧
     wq0.id < ({ s with nextReq := 10 }).nextReq) ∧
    (let s := regs [((F.CH_SLOTCOMMIT_pending, 0), 1), ((F.CH_STATUS_panic, 0), 1)] (ch0 { pos := 256 })
     s.fld F.CH_SLOTCOMMIT_pending 0 0 ≠ 0 ∧ s.fld F.CH_STATUS_panic 0 0 ≠ 0 ∧ (s.chan 0).panicTold = false ∧
     (let u := { s with tb := 10 ^ 9 }
      (u.chan 0).panicSince + u.fld F.CH_PANIC_limit_us 0 0 * 1000 < u.tb) ∧
     s.tb ≤ (s.chan 0).panicSince + s.fld F.CH_PANIC_limit_us 0 0 * 1000 ∧
     ∀ p, p < 256 → s.fld (slotFld p) 0 (p / 8) < 16 ∧ s.shd (slotFld p) 0 (p / 8) < 16) := by decide +kernel

/-- ChannelControls: water marks in order at their bounds, and not; refreshes; self-refresh entered and left; the Fixer woken, owed,
due and complete. -/
theorem test_channel_controls_hyps :
    (bitsOf (0x403F#32).toNat 0 8 < bitsOf (0x403F#32).toNat 8 8 ∧ bitsOf (0x403F#32).toNat 8 8 ≤ 64 ∧
      64 < bitsOf (0x4100#32).toNat 8 8 ∧ bitsOf (0x4040#32).toNat 8 8 ≤ bitsOf (0x4040#32).toNat 0 8) ∧
    ((ch0 {}).manualRefused 0 31 = true ∧ (ch0 { debt := [(31, 5)], refLevel := 1 }).manualRefused 0 31 = false) ∧
    (bitOf (0x10000#32).toNat 16 = true ∧ bitOf (5#32).toNat 16 = false ∧
      (regs [((F.GLOBAL_MODE_mode, 0), 6)] up).mode = 6 ∧ up.mode ≠ 6) ∧
    (let s := regs [((F.CH_SR_auto_en, 0), 1), ((F.CH_SR_c0_hold, 0), 0)] (ch0 {})
     s.inService 0 = true ∧ s.fld F.CH_SR_auto_en 0 0 ≠ 0 ∧ s.fld F.CH_SR_c0_hold 0 0 = 0 ∧ s.suspectDie 0 = false ∧
     s.chanIdle 0 = true ∧ s.tb < (s.chan 0).idleSince + max 1 (min 10000 (s.fld F.CH_SR_idle_us 0 0)) * 1000 ∧
     ({ s with reqs := [rd0] }).chanIdle 0 = false ∧ (regs [((F.CH_SR_auto_en, 0), 0)] s).fld F.CH_SR_auto_en 0 0 = 0 ∧
     (({ s with tb := 20000 }).chan 0).idleSince + max 1 (min 10000 (s.fld F.CH_SR_idle_us 0 0)) * 1000 ≤ 20000) ∧
    (let s := regs [((F.CH_ID_state, 0), 3), ((F.GLOBAL_MODE_mode, 0), 5)] (ch0 {})
     let u := s.setDie (diePos 0) { s.die (diePos 0) with model := 86 * degree, sens := [(0, 86 * degree)] }
     s.fld F.CH_ID_state 0 0 = 3 ∧ s.mode = 5 ∧ (s.chan 0).srDouble = s.hotDie 0 ∧
     u.fld F.CH_ID_state 0 0 = 3 ∧ u.mode = 5 ∧ (u.chan 0).srDouble ≠ u.hotDie 0) ∧
    (let s := regs [((F.CH_ID_state, 0), 3), ((F.CH_FIX_OWED_owed, 0), 4096), ((F.CH_FIX_CTRL_enable, 0), 1)]
       { ch0 {} with reqs := [rd0] }
     s.fld F.CH_ID_state 0 0 = 3 ∧ s.mode ≠ 5 ∧ s.srCause 0 = true ∧ s.fld F.CH_TRN_STAT_trained 0 0 = 0 ∧
     (regs [((F.CH_TRN_STAT_trained, 0), 1)] s).fld F.CH_TRN_STAT_trained 0 0 ≠ 0 ∧ 4096 ≤ s.fld F.CH_FIX_OWED_owed 0 0 ∧ s.chanOn 0 = true ∧
     s.fld F.CH_FIX_CTRL_enable 0 0 ≠ 0 ∧ s.fld F.CH_FIX_OWED_owed 0 0 < 65535) ∧
    (let s := regs [((F.CH_FIX_CTRL_enable, 0), 1), ((F.CH_FIX_INIT_block, 0), 1)] (ch0 {})
     s.fld F.CH_ID_state 0 0 = 2 ∧ (s.chan 0).fixer = none ∧ s.fixNext 0 = some (0, false)) ∧
    (let r : Req := { rd0 with master := 58, inFlight := true }
     let s := (ch0 { rq := [r] }).setGran 0 0 { errs := [(0, 1)] }
     (s.chan 0).rq.find? (fun r => r.master == 58 && r.inFlight) = some r ∧ (s.decode 0 r.gran []).1.out = .corrected ∧
     ((s.setGran 0 0 { errs := [(0, 1), (1, 1), (2, 1), (3, 1)] }).decode 0 r.gran []).1.out = .uncorrectable) := by decide +kernel

def eye0 : EyeMeas := { pc := true, line := 43, readEye := 1, writeEye := 1, readCentre := 5, writeCentre := 6, dead := 0 }
/-- Both channels grant a granule of the copy. -/
def copyGrants (s : State) (o p g : Nat) : Bool :=
  let u := ((s.rouse o).rouse p).copyGrant o g .read
  u.1 && (u.2.copyGrant p g .write).1
/-- ChannelMap: a commit refused and taken, one that makes a channel absent; its drain; a granule to copy, the last and not, and
locked; region changes in READY with all stopped and not; a row to convert, the last and not. -/
theorem test_map_hyps :
    ((regs [((F.RG_CHMAP_COMMIT_busy, 0), 1)] up).fld F.RG_CHMAP_COMMIT_busy 0 0 ≠ 0 ∧
      (regs [((F.RG_CHMAP_COMMIT_busy, 0), 1)] up).oldRouted = false ∧ up.fld F.RG_CHMAP_COMMIT_busy 0 0 = 0) ∧
    (let s := (ch0 {}).setShd F.RG_CHMAP_state 0 0 2
     s.fld F.RG_CHMAP_state 0 0 ≠ 2 ∧ smapFind s.shadow (fldKey F.RG_CHMAP_state 0 0) = some 2) ∧
    (let s := { ch0 { rq := [rd0] } with mapMark := 8 }; s.oldRouted = true) ∧
    (let s := regs [((F.RG_CHMAP_state, 31), 1), ((F.RG_CHMAP_old, 31), 0), ((F.RG_CHMAP_phys, 31), 33),
       ((F.RG_CHCUR_cursor, 31), 2 ^ 25 - 1)] (ch0 {})
     s.fld F.RG_CHMAP_state 31 0 = 1 ∧ s.copyStopped.contains 31 = false ∧
     s.fld F.RG_CHMAP_old 31 0 = 0 ∧ s.fld F.RG_CHMAP_phys 31 0 = 33 ∧ s.fld F.RG_CHCUR_cursor 31 0 = 2 ^ 25 - 1 ∧
     s.copyWaits 0 33 (2 ^ 25 - 1) = false ∧
     s.mg.rate = none ∧ copyGrants s 0 33 (2 ^ 25 - 1) = true ∧
     copyGrants (s.setChan 33 { s.chan 33 with wq := (List.range 64).map fun n => { wq0 with gran := n, seq := n } }) 0 33 (2 ^ 25 - 1) = false ∧
     (s.setChan 33 { s.chan 33 with locked := [2 ^ 25 - 1] }).copyWaits 0 33 (2 ^ 25 - 1) = true ∧
     (let u := regs [((F.RG_CHCUR_cursor, 31), 0)] s
      u.copyWaits 0 33 0 = false ∧ copyGrants u 0 33 0 = true) ∧
     (regs [((F.RG_CHCUR_cursor, 31), 0)] s).fld F.RG_CHCUR_cursor 31 0 < 2 ^ 25 - 1 ∧
     ({ s with copyStopped := [31] }).copyStopped.contains 31 = true) ∧
    (let s := up.setShd F.RG_STRIPE_SIZE_units 3 0 5
     s.regionChanges = true ∧ s.mode ≠ 2 ∧ up.regionChanges = false ∧
     (let u := regs [((F.GLOBAL_MODE_mode, 0), 2)] s
      u.regionChanges = true ∧ u.mode = 2 ∧ u.allStopped = true ∧ (regs [((F.CE_CTRL_run, 0), 1)] u).allStopped = false)) ∧
    (let s := regs [((F.CH_TSV_STAT_converting, 33), 1), ((F.CH_CONV_CUR_row, 33), 65535)] up
     s.fld F.CH_TSV_STAT_converting 33 0 ≠ 0 ∧ s.fld F.CH_CONV_CUR_row 33 0 = 65535 ∧
     (regs [((F.CH_CONV_CUR_row, 33), 65534)] s).fld F.CH_CONV_CUR_row 33 0 < 65535 ∧
     up.fld F.CH_TSV_STAT_converting 33 0 = 0 ∧ (s.chan 33).retiring = false ∧ (s.chan 33).convWait = none ∧
     ((s.setChan 33 { s.chan 33 with convWait := some (1, [7]) }).chan 33).convWait = some (1, [7]) ∧
     ((s.setChan 33 { s.chan 33 with retiring := true }).chan 33).retiring = true) ∧
    (let s := { regs [((F.RG_CHMAP_state, 5), 1), ((F.RG_CHMAP_old, 5), 33)] up with tb := 1000000 }
     (s.within1ms (s.chan 33).srcErr).length < 16 ∧ s.fld F.RG_CHMAP_state 5 0 = 1 ∧ s.fld F.RG_CHMAP_old 5 0 = 33 ∧
     (∀ k, k < 32 → k ≠ 5 → s.fld F.RG_CHMAP_state k 0 = 1 → s.fld F.RG_CHMAP_old k 0 ≠ 33) ∧
     (let u := s.setChan 33 { s.chan 33 with srcErr := (List.range 15).map fun n => n + 1 }
      16 ≤ (u.within1ms (u.chan 33).srcErr).length)) := by decide +kernel

/-- ChannelTraining: busy, gathering, or not at the expert level; a training start at each level; expert on a serving channel and
not; a line measured and not; slips at the limit and over it; a training that ends, with a rate held and with none; a stall that is
due, of a sleeper, in panic and not, and for a dead line's steer. -/
theorem test_channel_training_hyps :
    (let s := ch0 {}
     s.chanOn 0 = true ∧ s.fld F.CH_TRN_CMD_busy 0 0 = 0 ∧ (s.trnOf 0).gathering = false ∧ (s.trnOf 0).level = false ∧
     s.fld F.CH_TRN_CTRL_level 0 0 = 0 ∧ (regs [((F.CH_TRN_CMD_busy, 0), 1)] s).fld F.CH_TRN_CMD_busy 0 0 ≠ 0 ∧ up.chanOn 0 = false) ∧
    (let s := regs [((F.CH_TRN_CTRL_level, 0), 1)] ((ch0 {}).setTrn 0 { (ch0 {}).trnOf 0 with level := true })
     s.chanOn 0 = true ∧ s.fld F.CH_TRN_CMD_busy 0 0 = 0 ∧ (s.trnOf 0).gathering = false ∧ (s.trnOf 0).level = true ∧
     s.fld F.CH_TRN_CTRL_level 0 0 ≠ 0 ∧ s.serves 0 = true ∧ (6#3) ≠ 0 ∧ (6#3).toNat ≤ 6 ∧ 6 < (7#3).toNat ∧
     (let u := regs [((F.CH_ID_state, 0), 1)] s
      u.chanOn 0 = true ∧ (u.trnOf 0).level = true ∧ u.serves 0 = false ∧
      smapFind (u.trnOf 0).eyes (lineKey 1 43) = none ∧
      (let v := u.setTrn 0 { u.trnOf 0 with eyes := [(lineKey 1 43, eye0)], slips := [(lineKey 1 43, 2)] }
       (v.trnOf 0).level = true ∧ smapFind (v.trnOf 0).eyes (lineKey 1 43) = some eye0 ∧ eye0.pc = true ∧ eye0.line = 43 ∧
       smapGet 0 (v.trnOf 0).slips (lineKey 1 43) + 1 = 3) ∧
      (let v := u.setTrn 0 { u.trnOf 0 with slips := [(lineKey 1 43, 3)] }
       3 < smapGet 0 (v.trnOf 0).slips (lineKey 1 43) + 1))) ∧
    (let s := (ch0 {}).setTrn 0 { (ch0 {}).trnOf 0 with gathering := true }
     s.mg.rate = none ∧ s.chanOn 0 = true ∧ (s.trnOf 0).gathering = true ∧ (s.trnOf 0).held = none ∧
     ((s.setTrn 0 { s.trnOf 0 with held := some 1 }).trnOf 0).held = some 1) ∧
    (let s := { ch0 { stallQ := [.retrain eye0] } with tb := 100000000 }
     s.mg.rate = none ∧ s.chanOn 0 = true ∧ s.serves 0 = true ∧ s.mode ≠ 5 ∧ s.maintDue 0 = true ∧ s.fld F.CH_ID_state 0 0 = 2 ∧
     (s.chan 0).pos % 256 = 0 ∧ s.fld F.CH_STATUS_panic 0 0 = 0 ∧ (s.chan 0).nextSteer = none ∧ (s.chan 0).suspect = none ∧
     (s.chan 0).stallAt = 0 ∧ ({ (s.chan 0) with stallAt := 1 }).stallAt + max 100 (min 100000 (s.fld F.CH_MAINT_gap_us 0 0)) * 1000 ≤ s.tb ∧
     (regs [((F.CH_STATUS_panic, 0), 1)] s).fld F.CH_STATUS_panic 0 0 ≠ 0 ∧ (regs [((F.CH_ID_state, 0), 3)] s).fld F.CH_ID_state 0 0 = 3 ∧
     (regs [((F.CH_ID_state, 0), 3)] s).serves 0 = true ∧ (regs [((F.CH_ID_state, 0), 3)] s).maintDue 0 = true ∧ (ch0 {}).maintDue 0 = false) ∧
    (let s := regs [((F.CH_STATUS_panic, 0), 1)] { ch0 { stallQ := [.steer 5 36 7] } with tb := 100007 }
     s.chanOn 0 = true ∧ s.serves 0 = true ∧ s.maintDue 0 = true ∧ (s.chan 0).nextSteer = some (.steer 5 36 7, 7) ∧
     7 + 100000 ≤ s.tb) := by decide +kernel

/-- TestsRepairsAndTrims, test runs: a start refused and one taken; a run, its last slice, in a channel in panic and not. -/
theorem test_bist_hyps :
    (up.chanOn 0 = false ∧ up.nv.bist = none) ∧
    (let s := regs [((F.GLOBAL_MODE_mode, 0), 6), ((F.BI_CFG_kind, 0), 3), ((F.BI_CFG_channel, 0), 0), ((F.BI_SLICES_slices, 0), 1)]
       (ch0 {})
     s.nv.bist = none ∧ s.fld F.BI_CFG_channel 0 0 = 0 ∧ s.bistLegal (s.fld F.BI_CFG_kind 0 0) = true ∧ s.chanOn 0 = true ∧
     s.fld F.CH_ID_state 0 0 ≠ 4 ∧ s.fld F.BI_SLICES_slices 0 0 ≠ 0) ∧
    (let b : Bist := { kind := 1, ch := 0, pc := 0, group := 0, pattern := 0, perSlice := 1, next := 0, left := 1 }
     let s := { ch0 {} with nv := { up.nv with bist := some b } }
     s.nv.bist = some b ∧ b.left ≤ 1 ∧ s.fld F.CH_ID_state 0 0 = 2 ∧ s.stallFree 0 = true ∧
     (regs [((F.CH_STATUS_panic, 0), 1)] s).stallFree 0 = false ∧ (regs [((F.CH_ID_state, 0), 1)] s).serves 0 = false ∧
     (let u := regs [((F.CH_ID_state, 0), 3)] s
      u.fld F.CH_ID_state 0 0 = 3 ∧ u.mode ≠ 5 ∧ (u.exitSr 0).stallFree 0 = true)) := by decide +kernel

/-- A record of kind `k` for channel `c`. -/
def rec0 (k c : Nat) : Nat := 2 ^ 63 + k * 2 ^ 60 + c * 2 ^ 54
/-- TestsRepairsAndTrims, records: absent, bad, of a spare and of a retirement; fuses outside MAINT, with no slot free, with one; a
programming under way; a calibration due of an idle spare, and none due; trims at each level. -/
theorem test_repair_hyps :
    (bitOf 0 63 = false ∧ bitOf (rec0 1 32) 63 = true ∧ recordOk 33 (rec0 1 32) = false ∧ recordOk 33 (rec0 1 33) = true ∧
      recordSpare (rec0 1 33) = some 0 ∧ recordOk 33 (rec0 4 33) = true ∧ recordSpare (rec0 4 33) = none ∧
      up.recordBad 33 (rec0 1 32) = true ∧ up.recordBad 33 (rec0 1 33) = false ∧ up.recordBad 33 (rec0 4 33) = false ∧
      up.serves 33 = false ∧ (ch0 {}).recordBad 0 (rec0 1 0) = false ∧ recordSpare (rec0 1 0) = some 0 ∧ (ch0 {}).serves 0 = true ∧
      (ch0 {}).chanOn 0 = true) ∧
    (up.nv.prog = none ∧ up.mode ≠ 6 ∧
      (let s := regs [((F.GLOBAL_MODE_mode, 0), 6)] up
       s.mode = 6 ∧ s.freeSlot 33 = some 0 ∧
       ({ s with nv := { s.nv with repair := (List.range 64).map fun n => (33 * 64 + n, 1) } }).freeSlot 33 = none)) ∧
    ({ up with nv := { up.nv with prog := some (33, 5, rec0 1 33) } }).nv.prog = some (33, 5, rec0 1 33) ∧
    (let s := { regs [((F.CH_ID_state, 0), 5)] (ch0 {}) with tb := 24 * 3600000000000 }
     s.chanOn 0 = true ∧ s.fld F.CH_ID_state 0 0 = 5 ∧ s.calDue 0 = true ∧ (s.trnOf 0).gathering = false ∧
     s.fld F.CH_TRN_CMD_busy 0 0 = 0) ∧
    (let s := (up.setDie (diePos 0) { up.die (diePos 0) with sens := [(0, 0)] })
     s.calDue 0 = false) ∧
    ((regs [((F.CAL_CTRL_level, 0), 1)] up).fld F.CAL_CTRL_level 0 0 ≠ 0 ∧ (regs [((F.CAL_CTRL_level, 0), 0)] up).fld F.CAL_CTRL_level 0 0 = 0 ∧
      smapFind ({ up.nv with trim := [(768, 5)] }).trim 768 = some 5) ∧
    (let s := { up with nv := { up.nv with direct := true } }
     s.nv.direct = true ∧ s.fld F.CAL_SEL_item 0 0 ≠ 4 ∧ s.fld F.CAL_SEL_item 0 0 ≠ 5 ∧ up.nv.direct = false ∧
     (let u := { regs [((F.CAL_SEL_item, 0), 5), ((F.CAL_SEL_instance, 0), 1)] (ch0 {}) with nv := s.nv }
      u.fld F.CAL_SEL_item 0 0 = 5 ∧ u.serves (u.fld F.CAL_SEL_instance 0 0 / 2) = true)) := by decide +kernel

/-- The base die at 0 °C. -/
def at0 : State := up.setDie 0 { up.die 0 with sens := [(0, 0)] }
theorem test_at0 : at0.reported (trimDie 3 0) = 0 := by decide +kernel
/-- TestsRepairsAndTrims, a trim's result: one within the largest window whatever the factory values are, and one outside the
smallest. -/
theorem test_trim_hyps :
    let s := at0
    let u (w : Nat) : State := { s with nv := { s.nv with window := [(3, w)] } }
    (∀ r : TrimResult, r = ⟨3, 0, 5⟩ → r.item.toNat = 3 ∧ (u 255).nv.direct = false ∧
      (((r.value.toNat % 2 ^ trimBits 3 * trimUnit : Nat) : Int) - (u 255).storedTrim 3 r.inst.toNat).natAbs ≤ (u 255).trimWin 3 * trimUnit) ∧
    ∃ r : TrimResult, r.item.toNat = 3 ∧ (u 0).nv.direct = false ∧
      (u 0).trimWin 3 * trimUnit < (((r.value.toNat % 2 ^ trimBits 3 * trimUnit : Nat) : Int) - (u 0).storedTrim 3 r.inst.toNat).natAbs := by
  intro s u
  have hs (w : Nat) : (u w).storedTrim 3 0 = ((Config.trimSet 3 0 0 % 128 : Nat) : Int) * trimUnit := by
    have h : (u w).reported (trimDie 3 0) = 0 := test_at0
    unfold State.storedTrim trimStored; rw [h]; rfl
  have hlt : Config.trimSet 3 0 0 % 128 < 128 := Nat.mod_lt _ (by decide)
  have ht : trimUnit = 36700160 := rfl
  have h5 : (5#8).toNat % 2 ^ trimBits 3 = 5 := rfl
  have h6 : (6#8).toNat % 2 ^ trimBits 3 = 6 := rfl
  have hw (w : Nat) : (u w).trimWin 3 = w := rfl
  refine ⟨fun r hr => ?_, ?_⟩
  · subst hr
    refine ⟨rfl, rfl, ?_⟩
    show (((((5#8).toNat % 2 ^ trimBits 3 * trimUnit : Nat) : Int) - (u 255).storedTrim 3 0).natAbs ≤ (u 255).trimWin 3 * trimUnit)
    rw [hs, hw, h5, ht]; omega
  · by_cases h : Config.trimSet 3 0 0 % 128 = 5
    · refine ⟨⟨3, 0, 6⟩, rfl, rfl, ?_⟩
      show (u 0).trimWin 3 * trimUnit < ((((6#8).toNat % 2 ^ trimBits 3 * trimUnit : Nat) : Int) - (u 0).storedTrim 3 0).natAbs
      rw [hs, hw, h6, ht]; omega
    · refine ⟨⟨3, 0, 5⟩, rfl, rfl, ?_⟩
      show (u 0).trimWin 3 * trimUnit < ((((5#8).toNat % 2 ^ trimBits 3 * trimUnit : Nat) : Int) - (u 0).storedTrim 3 0).natAbs
      rw [hs, hw, h5, ht]; omega

/-! ## Temperature, power, the monitor -/

/-- Temperature: in reset and not; a die that rises to step 4; a trip; a canary check on a die with a channel awake, losing
rows and none, and on one with no channel awake. -/
theorem test_temperature_hyps :
    (State.reset.inReset = true ∧ up.inReset = false ∧ 17 ∈ diesOf up.part ∧
      (let s := regs [((F.GLOBAL_MODE_mode, 0), 2)] (up.setDie 17 { up.die 17 with model := 106 * degree, sens := [(0, 106 * degree)] })
       riseAt 4 * degree < s.reported 17 ∧ s.mode ≠ 0 ∧ s.mode ≠ 7)) ∧
    (up.pwr.tripped = false ∧ diePresent up.part 17 = true ∧ diePresent .tkw3209 17 = false) ∧
    ((ch0 {}).canaryChans (diePos 0) ≠ [] ∧ up.canaryChans 17 = [] ∧ (ch0 {}).canaryLost (diePos 0) (0x80#16).toNat 7 = true ∧
      (∀ i, i < 8 → (ch0 {}).canaryLost (diePos 0) (0#16).toNat i = false)) := by decide +kernel

/-- PowerDomains: an engine powered and not; a domain powered and not; a rail in its window, newly out, and out for long; an average
over the cap with every voltage low, and not; the governor's turn, enabled and not; voltages to step each way; domain changes
refused, on, off, queued. -/
theorem test_power_hyps :
    ((ce rdy).engOn 0 = true ∧ up.engOn 33 = false ∧ (ce rdy).domOn 0 = true ∧ domPresent (ce rdy).part 0 = true ∧ up.domOn 33 = false) ∧
    ((railWindow 7).1 ≤ (railWindow 7).2 ∧ 0 < (railWindow 7).1 ∧ (railWindow 7).2 < 65535 ∧ smapFind up.pwr.railOut 7 = none ∧
      smapFind ({ up with pwr := { up.pwr with railOut := [(7, 0, false)] }, tb := 100001 }).pwr.railOut 7 = some (0, false)) ∧
    (let s := { regs ((List.range 34).map (fun e => ((F.PWR_CE_v_code, e), 0)) ++ [((F.PWR_SV_v_code, 0), 0), ((F.PWR_RAIL_mv, 0), 750)])
        (ce rdy) with pwr := { up.pwr with amps := [200000] } }
     s.capUnits < s.powerReading (0#16).toNat ∧ s.allLow = true ∧
     (let u := regs [((F.PWR_CE_v_code, 0), 30)] s
      u.capUnits < u.powerReading (0#16).toNat ∧ u.allLow = false)) ∧
    (let s := { regs [((F.GLOBAL_MODE_mode, 0), 3), ((F.PWR_CTRL_gov_en, 0), 1)] up with tk := { up.tk with govDue := true } }
     s.mode = 3 ∧ s.tk.govDue = true ∧ s.fld F.PWR_CTRL_gov_en 0 0 ≠ 0 ∧
     (regs [((F.PWR_CTRL_gov_en, 0), 0)] s).fld F.PWR_CTRL_gov_en 0 0 = 0) ∧
    (let s := regs [((F.PWR_SV_v_code, 0), 15)] up
     (s.setGoal 34 30).vCode 34 < (s.setGoal 34 30).goalOf 34 ∧ (s.setGoal 34 0).goalOf 34 < (s.setGoal 34 0).vCode 34 ∧
     (s.setGoal 34 15).vCode 34 = (s.setGoal 34 15).goalOf 34) ∧
    (up.fwMay 101 false = false ∧
      (let s := regs ((domDeps 33).map (fun d => ((F.PWR_DOM_powered, d), 1)) ++ [((F.GLOBAL_MODE_mode, 0), 2)]) up
       s.fwMay 33 true = true ∧ s.depsOn 33 = true ∧ s.transOf 33 = none ∧ s.domOn 33 = false) ∧
      (let s := regs [((F.GLOBAL_MODE_mode, 0), 2)] (ce rdy)
       (let u := regs [((F.CE_CTRL_run, 0), 0)] s
        u.fwMay 0 false = true ∧ u.unneeded 0 = true ∧ u.transOf 0 = none ∧ u.domOn 0 = true)) ∧
      ((up.setTrans 5 (some .queued)).transOf 5 = some .queued) ∧
      (let s := (regs [((F.PWR_DOM_on, 5), 1)] up).setTrans 5 (some .on)
       s.transOf 5 = some .on ∧ domPresent s.part 5 = true ∧ s.fld F.PWR_DOM_on 5 0 ≠ 0 ∧ s.depsOn 5 = false ∧ s.domOn 5 = false ∧
       (regs ((domDeps 5).map fun d => ((F.PWR_DOM_powered, d), 1)) s).depsOn 5 = true) ∧
      (let s := (regs [((F.PWR_DOM_on, 5), 0)] up).setTrans 5 (some .off)
       s.transOf 5 = some .off ∧ s.fld F.PWR_DOM_on 5 0 = 0)) := by decide +kernel

/-- Monitor: sheets off, not yet due, without logical channel 3, asked for, under way and not, captured at the end of an interval; the Loupe's and the tags' control words on each part; a
record to read, at its last word and before. -/
theorem test_monitor_hyps :
    (let s := regs [((F.PM_SHEET_enable, 0), 1), ((F.RG_CHMAP_state, 3), 2)] (mg 2)
     s.fld F.PM_SHEET_enable 0 0 ≠ 0 ∧ sheetMode s.mode = true ∧ s.sheetTime = true ∧ s.served3 = false ∧ s.pm.sheet = none ∧
     s.pm.sheetAsk = none ∧ ({ s with pm := { s.pm with sheetLast := some s.tb } }).sheetTime = false ∧
     ({ s with pm := { s.pm with sheetAsk := some true } }).pm.sheetAsk ≠ none ∧
     (regs [((F.RG_CHMAP_state, 3), 0), ((F.RG_CHMAP_phys, 3), 3)] s).served3 = true ∧ sheetMode 7 = false ∧
     ({ s with pm := { s.pm with sheet := some (0, false, []) } }).pm.sheet ≠ none) ∧
    (let s := { up with tb := 15, tbFrac := 2 ^ 31, pm := { up.pm with sheetAsk := some true } }
     s.pending = [] ∧ s.inReset = false ∧ s.slewLeft = 0 ∧ s.tbAdvance.units ≠ s.units ∧ s.pm.sheetAsk = some true) ∧
    (up.part = .tkw6417 ∧ ({ up with part := .tkw3209 }).part = .tkw3209 ∧ up.fld F.PM_LOUPE_CTRL_run 0 0 = 0 ∧
      bitOf (0x80000003#32).toNat 31 = true ∧ bitsOf (0x80000003#32).toNat 0 8 ∈ loupeEvents ∧
      bitsOf (0x80000006#32).toNat 0 8 ∉ loupeEvents ∧
      (let s := regs [((F.PM_LOUPE_CTRL_run, 0), 1), ((F.PM_LOUPE_CTRL_event, 0), 3)] up
       s.fld F.PM_LOUPE_CTRL_run 0 0 ≠ 0 ∧ s.loupeWord = 3 &&& loupeMask ∧ s.loupeWord ≠ 4 &&& loupeMask) ∧ up.fld F.PM_TAG_run 0 0 = 0) ∧
    (let s := { up with pm := { up.pm with buffer := [List.replicate 32 1], word := 7 } }
     s.pm.buffer = [List.replicate 32 1] ∧ s.pm.word = 7 ∧ up.pm.buffer = [] ∧ up.pm.word ≠ 7) := by decide +kernel

/-! ## Traps at issue, the schedule, steps -/

/-- IssueTraps: a strand that cannot issue; one that may, with a double error, a bad field, a bad rounding mode, at the last
index; one whose source awaits a result. -/
theorem test_issue_hyps :
    ((sv { rdy with st := .waiting }).canIssue 34 0 (infoA fA) = false ∧
      (sv rdy).canIssue 34 0 (infoA fA) = true) ∧
    (Fetched (sv rdy) iSv (infoA fA) ∧ fA.rs2 ≠ 0 ∧ fA.rs2.toNat = 31) ∧
    (Fetched (sv { rdy with fpstat := 4 }) iSv (infoFp (sv { rdy with fpstat := 4 }) iSv fA 4) ∧ 4 ≤ ((sv { rdy with fpstat := 4 }).me iSv).round) ∧
    (Fetched (sv { rdy with pc := 0xFFFF }) iSv (infoA fA) ∧ ((sv { rdy with pc := 0xFFFF }).me iSv).pc = 0xFFFF) ∧
    (let s := sv { rdy with busy := [31] }
     Fetched s iSv (infoA fA) ∧ (s.me iSv).pc ≠ 0xFFFF ∧ s.hazard 34 0 (infoA fA) = true) :=
  ⟨by decide, ⟨fetchedB_sound (by decide), by decide, by decide⟩, ⟨fetchedB_sound (by decide), by decide⟩,
   ⟨fetchedB_sound (by decide), by decide⟩, fetchedB_sound (by decide), by decide, by decide⟩

def fB (imm : Int) : FmtB := { pred := 0, neg := false, rs1 := 0, imm := BitVec.ofInt 16 imm }
def fLd (imm : Int) (dl : Nat) : FmtL := { imm := BitVec.ofInt 10 imm, size := 3, dl := BitVec.ofNat 3 dl, rs1 := 1, rt := 4 }
/-- IssueTraps: a branch below index 0; loads unaligned, beyond the address space, in the device area, with a deadline that is
too near; scratch unaligned and beyond its reach; locks while a slot is held and out of order; REGRD of a title strand. -/
theorem test_issue_access_hyps :
    (let s := sv { rdy with pc := 3 }
     Issues s iSv { reads := pN 0, branch := true, last := uncond (fB (-4)) } ∧ ((s.me iSv).rp 0 != false) = true ∧
     ((s.me iSv).pc.toNat : Int) + (fB (-4)).imm.toInt < 0) ∧
    (let s := sv (rdy2 1 0)
     let f := fLd 0 0
     Issues s iSv (infoMem f [] (gN f.rt)) ∧ (eaL f (s.me iSv) (bytesL f)).toNat % bytesL f ≠ 0) ∧
    (let s := sv (rdy2 (2 ^ 36 - 8) 0)
     let f := fLd 1 0
     Issues s iSv (infoMem f [] (gN f.rt)) ∧ (eaL f (s.me iSv) (bytesL f)).toNat % bytesL f = 0 ∧
     2 ^ 36 ≤ (eaL f (s.me iSv) (bytesL f)).toNat ∧ (s.me iSv).title = false ∧
     s.scratchReach iSv < (eaL f (s.me iSv) (bytesL f)).toNat + bytesL f) ∧
    (let s := ce { rdy2 0x7E000000 0 with title := true }
     let f := fLd 0 0
     Issues s iCe (infoMem f [] (gN f.rt)) ∧ (eaL f (s.me iCe) (bytesL f)).toNat < 2 ^ 36 ∧ (s.me iCe).title = true ∧
     inDeviceArea (eaL f (s.me iCe) (bytesL f)).toNat = true) ∧
    (let s := regs [((F.CE_CTRL_dl_strict, 0), 1)] { ce { rdy2 0 0 with dl := [(1, 0)] } with tb := 100 }
     let f := fLd 0 1
     Issues s iCe (infoMem f [] (gN f.rt)) ∧
     (issued s iCe (infoMem f [] (gN f.rt))).rangeBad iCe (eaL f (s.me iCe) (bytesL f)) (bytesL f) .read = false ∧
     (issued s iCe (infoMem f [] (gN f.rt))).dlBad iCe f.dl = true) ∧
    (let d : Info := { reads := gN 1, writes := gN 3, mem := true }
     IssuesE (sv { rdy2 (BitVec.ofNat 64 h1) 0 with slots := [5] }) iSv d ∧
     Issues (sv { rdy2 (BitVec.ofNat 64 h1) 0 with locks := [7] }) iSv d ∧ hIndex h1 ≤ 7) ∧
    (let s := ce { rdy with title := true }
     s.unprivileged iCe = true ∧ Issues s iCe (infoX (gN 1) (gN 3))) := by
  refine ⟨⟨issuesB_sound (by decide), by decide, by decide⟩, ⟨issuesB_sound (by decide), by decide⟩,
    ⟨issuesB_sound (by decide), by decide⟩, ⟨issuesB_sound (by decide), by decide⟩, ⟨issuesB_sound (by decide), by decide⟩,
    ⟨issuesE (by decide) (by decide), issuesB_sound (by decide), by decide⟩, by decide, issuesB_sound (by decide)⟩

/-- ScheduleCommit: a valid set at its bounds whose next tick may start, and an invalid one. -/
theorem test_schedule_hyps :
    (let s := ((({ regs [((F.GLOBAL_MODE_mode, 0), 3), ((F.TK_CTRL_run, 0), 1)] up with tb := 1 }).setShd F.TK_PERIOD_ns 0 0 1000000).setShd
       F.TK_INGEST_CLOSE_ns 0 0 10000).setShd F.TK_COMMIT_DL_ns 0 0 1000000
     s.shd F.TK_PERIOD_ns 0 0 = 1000000 ∧ s.shd F.TK_INGEST_CLOSE_ns 0 0 = 10000 ∧ s.shd F.TK_COMMIT_DL_ns 0 0 = 1000000 ∧
     s.mode = 3 ∧ s.fld F.TK_CTRL_run 0 0 ≠ 0 ∧ s.fld F.TK_START_time 0 0 ≤ s.tb ∧ s.missDue = false) ∧
    ¬ (1000000 ≤ (up.setShd F.TK_PERIOD_ns 0 0 999999).shd F.TK_PERIOD_ns 0 0) := by decide

/-- StepRunsFront: a command in front of another; RangeCommit: an engine that is on. -/
theorem test_front : step { up with pending := [.tkRunSet, .tkRunClear] } = exec .tkRunSet { up with pending := [.tkRunClear] } ∧
    (ce rdy).engOn 0 = true := ⟨rfl, by decide⟩

/-! ## Words and ill-formed commands -/

def rA (rd rs1 rs2 : Nat) : FmtA :=
  { neg := false, pred := 0, rs2 := BitVec.ofNat 5 rs2, rs1 := BitVec.ofNat 5 rs1, rd := BitVec.ofNat 5 rd }
/-- One word of each opcode, bit by bit from R63, R65 and the function tables: funct, neg and pred, rs2, rs1, rd, opcode. -/
theorem test_words_registers :
    decodeSillar iSv 0b000001_0_000_00010_00001_00011_0000001#32 = some (.sub iSv (rA 3 1 2)) ∧
    decodeSillar iSv 0b000010_0_000_00010_00001_00011_0000010#32 = some (.cmpLt iSv (rA 3 1 2)) ∧
    decodeSillar iSv 0b000110_0_000_00000_10001_00111_0000011#32 = some (.pnz iSv (rA 7 17 0)) ∧
    decodeSillar iSv 0b000101_1_111_00010_00001_00011_0000100#32 = some (.fdiv iSv { rA 3 1 2 with neg := true, pred := 7 }) ∧
    decodeSillar iSv 0b001000_0_000_00011_01111_11111_0000101#32 = some (.vext iSv (rA 31 15 3)) ∧
    decodeSillar iSv 0b000010111111_101_00001_00011_0001100#32 = some (.shi iSv { imm := 191, pred := 5, rs1 := 1, rd := 3 }) := by
  decide
/-- Loads, memory, entity, session, tick and system words. -/
theorem test_words_memory :
    decodeSillar iSv 0b1111111111_10_111_00001_00011_0010000#32 = some (.ld iSv { imm := -1, size := 2, dl := 7, rs1 := 1, rt := 3 }) ∧
    decodeSillar iSv 0b0000000001_00_000_00001_01111_0011001#32 = some (.svst iSv { imm := 1, size := 0, dl := 0, rs1 := 1, rt := 15 }) ∧
    decodeSillar iSv 0b0111001_011_00010_00001_00011_0100000#32 = some (.amoCas iSv true { dl := 3, rs2 := 2, rs1 := 1, rd := 3 }) ∧
    decodeSillar iSv 0b0011000_000_00010_00001_00011_0110000#32 = some (.entNew iSv { dl := 0, rs2 := 2, rs1 := 1, rd := 3 }) ∧
    decodeSillar iSv 0b0001000_000_00010_00001_00011_0110001#32 = some (.sesSend iSv { dl := 0, rs2 := 2, rs1 := 1, rd := 3 }) ∧
    decodeSillar iSv 0b0000001_000_00000_00000_00000_0110010#32 = some (.tickDone iSv { dl := 0, rs2 := 0, rs1 := 0, rd := 0 }) ∧
    decodeSillar iSv 0b100000000000_010_00001_00011_0111000#32 = some (.csrMerge iSv { imm := 0x800, rs1 := 1, rd := 3 }) ∧
    decodeSillar iSv 0b000000000001_111_00000_00000_0111000#32 = some (.tret iSv { imm := 1, rs1 := 0, rd := 0 }) ∧
    decodeSillar iSv 0b000000000111_100_00000_00011_0111001#32 = some (.evwait iSv { imm := 7, rs1 := 0, rd := 3 }) ∧
    decodeSillar iSv 0b000001111111_100_00000_00000_0111000#32 = some (.fence iSv { imm := 127, rs1 := 0, rd := 0 }) ∧
    decodeSillar iSv 0b1000000000000000_11111_0_000_0101010#32 = none ∧
    decodeSillar iSv 0b0000000000000000_11111_1_011_0101010#32 = some (.jr iSv { imm := 0, rs1 := 31, neg := true, pred := 3 }) := by
  decide

/-- Each check of WellFormed refuses an instruction that fails it alone, and takes its neighbour. -/
theorem test_ill_formed :
    (Instr.clz iSv (rA 3 1 1)).wf = false ∧ (Instr.clz iSv (rA 3 1 0)).wf = true ∧
    (Instr.shi iSv { imm := 192, pred := 0, rs1 := 1, rd := 1 }).wf = false ∧
    (Instr.cmpEq iSv (rA 0 1 2)).wf = false ∧ (Instr.cmpEq iSv (rA 8 1 2)).wf = false ∧ (Instr.cmpEq iSv (rA 7 1 2)).wf = true ∧
    (Instr.pand iSv (rA 1 8 2)).wf = false ∧ (Instr.pand iSv (rA 1 2 8)).wf = false ∧
    (Instr.pset iSv (rA 1 1 0)).wf = false ∧ (Instr.pset iSv (rA 1 0 1)).wf = false ∧
    (Instr.vadd iSv (rA 16 1 2)).wf = false ∧ (Instr.vadd iSv (rA 15 16 2)).wf = false ∧ (Instr.vadd iSv (rA 15 1 16)).wf = false ∧
    (Instr.vext iSv (rA 1 1 4)).wf = false ∧
    (Instr.vld iSv { imm := 0, size := 1, dl := 0, rs1 := 1, rt := 1 }).wf = false ∧
    (Instr.vld iSv { imm := 0, size := 0, dl := 0, rs1 := 1, rt := 16 }).wf = false ∧
    (Instr.sld iSv { imm := 0, size := 0, dl := 1, rs1 := 1, rt := 1 }).wf = false ∧
    (Instr.fence iSv { imm := 128, rs1 := 0, rd := 0 }).wf = false ∧ (Instr.fence iSv { imm := 127, rs1 := 1, rd := 0 }).wf = false ∧
    (Instr.br iSv { pred := 0, neg := false, rs1 := 1, imm := 0 }).wf = false ∧
    (Instr.jr iSv { pred := 0, neg := false, rs1 := 1, imm := 1 }).wf = false := by decide
theorem test_ill_formed_system :
    (Instr.entLock iSv { dl := 1, rs2 := 0, rs1 := 1, rd := 1 }).wf = false ∧
    (Instr.entLock iSv { dl := 0, rs2 := 1, rs1 := 1, rd := 1 }).wf = false ∧
    (Instr.entPub iSv { dl := 0, rs2 := 1, rs1 := 1, rd := 1 }).wf = false ∧
    (Instr.sesInfo iSv { dl := 1, rs2 := 0, rs1 := 1, rd := 1 }).wf = false ∧
    (Instr.tickWait iSv { dl := 7, rs2 := 0, rs1 := 1, rd := 1 }).wf = false ∧
    (Instr.tickDone iSv { dl := 1, rs2 := 0, rs1 := 0, rd := 0 }).wf = false ∧
    (Instr.csrGet iSv { imm := 0, rs1 := 1, rd := 1 }).wf = false ∧ (Instr.csrPut iSv { imm := 0, rs1 := 1, rd := 1 }).wf = false ∧
    (Instr.dlrel iSv { imm := 1, rs1 := 1, rd := 1 }).wf = false ∧ (Instr.dlrel iSv { imm := 0, rs1 := 1, rd := 8 }).wf = false ∧
    (Instr.yield iSv { imm := 1, rs1 := 0, rd := 0 }).wf = false ∧ (Instr.tret iSv { imm := 0, rs1 := 0, rd := 0 }).wf = false ∧
    (Instr.regrd iSv { imm := 1, rs1 := 1, rd := 1 }).wf = false ∧ (Instr.evwait iSv { imm := 8, rs1 := 0, rd := 1 }).wf = false ∧
    (Instr.identify { bare 1 0 [] with a := 1 }).wf = false ∧ (Instr.identify (bare 1 0 [])).wf = true := by decide

/-- SillarRoundTrip: an instruction that is well-formed and has a word; the word stands for it. -/
theorem test_round_trip : (Instr.shi iSv { imm := 191, pred := 7, rs1 := 31, rd := 31 }).wf = true ∧
    ∃ w, encodeSillar (.shi iSv { imm := 191, pred := 7, rs1 := 31, rd := 31 }) = some w ∧
      decodeSillar iSv w = some (.shi iSv { imm := 191, pred := 7, rs1 := 31, rd := 31 }) :=
  ⟨by decide, 0b000010111111_111_11111_11111_0001100#32, by decide, by decide⟩

end Sys2Proof.Tests
end

section
/-!
PROOFS. The forms that the invariants speak of: the reset state meets them (O52), and a step does not keep all of them from every
state (O53).
-/

namespace Sys2Proof.Machine

/-! ## The reset state -/

/-- Settles O52: every map and list that the invariants speak of is empty at reset. -/
theorem resetInForm : Obligations.ResetInForm := by
  unfold Obligations.ResetInForm
  have memory : MemoryForm State.reset := ⟨rfl, rfl, rfl, rfl⟩
  have directory : DirectoryForm State.reset := rfl
  have numbers : OperationNumbers State.reset := ⟨fun _ h => absurd h List.not_mem_nil, List.nodup_nil⟩
  have fuse : FuseForm State.reset := fun _ h => absurd h List.not_mem_nil
  exact ⟨memory, directory, numbers, fuse, rfl, rfl⟩

/-! ## The wait breaker and the numbers of operations -/

/-- A scratch DMA that stands at a granule boundary: it asks for a mesh bulk credit. -/
def boundaryOp : Op := { id := 1, e := 0, t := 0, kind := .sdmaOut, credit := .asked 0 }

/-- Strand 0 of engine 0 holds a DMA buffer and waits for DMA buffers in the name of that same transfer, for longer than
CE_BREAK_TIME; the wait breaker is about to look at it. -/
def selfWaiting : State :=
  { State.reset with
    strands := [(skey 0 0, { st := .waiting, wait := some (.dma 1), dma := 1 })]
    ops := [boundaryOp], nextOp := 2, tb := 2000000, pending := [.waitBreakerCheck 0 0] }

theorem selfWaiting_operationNumbers : OperationNumbers selfWaiting :=
  ⟨by unfold Fresh; decide, by decide⟩

theorem step_selfWaiting : step selfWaiting = .next ({ selfWaiting with pending := [] }.waitBreaker 0 0) := rfl

/-- The transfer is requeued behind "the waiting transfer", which is itself: it is listed twice. -/
theorem selfWaiting_broken_ids :
    ({ selfWaiting with pending := [] }.waitBreaker 0 0).ops.map Op.id = [1, 1] := by decide +kernel

/-- Refutes O53: numbers that lie apart are not kept by a step of every state. Where a strand waits for DMA buffers in the name of
a transfer that is under way already, and the wait breaker finds that same transfer at its boundary (R52), `preemptDma` lists it
twice: once as the transfer that waits, once as the one that is requeued behind it. That the numbers lie apart says nothing of what a
strand waits for, so the clause is not kept on its own. -/
theorem not_stepsKeepForm : ¬ Obligations.StepsKeepForm := by
  unfold Obligations.StepsKeepForm
  intro ⟨_, _, numbers, _⟩
  obtain ⟨_, apart⟩ := numbers _ _ selfWaiting_operationNumbers step_selfWaiting
  rw [selfWaiting_broken_ids] at apart
  exact absurd apart (by decide)

end Sys2Proof.Machine
end

section
/-!
PROOFS. Firmware's hold on an engine (O18): CE_CTRL, the instruction window, the commit of the ranges.
-/

namespace Sys2Proof.Machine

/-! ## Fields and events -/

theorem bitOf_toNat {w : Nat} (v : BitVec w) (k : Nat) : bitOf v.toNat k = v.getLsbD k := by
  simp [bitOf, BitVec.getLsbD, Nat.testBit_eq_decide_div_mod_eq, beq_eq_decide]

/-- Two fields of one column whose strides agree stay apart all along it. -/
theorem fldKey_ne_column {f g : Fld} (e : Nat) (hs : f.s1 = g.s1) (h : fldKey f 0 0 ≠ fldKey g 0 0) :
    fldKey f e 0 ≠ fldKey g e 0 := by
  unfold fldKey fldAddr at *
  rw [hs]
  omega

/-- A field takes the bits of the word that are its own. -/
theorem State.fld_setFld_bits (s : State) (f : Fld) (i j v lo w : Nat) (hw : f.w = w) :
    (s.setFld f i j (bitsOf v lo w)).fld f i j = bitsOf v lo w := by
  rw [State.fld_setFld_same, hw]
  exact Nat.mod_mod _ _


theorem State.eng_endToken_ne (s : State) {e a : Nat} (h : a ≠ e) : (s.endToken e).eng a = s.eng a :=
  State.eng_setEng_ne s e a _ h

/-- An event that is raised is on its way, whether it is the first of its source or folds into one that is. -/
theorem State.raised_raise (s : State) (v : FaultEv) : Raised (s.raise v) v.group v.src := by
  unfold State.raise
  split
  · next h =>
    obtain ⟨w, hw, hv⟩ := List.any_eq_true.1 h
    simp only [Bool.and_eq_true, beq_iff_eq] at hv
    exact ⟨_, List.mem_map_of_mem hw, by simp [hv]⟩
  · exact ⟨_, List.mem_append_right _ (List.mem_singleton_self _), rfl, rfl⟩

/-! ## CE_CTRL and the instruction window (R43) -/

/-- The fields of CE_CTRL that a write always sets. -/
def State.ceCtrlPlain (s : State) (e v : Nat) : State :=
  ((s.setFld F.CE_CTRL_lsq_per_strand e 0 (bitsOf v 8 7)).setFld F.CE_CTRL_break_en e 0 (bitsOf v 3 1)).setFld
    F.CE_CTRL_dl_strict e 0 (bitsOf v 2 1)

/-- `run` with the write's condition, and the token it ends. -/
def State.ceCtrlRun (s : State) (e v : Nat) (c : Prop) [Decidable c] : State :=
  if c then (s.setFld F.CE_CTRL_run e 0 (bitsOf v 0 1)).endToken e else s

/-- `imem_lock` with the write's condition. -/
def State.ceCtrlLock (s : State) (e v : Nat) (c : Prop) [Decidable c] : State :=
  if c then s.setFld F.CE_CTRL_imem_lock e 0 (bitsOf v 1 1) else s

theorem State.ceCtrl_eq {s : State} {e : Nat} (v : Nat) (on : s.engOn e = true) :
    s.ceCtrl e v = ((s.ceCtrlPlain e v).ceCtrlRun e v (s.fld F.CE_CTRL_imem_lock e 0 ≠ 0 ∨ bitOf v 0 = false)).ceCtrlLock e v
      (s.fld F.CE_CTRL_run e 0 = 0 ∨ bitOf v 1 = true) := by
  simp [State.ceCtrl, on, State.ceCtrlLock, State.ceCtrlRun, State.ceCtrlPlain, State.fldB]

theorem State.fld_ceCtrlPlain (s : State) (e v : Nat) {f : Fld} {i j : Nat} (h : fldKey f i j ∉ ceCtrlKeys e) :
    (s.ceCtrlPlain e v).fld f i j = s.fld f i j := by
  simp only [ceCtrlKeys, List.mem_cons, not_or] at h
  obtain ⟨_, _, hdl, hbr, hlsq, _⟩ := h
  rw [State.ceCtrlPlain, State.fld_setFld_ne _ _ _ _ _ _ _ _ hdl, State.fld_setFld_ne _ _ _ _ _ _ _ _ hbr,
    State.fld_setFld_ne _ _ _ _ _ _ _ _ hlsq]

theorem State.fld_ceCtrlRun_ne (s : State) (e v : Nat) (c : Prop) [Decidable c] {f : Fld} {i j : Nat}
    (h : fldKey f i j ≠ fldKey F.CE_CTRL_run e 0) : (s.ceCtrlRun e v c).fld f i j = s.fld f i j := by
  unfold State.ceCtrlRun
  split
  · rw [State.fld_endToken, State.fld_setFld_ne _ _ _ _ _ _ _ _ h]
  · rfl

theorem State.fld_ceCtrlLock_ne (s : State) (e v : Nat) (c : Prop) [Decidable c] {f : Fld} {i j : Nat}
    (h : fldKey f i j ≠ fldKey F.CE_CTRL_imem_lock e 0) : (s.ceCtrlLock e v c).fld f i j = s.fld f i j := by
  unfold State.ceCtrlLock
  split
  · exact State.fld_setFld_ne _ _ _ _ _ _ _ _ h
  · rfl

theorem State.fld_ceCtrlRun (s : State) (e v : Nat) (c : Prop) [Decidable c] :
    (s.ceCtrlRun e v c).fld F.CE_CTRL_run e 0 = if c then bitsOf v 0 1 else s.fld F.CE_CTRL_run e 0 := by
  unfold State.ceCtrlRun
  split
  · exact State.fld_setFld_bits _ _ _ _ _ _ _ rfl
  · rfl

theorem State.fld_ceCtrlLock (s : State) (e v : Nat) (c : Prop) [Decidable c] :
    (s.ceCtrlLock e v c).fld F.CE_CTRL_imem_lock e 0 = if c then bitsOf v 1 1 else s.fld F.CE_CTRL_imem_lock e 0 := by
  unfold State.ceCtrlLock
  split
  · exact State.fld_setFld_bits _ _ _ _ _ _ _ rfl
  · rfl

theorem State.ceCtrl_frame (s : State) (e v : Nat) : { s.ceCtrl e v with regs := s.regs, engs := s.engs } = s := by
  unfold State.ceCtrl
  split
  · rfl
  · dsimp only
    split <;> split <;> rfl

theorem State.eng_ceCtrl_ne {s : State} {e a : Nat} (v : Nat) (on : s.engOn e = true) (h : a ≠ e) :
    (s.ceCtrl e v).eng a = s.eng a := by
  rw [State.ceCtrl_eq v on, State.ceCtrlLock, State.ceCtrlRun, State.ceCtrlPlain]
  split <;> split <;> simp [State.eng_endToken_ne _ h]

/-- A field of CE_CTRL that neither condition governs, through the two that are governed. -/
theorem State.fld_ceCtrl_plain {s : State} {e : Nat} (v : Nat) (on : s.engOn e = true) {f : Fld} {i j : Nat}
    (hrun : fldKey f i j ≠ fldKey F.CE_CTRL_run e 0) (hlock : fldKey f i j ≠ fldKey F.CE_CTRL_imem_lock e 0) :
    (s.ceCtrl e v).fld f i j = (s.ceCtrlPlain e v).fld f i j := by
  rw [State.ceCtrl_eq v on, State.fld_ceCtrlLock_ne _ _ _ _ hlock, State.fld_ceCtrlRun_ne _ _ _ _ hrun]

theorem State.fld_ceCtrl_run {s : State} {e : Nat} (v : Nat) (on : s.engOn e = true) :
    (s.ceCtrl e v).fld F.CE_CTRL_run e 0 = if s.fld F.CE_CTRL_imem_lock e 0 ≠ 0 ∨ bitOf v 0 = false then bitsOf v 0 1
      else s.fld F.CE_CTRL_run e 0 := by
  simp (disch := refine fldKey_ne_column e rfl ?_; decide) only [State.ceCtrl_eq v on, State.fld_ceCtrlLock_ne,
    State.fld_ceCtrlRun, State.ceCtrlPlain, State.fld_setFld_ne]

theorem State.fld_ceCtrl_lock {s : State} {e : Nat} (v : Nat) (on : s.engOn e = true) :
    (s.ceCtrl e v).fld F.CE_CTRL_imem_lock e 0 = if s.fld F.CE_CTRL_run e 0 = 0 ∨ bitOf v 1 = true then bitsOf v 1 1
      else s.fld F.CE_CTRL_imem_lock e 0 := by
  simp (disch := refine fldKey_ne_column e rfl ?_; decide) only [State.ceCtrl_eq v on, State.fld_ceCtrlLock,
    State.fld_ceCtrlRun_ne, State.ceCtrlPlain, State.fld_setFld_ne]

/-- The fields of CE_CTRL that a write always sets take their bits. -/
theorem State.fld_ceCtrl_always {s : State} {e : Nat} (v : Nat) (on : s.engOn e = true) :
    (s.ceCtrl e v).fld F.CE_CTRL_dl_strict e 0 = bitsOf v 2 1 ∧ (s.ceCtrl e v).fld F.CE_CTRL_break_en e 0 = bitsOf v 3 1 ∧
      (s.ceCtrl e v).fld F.CE_CTRL_lsq_per_strand e 0 = bitsOf v 8 7 := by
  simp (disch := refine fldKey_ne_column e rfl ?_; decide) only [State.fld_ceCtrl_plain v on, State.ceCtrlPlain,
    State.fld_setFld_same, State.fld_setFld_ne]
  exact ⟨Nat.mod_mod _ _, Nat.mod_mod _ _, Nat.mod_mod _ _⟩

theorem State.fld_ceCtrl_other {s : State} {e : Nat} (v : Nat) (on : s.engOn e = true) {f : Fld} {i j : Nat}
    (h : fldKey f i j ∉ ceCtrlKeys e) : (s.ceCtrl e v).fld f i j = s.fld f i j := by
  have key := h
  simp only [ceCtrlKeys, List.mem_cons, not_or] at key
  obtain ⟨hrun, hlock, _⟩ := key
  rw [State.fld_ceCtrl_plain v on hrun hlock, State.fld_ceCtrlPlain s e v h]

theorem State.fld_imemNext (s : State) (e : Nat) :
    (s.imemNext e).fld F.CE_IMEM_ADDR_index e 0 = (s.fld F.CE_IMEM_ADDR_index e 0 + 1) % 65536 := by
  rw [State.imemNext, State.fld_setFld_same]
  exact Nat.mod_mod _ _

/-- An unlocked window takes the word and steps. -/
theorem State.imemWrite_unlocked {s : State} {e : Nat} (v : Word32) (on : s.engOn e = true)
    (unlocked : s.fld F.CE_CTRL_imem_lock e 0 = 0) :
    s.imemWrite e v = ({ s with imem := smapPut 0 s.imem (imemKey e (s.fld F.CE_IMEM_ADDR_index e 0)) v }).imemNext e := by
  simp [State.imemWrite, on, State.fldB, unlocked]

/-- A locked window refuses the word and tells the violation. -/
theorem State.imemWrite_locked {s : State} {e : Nat} (v : Word32) (on : s.engOn e = true)
    (locked : s.fld F.CE_CTRL_imem_lock e 0 ≠ 0) :
    s.imemWrite e v = (s.setFld F.CE_STATUS_lock_violation e 0 1).raise
      { group := 48, src := 2, inst := e, master := 34, access := 1, addr := s.fld F.CE_IMEM_ADDR_index e 0 } := by
  simp [State.imemWrite, on, State.fldB, locked]

theorem State.imemRead_on {s : State} {e : Nat} (on : s.engOn e = true) :
    s.imemRead e = ((smapGet 0 s.imem (imemKey e (s.fld F.CE_IMEM_ADDR_index e 0))).toNat, s.imemNext e) := by
  simp [State.imemRead, on]

/-! ## Commits of pending fields (R8) -/

theorem State.fld_commitFld_ne (s : State) (f : Fld) (i j : Nat) {g : Fld} {a b : Nat} (h : fldKey g a b ≠ fldKey f i j) :
    (s.commitFld f i j).fld g a b = s.fld g a b := by
  unfold State.commitFld
  split
  · rfl
  · exact State.fld_setFld_ne s f g i j _ a b h

theorem State.shadow_commitFld_ne (s : State) (f : Fld) (i j : Nat) {k : Nat} (h : k ≠ fldKey f i j) :
    smapFind (s.commitFld f i j).shadow k = smapFind s.shadow k := by
  unfold State.commitFld
  split
  · rfl
  · exact smapFind_erase_ne s.shadow h

theorem State.shadow_commitFld_same (s : State) (f : Fld) (i j : Nat) :
    smapFind (s.commitFld f i j).shadow (fldKey f i j) = none := by
  unfold State.commitFld
  split
  · next h => exact h
  · exact smapFind_erase_same s.shadow _

theorem State.commitFld_none {s : State} {f : Fld} {i j : Nat} (h : smapFind s.shadow (fldKey f i j) = none) :
    s.commitFld f i j = s := by
  simp [State.commitFld, h]

theorem State.commitFld_frame (s : State) (f : Fld) (i j : Nat) :
    { s.commitFld f i j with regs := s.regs, shadow := s.shadow } = s := by
  unfold State.commitFld
  split <;> rfl

/-- From `s` to `t` the field has been committed: what was pending is active, and nothing is pending now. -/
def Committed (s t : State) (f : Fld) (i j : Nat) : Prop :=
  Applied s t f i j ∧ smapFind t.shadow (fldKey f i j) = none

theorem committed_commitFld (s : State) (f : Fld) (i j : Nat) : Committed s (s.commitFld f i j) f i j :=
  ⟨⟨fun v h => State.fld_commitFld s f i j v h, fun h => by rw [State.commitFld_none h]⟩, State.shadow_commitFld_same s f i j⟩

/-- Another commit leaves a committed field committed. -/
theorem Committed.commitFld {s t : State} {f : Fld} {i j : Nat} (h : Committed s t f i j) (g : Fld) (a b : Nat) :
    Committed s (t.commitFld g a b) f i j := by
  obtain ⟨applied, clear⟩ := h
  by_cases same : fldKey f i j = fldKey g a b
  · rw [State.commitFld_none (same ▸ clear)]
    exact ⟨applied, clear⟩
  · rw [Committed, Applied, State.fld_commitFld_ne t g a b same, State.shadow_commitFld_ne t g a b same]
    exact ⟨applied, clear⟩

/-- A commit after that of a field at another key is one of the state before it. -/
theorem Committed.of_commitFld {s t : State} {f g : Fld} {i j a b : Nat} (hne : fldKey f i j ≠ fldKey g a b)
    (h : Committed (s.commitFld g a b) t f i j) : Committed s t f i j := by
  rwa [Committed, Applied, State.fld_commitFld_ne s g a b hne, State.shadow_commitFld_ne s g a b hne] at h

/-- The commit of fields of row `i` one after the other. -/
def State.commitList (s : State) (i : Nat) (l : List (Fld × Nat)) : State := l.foldl (fun s p => s.commitFld p.1 i p.2) s

theorem State.commitFlds_eq (s : State) (fs : List Fld) (i n : Nat) :
    s.commitFlds fs i n = s.commitList i (fs.flatMap fun f => (List.range n).map fun j => (f, j)) := by
  simp only [State.commitFlds, State.commitList, List.foldl_flatMap, List.foldl_map]

theorem State.commitList_frame (s : State) (i : Nat) (l : List (Fld × Nat)) :
    { s.commitList i l with regs := s.regs, shadow := s.shadow } = s := by
  induction l generalizing s with
  | nil => rfl
  | cons p l ih =>
    calc { s.commitList i (p :: l) with regs := s.regs, shadow := s.shadow }
        = { { (s.commitFld p.1 i p.2).commitList i l with
              regs := (s.commitFld p.1 i p.2).regs, shadow := (s.commitFld p.1 i p.2).shadow } with
            regs := s.regs, shadow := s.shadow } := rfl
      _ = { s.commitFld p.1 i p.2 with regs := s.regs, shadow := s.shadow } := by rw [ih]
      _ = s := State.commitFld_frame s p.1 i p.2

theorem State.commitList_other (s : State) (i : Nat) (l : List (Fld × Nat)) {g : Fld} {a b : Nat}
    (h : ∀ p ∈ l, fldKey g a b ≠ fldKey p.1 i p.2) :
    (s.commitList i l).fld g a b = s.fld g a b ∧
      smapFind (s.commitList i l).shadow (fldKey g a b) = smapFind s.shadow (fldKey g a b) := by
  induction l generalizing s with
  | nil => exact ⟨rfl, rfl⟩
  | cons p l ih =>
    obtain ⟨hp, hl⟩ := List.forall_mem_cons.1 h
    obtain ⟨active, pending⟩ := ih (s.commitFld p.1 i p.2) hl
    exact ⟨active.trans (State.fld_commitFld_ne s p.1 i p.2 hp), pending.trans (State.shadow_commitFld_ne s p.1 i p.2 hp)⟩

theorem Committed.commitList {s t : State} {f : Fld} {i j : Nat} (h : Committed s t f i j) (l : List (Fld × Nat)) :
    Committed s (t.commitList i l) f i j := by
  induction l generalizing t with
  | nil => exact h
  | cons p l ih => exact ih (h.commitFld p.1 i p.2)

/-- Where no two fields of the list share a key, each is committed. -/
theorem committed_commitList (s : State) (i : Nat) (l : List (Fld × Nat))
    (apart : ∀ p ∈ l, ∀ q ∈ l, fldKey p.1 i p.2 = fldKey q.1 i q.2 → p = q) {p : Fld × Nat} (hp : p ∈ l) :
    Committed s (s.commitList i l) p.1 i p.2 := by
  induction l generalizing s with
  | nil => cases hp
  | cons q l ih =>
    by_cases hq : p = q
    · subst hq
      exact (committed_commitFld s p.1 i p.2).commitList l
    · have hl : p ∈ l := (List.mem_cons.1 hp).resolve_left hq
      refine Committed.of_commitFld (fun hk => hq (apart p hp q List.mem_cons_self hk)) (ih (s.commitFld q.1 i q.2) ?_ hl)
      exact fun a ha b hb => apart a (List.mem_cons_of_mem q ha) b (List.mem_cons_of_mem q hb)

/-! ## The ranges of an engine (R42) -/

/-- The range fields of an engine, each with the numbers of its ranges. -/
def ceRangePlaces : List (Fld × Nat) := ceRangeFlds.flatMap fun f => (List.range 64).map fun j => (f, j)

theorem mem_ceRangePlaces (p : Fld × Nat) : p ∈ ceRangePlaces ↔ p.1 ∈ ceRangeFlds ∧ p.2 < 64 := by
  simp only [ceRangePlaces, List.mem_flatMap, List.mem_map, List.mem_range]
  exact ⟨fun ⟨f, hf, j, hj, h⟩ => h ▸ ⟨hf, hj⟩, fun h => ⟨p.1, h.1, p.2, h.2, rfl⟩⟩

theorem State.ceRangeCommit_eq {s : State} {e : Nat} (on : s.engOn e = true) :
    s.ceRangeCommit e = s.commitList e ceRangePlaces := by
  rw [State.ceRangeCommit, if_pos on, State.commitFlds_eq, ceRangePlaces]

/-- No two range fields of an engine share a key. -/
theorem ceRange_keys_apart (e : Nat) {p q : Fld × Nat} (hp : p ∈ ceRangePlaces) (hq : q ∈ ceRangePlaces)
    (hk : fldKey p.1 e p.2 = fldKey q.1 e q.2) : p = q := by
  have strides : ∀ f ∈ ceRangeFlds, f.s1 = 0x10000 ∧ f.s2 = 0x10 := by decide
  have low : ∀ f ∈ ceRangeFlds, ∀ n, fldKey f e n = fldKey f 0 0 + 1048576 * e + 256 * n := by
    intro f hf n
    obtain ⟨h1, h2⟩ := strides f hf
    simp only [fldKey, fldAddr, h1, h2]
    omega
  have first : ∀ f ∈ ceRangeFlds, ∀ g ∈ ceRangeFlds, fldKey f 0 0 % 256 = fldKey g 0 0 % 256 → f = g := by decide
  have hf := ((mem_ceRangePlaces p).1 hp).1
  have hg := ((mem_ceRangePlaces q).1 hq).1
  rw [low _ hf, low _ hg] at hk
  have same : p.1 = q.1 := first _ hf _ hg (by omega)
  rw [same] at hk
  exact Prod.ext same (by omega)

/-- Settles O18: each command by the equation of its meaning, the range commit by induction on the fields it lists. -/
theorem engineControl : Obligations.EngineControl := by
  unfold Obligations.EngineControl
  refine ⟨fun e v s on => ⟨?_, fun n hn => ⟨fun unlocked => ?_, fun locked => ?_, fun p => ?_⟩⟩, fun e s on => ?_⟩
  · refine ⟨s.ceCtrl e.val v.toNat, rfl, ?_⟩
    simp only [← bitOf_toNat]
    obtain ⟨strict, breakEn, lsq⟩ := State.fld_ceCtrl_always v.toNat on
    exact ⟨State.fld_ceCtrl_run _ on, State.fld_ceCtrl_lock _ on, strict, breakEn, lsq,
      State.ceCtrl_frame s e.val v.toNat, fun a ha => State.eng_ceCtrl_ne _ on ha,
      fun f i j h => State.fld_ceCtrl_other _ on h⟩
  · refine ⟨s.imemWrite e.val v, rfl, ?_⟩
    subst hn
    rw [State.imemWrite_unlocked v on unlocked]
    exact ⟨smapGet_put_same 0 s.imem _ v, State.fld_imemNext _ _, fun k hk => smapGet_put_ne 0 0 s.imem v hk, rfl⟩
  · refine ⟨s.imemWrite e.val v, rfl, ?_⟩
    have index : (s.setFld F.CE_STATUS_lock_violation e.val 0 1).fld F.CE_IMEM_ADDR_index e.val 0 = n :=
      (State.fld_setFld_ne s F.CE_STATUS_lock_violation F.CE_IMEM_ADDR_index _ _ 1 _ _
        (fldKey_ne_column e.val rfl (by decide))).trans hn.symm
    rw [State.imemWrite_locked v on locked]
    exact ⟨State.raise_imem _ _, (State.fld_raise _ _ _ _ _).trans (State.fld_setFld_same _ _ _ _ _), State.raised_raise _ _,
      (State.fld_raise _ _ _ _ _).trans index⟩
  · refine ⟨_, rfl, ?_⟩
    rw [State.imemRead_on on, hn]
    exact ⟨rfl, State.fld_imemNext s e.val, rfl⟩
  · refine ⟨s.ceRangeCommit e.val, rfl, fun f hf n hn => ?_⟩
    rw [State.ceRangeCommit_eq on]
    obtain ⟨⟨taken, kept⟩, clear⟩ := committed_commitList s e.val ceRangePlaces
      (fun _ hp _ hq => ceRange_keys_apart e.val hp hq) ((mem_ceRangePlaces (f, n)).2 ⟨hf, hn⟩)
    refine ⟨taken, kept, clear, State.commitList_frame s e.val _, fun g a b h => State.commitList_other s e.val _ fun p hp => ?_⟩
    obtain ⟨hpf, hpn⟩ := (mem_ceRangePlaces p).1 hp
    exact h p.1 hpf p.2 hpn

end Sys2Proof.Machine
end

section
/-!
PROOFS. Register access by address (O36): where nothing answers, pairs, plain fields by their access codes.
-/

namespace Sys2Proof.Machine

/-! ### Where nothing answers -/

theorem State.regWrite_nowhere {s : State} {a : Nat} (p : Path) (v : Nat) (h : s.blkLive a = false ∨ regAt a = none) :
    s.regWrite p a v = (false, s) := by
  obtain off | absent := h
  · simp [State.regWrite, off]
  · simp [State.regWrite, absent]

theorem State.regRead_nowhere {s : State} {a : Nat} (p : Path) (h : s.blkLive a = false ∨ regAt a = none) :
    s.regRead p a = (0, s) := by
  obtain off | absent := h
  · simp [State.regRead, off]
  · simp [State.regRead, absent]

theorem State.regRead_unseen {p : Path} {a : Nat} (s : State) (h : regSeen p a = false) : s.regRead p a = (0, s) := by
  simp [State.regRead, h]

/-! ### Pairs -/

/-- The low word of a pair is held on a write (R7). -/
theorem State.regWrite_pairLow {s : State} {a : Nat} {r : RegD} {i j : Nat} (p : Path) (v : Nat) (live : s.blkLive a = true)
    (found : regAt a = some (r, i, j, 0)) (wide : r.wide = true) :
    s.regWrite p a v = (false, { s with holdWr := smapInsert s.holdWr (pathKey p) (a, v) }) := by
  simp [State.regWrite, live, found, wide]

/-- A read of the low word of a pair answers it and holds the high word (R7). -/
theorem State.regRead_pairLow {s : State} {a : Nat} {r : RegD} {i j : Nat} {p : Path} (live : s.blkLive a = true)
    (seen : regSeen p a = true) (found : regAt a = some (r, i, j, 0)) (wide : r.wide = true) :
    s.regRead p a = (s.laneTouch r.base i).readPair p r i j 0 := by
  simp [State.regRead, live, seen, found, wide]

theorem State.holdFrac_frame (s : State) (p : Path) (a : Nat) : { s.holdFrac p a with holdRd := s.holdRd } = s := by
  unfold State.holdFrac
  split <;> rfl

/-- From `s` to `t` only what a lane counts and shows has been brought up to date. -/
def LaneShown (s t : State) : Prop := ∃ r p n, t = { s with regs := r, pt := p, free := n }

theorem LaneShown.refl (s : State) : LaneShown s s := ⟨s.regs, s.pt, s.free, rfl⟩

theorem LaneShown.useFree {s t : State} (h : LaneShown s t) : LaneShown s t.useFree := by
  obtain ⟨r, p, n, rfl⟩ := h
  exact ⟨_, _, _, rfl⟩

theorem LaneShown.setFld {s t : State} (h : LaneShown s t) (f : Fld) (i j v : Nat) : LaneShown s (t.setFld f i j v) := by
  obtain ⟨r, p, n, rfl⟩ := h
  exact ⟨_, _, _, rfl⟩

theorem LaneShown.addFld {s t : State} (h : LaneShown s t) (f : Fld) (i j v : Nat) : LaneShown s (t.addFld f i j v) :=
  h.setFld f i j _

theorem LaneShown.setPt {s t : State} (h : LaneShown s t) (x : Pt) : LaneShown s { t with pt := x } := by
  obtain ⟨r, p, n, rfl⟩ := h
  exact ⟨_, _, _, rfl⟩

theorem laneShown_trainShown (s : State) (l : Nat) : LaneShown s (s.trainShown l) := by
  unfold State.trainShown
  extract_lets t top
  split
  · exact (LaneShown.refl s).useFree.setFld _ _ _ _
  · exact LaneShown.refl s

theorem laneShown_patCounts (s : State) (l : Nat) : LaneShown s (s.patCounts l) := by
  unfold State.patCounts
  split
  · exact LaneShown.refl s
  · exact (((LaneShown.refl s).useFree.addFld _ _ _ _).addFld _ _ _ _).setPt _

theorem laneShown_lineCounts (s : State) (l : Nat) : LaneShown s (s.lineCounts l) := by
  unfold State.lineCounts State.freeAdd
  split
  · exact LaneShown.refl s
  · exact (((((LaneShown.refl s).useFree.addFld _ _ _ _).useFree.addFld _ _ _ _).useFree.addFld _ _ _ _).useFree.addFld
      _ _ _ _).useFree.addFld _ _ _ _

/-- What a read brings up to date first is what its lane counts and shows (logs 96, 188). -/
theorem laneShown_laneTouch (s : State) (b l : Nat) : LaneShown s (s.laneTouch b l) := by
  unfold State.laneTouch
  split
  · exact laneShown_trainShown s l
  · exact laneShown_patCounts s l
  · exact laneShown_patCounts s l
  · exact laneShown_lineCounts s l
  · exact laneShown_lineCounts s l
  · exact laneShown_lineCounts s l
  · exact laneShown_lineCounts s l
  · exact LaneShown.refl s

/-- The read of a pair's low word changes nothing but what is held, after the lane's counts. -/
theorem readPair_low_frame (s : State) (p : Path) (r : RegD) (i j : Nat) {u : State} (hu : u = s.laneTouch r.base i) :
    { (u.readPair p r i j 0).2 with holdRd := s.holdRd, lastRead := s.lastRead } = u := by
  obtain ⟨x, y, z, shown⟩ := laneShown_laneTouch s r.base i
  have holds : u.holdRd = s.holdRd ∧ u.lastRead = s.lastRead := by rw [hu, shown]; exact ⟨rfl, rfl⟩
  have frame := State.holdFrac_frame u p (r.base + i * r.s1 + j * r.s2)
  rw [← holds.1, ← holds.2]
  calc _ = { u.holdFrac p (r.base + i * r.s1 + j * r.s2) with holdRd := u.holdRd, lastRead := u.lastRead } := rfl
    _ = { { u.holdFrac p (r.base + i * r.s1 + j * r.s2) with holdRd := u.holdRd } with lastRead := u.lastRead } := rfl
    _ = u := by rw [frame]

/-! ### Writes of plain fields (R8) -/

/-- From `s` to `t` the field has taken its bits of the word `v` as its access code says. -/
def Written (s t : State) (f : Fld) (i j v : Nat) : Prop :=
  (f.acc = .rw → t.fld f i j = clampFld f (bitsOf v f.lo f.w) % 2 ^ f.w) ∧
  (f.acc = .rws → smapFind t.shadow (fldKey f i j) = some (bitsOf v f.lo f.w % 2 ^ f.w) ∧ t.fld f i j = s.fld f i j) ∧
  (f.acc = .w1c → t.fld f i j = (s.fld f i j &&& (2 ^ f.w - 1 - bitsOf v f.lo f.w)) % 2 ^ f.w) ∧
  (f.acc = .ro → t.fld f i j = s.fld f i j)

theorem State.writeFld_frame (s : State) (f : Fld) (i j v : Nat) :
    { s.writeFld f i j v with regs := s.regs, shadow := s.shadow } = s := by
  unfold State.writeFld
  cases f.acc <;> rfl

theorem State.writeFld_other (s : State) (f : Fld) (i j v : Nat) {g : Fld} {a b : Nat} (h : fldKey g a b ≠ fldKey f i j) :
    (s.writeFld f i j v).fld g a b = s.fld g a b ∧
      smapFind (s.writeFld f i j v).shadow (fldKey g a b) = smapFind s.shadow (fldKey g a b) := by
  have plain (x : Nat) : (s.setFld f i j x).fld g a b = s.fld g a b ∧
      smapFind (s.setFld f i j x).shadow (fldKey g a b) = smapFind s.shadow (fldKey g a b) :=
    ⟨State.fld_setFld_ne s f g i j x a b h, rfl⟩
  unfold State.writeFld
  cases f.acc with
  | rw => exact plain _
  | w1c => exact plain _
  | w1s => exact plain _
  | rws => exact ⟨rfl, smapFind_insert_ne s.shadow _ h⟩
  | ro => exact ⟨rfl, rfl⟩
  | wo => exact ⟨rfl, rfl⟩

theorem State.setShd_find (s : State) (f : Fld) (i j v : Nat) :
    smapFind (s.setShd f i j v).shadow (fldKey f i j) = some (v % 2 ^ f.w) := smapFind_insert_same s.shadow _ _

theorem written_writeFld (s : State) (f : Fld) (i j v : Nat) : Written s (s.writeFld f i j v) f i j v := by
  unfold Written State.writeFld
  cases f.acc <;> simp [State.setShd_find]

/-- Bits cleared once are clear: clearing them again changes nothing. -/
theorem and_mod_two_pow_idem (x m w : Nat) : ((x &&& m) % 2 ^ w &&& m) % 2 ^ w = (x &&& m) % 2 ^ w := by
  apply Nat.eq_of_testBit_eq
  intro k
  simp only [Nat.testBit_mod_two_pow, Nat.testBit_and]
  cases decide (k < w) <;> simp

/-- The same write again leaves a written field as it is. -/
theorem Written.again {s t : State} {f : Fld} {i j v : Nat} (h : Written s t f i j v) :
    Written s (t.writeFld f i j v) f i j v := by
  obtain ⟨_, rws, w1c, ro⟩ := h
  unfold Written State.writeFld at *
  cases acc : f.acc with
  | rw => simp
  | rws =>
    obtain ⟨_, kept⟩ := rws acc
    simp [kept, State.setShd_find]
  | w1c => simp [w1c acc, and_mod_two_pow_idem]
  | w1s => simp
  | ro => simp [ro acc]
  | wo => simp

theorem Written.writeFld_ne {s t : State} {f g : Fld} {i j v : Nat} (h : Written s t f i j v)
    (hne : fldKey f i j ≠ fldKey g i j) : Written s (t.writeFld g i j v) f i j v := by
  obtain ⟨active, pending⟩ := State.writeFld_other t g i j v hne
  rwa [Written, active, pending]

/-- A write after that of a field at another key is one of the state before it. -/
theorem Written.of_writeFld {s t : State} {f g : Fld} {i j v : Nat} (hne : fldKey f i j ≠ fldKey g i j)
    (h : Written (s.writeFld g i j v) t f i j v) : Written s t f i j v := by
  rwa [Written, (State.writeFld_other s g i j v hne).1] at h

/-- A list of fields at (i, j) written with `v`, one after the other. -/
def State.writeList (s : State) (i j v : Nat) (l : List Fld) : State := l.foldl (fun s f => s.writeFld f i j v) s

theorem State.writeList_frame (s : State) (i j v : Nat) (l : List Fld) :
    { s.writeList i j v l with regs := s.regs, shadow := s.shadow } = s := by
  induction l generalizing s with
  | nil => rfl
  | cons f l ih =>
    calc { s.writeList i j v (f :: l) with regs := s.regs, shadow := s.shadow }
        = { { (s.writeFld f i j v).writeList i j v l with
              regs := (s.writeFld f i j v).regs, shadow := (s.writeFld f i j v).shadow } with
            regs := s.regs, shadow := s.shadow } := rfl
      _ = { s.writeFld f i j v with regs := s.regs, shadow := s.shadow } := by rw [ih]
      _ = s := State.writeFld_frame s f i j v

theorem Written.writeList {s t : State} {f : Fld} {i j v : Nat} (h : Written s t f i j v) (l : List Fld)
    (apart : ∀ g ∈ l, g ≠ f → fldKey g i j ≠ fldKey f i j) : Written s (t.writeList i j v l) f i j v := by
  induction l generalizing t with
  | nil => exact h
  | cons g l ih =>
    obtain ⟨hg, hl⟩ := List.forall_mem_cons.1 apart
    by_cases same : g = f
    · subst same
      exact ih h.again hl
    · exact ih (h.writeFld_ne (hg same).symm) hl

/-- Each field of the list that shares its key with no other takes what its access code says. -/
theorem written_writeList (s : State) (i j v : Nat) (l : List Fld) {f : Fld} (hf : f ∈ l)
    (apart : ∀ g ∈ l, g ≠ f → fldKey g i j ≠ fldKey f i j) : Written s (s.writeList i j v l) f i j v := by
  induction l generalizing s with
  | nil => cases hf
  | cons g l ih =>
    obtain ⟨hg, hl⟩ := List.forall_mem_cons.1 apart
    by_cases same : g = f
    · subst same
      exact (written_writeFld s g i j v).writeList l hl
    · have hf' : f ∈ l := (List.mem_cons.1 hf).resolve_left (Ne.symm same)
      exact (ih (s.writeFld g i j v) hf' hl).of_writeFld (hg same).symm

/-- A register of one word that its path may write, and whose write does no more than set fields. -/
theorem State.regWrite_plain {s : State} {a : Nat} {r : RegD} {i j : Nat} {p : Path} {v : Nat} (live : s.blkLive a = true)
    (found : regAt a = some (r, i, j, 0)) (wide : r.wide = false) (path : svOnly p r.base = false) (dom : r.base ≠ 0x40400)
    (low : s.actLow p r i j v = none) (high : s.actHigh r i j v = none) :
    s.regWrite p a v = (false, s.writeList i j v r.flds) := by
  simp [State.regWrite, live, found, wide, State.writeReg, path, dom, low, high, State.writeFlds, State.writeList]

theorem State.regWrite_svOnly {s : State} {a : Nat} {r : RegD} {i j : Nat} {p : Path} (v : Nat) (live : s.blkLive a = true)
    (found : regAt a = some (r, i, j, 0)) (wide : r.wide = false) (path : svOnly p r.base = true) :
    s.regWrite p a v = (false, s) := by
  have dom : r.base ≠ 0x40400 := by
    intro h
    rw [h] at path
    cases p <;> simp [svOnly] at path
  simp [State.regWrite, live, found, wide, State.writeReg, path, dom]

/-- Settles O36: each kind of access by the equation of its read or write; a plain register by induction on its fields. -/
theorem registerAccess : Obligations.RegisterAccess := by
  unfold Obligations.RegisterAccess
  intro p a v s
  refine ⟨fun nowhere => ⟨⟨_, rfl, ?_⟩, ⟨_, rfl, ?_⟩⟩, fun unseen => ⟨_, rfl, ?_⟩, fun r i j live found => ⟨fun wide => ⟨⟨_, rfl, ?_⟩,
    fun seen u hu => ⟨_, rfl, ?_⟩⟩, fun narrow path => ⟨_, rfl, ?_⟩,
    fun narrow path dom low high f hf apart => ⟨_, rfl, ?_⟩⟩⟩
  · rw [State.regWrite_nowhere p _ nowhere]
  · rw [State.regRead_nowhere p nowhere]
  · rw [State.regRead_unseen s unseen]
  · rw [State.regWrite_pairLow p _ live found wide]
    exact ⟨smapFind_insert_same _ _ _, rfl⟩
  · rw [State.regRead_pairLow live seen found wide, ← hu]
    exact ⟨rfl, smapFind_insert_same _ _ _, readPair_low_frame s p r i j hu⟩
  · rw [State.regWrite_svOnly _ live found narrow path]
  · rw [State.regWrite_plain live found narrow path dom low high]
    obtain ⟨plain, rws, w1c, ro⟩ := written_writeList s i j v.toNat r.flds hf apart
    exact ⟨plain, rws, w1c, ro, State.writeList_frame s i j v.toNat r.flds⟩

end Sys2Proof.Machine
end

section
/-!
PROOFS. What leaves the registers of the fault collector and the power manager alone, and gives no engine an operation: accesses to
memory, samples, operations that end, sessions, and what a domain loses (O40, O47).
-/

namespace Sys2Proof.Machine

-- One proof is elaborated at a time: the stack of every thread counts against the memory the check allows.
set_option Elab.async false

/-! ## What the registers of the fault collector and of the power manager do not depend on -/

/-- Keys of the fault collector's registers and of the power manager's. -/
def guardedKey (k : Nat) : Bool := (0x200000 ≤ k && k < 0x300000) || (0x400000 ≤ k && k < 0x500000)

/-- Wherever the field stands, its key is none of the fault collector's or the power manager's. -/
def Fld.apart (f : Fld) : Bool := 0x50000 ≤ f.base || (f.s1 == 0 && f.s2 == 0 && !guardedKey (fldKey f 0 0))

theorem Fld.apart_key {f : Fld} (h : f.apart = true) (i j : Nat) : guardedKey (fldKey f i j) = false := by
  simp only [Fld.apart, Bool.or_eq_true, Bool.and_eq_true, decide_eq_true_eq, beq_iff_eq, Bool.not_eq_true'] at h
  obtain high | ⟨⟨h1, h2⟩, single⟩ := h
  · have : 0x500000 ≤ fldKey f i j := by unfold fldKey fldAddr; omega
    simp [guardedKey]
    omega
  · have : fldKey f i j = fldKey f 0 0 := by simp [fldKey, fldAddr, h1, h2]
    rwa [this]

/-- From `s` to `t` the registers of the fault collector and of the power manager stand, and no engine has an operation that had none;
where `still` holds, neither has a strand, nor a byte of scratch, changed. -/
def Keeps (still : Bool) (s t : State) : Prop :=
  (∀ k, guardedKey k = true → smapFind t.regs k = smapFind s.regs k) ∧ (∀ o ∈ t.ops, ∃ p ∈ s.ops, p.e = o.e) ∧
    (still = true → t.strands = s.strands ∧ t.scratch = s.scratch)

theorem smapFind_put_ne {α : Type} [DecidableEq α] (d : α) (m : SMap α) {k q : Nat} (v : α) (h : q ≠ k) :
    smapFind (smapPut d m k v) q = smapFind m q := by
  unfold smapPut
  split
  · exact smapFind_erase_ne m h
  · exact smapFind_insert_ne m v h

theorem smapFind_append {α : Type} (m n : SMap α) (k : Nat) : smapFind (m ++ n) k = (smapFind m k).or (smapFind n k) := by
  induction m with
  | nil => rfl
  | cons e m ih =>
    obtain ⟨j, v⟩ := e
    by_cases h : k = j
    · simp [smapFind, h]
    · simpa [smapFind, h] using ih

/-- Entries are picked by their keys: a key that is picked keeps its entry, another has none. -/
theorem smapFind_filter {α : Type} (m : SMap α) (p : Nat → Bool) (k : Nat) :
    smapFind (m.filter fun e => p e.1) k = if p k then smapFind m k else none := by
  induction m with
  | nil => simp [smapFind]
  | cons e m ih =>
    obtain ⟨j, v⟩ := e
    by_cases h : k = j
    · subst h
      cases hp : p k <;> simp [hp, smapFind, ih]
    · cases hp : p j <;> simp [hp, smapFind, h, ih]

theorem smapFind_copy_below {α : Type} (m src : SMap α) {lo hi k : Nat} (h : k < lo) :
    smapFind (smapCopy m src lo hi) k = smapFind m k := by
  have slice : smapFind (smapSlice src lo hi) k = none := by
    rw [smapSlice, smapFind_filter src (fun j => lo ≤ j && j < hi)]
    simp [h]
  rw [smapCopy, smapFind_append, smapFind_append, slice, smapFind_filter m (· < lo), smapFind_filter m (hi ≤ ·)]
  by_cases above : hi ≤ k
  · cases found : smapFind m k <;> simp [h, above]
  · simp [h, above]

theorem tdSlots_key {e k : Nat} (he : e < 34) (hk : k < 8) : guardedKey (fldKey F.PM_TD_slots e k) = false := by
  simp [guardedKey, fldKey, fldAddr, F.PM_TD_slots]
  omega

theorem State.findOp_mem {s : State} {id : Nat} {o : Op} (h : s.findOp id = some o) : o ∈ s.ops := List.mem_of_find?_eq_some h

theorem State.creditNext_mem {s : State} {o : Op} {n : Nat} (h : s.creditNext = some (o, n)) : o ∈ s.ops := by
  obtain ⟨q, hq, found⟩ := List.exists_of_findSome?_eq_some h
  split at found
  · split at found
    · cases found; exact hq
    · cases found
  · cases found

namespace Keeps

variable {b : Bool} {s t u : State}

theorem refl (b : Bool) (s : State) : Keeps b s s := ⟨fun _ _ => rfl, fun o h => ⟨o, h, rfl⟩, fun _ => ⟨rfl, rfl⟩⟩

theorem ite {c : Prop} [Decidable c] (h₁ : Keeps b s t) (h₂ : Keeps b s u) : Keeps b s (if c then t else u) := by
  split
  · exact h₁
  · exact h₂

theorem iteSnd {α : Type} {c : Prop} [Decidable c] {x y : α × State} (h₁ : Keeps b s x.2) (h₂ : Keeps b s y.2) :
    Keeps b s (if c then x else y).2 := by
  split
  · exact h₁
  · exact h₂

theorem foldl {α : Type} {f : State → α → State} (step : ∀ u a, Keeps b s u → Keeps b s (f u a)) (l : List α) (h : Keeps b s t) :
    Keeps b s (l.foldl f t) := by
  induction l generalizing t with
  | nil => exact h
  | cons a l ih => exact ih (step t a h)

/-- A fold over a list whose members have a property. -/
theorem foldl_mem {α : Type} {f : State → α → State} (l : List α) (step : ∀ u, ∀ a ∈ l, Keeps b s u → Keeps b s (f u a))
    (h : Keeps b s t) : Keeps b s (l.foldl f t) := by
  induction l generalizing t with
  | nil => exact h
  | cons a l ih =>
    obtain ⟨first, rest⟩ := List.forall_mem_cons.1 fun a ha u => step u a ha
    exact ih (fun u a ha => rest a ha u) (first t h)

/-! ### Plain updates -/

theorem setFldAt (h : Keeps b s t) {f : Fld} {i j v : Nat} (apart : guardedKey (fldKey f i j) = false) :
    Keeps b s (t.setFld f i j v) := by
  obtain ⟨regs, rest⟩ := h
  refine ⟨fun q hq => ?_, rest⟩
  have hne : q ≠ fldKey f i j := by rintro rfl; rw [hq] at apart; cases apart
  exact (smapFind_put_ne _ t.regs _ hne).trans (regs q hq)

theorem setFld (h : Keeps b s t) {f : Fld} {i j v : Nat} (apart : f.apart = true := by decide) : Keeps b s (t.setFld f i j v) :=
  h.setFldAt (Fld.apart_key apart i j)

theorem addFld (h : Keeps b s t) {f : Fld} {i j v : Nat} (apart : f.apart = true := by decide) : Keeps b s (t.addFld f i j v) :=
  h.setFld apart

theorem raise (h : Keeps b s t) {v : FaultEv} : Keeps b s (t.raise v) := by
  unfold State.raise
  exact ite h h

theorem occ (h : Keeps b s t) {o : Occ} : Keeps b s (t.occ o) := by
  unfold State.occ
  exact ite h h

theorem useFree (h : Keeps b s t) : Keeps b s t.useFree := h
theorem setChan (h : Keeps b s t) {c : Nat} {x : Chan} : Keeps b s (t.setChan c x) := h
theorem setGran (h : Keeps b s t) {c g : Nat} {x : Gran} : Keeps b s (t.setGran c g x) := h
theorem storeWhole (h : Keeps b s t) {c g : Nat} {x : SMap Byte} : Keeps b s (t.storeWhole c g x) := h
theorem storePoison (h : Keeps b s t) {c g : Nat} {x : List Byte} : Keeps b s (t.storePoison c g x) := h
theorem command (h : Keeps b s t) {c : Nat} : Keeps b s (t.command c) := h
theorem deny (h : Keeps b s t) {m wa : Nat} {w : Bool} : Keeps b s (t.deny m wa w) := h

/-! ### A channel's state -/

theorem refStat (h : Keeps b s t) {c : Nat} : Keeps b s (t.refStat c) := h.setFld.setFld.setFld

theorem exitSr (h : Keeps b s t) {c : Nat} : Keeps b s (t.exitSr c) := h.setChan.setFld.setFld.addFld.refStat

theorem rouse (h : Keeps b s t) {c : Nat} : Keeps b s (t.rouse c) := ite (ite h h.exitSr) (ite h h.setChan)

theorem clearRows (h : Keeps b s t) {c j : Nat} {w : Bool} : Keeps b s (t.clearRows c j w) := by
  cases w
  · exact h.setChan.addFld
  · exact h.setChan.addFld

theorem countAct (h : Keeps b s t) {c j r : Nat} : Keeps b s (t.countAct c j r) := ite h (ite h.setChan.clearRows h.setChan)

theorem activate (h : Keeps b s t) {c j r : Nat} : Keeps b s (t.activate c j r) := h.setChan.countAct

theorem neighbourStep (h : Keeps b s t) {c j : Nat} : Keeps b s (t.neighbourStep c j) := by
  unfold State.neighbourStep
  dsimp only
  split
  · exact h
  · next q rest _ =>
    cases q with
    | nil => exact ite h.setChan.addFld.occ h.setChan
    | cons r q => exact ite h.setChan.countAct.addFld.occ h.setChan.countAct

theorem drainNeigh (h : Keeps b s t) {c j n : Nat} : Keeps b s (t.drainNeigh c j n) := by
  induction n generalizing t with
  | zero => exact h
  | succ n ih => exact ite h (ih h.neighbourStep)

theorem openFor (h : Keeps b s t) {c g : Nat} {o : Occ} : Keeps b s (t.openFor c g o) :=
  ite h.command.occ (ite h h.addFld.drainNeigh).activate.command.occ

/-! ### Reads and writes of memory -/

theorem decode (h : Keeps b s t) {c g : Nat} {l : List SymErr} : Keeps b s (t.decode c g l).2 := by
  unfold State.decode
  dsimp only
  split <;> exact h.setGran

theorem worstLine (h : Keeps b s t) {c pc line n : Nat} : Keeps b s (t.worstLine c pc line n) :=
  ite (ite h.setFld.setFld h) (ite h.setFld.setFld h)

theorem countLine (h : Keeps b s t) {c pc line : Nat} : Keeps b s (t.countLine c pc line) := h.setChan.worstLine

theorem demand (h : Keeps b s t) {c g wa m a : Nat} {d : Dec} : Keeps b s (t.demand c g wa m a d) := by
  unfold State.demand
  split
  · exact h
  · exact foldl (fun _ _ hu => hu.countLine) _ (ite h.addFld h.addFld)
  · exact h.addFld.raise
  · exact h.addFld.raise

theorem queueGran (h : Keeps b s t) {c g q : Nat} : Keeps b s (t.queueGran c g q).2 := by
  unfold State.queueGran
  dsimp only
  split
  · exact h
  · split
    · exact h
    · exact h.decode

theorem readOcc (h : Keeps b s t) {o : Occ} {out : GOut} : Keeps b s (t.readOcc o out) := by
  cases out with
  | clean => exact h.occ
  | corrected => exact h.occ.occ
  | poisoned => exact h
  | uncorrectable => exact h

theorem countRd (h : Keeps b s t) {c k : Nat} : Keeps b s (t.countRd c k) := h.addFld
theorem countWr (h : Keeps b s t) {c k : Nat} : Keeps b s (t.countWr c k) := h.addFld

theorem readGran (h : Keeps b s t) {c g m k wa : Nat} : Keeps b s (t.readGran c g m k wa).2 := by
  unfold State.readGran
  dsimp only
  split
  · exact h.countRd.queueGran.demand.readOcc
  · exact h.countRd.openFor.decode.demand.readOcc

theorem updDrain (h : Keeps b s t) {c : Nat} : Keeps b s (t.updDrain c) := ite h.setFld.occ (ite h.setFld h)

theorem queueWrite (h : Keeps b s t) {c g k : Nat} {x : SMap Byte} {w : Writer} : Keeps b s (t.queueWrite c g k x w) := by
  unfold State.queueWrite
  dsimp only
  split
  · exact h.setChan
  · exact ite h (setChan (t := { t with nextReq := t.nextReq + 1 }) h).updDrain

theorem wholeGran (h : Keeps b s t) {c g m k wa : Nat} {x : SMap Byte} : Keeps b s (t.wholeGran c g m k wa x) :=
  ite h.queueWrite h.countWr.openFor.storeWhole.occ

theorem ueEnter (h : Keeps b s t) {c g wa k m : Nat} {n : Option Nat} : Keeps b s (t.ueEnter c g wa k m n) := by
  unfold State.ueEnter
  dsimp only
  split
  · exact h.addFld.setFld
  · split
    · exact h.addFld
    · refine ite h.addFld (setFld ?_)
      exact foldl (fun _ _ hu => hu.rouse.wholeGran) _ h.addFld

theorem writeGran (h : Keeps b s t) {c g m k wa : Nat} {x : SMap Byte} : Keeps b s (t.writeGran c g m k wa x) := by
  have read : Keeps b s (((t.countWr c k).countRd c k).openFor c g { ev := 0x21, inst := c, master := m, addr := wa, cls := k }) :=
    h.countWr.countRd.openFor
  exact ite h.queueWrite (ite h.wholeGran (ite (ite read.decode.demand.occ.occ.storePoison.ueEnter read.decode.demand.occ.occ.storePoison)
    read.decode.demand.occ.occ.storeWhole))

theorem directLate (h : Keeps b s t) {c m wa k : Nat} : Keeps b s (t.directLate c m wa k) := by
  unfold State.directLate
  split
  · exact ite h.addFld.occ h
  · exact h

theorem meshDirect (h : Keeps b s t) {c m e n : Nat} : Keeps b s (t.meshDirect c m e n) := ite h.occ.occ h

theorem worldRead (h : Keeps b s t) {wa m : Nat} {k : Option Nat} : Keeps b s (t.worldRead wa m k).2 := by
  unfold State.worldRead
  split
  · exact h.deny
  · split
    · exact h.deny
    · split
      · exact h.rouse.directLate.meshDirect.readGran
      · exact h

theorem worldWrite (h : Keeps b s t) {wa m : Nat} {k : Option Nat} {x : SMap Byte} : Keeps b s (t.worldWrite wa m k x).2 := by
  unfold State.worldWrite
  split
  · exact h.deny
  · split
    · exact h.deny
    · split
      · exact foldl (fun _ _ hu => hu.rouse.directLate.meshDirect.writeGran) _ h
      · exact h

theorem worldPut (h : Keeps b s t) {wa m : Nat} {x : List Byte} : Keeps b s (t.worldPut wa m x) :=
  foldl (fun _ _ hu => hu.worldWrite) _ h

theorem lateSpan (h : Keeps b s t) {wa n due : Nat} : Keeps b s (t.lateSpan wa n due) := by
  refine ite h (foldl (fun u k hu => ?_) _ h)
  split
  · exact hu
  · split
    · exact ite hu.addFld hu
    · exact hu

theorem readPieces (h : Keeps b s t) {f wa n m : Nat} {k : Option Nat} {l : List Byte} {o : Option GOut} :
    Keeps b s (readPieces f t wa n m k l o).2.2 := by
  induction f generalizing t wa n l o with
  | zero => exact h
  | succ f ih =>
    have read : Keeps b s (t.worldRead wa m k).2 := h.worldRead
    unfold Machine.readPieces
    split
    · exact h
    · dsimp only
      split
      · next eq => rwa [eq] at read
      · next eq => exact ih (by rwa [eq] at read)

theorem worldGet (h : Keeps b s t) {wa n m : Nat} {k : Option Nat} : Keeps b s (t.worldGet wa n m k).2.2 := h.readPieces

theorem setPm (h : Keeps b s t) {x : Pm} : Keeps b s { t with pm := x } := h
theorem setSt (h : Keeps b s t) {x : St} : Keeps b s { t with st := x } := h
theorem setTrn (h : Keeps b s t) {x : SMap Trn} : Keeps b s { t with trn := x } := h
theorem setPt (h : Keeps b s t) {x : Pt} : Keeps b s { t with pt := x } := h

/-! ### Samples -/

theorem sampleHit (h : Keeps b s t) {o : Occ} : Keeps b s (t.sampleHit o).2 := by
  unfold State.sampleHit
  split
  · exact iteSnd h.setPm h
  · exact iteSnd (iteSnd h.setPm.useFree h.setPm) h

theorem sample (h : Keeps b s t) {o : Occ} {x : Sample} : Keeps b s (t.sample o x) := by
  have hit : Keeps b s (t.sampleHit o).2 := h.sampleHit
  unfold State.sample
  split
  · next eq => rw [eq] at hit; exact hit
  · next eq => rw [eq] at hit; exact hit

theorem ringWrite (h : Keeps b s t) {x y : List Byte} : Keeps b s (t.ringWrite x y) := h.worldWrite.setFld

theorem ringRecord (h : Keeps b s t) {w : Bool} {x : List Byte} : Keeps b s (t.ringRecord w x) := by
  unfold State.ringRecord
  split
  · exact h
  · next q _ =>
    have written : Keeps b s (({ t with pm := { t.pm with lone := none } }).ringWrite q x) := h.setPm.ringWrite
    exact ite written.setFld written

theorem loseRecord (h : Keeps b s t) : Keeps b s t.loseRecord := h.setPm.addFld

theorem enterRecord (h : Keeps b s t) {x : Sample} {c : Nat} : Keeps b s (t.enterRecord x c) := by
  unfold State.enterRecord
  dsimp only
  split
  · exact ite h h.loseRecord
  · split
    · exact h
    · refine ite h.loseRecord (ite h.setPm.ringRecord (ite ?_ (ite h.setPm h)))
      exact ite h.setPm.setFld.setFld h.setPm.setFld

theorem finishSamples (h : Keeps b s t) {p : Sample → Bool} {c : Nat} : Keeps b s (t.finishSamples p c) :=
  foldl (fun _ _ hu => hu.enterRecord) _ h

theorem finishSample (h : Keeps b s t) {id c : Nat} : Keeps b s (t.finishSample id c) := h.finishSamples

/-! ### Operations and what strands hold -/

/-- An operation in the place of one of the same engine. -/
theorem setOp (h : Keeps b s t) {o x : Op} (mem : o ∈ t.ops) (same : x.e = o.e := by rfl) : Keeps b s (t.setOp x) := by
  obtain ⟨regs, ops, still⟩ := h
  refine ⟨regs, fun q hq => ?_, still⟩
  obtain ⟨p, hp, rfl⟩ := List.mem_map.1 hq
  split
  · rw [same]; exact ops o mem
  · exact ops p hp

theorem filterOps (h : Keeps b s t) {p : Op → Bool} : Keeps b s { t with ops := t.ops.filter p } := by
  obtain ⟨regs, ops, still⟩ := h
  exact ⟨regs, fun q hq => ops q (List.mem_filter.1 hq).1, still⟩

theorem dropOp (h : Keeps b s t) {id : Nat} : Keeps b s (t.dropOp id) := h.filterOps

theorem setStrand (h : Keeps false s t) {e k : Nat} {x : Strand} : Keeps false s (t.setStrand e k x) := by
  obtain ⟨regs, ops, _⟩ := h
  exact ⟨regs, ops, fun moved => absurd moved (by decide)⟩

theorem wrScratch (h : Keeps false s t) {e a : Nat} {x : List Byte} : Keeps false s (t.wrScratch e a x) := by
  obtain ⟨regs, ops, _⟩ := h
  refine ite ⟨regs, ops, ?_⟩ ⟨regs, ops, ?_⟩ <;> exact fun moved => absurd moved (by decide)

theorem setEng (h : Keeps b s t) {e : Nat} {x : Eng} : Keeps b s (t.setEng e x) := h
theorem setSess (h : Keeps b s t) {i : Nat} {x : Ses} : Keeps b s (t.setSess i x) := h
theorem setCtx (h : Keeps b s t) {i : Nat} {x : Ctx} : Keeps b s (t.setCtx i x) := h
theorem setEntry (h : Keeps b s t) {i : Nat} {x : Word64} : Keeps b s (t.setEntry i x) := h
theorem tearLock (h : Keeps b s t) {i : Nat} : Keeps b s (t.tearLock i) := h.setEntry
theorem noteDone (h : Keeps b s t) {k : Nat} : Keeps b s (t.noteDone k) := ite h h

theorem releaseSlot (h : Keeps false s t) {i e k : Nat} : Keeps false s (t.releaseSlot i e k) := h.setCtx.setStrand

theorem loseSlot (h : Keeps false s t) {e k i : Nat} : Keeps false s (t.loseSlot e k i) := by
  unfold State.loseSlot
  split
  · exact releaseSlot h
  · exact h.releaseSlot

theorem reclaim (h : Keeps false s t) {e k : Nat} : Keeps false s (t.reclaim e k) := by
  refine setStrand (setEng ?_)
  exact foldl (fun _ _ hu => hu.loseSlot) _ (foldl (fun _ _ hu => hu.tearLock) _ h)

theorem drainedOff (h : Keeps false s t) {e k : Nat} : Keeps false s (t.drainedOff e k) :=
  ite (ite h.reclaim.noteDone.setStrand h.reclaim.noteDone) h

theorem wakeAll (h : Keeps false s t) {e : Nat} : Keeps false s (t.wakeAll e) :=
  foldl (fun _ _ hu => ite hu.setStrand hu) _ h

theorem report (h : Keeps false s t) {e k : Nat} {r : Report} : Keeps false s (t.report e k r) := by
  refine ite h.setStrand ?_
  split
  · exact h.setStrand
  · exact h.setStrand

theorem countAcked (h : Keeps b s t) {o : Op} : Keeps b s (t.countAcked o) := by
  unfold State.countAcked
  split
  · exact h
  · exact h.setEng

theorem meshOcc (h : Keeps b s t) {r : Bool} {o : Op} : Keeps b s (t.meshOcc r o) := foldl (fun _ _ hu => hu.occ) _ h

theorem endOp (h : Keeps false s t) {o : Op} : Keeps false s (t.endOp o) :=
  h.meshOcc.dropOp.countAcked.setStrand.wakeAll.drainedOff

theorem failOp (h : Keeps false s t) {o : Op} {tr : Trap} : Keeps false s (t.failOp o tr) :=
  ite h.endOp h.endOp.report.finishSample

theorem completeOp (h : Keeps false s t) {o : Op} {v : Nat} : Keeps false s (t.completeOp o v) :=
  ite h.endOp h.endOp.setStrand.finishSample

theorem endSends (h : Keeps false s t) {i n : Nat} : Keeps false s (t.endSends i n) :=
  foldl (fun _ _ hu => hu.completeOp.setStrand) _ h

/-! ### Requests and bulk transfers -/

theorem markInit (h : Keeps b s t) {c lo hi : Nat} : Keeps b s (t.markInit c lo hi) :=
  foldl (fun _ _ hu => ite hu.setFld hu) _ h

theorem wholeBlocks (h : Keeps b s t) {w : Nat → Bool} : Keeps b s (t.wholeBlocks w) := by
  refine foldl (fun u l hu => foldl (fun v k hv => ite ?_ hv) _ hu) _ h
  split
  · exact foldl (fun _ _ hw => hw.markInit) _ hv
  · exact hv

theorem fillCut (h : Keeps b s t) {o : Op} : Keeps b s (t.fillCut o) := by
  refine ite (ite h.wholeBlocks ?_) h
  split
  · exact foldl (fun _ _ hu => hu.markInit) _ h
  · exact h

theorem refuseOp (h : Keeps false s t) {o : Op} {wa : Nat} : Keeps false s (t.refuseOp o wa) :=
  ite h.fillCut.failOp.setEng.setStrand h.fillCut.failOp

theorem sendReq (h : Keeps b s t) {r : Req} {d : Nat} : Keeps b s (t.sendReq r d) := h

theorem sendRead (h : Keeps false s t) {id e k m wa n d : Nat} {q : ReqKind} {c : Nat} :
    Keeps false s (t.sendRead id e k m wa n d q c) := by
  unfold State.sendRead
  split
  · exact h
  · split
    · exact h.refuseOp
    · split
      · exact h.refuseOp
      · exact h.sendReq

theorem sendWrite (h : Keeps false s t) {id e k m wa : Nat} {x : SMap Byte} {d c : Nat} :
    Keeps false s (t.sendWrite id e k m wa x d c) := by
  unfold State.sendWrite
  split
  · exact h
  · next found =>
    split
    · exact h.refuseOp
    · split
      · exact h.refuseOp
      · exact foldl (fun _ _ hu => hu.sendReq) _ (h.setOp (State.findOp_mem found))

theorem granuleOcc (h : Keeps b s t) {o : Op} {wa c : Nat} : Keeps b s (t.granuleOcc o wa c) := h.occ.sample

theorem sendGranule (h : Keeps false s t) {id : Nat} : Keeps false s (t.sendGranule id) := by
  unfold State.sendGranule
  split
  · exact h
  · next found =>
    dsimp only
    split
    · exact (h.setOp (State.findOp_mem found)).granuleOcc.sendRead
    · exact (h.setOp (State.findOp_mem found)).granuleOcc.sendWrite
    · exact (h.setOp (State.findOp_mem found)).granuleOcc.sendWrite
    · exact h

theorem dmaBegin (h : Keeps false s t) {id : Nat} : Keeps false s (t.dmaBegin id) := by
  unfold State.dmaBegin
  split
  · exact h
  · next o found =>
    have sent : Keeps false s (t.setOp { o with st := .sent, need := o.granules - o.prog }) := h.setOp (State.findOp_mem found)
    exact sendGranule (ite sent.wrScratch.useFree sent)

theorem grantCredits (h : Keeps false s t) {n : Nat} : Keeps false s (t.grantCredits n) := by
  induction n generalizing t with
  | zero => exact h
  | succ n ih =>
    unfold State.grantCredits
    split
    · exact h
    · next o k found =>
      dsimp only
      have woken (c : Prop) [Decidable c] {x : Strand} : o ∈ (if c then t.setStrand o.e o.t x else t).ops := by
        split <;> exact State.creditNext_mem found
      exact ih (((ite h.setStrand h).setOp (woken _)).dmaBegin)

theorem dropReqs (h : Keeps b s t) {id : Nat} : Keeps b s (t.dropReqs id) := by
  refine foldl (fun u c hu => ite hu.setChan.setFld hu) _ ?_
  exact h

/-! ### Sessions and what lanes send -/

theorem sesKey (h : Keeps b s t) {i l k : Nat} {due : Option Nat} : Keeps b s (t.sesKey i l k due).2 := by
  unfold State.sesKey
  extract_lets cut s1 r
  split
  · exact h
  · have late : Keeps b s s1 := by
      cases due with
      | none => exact h
      | some d => exact h.lateSpan
    have read : Keeps b s r.2.2 := late.worldGet
    split
    · split
      · exact read.setSt
      · exact read.raise
    · exact read.raise

theorem stEvent (h : Keeps b s t) {k r i : Nat} : Keeps b s (t.stEvent k r i) := ite h.setSt.worldWrite.setSt h.setSt.setSt

theorem sendClose (h : Keeps b s t) {d : CloseDue} : Keeps b s (t.sendClose d) := by
  unfold State.sendClose
  dsimp only
  split
  · exact h.sesKey.setCtx.occ
  · exact h.sesKey.setCtx.occ.setPt

theorem closeFill (h : Keeps b s t) : Keeps b s t.closeFill := foldl (fun _ _ hu => ite hu.setSt.sendClose hu) _ h

theorem queueClose (h : Keeps b s t) {i : Nat} : Keeps b s (t.queueClose i) := ite h.sendClose h.setSt

theorem closeSession (h : Keeps false s t) {i r : Nat} : Keeps false s (t.closeSession i r) :=
  ite h h.setSess.setSt.setPt.endSends.stEvent.queueClose

theorem sealNext (h : Keeps false s t) {i f a k : Nat} {due : Option Nat} {x : List Byte} :
    Keeps false s (t.sealNext i f a k due x).2 :=
  iteSnd h.closeSession (ite h.sesKey.setCtx.occ.occ.closeSession h.sesKey.setCtx.occ.occ)

theorem joinFillFrom (h : Keeps false s t) {i k : Nat} {l : List (List Byte)} : Keeps false s (joinFillFrom i k l t) := by
  induction l generalizing t with
  | nil =>
    unfold Machine.joinFillFrom
    split
    · exact h.setSess
    · exact h
  | cons d l ih =>
    unfold Machine.joinFillFrom
    split
    · exact h
    · refine ite h.setSess (ih ?_)
      split
      · exact h.sealNext
      · exact h.sealNext.setPt

theorem joinFill (h : Keeps false s t) {i : Nat} : Keeps false s (t.joinFill i) := by
  unfold State.joinFill
  split
  · exact h.joinFillFrom
  · exact h

theorem snapFillFrom (h : Keeps b s t) {l : List (Nat × List Byte)} : Keeps b s (snapFillFrom l t) := by
  induction l generalizing t with
  | nil => exact h
  | cons d l ih => exact ite h (ih h)

theorem refill (h : Keeps false s t) : Keeps false s t.refill :=
  foldl (fun _ _ hu => hu.joinFill) _ (closeFill (snapFillFrom h))

theorem missRound (h : Keeps b s t) {i l : Nat} : Keeps b s (t.missRound i l) := h.addFld.occ

theorem dropQueued (h : Keeps false s t) {p : Nat} : Keeps false s (t.dropQueued p) := by
  refine refill ?_
  exact foldl (fun _ _ hu => hu.missRound) _ h.setPt

theorem rebindPort (h : Keeps false s t) {p : Nat} : Keeps false s (t.rebindPort p) := by
  refine ite h.dropQueued ?_
  exact foldl (fun _ _ hu => ite hu.setCtx.stEvent hu) _ h.dropQueued

theorem portDown (h : Keeps false s t) {p r : Nat} : Keeps false s (t.portDown p r) :=
  ite h.setFld.setFld.setFld.setFld.rebindPort h.setFld

/-! ### What a domain loses -/

theorem loseRegs (h : Keeps b s t) {lo hi : Nat} (high : 0x50000 ≤ lo) : Keeps b s (t.loseRegs lo hi) := by
  obtain ⟨regs, rest⟩ := h
  refine ⟨fun k hk => ?_, rest⟩
  have below : k < lo * 16 := by simp [guardedKey] at hk; omega
  exact (smapFind_copy_below t.regs t.nv.fuse below).trans (regs k hk)

/-- Where strands may change, a state of the same registers with no further operations. -/
theorem of_regs_ops (h : Keeps false s t) (regs : u.regs = t.regs) (ops : ∀ o ∈ u.ops, o ∈ t.ops) : Keeps false s u := by
  obtain ⟨before, within, _⟩ := h
  exact ⟨fun k hk => regs ▸ before k hk, fun o ho => within o (ops o ho), fun moved => absurd moved (by decide)⟩

theorem loseEngine (h : Keeps false s t) {e : Nat} (he : e < 34) : Keeps false s (t.loseEngine e) := by
  unfold State.loseEngine
  extract_lets s1 s2 l _ g s3 _ s4
  have reclaimed : Keeps false s s1 := foldl (fun _ _ hu => hu.reclaim.noteDone) _ h
  have cut : Keeps false s s2 := foldl (fun _ _ hu => hu.fillCut.dropReqs) _ reclaimed
  have reset : Keeps false s s3 := (cut.loseRegs (by omega)).setFld
  clear_value s3
  have dropped : Keeps false s s4 := reset.of_regs_ops rfl fun o ho => (List.mem_filter.1 ho).1
  have zeroed : Keeps false s ((List.range 8).foldl (fun s k => s.setFld F.PM_TD_slots e k 0) (s4.setEng e g)) :=
    foldl_mem _ (fun u k hk hu => hu.setFldAt (tdSlots_key he (List.mem_range.1 hk))) dropped.setEng
  exact zeroed.grantCredits

theorem loseSeq (h : Keeps b s t) {c : Nat} : Keeps b s (t.loseSeq c) := by
  unfold State.loseSeq
  extract_lets soft init l r s1 s2
  have reset : Keeps b s s1 := (h.loseRegs (by omega)).setFld.setFld
  have stands : Keeps b s s2 := foldl (fun _ _ hu => hu.setFld.setFld) _ reset
  exact stands.setChan.setTrn

theorem loseLane (h : Keeps false s t) {l : Nat} : Keeps false s (t.loseLane l) :=
  (h.portDown.loseRegs (by omega)).setFld.setPt

theorem domLose (h : Keeps false s t) {n : Nat} : Keeps false s (t.domLose n) := by
  unfold State.domLose
  split
  · next engine => exact h.loseEngine engine
  · exact ite h.loseSeq (ite h.loseLane (ite h (ite h (ite (ite h h) h))))

end Keeps

end Sys2Proof.Machine
end

section
/-!
PROOFS. The fault collector's other commands (O40): fences that end, latches and captures, forced events, reassignment, lost entries,
scratch copies, mesh errors.
-/

namespace Sys2Proof.Machine

-- One proof is elaborated at a time: the stack of every thread counts against the memory the check allows.
set_option Elab.async false

/-! ## Keys of fields -/

/-- A field that stands once, below the registers of another, has none of its keys. -/
theorem fldKey_ne_above {f g : Fld} (i j a b : Nat) (below : (f.s1 == 0 && f.s2 == 0 && fldKey f 0 0 < g.base * 16) = true := by decide) :
    fldKey f i j ≠ fldKey g a b := by
  simp only [Bool.and_eq_true, beq_iff_eq, decide_eq_true_eq] at below
  obtain ⟨⟨h1, h2⟩, low⟩ := below
  simp only [fldKey, fldAddr, h1, h2] at low ⊢
  omega

/-- Two instances of a field along its column. -/
theorem fldKey_ne_index {f : Fld} {i k : Nat} (stride : 0 < f.s1) (h : i ≠ k) : fldKey f i 0 ≠ fldKey f k 0 := by
  intro same
  have : i * f.s1 = k * f.s1 := by unfold fldKey fldAddr at same; omega
  exact h (Nat.eq_of_mul_eq_mul_right stride this)

theorem Keeps.fld {b : Bool} {s t : State} (h : Keeps b s t) {f : Fld} {i j : Nat} (own : guardedKey (fldKey f i j) = true) :
    t.fld f i j = s.fld f i j := by
  obtain ⟨regs, _⟩ := h
  simp only [State.fld, smapGet, regs _ own]

/-! ## Domains that go off -/

theorem State.fld_setTrans_ne (s : State) (n : Nat) (x : Option Trans) {f : Fld} {i j : Nat}
    (h : fldKey f i j ≠ fldKey F.PWR_DOM_busy n 0) : (s.setTrans n x).fld f i j = s.fld f i j :=
  State.fld_setFld_ne _ _ _ _ _ _ _ _ h

@[simp] theorem State.transOf_setTrans (s : State) (n : Nat) (x : Option Trans) : (s.setTrans n x).transOf n = x := by
  cases x with
  | none => exact smapFind_erase_same _ _
  | some x => exact smapFind_insert_same _ _ _

@[simp] theorem State.fld_busy_setTrans (s : State) (n : Nat) (x : Option Trans) :
    (s.setTrans n x).fld F.PWR_DOM_busy n 0 = b2n x.isSome := by
  cases x <;> exact State.fld_setFld_same _ _ _ _ _

/-- Going off leaves the fault collector's and the power manager's registers, but the domain's own two fields. -/
theorem State.fld_startOff (s : State) (n : Nat) {f : Fld} {i j : Nat} (own : guardedKey (fldKey f i j) = true)
    (busy : fldKey f i j ≠ fldKey F.PWR_DOM_busy n 0) (powered : fldKey f i j ≠ fldKey F.PWR_DOM_powered n 0) :
    (s.startOff n).fld f i j = s.fld f i j := by
  rw [State.startOff, State.fld_setTrans_ne _ _ _ busy, State.domOff]
  split
  · rw [State.fld_setFld_ne _ _ _ _ _ _ _ _ powered, (Keeps.refl false s).domLose.fld own]
  · rfl

/-- No engine gains an operation where a domain goes off. -/
theorem State.ops_startOff (s : State) (n : Nat) : ∀ o ∈ (s.startOff n).ops, ∃ p ∈ s.ops, p.e = o.e := by
  obtain ⟨_, ops, _⟩ := (Keeps.refl false s).domLose (n := n)
  rw [State.startOff, State.domOff]
  split
  · exact ops
  · exact fun o ho => ⟨o, ho, rfl⟩

/-! ## The end of a fence -/

theorem Keeps.dropGrants {b : Bool} {s t : State} (h : Keeps b s t) {m : Nat} : Keeps b s (t.dropGrants m) := by
  refine foldl (fun u c hu => ?_) _ h
  split
  · exact ite hu.setChan hu
  · exact hu

/-- A party reclaimed has no operation left (R370). -/
theorem State.reclaimParty_ops (s : State) {m : Nat} (hm : m < 35) : ∀ o ∈ (s.reclaimParty m).ops, o.e ≠ m := by
  rw [State.reclaimParty, if_pos hm]
  extract_lets s1 s2 s3 s4
  clear_value s2
  have gone : ∀ o ∈ s3.ops, o.e ≠ m := fun o ho => by simpa using (List.mem_filter.1 ho).2
  clear_value s3
  have torn : Keeps false s3 s4 := Keeps.foldl (fun _ _ hu => .ite hu.tearLock hu) _ (Keeps.refl false s3)
  obtain ⟨_, within, _⟩ := (torn.dropGrants (m := m)).grantCredits (n := 64)
  intro o ho
  obtain ⟨p, hp, same⟩ := within o ho
  exact same ▸ gone p hp

theorem b2n_mod_two (b : Bool) : b2n b % 2 = b2n b := by cases b <;> rfl

theorem bitOf_eq_testBit (v k : Nat) : bitOf v k = v.testBit k := by
  simp [bitOf, Nat.testBit_eq_decide_div_mod_eq, beq_eq_decide]

/-- A master's fence has ended: its bit is set, the busy bit shows whether another is in progress, an engine has no operation. -/
def FenceEnded (t : State) (m : Nat) : Prop :=
  bitOf (t.fld F.FC_FENCE_master 0 0) m = true ∧ t.fld F.FC_FENCE_STATUS_busy 0 0 = b2n t.fencing ∧ (m < 35 → ∀ o ∈ t.ops, o.e ≠ m)

theorem State.fenceDone_clear {s : State} {m : Nat} {r : React} (hm : m < 62)
    (fencing : s.fc.reacts.find? (fun r => decide (r.stage = .fencing) && r.party == m) = some r) (clear : s.fenceClear m = true) :
    FenceEnded (s.fenceDone m) m := by
  unfold State.fenceDone
  split
  next none => simp [none] at fencing
  next r _ =>
  rw [if_neg (by simp [clear])]
  extract_lets _ s1 s2 s3 reset retire _ s4 s5 s6
  have gone : m < 35 → ∀ o ∈ s2.ops, o.e ≠ m := fun h => s1.reclaimParty_ops h
  clear_value s2
  have set : bitOf (s4.fld F.FC_FENCE_master 0 0) m = true := by
    have : s4.fld F.FC_FENCE_master 0 0 = (s2.fld F.FC_FENCE_master 0 0 ||| 2 ^ m) % 2 ^ 62 := State.fld_setFld_same _ _ _ _ _
    rw [this, bitOf_eq_testBit, Nat.testBit_mod_two_pow]
    simp [hm]
  have off : s5.fld F.FC_FENCE_master 0 0 = s4.fld F.FC_FENCE_master 0 0 ∧ ∀ o ∈ s5.ops, ∃ p ∈ s4.ops, p.e = o.e := by
    by_cases h : reset = true
    · rw [show s5 = s4.startOff r.dom from if_pos h]
      exact ⟨s4.fld_startOff _ (by decide) (fldKey_ne_above _ _ _ _) (fldKey_ne_above _ _ _ _), s4.ops_startOff _⟩
    · rw [show s5 = s4 from if_neg h]
      exact ⟨rfl, fun o ho => ⟨o, ho, rfl⟩⟩
  have shown : s6.fld F.FC_FENCE_master 0 0 = s5.fld F.FC_FENCE_master 0 0 ∧ s6.ops = s5.ops := by
    by_cases h : retire = true
    · rw [show s6 = s5.setFld F.GLOBAL_STATUS_engine_fenced 0 0 1 from if_pos h]
      exact ⟨State.fld_setFld_ne _ _ _ _ _ _ _ _ (by decide), rfl⟩
    · rw [show s6 = s5 from if_neg h]
      exact ⟨rfl, rfl⟩
  obtain ⟨off, within⟩ := off
  obtain ⟨shown, same⟩ := shown
  refine ⟨?_, ?_, fun h o ho => ?_⟩
  · rw [State.fld_setFld_ne _ _ _ _ _ _ _ _ (by decide), shown, off]
    exact set
  · exact (State.fld_setFld_same _ _ _ _ _).trans (b2n_mod_two _)
  · obtain ⟨p, hp, engine⟩ := within o (same ▸ ho)
    exact engine ▸ gone h p hp

theorem State.fenceDone_unclear {s : State} {m : Nat} (waits : s.fenceClear m = false) : s.fenceDone m = s := by
  unfold State.fenceDone
  split
  · rfl
  · simp [waits]

theorem State.raise_frame (s : State) (v : FaultEv) : { s.raise v with faults := s.faults } = s := by
  unfold State.raise
  split <;> rfl

theorem State.occ_frame (s : State) (o : Occ) : { s.occ o with pm := s.pm } = s := by
  unfold State.occ
  split <;> rfl

/-- One field set changes that field alone. -/
theorem onlyRegs_setFld (s : State) (f : Fld) (i j v : Nat) : OnlyRegs s (s.setFld f i j v) [fldKey f i j] :=
  ⟨rfl, fun g a b h => State.fld_setFld_ne s f g i j v a b (by simpa using h)⟩

/-! ## Forced events (R368) -/

/-- FC_INJECT as it stands after the write. -/
def State.injectShown (s : State) (v : Nat) : State :=
  ((s.setFld F.FC_INJECT_instance 0 0 (bitsOf v 16 8)).setFld F.FC_INJECT_group 0 0 (bitsOf v 8 6)).setFld F.FC_INJECT_source 0 0
    (bitsOf v 0 3)

theorem State.fld_injectShown (s : State) (v : Nat) :
    (s.injectShown v).fld F.FC_INJECT_group 0 0 = bitsOf v 8 6 ∧ (s.injectShown v).fld F.FC_INJECT_source 0 0 = bitsOf v 0 3 ∧
      (s.injectShown v).fld F.FC_INJECT_instance 0 0 = bitsOf v 16 8 := by
  simp (disch := decide) only [State.injectShown, State.fld_setFld_same, State.fld_setFld_ne]
  exact ⟨Nat.mod_mod _ _, Nat.mod_mod _ _, Nat.mod_mod _ _⟩

/-- The event that FC_INJECT forces. -/
def State.forcedEvent (s : State) (v : Nat) : FaultEv :=
  let p := partyOf (bitsOf v 8 6) (bitsOf v 16 8) (bitsOf v 16 8)
  { group := bitsOf v 8 6, src := bitsOf v 0 3, inst := instOf (bitsOf v 8 6) (bitsOf v 16 8), master := if p < 62 then p else 0x3F,
    addr := s.fld F.FC_INJECT_ADDR_addr 0 0, origin := 2 }

theorem State.inject_forced {s : State} {v : Nat} (go : bitOf v 31 = true) (src : s.srcOn (bitsOf v 8 6) (bitsOf v 0 3) = true)
    (inst : s.instOn (bitsOf v 8 6) (bitsOf v 0 3) (bitsOf v 16 8) = true) :
    s.inject v = (s.injectShown v).raise (s.forcedEvent v) := by
  rw [State.inject, if_pos (by simp [go, src, inst])]
  rfl

theorem State.inject_quiet {s : State} {v : Nat} (h : bitOf v 31 = false ∨ s.srcOn (bitsOf v 8 6) (bitsOf v 0 3) = false ∨
    s.instOn (bitsOf v 8 6) (bitsOf v 0 3) (bitsOf v 16 8) = false) : s.inject v = s.injectShown v := by
  rw [State.inject, if_neg (by obtain h | h | h := h <;> simp [h])]
  rfl

/-! ## Reassignment (R371) -/

theorem State.reassign_unfenced {s : State} {v : Nat} (go : bitOf v 31 = true)
    (h : ¬ (bitsOf v 0 6 < 34 ∧ bitOf (s.fld F.FC_FENCE_master 0 0) (bitsOf v 0 6) = true)) :
    s.reassign v = ((s.setFld F.FC_ENG_REASSIGN_fenced 0 0 (bitsOf v 0 6)).setFld F.FC_ENG_REASSIGN_target 0 0 (bitsOf v 8 6)).setFld
      F.FC_ENG_REASSIGN_result 0 0 2 := by
  simp [State.reassign, go]
  intro engine fenced
  exact absurd ⟨engine, fenced⟩ h

theorem State.reassign_done {s : State} {v e k : Nat} (go : bitOf v 31 = true) (he : e = bitsOf v 0 6) (hk : k = bitsOf v 8 6)
    (engine : e < 34) (fenced : bitOf (s.fld F.FC_FENCE_master 0 0) e = true) (target : k < 34) (stopped : s.engStopped k = true)
    (free : (s.eng k).fenced = false) (locked : s.fld F.CE_CTRL_imem_lock k 0 ≠ 0) (idle : s.fld F.CE_ID_logical k 0 = 0x3F) :
    s.reassign v = ((((s.setFld F.FC_ENG_REASSIGN_fenced 0 0 e).setFld F.FC_ENG_REASSIGN_target 0 0 k).setFld F.CE_ID_logical k 0
      (s.fld F.CE_ID_logical e 0)).setFld F.CE_ID_logical e 0 0x3F).setFld F.FC_ENG_REASSIGN_result 0 0 0 := by
  simp [State.reassign, go, ← he, ← hk, engine, fenced, target, stopped, free, State.fldB, locked, idle]

/-! ## Lost entries (R373) -/

theorem State.edFix_unlost {s : State} {i : Nat} (retire : Bool) (h : i ∉ s.ed.quar) :
    s.edFix i retire = (s.setFld F.FC_ED_FIX_index 0 0 i).setFld F.FC_ED_FIX_result 0 0 1 := by
  simp [State.edFix, h]

theorem State.edFix_bad {s : State} {i : Nat} {v : Word64} (hv : v = BitVec.ofNat 64 (s.fld F.FC_ED_FIX_VAL_entry 0 0))
    (lost : i ∈ s.ed.quar) (bad : entValid v = false ∨ entK v = 7) :
    s.edFix i false = (s.setFld F.FC_ED_FIX_index 0 0 i).setFld F.FC_ED_FIX_result 0 0 2 := by
  subst hv
  simp only [State.edFix]
  rw [if_neg (by simp [lost]), if_pos]
  obtain bad | bad := bad <;> simp [bad]

/-- From `s` to `t` entry `i` has been fixed with `w`: it is lost no longer, and every other entry stands. -/
def Fixed (s t : State) (i : Nat) (w : Word64) : Prop :=
  t.fld F.FC_ED_FIX_result 0 0 = 0 ∧ t.entry i = w ∧ i ∉ t.ed.quar ∧ ∀ k, k ≠ i → t.entry k = s.entry k

/-- A lost entry is fixed with a valid value, or retired: its own, marked invalid. -/
theorem State.edFix_lost {s : State} {i : Nat} {retire : Bool} {v : Word64}
    (hv : v = BitVec.ofNat 64 (s.fld F.FC_ED_FIX_VAL_entry 0 0)) (lost : i ∈ s.ed.quar)
    (good : retire = true ∨ entValid v = true ∧ entK v ≠ 7) :
    Fixed s (s.edFix i retire) i (if retire then entPut (s.entry i) 53 1 0 else v) ∧
      (retire = true → i ∈ (s.edFix i retire).ed.retired) := by
  have usable : ¬ (!retire && (!entValid v || entK v == 7)) = true := by
    obtain retired | ⟨valid, size⟩ := good
    · simp [retired]
    · simp [valid, size]
  subst hv
  rw [State.edFix, if_neg (by simp [lost]), if_neg usable]
  extract_lets w s2
  let s1 := s.setFld F.FC_ED_FIX_index 0 0 i
  refine ⟨⟨State.fld_setFld_same (s1.setEntry i w) F.FC_ED_FIX_result 0 0 0, State.entry_setEntry_same s1 i w, ?_,
    fun k hk => State.entry_setEntry_ne s1 i k w hk⟩, fun retired => ?_⟩
  · exact fun mem => absurd (List.mem_filter.1 mem).2 (by simp)
  · simp [retired]

/-- A retired entry is invalid. -/
theorem entValid_entPut_valid (v : Word64) : entValid (entPut v 53 1 0) = false := by
  have low : v.toNat < 2 ^ 64 := v.isLt
  simp only [entValid, entGet, entPut, bitsOf, putBits, BitVec.toNat_ofNat, beq_eq_false_iff_ne]
  omega

/-! ## What the collector's other commands come to -/

theorem fenceComplete_runs {s : State} {m : BitVec 6} (hm : m.toNat < 62) :
    (∀ r, s.fc.reacts.find? (fun r => decide (r.stage = .fencing) && r.party == m.toNat) = some r → s.fenceClear m.toNat = true →
      Runs (.fenceComplete m) s fun t => FenceEnded t m.toNat) ∧
    (s.fenceClear m.toNat = false → Runs (.fenceComplete m) s fun t => t = s) :=
  ⟨fun _ fencing clear => ⟨_, rfl, State.fenceDone_clear hm fencing clear⟩, fun waits => ⟨_, rfl, State.fenceDone_unclear waits⟩⟩

theorem latchFld_width (k : LatchKind) : (latchFld k).w = 8 := by cases k <;> rfl

theorem faultLatchClear_runs (s : State) (g : Fin 58) (k : LatchKind) (n : BitVec 8) : Runs (.faultLatchClear g k n) s fun t =>
    t.fld (latchFld k) g.val 0 = (s.fld (latchFld k) g.val 0 &&& (255 - n.toNat)) % 2 ^ 8 ∧
      OnlyRegs s t [fldKey (latchFld k) g.val 0] := by
  refine ⟨_, rfl, ?_, onlyRegs_setFld _ _ _ _ _⟩
  rw [State.fld_setFld_same, latchFld_width]

theorem fcInject_runs (s : State) (v : Word32) (g src n : Nat) (hg : g = bitsOf v.toNat 8 6) (hsrc : src = bitsOf v.toNat 0 3)
    (hn : n = bitsOf v.toNat 16 8) :
    Runs (.fcInject v) s fun t => t.fld F.FC_INJECT_group 0 0 = g ∧ t.fld F.FC_INJECT_source 0 0 = src ∧
      t.fld F.FC_INJECT_instance 0 0 = n ∧ { t with regs := s.regs, faults := s.faults } = s ∧
      (bitOf v.toNat 31 = true → s.srcOn g src = true → s.instOn g src n = true → Raised t g src) ∧
      (bitOf v.toNat 31 = true → s.srcOn g src = false ∨ s.instOn g src n = false → t.faults = s.faults) ∧
      (bitOf v.toNat 31 = false → t.faults = s.faults) := by
  subst hg hsrc hn
  refine ⟨s.inject v.toNat, rfl, ?_⟩
  obtain ⟨group, source, inst⟩ := s.fld_injectShown v.toNat
  by_cases forced : bitOf v.toNat 31 = true ∧ s.srcOn (bitsOf v.toNat 8 6) (bitsOf v.toNat 0 3) = true ∧
      s.instOn (bitsOf v.toNat 8 6) (bitsOf v.toNat 0 3) (bitsOf v.toNat 16 8) = true
  · obtain ⟨go, srcOn, instOn⟩ := forced
    rw [State.inject_forced go srcOn instOn]
    simp only [State.fld_raise]
    refine ⟨group, source, inst, ?_, fun _ _ _ => State.raised_raise _ _, fun _ off => ?_, fun off => ?_⟩
    · calc _ = { { (s.injectShown v.toNat).raise (s.forcedEvent v.toNat) with faults := s.faults } with regs := s.regs } := rfl
        _ = s := by rw [show s.faults = (s.injectShown v.toNat).faults from rfl, State.raise_frame]; rfl
    · simp [srcOn, instOn] at off
    · rw [go] at off; cases off
  · have quiet : bitOf v.toNat 31 = false ∨ s.srcOn (bitsOf v.toNat 8 6) (bitsOf v.toNat 0 3) = false ∨
        s.instOn (bitsOf v.toNat 8 6) (bitsOf v.toNat 0 3) (bitsOf v.toNat 16 8) = false := by
      simpa only [not_and_or, Bool.not_eq_true] using forced
    rw [State.inject_quiet quiet]
    exact ⟨group, source, inst, rfl, fun go srcOn instOn => absurd ⟨go, srcOn, instOn⟩ forced, fun _ _ => rfl, fun _ => rfl⟩

/-- The engine numbers lie above the collector's registers. -/
theorem fldKey_logical_ne {f : Fld} (c i j : Nat)
    (below : (f.s1 == 0 && f.s2 == 0 && fldKey f 0 0 < F.CE_ID_logical.base * 16) = true := by decide) :
    fldKey F.CE_ID_logical c 0 ≠ fldKey f i j := (fldKey_ne_above i j c 0 below).symm

theorem fcEngReassign_runs (s : State) (v : Word32) (e k : Nat) (he : e = bitsOf v.toNat 0 6) (hk : k = bitsOf v.toNat 8 6)
    (go : bitOf v.toNat 31 = true) :
    (¬ (e < 34 ∧ bitOf (s.fld F.FC_FENCE_master 0 0) e = true) → Runs (.fcEngReassign v) s fun t =>
      t.fld F.FC_ENG_REASSIGN_result 0 0 = 2 ∧ ∀ c, t.fld F.CE_ID_logical c 0 = s.fld F.CE_ID_logical c 0) ∧
    (e < 34 → bitOf (s.fld F.FC_FENCE_master 0 0) e = true → k < 34 → e ≠ k → s.engStopped k = true →
      (s.eng k).fenced = false → s.fld F.CE_CTRL_imem_lock k 0 ≠ 0 → s.fld F.CE_ID_logical k 0 = 0x3F →
      Runs (.fcEngReassign v) s fun t => t.fld F.FC_ENG_REASSIGN_result 0 0 = 0 ∧
        t.fld F.CE_ID_logical k 0 = s.fld F.CE_ID_logical e 0 % 2 ^ 6 ∧ t.fld F.CE_ID_logical e 0 = 0x3F) := by
  refine ⟨fun unfenced => ⟨s.reassign v.toNat, rfl, ?_⟩,
    fun engine fenced target apart stopped free locked idle => ⟨s.reassign v.toNat, rfl, ?_⟩⟩
  · rw [State.reassign_unfenced go (by rwa [← he])]
    refine ⟨State.fld_setFld_same _ _ _ _ _, fun c => ?_⟩
    simp (disch := exact fldKey_logical_ne _ _ _) only [State.fld_setFld_ne]
  · rw [State.reassign_done go he hk engine fenced target stopped free locked idle]
    refine ⟨State.fld_setFld_same _ _ _ _ _, ?_, ?_⟩
    · rw [State.fld_setFld_ne _ _ _ _ _ _ _ _ (fldKey_logical_ne _ _ _),
        State.fld_setFld_ne _ _ _ _ _ _ _ _ (fldKey_ne_index (by decide) apart.symm), State.fld_setFld_same]
      rfl
    · rw [State.fld_setFld_ne _ _ _ _ _ _ _ _ (fldKey_logical_ne _ _ _), State.fld_setFld_same]
      rfl

theorem edFix_runs (s : State) (n : BitVec 21) (v : Word64) (hv : v = BitVec.ofNat 64 (s.fld F.FC_ED_FIX_VAL_entry 0 0)) :
    (n.toNat ∉ s.ed.quar → ∀ c ∈ [Instr.edFixRetire n, .edFixWrite n], Runs c s fun t =>
      t.fld F.FC_ED_FIX_result 0 0 = 1 ∧ t.ed = s.ed) ∧
    (n.toNat ∈ s.ed.quar →
      Runs (.edFixRetire n) s (fun t => t.fld F.FC_ED_FIX_result 0 0 = 0 ∧ entValid (t.entry n.toNat) = false ∧
        n.toNat ∈ t.ed.retired ∧ n.toNat ∉ t.ed.quar ∧ ∀ k, k ≠ n.toNat → t.entry k = s.entry k) ∧
      (entValid v = false ∨ entK v = 7 → Runs (.edFixWrite n) s fun t => t.fld F.FC_ED_FIX_result 0 0 = 2 ∧ t.ed = s.ed) ∧
      (entValid v = true → entK v ≠ 7 → Runs (.edFixWrite n) s fun t => t.fld F.FC_ED_FIX_result 0 0 = 0 ∧
        t.entry n.toNat = v ∧ n.toNat ∉ t.ed.quar ∧ ∀ k, k ≠ n.toNat → t.entry k = s.entry k)) := by
  refine ⟨fun known c hc => ?_, fun lost => ⟨⟨s.edFix n.toNat true, rfl, ?_⟩, fun bad => ⟨s.edFix n.toNat false, rfl, ?_⟩,
    fun valid size => ⟨s.edFix n.toNat false, rfl, ?_⟩⟩⟩
  · have told (retire : Bool) : (s.edFix n.toNat retire).fld F.FC_ED_FIX_result 0 0 = 1 ∧ (s.edFix n.toNat retire).ed = s.ed := by
      rw [State.edFix_unlost retire known]
      exact ⟨State.fld_setFld_same _ _ _ _ _, rfl⟩
    simp only [List.mem_cons, List.not_mem_nil, or_false] at hc
    obtain rfl | rfl := hc
    · exact ⟨_, rfl, told true⟩
    · exact ⟨_, rfl, told false⟩
  · obtain ⟨⟨result, entry, gone, others⟩, retired⟩ := State.edFix_lost hv lost (.inl rfl)
    exact ⟨result, entry ▸ entValid_entPut_valid _, retired rfl, gone, others⟩
  · rw [State.edFix_bad hv lost bad]
    exact ⟨State.fld_setFld_same _ _ _ _ _, rfl⟩
  · obtain ⟨fixed, _⟩ := State.edFix_lost (retire := false) hv lost (.inr ⟨valid, size⟩)
    exact fixed

/-- The copies into the Negative change neither scratch nor a strand (R377). -/
theorem Keeps.dumpScratch {s t : State} (h : Keeps true s t) {e : Nat} : Keeps true s (t.dumpScratch e) := ite h.worldPut h

theorem scratchDumpComplete_runs {s : State} (busy : s.fld F.FC_DUMP_CTRL_busy 0 0 ≠ 0) : Runs .scratchDumpComplete s fun t =>
    t.fld F.FC_DUMP_CTRL_busy 0 0 = 0 ∧ t.scratch = s.scratch ∧ t.strands = s.strands := by
  refine ⟨_, rfl, ?_⟩
  rw [if_pos (by simp [State.fldB, busy])]
  have kept : Keeps true s ((List.range 34).foldl (fun s e => s.dumpScratch e) s) :=
    Keeps.foldl (fun _ _ hu => hu.dumpScratch) _ (.refl true s)
  generalize (List.range 34).foldl (fun s e => s.dumpScratch e) s = u at kept ⊢
  obtain ⟨_, _, still⟩ := kept
  obtain ⟨strands, scratch⟩ := still rfl
  exact ⟨State.fld_setFld_same _ _ _ _ _, scratch, strands⟩

theorem meshCrcError_runs (s : State) (h : Fin 2) (d : Bool) (m : BitVec 6) :
    (s.domOn (102 + h.val) = true → Runs (.meshCrcError h d m) s fun t => Raised t 44 (b2n d) ∧
      { t with faults := s.faults, pm := s.pm } = s) ∧
    (s.domOn (102 + h.val) = false → Runs (.meshCrcError h d m) s fun t => t = s) := by
  refine ⟨fun on => ⟨_, rfl, ?_⟩, fun off => ⟨_, rfl, if_neg (by simp [off])⟩⟩
  rw [if_pos on]
  refine ⟨State.raised_raise _ _, ?_⟩
  generalize ho : ({ ev := 0x72, inst := h.val, inc := 3, master := m.toNat } : Occ) = o
  calc _ = { { (s.occ o).raise _ with faults := s.faults } with pm := s.pm } := rfl
    _ = { s.occ o with pm := s.pm } := by rw [← State.occ_faults s o, State.raise_frame]
    _ = s := State.occ_frame s o

/-- Settles O40: each command by what its meaning comes to; what a fence's end and a scratch copy leave alone by the frame of what
they call. -/
theorem faultCommands : Obligations.FaultCommands := by
  unfold Obligations.FaultCommands
  intro s
  refine ⟨fun m hm => fenceComplete_runs hm, fun g n => ⟨_, rfl, rfl, rfl, rfl⟩, faultLatchClear_runs s,
    fun g => ⟨_, rfl, State.fld_setFld_same _ _ _ _ _, onlyRegs_setFld _ _ _ _ _⟩, fcInject_runs s, fcEngReassign_runs s,
    edFix_runs s, ⟨_, rfl, State.fld_setFld_same _ _ _ _ _, onlyRegs_setFld _ _ _ _ _⟩, scratchDumpComplete_runs,
    meshCrcError_runs s⟩

end Sys2Proof.Machine
end

section
/-!
PROOFS. The power manager's monitors, voltages, cap and governor (O47): what each tells, and what the governor leaves alone.
-/

namespace Sys2Proof.Machine

-- One proof is elaborated at a time: the stack of every thread counts against the memory the check allows.
set_option Elab.async false

/-! ## Keys of fields, entries of maps -/

/-- Fields at different bits of the low half of a word have no key in common. -/
theorem fldKey_ne_lo {f g : Fld} (i j a b : Nat) (apart : (f.lo < 16 && g.lo < 16 && f.lo != g.lo) = true := by decide) :
    fldKey f i j ≠ fldKey g a b := by
  simp only [Bool.and_eq_true, decide_eq_true_eq, bne_iff_ne] at apart
  unfold fldKey
  omega

theorem key_ne_of_smapFind_none {α : Type} {m : SMap α} {k : Nat} (h : smapFind m k = none) : ∀ x ∈ m, x.1 ≠ k := by
  induction m with
  | nil => simp
  | cons e m ih =>
    obtain ⟨j, v⟩ := e
    by_cases hk : k = j
    · simp [smapFind, hk] at h
    · rw [smapFind, if_neg hk] at h
      exact List.forall_mem_cons.2 ⟨Ne.symm hk, ih h⟩

/-! ## Monitors (R340, R341, R385) -/

/-- The idle slots of the first `n` of categories 2 to 7. -/
def State.idleCats (s : State) (e rate n : Nat) : State :=
  (List.range n).foldl (fun s k => s.idleSlots e (k + 2) (smapGet 0 s.pm.held (e * 8 + (k + 2))) rate) s

theorem State.idleCats_succ (s : State) (e rate n : Nat) : s.idleCats e rate (n + 1) =
    (s.idleCats e rate n).idleSlots e (n + 2) (smapGet 0 (s.idleCats e rate n).pm.held (e * 8 + (n + 2))) rate := by
  simp [State.idleCats, List.range_succ]

theorem State.fld_idleSlots_ne (s : State) (e k ns rate : Nat) {f : Fld} {i j : Nat} (h : fldKey f i j ≠ fldKey F.PM_TD_slots e k) :
    (s.idleSlots e k ns rate).fld f i j = s.fld f i j := State.fld_setFld_ne _ _ _ _ _ _ _ _ h

theorem State.fld_idleSlots_same (s : State) (e k ns rate : Nat) : (s.idleSlots e k ns rate).fld F.PM_TD_slots e k =
    (s.fld F.PM_TD_slots e k + (2 * ns * rate + smapGet 0 s.pm.idle (e * 8 + k)) / 1000) % 2 ^ 64 :=
  (State.fld_setFld_same _ _ _ _ _).trans (Nat.mod_mod _ _)

theorem State.held_idleCats (s : State) (e rate n : Nat) : (s.idleCats e rate n).pm.held = s.pm.held := by
  induction n with
  | zero => rfl
  | succ n ih => rw [State.idleCats_succ]; exact ih

theorem State.fld_idleCats_ne (s : State) (e rate n : Nat) {f : Fld} {i j : Nat}
    (h : ∀ k, k < n → fldKey f i j ≠ fldKey F.PM_TD_slots e (k + 2)) : (s.idleCats e rate n).fld f i j = s.fld f i j := by
  induction n with
  | zero => rfl
  | succ n ih => rw [State.idleCats_succ, State.fld_idleSlots_ne _ _ _ _ _ (h n (by omega)), ih fun k hk => h k (by omega)]

theorem State.idle_idleCats_above (s : State) (e rate : Nat) {n k : Nat} (h : n ≤ k) :
    smapGet 0 (s.idleCats e rate n).pm.idle (e * 8 + (k + 2)) = smapGet 0 s.pm.idle (e * 8 + (k + 2)) := by
  induction n with
  | zero => rfl
  | succ n ih =>
    rw [State.idleCats_succ]
    exact (smapGet_put_ne _ _ _ _ (by omega)).trans (ih (by omega))

theorem slots_key_ne (e : Nat) {j k : Nat} (h : j ≠ k) : fldKey F.PM_TD_slots e j ≠ fldKey F.PM_TD_slots e k := by
  simp [fldKey, fldAddr, F.PM_TD_slots]
  omega

theorem State.slots_idleCats (s : State) (e rate : Nat) {n k : Nat} (h : k < n) :
    (s.idleCats e rate n).fld F.PM_TD_slots e (k + 2) = (s.fld F.PM_TD_slots e (k + 2) +
      (2 * smapGet 0 s.pm.held (e * 8 + (k + 2)) * rate + smapGet 0 s.pm.idle (e * 8 + (k + 2))) / 1000) % 2 ^ 64 := by
  induction n with
  | zero => omega
  | succ n ih =>
    rw [State.idleCats_succ]
    by_cases last : k = n
    · subst last
      rw [State.fld_idleSlots_same, State.held_idleCats, State.idle_idleCats_above s e rate (le_refl k),
        State.fld_idleCats_ne s e rate k fun j hj => slots_key_ne e (by omega)]
    · rw [State.fld_idleSlots_ne _ _ _ _ _ (slots_key_ne e (by omega)), ih (by omega)]

/-- The registers after a measurement are those of the last category; what was held starts anew. -/
theorem State.fld_delayLine {s : State} {e : Nat} (on : s.engOn e = true) (rate : Nat) (f : Fld) (i j : Nat) :
    (s.delayLine e rate).fld f i j = ((s.setFld F.PWR_DLM_rate e 0 rate).idleCats e rate 6).fld f i j := by
  rw [State.delayLine, if_pos on]
  unfold State.idleCats
  generalize (List.range 6).foldl _ _ = u
  rfl

theorem delayLineMeasure_runs (s : State) (e : Fin 35) (rate : BitVec 16) (idle : List Nat) :
    (s.engOn e.val = true → Runs (.delayLineMeasure e rate idle) s fun t => t.fld F.PWR_DLM_rate e.val 0 = rate.toNat ∧
      ∀ k, k < 6 → t.fld F.PM_TD_slots e.val (k + 2) = (s.fld F.PM_TD_slots e.val (k + 2) +
        (2 * smapGet 0 s.pm.held (e.val * 8 + (k + 2)) * rate.toNat + smapGet 0 s.pm.idle (e.val * 8 + (k + 2))) / 1000) % 2 ^ 64) ∧
    (s.engOn e.val = false → Runs (.delayLineMeasure e rate idle) s fun t => t = s) := by
  refine ⟨fun on => ⟨s.delayLine e.val rate.toNat, rfl, ?_⟩, fun off => ⟨_, rfl, if_neg (by simp [off])⟩⟩
  have keys (k : Nat) (hk : k < 6) : fldKey F.PM_TD_slots e.val (k + 2) ≠ fldKey F.PWR_DLM_rate e.val 0 := by
    simp [fldKey, fldAddr, F.PM_TD_slots, F.PWR_DLM_rate]
    omega
  refine ⟨?_, fun k hk => ?_⟩
  · rw [State.fld_delayLine on, State.fld_idleCats_ne _ _ _ _ fun k hk => (keys k hk).symm]
    exact (State.fld_setFld_same _ _ _ _ _).trans (Nat.mod_eq_of_lt rate.isLt)
  · rw [State.fld_delayLine on, State.slots_idleCats _ _ _ hk, State.fld_setFld_ne _ _ _ _ _ _ _ _ (keys k hk)]
    rfl

theorem ldoMonitor_runs (s : State) (n : Fin 104) :
    (s.domOn n.val = true → domPresent s.part n.val = true → Runs (.ldoMonitor n) s fun t => Raised t 51 0 ∧
      { t with faults := s.faults } = s) ∧
    (s.domOn n.val = false ∨ domPresent s.part n.val = false → Runs (.ldoMonitor n) s fun t => t = s) := by
  refine ⟨fun on present => ⟨_, rfl, ?_⟩, fun off => ⟨_, rfl, if_neg ?_⟩⟩
  · rw [if_pos (by simp [on, present])]
    exact ⟨State.raised_raise _ _, State.raise_frame _ _⟩
  · obtain off | off := off <;> simp [off]

theorem rail_keys_ne (r : Nat) : fldKey F.PWR_RAIL_mv r 0 ≠ fldKey F.PWR_RAIL_out r 0 := fldKey_ne_column r rfl (by decide)

theorem railMonitor_runs (s : State) (r : Fin 8) (mv : BitVec 16) : Runs (.railMonitor r mv) s fun t =>
    t.fld F.PWR_RAIL_mv r.val 0 = mv.toNat ∧
    ((railWindow r.val).1 ≤ mv.toNat → mv.toNat ≤ (railWindow r.val).2 →
      smapFind t.pwr.railOut r.val = none ∧ t.faults = s.faults) ∧
    (mv.toNat < (railWindow r.val).1 ∨ (railWindow r.val).2 < mv.toNat →
      (smapFind s.pwr.railOut r.val = none → smapFind t.pwr.railOut r.val = some (s.tb, false) ∧ t.faults = s.faults) ∧
      (∀ u, smapFind s.pwr.railOut r.val = some (u, false) → u + 100000 < s.tb →
        t.fld F.PWR_RAIL_out r.val 0 = 1 ∧ Raised t 51 1 ∧ smapFind t.pwr.railOut r.val = some (u, true))) := by
  refine ⟨s.railMonitor r.val mv.toNat, rfl, ?_⟩
  unfold State.railMonitor
  extract_lets s1 put
  have read : s1.fld F.PWR_RAIL_mv r.val 0 = mv.toNat := (State.fld_setFld_same _ _ _ _ _).trans (Nat.mod_eq_of_lt mv.isLt)
  split
  · next inside =>
    exact ⟨read, fun _ _ => ⟨smapFind_erase_same _ _, rfl⟩, fun outside => by omega⟩
  · next outside =>
    split
    · next found =>
      exact ⟨read, fun low high => absurd ⟨low, high⟩ outside, fun _ => ⟨fun _ => ⟨smapFind_insert_same _ _ _, rfl⟩,
        fun u since => by rw [show s1.pwr.railOut = s.pwr.railOut from rfl, since] at found; cases found⟩⟩
    · next u told found =>
      have known : smapFind s.pwr.railOut r.val = some (u, told) := found
      split
      · next late =>
        refine ⟨?_, fun low high => absurd ⟨low, high⟩ outside, fun _ => ⟨fun none => ?_, fun v since _ => ?_⟩⟩
        · rw [State.fld_raise, State.fld_setFld_ne _ _ _ _ _ _ _ _ (rail_keys_ne _)]
          exact read
        · rw [known] at none; cases none
        · rw [known] at since
          cases since
          refine ⟨?_, State.raised_raise _ _, ?_⟩
          · rw [State.fld_raise]
            exact State.fld_setFld_same _ _ _ _ _
          · rw [State.raise_pwr]
            exact smapFind_insert_same _ _ _
      · next early =>
        refine ⟨read, fun low high => absurd ⟨low, high⟩ outside, fun _ => ⟨fun none => ?_, fun v since late => ?_⟩⟩
        · rw [known] at none; cases none
        · rw [known] at since
          cases since
          simp [late] at early

/-! ## What the governor moves (R347 to R354) -/

/-- The governor's own status. -/
def govKeys : List Nat :=
  [fldKey F.PWR_GOV_STAT_limit 0 0, fldKey F.PWR_GOV_STAT_refused 0 0, fldKey F.GLOBAL_STATUS_gov_limit 0 0]

/-- From `s` to `t` only the governor has acted: goals, burns, dodges and its status have moved, and what the performance monitor
counts; every other register, the slack of the last commit and the cap's throttle stand. -/
def Governs (s t : State) : Prop :=
  (∀ k, k ∉ govKeys → smapFind t.regs k = smapFind s.regs k) ∧ t.pwr.slack = s.pwr.slack ∧
    t.pwr.capThrottle = s.pwr.capThrottle ∧ t.throttle = s.throttle ∧ t.faults = s.faults ∧ t.tk = s.tk

namespace Governs

variable {s t : State}

theorem refl (s : State) : Governs s s := ⟨fun _ _ => rfl, rfl, rfl, rfl, rfl, rfl⟩

theorem foldl {α : Type} {f : State → α → State} (step : ∀ u a, Governs s u → Governs s (f u a)) (l : List α) (h : Governs s t) :
    Governs s (l.foldl f t) := by
  induction l generalizing t with
  | nil => exact h
  | cons a l ih => exact ih (step t a h)

theorem fld (h : Governs s t) {f : Fld} {i j : Nat} (other : fldKey f i j ∉ govKeys) : t.fld f i j = s.fld f i j := by
  obtain ⟨regs, _⟩ := h
  simp only [State.fld, smapGet, regs _ other]

theorem setFld (h : Governs s t) {f : Fld} {v : Nat} (own : fldKey f 0 0 ∈ govKeys := by decide) : Governs s (t.setFld f 0 0 v) := by
  obtain ⟨regs, rest⟩ := h
  refine ⟨fun k hk => ?_, rest⟩
  have hne : k ≠ fldKey f 0 0 := by rintro rfl; exact hk own
  exact (smapFind_put_ne _ _ _ hne).trans (regs k hk)

theorem addFld (h : Governs s t) {f : Fld} {v : Nat} (own : fldKey f 0 0 ∈ govKeys := by decide) : Governs s (t.addFld f 0 0 v) :=
  h.setFld own

theorem occ (h : Governs s t) {o : Occ} : Governs s (t.occ o) := by
  unfold State.occ
  split <;> exact h

theorem showLimit (h : Governs s t) {refused : Bool} : Governs s (t.showLimit refused) := h.setFld.setFld

theorem dodge (h : Governs s t) {e : Nat} : Governs s (t.dodge e) :=
  occ (t := t.setGoal e (t.goalOf e - 1)) h

theorem setBurns (h : Governs s t) {l : List Burn} : Governs s { t with pwr := { t.pwr with burns := l } } := h
theorem setBurn (h : Governs s t) {e : Option Nat} {l : List Burn} :
    Governs s { t with pwr := { t.pwr with stepping := e, burns := l } } := h
theorem setStepping (h : Governs s t) {e : Option Nat} : Governs s { t with pwr := { t.pwr with stepping := e } } := h
theorem setDodgeAt (h : Governs s t) {n : Nat} : Governs s { t with pwr := { t.pwr with dodgeAt := n } } := h
theorem setGoal (h : Governs s t) {e v : Nat} : Governs s (t.setGoal e v) := h

theorem nextBurn (h : Governs s t) : Governs s t.nextBurn := by
  unfold State.nextBurn
  split
  · exact h
  · split
    · exact h.setBurns.showLimit
    · extract_lets k _ s0 s1
      split
      · exact h.setBurn.setGoal.occ.showLimit
      · have refused : Governs s s0 := h
        have shown : Governs s s1 := refused.addFld.showLimit
        split
        · exact shown.setStepping.dodge
        · exact shown

theorem capDodge (h : Governs s t) {avg : Nat} : Governs s (t.capDodge avg) := by
  unfold State.capDodge
  dsimp only
  split
  · exact h.setDodgeAt
  · split
    · split
      · exact h.setDodgeAt.dodge
      · exact h
    · exact h

end Governs

/-! ## Voltages (R353, R354) -/

theorem CE_v_code_key (e : Nat) : fldKey F.PWR_CE_v_code e 0 ∉ govKeys := by
  simp [govKeys, fldKey, fldAddr, F.PWR_CE_v_code, F.PWR_GOV_STAT_limit, F.PWR_GOV_STAT_refused, F.GLOBAL_STATUS_gov_limit]
  omega

/-- The governor asks for voltages, it does not step them. -/
theorem Governs.vCode {s t : State} (h : Governs s t) (e : Nat) : t.vCode e = s.vCode e := by
  simp only [State.vCode, h.fld (CE_v_code_key e), h.fld (show fldKey F.PWR_SV_v_code 0 0 ∉ govKeys by decide)]

@[simp] theorem State.vCode_setV (s : State) (e v : Nat) : (s.setV e v).vCode e = v % 2 ^ 5 := by
  by_cases h : e = 34
  · simp [State.vCode, State.setV, h, F.PWR_SV_v_code]
  · simp [State.vCode, State.setV, h, F.PWR_CE_v_code]

/-- One step towards the goal. -/
def State.stepV (s : State) (e : Nat) : State :=
  if s.vCode e < s.goalOf e then s.setV e (s.vCode e + 1) else if s.goalOf e < s.vCode e then s.setV e (s.vCode e - 1) else s

theorem State.voltStep_governs (s : State) (e : Nat) : Governs (s.stepV e) (s.voltStep e) := by
  change Governs (s.stepV e) (if (s.stepV e).vCode e = s.goalOf e ∧ (s.stepV e).pwr.stepping = some e then _ else s.stepV e)
  split
  · exact (Governs.refl (s.stepV e)).setStepping.nextBurn
  · exact Governs.refl _

theorem voltageStepComplete_runs (s : State) (e : Fin 35) : Runs (.voltageStepComplete e) s fun t =>
    (s.vCode e.val < s.goalOf e.val → t.vCode e.val = (s.vCode e.val + 1) % 2 ^ 5) ∧
    (s.goalOf e.val < s.vCode e.val → t.vCode e.val = (s.vCode e.val - 1) % 2 ^ 5) ∧
    (s.vCode e.val = s.goalOf e.val → t.vCode e.val = s.vCode e.val) := by
  refine ⟨s.voltStep e.val, rfl, ?_⟩
  beta_reduce
  rw [(s.voltStep_governs e.val).vCode, State.stepV]
  refine ⟨fun below => ?_, fun above => ?_, fun there => ?_⟩
  · rw [if_pos below, State.vCode_setV]
  · rw [if_neg (by omega), if_pos above, State.vCode_setV]
  · rw [if_neg (by omega), if_neg (by omega)]

/-- The code a domain has been given is the one it is held at. -/
theorem State.goalOf_setGoal_heldCode (s : State) (e : Nat) :
    (s.setGoal e (s.heldCode e)).goalOf e = (s.setGoal e (s.heldCode e)).heldCode e := by
  have given : (s.setGoal e (s.heldCode e)).goalOf e = s.heldCode e := smapGet_put_same _ _ _ _
  have held : (s.setGoal e (s.heldCode e)).heldCode e = if s.forcedLow then 0
      else if e = 34 then (if s.mode = 5 then 0 else min 30 (s.fld F.PWR_SV_set_code 0 0))
      else if s.fldB F.PWR_CE_manual e 0 then min 30 (s.fld F.PWR_CE_set_code e 0)
      else if s.mode = 3 then (s.setGoal e (s.heldCode e)).goalOf e
      else 15 := rfl
  rw [held, given]
  unfold State.heldCode
  split
  · rfl
  · split
    · rfl
    · split
      · rfl
      · split <;> rfl

/-- The registers after a write of PWR_CEee or PWR_SV. -/
def State.ceShown (s : State) (e v : Nat) : State :=
  if e = 34 then s.setFld F.PWR_SV_set_code 0 0 (min 30 (bitsOf v 8 5))
  else ((s.setFld F.PWR_CE_manual e 0 (bitsOf v 18 1)).setFld F.PWR_CE_prio e 0 (bitsOf v 16 2)).setFld F.PWR_CE_set_code e 0
    (min 30 (bitsOf v 8 5))

/-- The write sets the goal; of a manual domain the burns go. -/
theorem State.pwrCeWrite_eq (s : State) (e v : Nat) : ∃ l, s.pwrCeWrite e v =
    { (s.ceShown e v).setGoal e ((s.ceShown e v).heldCode e) with
      pwr := { ((s.ceShown e v).setGoal e ((s.ceShown e v).heldCode e)).pwr with burns := l } } := by
  change ∃ l, (if ((s.ceShown e v).setGoal e ((s.ceShown e v).heldCode e)).manual e then _ else _) = _
  split
  · exact ⟨_, rfl⟩
  · exact ⟨_, rfl⟩

theorem State.fld_ceShown_SV (s : State) (v : Nat) : (s.ceShown 34 v).fld F.PWR_SV_set_code 0 0 = min 30 (bitsOf v 8 5) := by
  have low : min 30 (bitsOf v 8 5) < 2 ^ F.PWR_SV_set_code.w := Nat.lt_of_le_of_lt (Nat.min_le_left _ _) (by decide)
  rw [State.ceShown, if_pos rfl, State.fld_setFld_same, Nat.mod_eq_of_lt low]

theorem State.fld_ceShown (s : State) {e : Nat} (v : Nat) (ce : e ≠ 34) :
    (s.ceShown e v).fld F.PWR_CE_set_code e 0 = min 30 (bitsOf v 8 5) ∧ (s.ceShown e v).fld F.PWR_CE_prio e 0 = bitsOf v 16 2 ∧
      (s.ceShown e v).fld F.PWR_CE_manual e 0 = bitsOf v 18 1 := by
  have low : min 30 (bitsOf v 8 5) < 2 ^ F.PWR_CE_set_code.w := Nat.lt_of_le_of_lt (Nat.min_le_left _ _) (by decide)
  have prio : fldKey F.PWR_CE_prio e 0 ≠ fldKey F.PWR_CE_set_code e 0 := fldKey_ne_column e rfl (by decide)
  have manual : fldKey F.PWR_CE_manual e 0 ≠ fldKey F.PWR_CE_set_code e 0 := fldKey_ne_column e rfl (by decide)
  have manual' : fldKey F.PWR_CE_manual e 0 ≠ fldKey F.PWR_CE_prio e 0 := fldKey_ne_column e rfl (by decide)
  rw [State.ceShown, if_neg ce]
  refine ⟨?_, ?_, ?_⟩
  · rw [State.fld_setFld_same, Nat.mod_eq_of_lt low]
  · rw [State.fld_setFld_ne _ _ _ _ _ _ _ _ prio, State.fld_setFld_same]
    exact Nat.mod_mod _ _
  · rw [State.fld_setFld_ne _ _ _ _ _ _ _ _ manual, State.fld_setFld_ne _ _ _ _ _ _ _ _ manual', State.fld_setFld_same]
    exact Nat.mod_mod _ _

theorem pwrCeSetCodeWrite_runs (s : State) (e : Fin 35) (v : Word32) (k : Nat) (hk : k = min 30 (bitsOf v.toNat 8 5)) :
    Runs (.pwrCeSetCodeWrite e v) s fun t => t.goalOf e.val = t.heldCode e.val ∧
      (e.val = 34 → t.fld F.PWR_SV_set_code 0 0 = k) ∧
      (e.val < 34 → t.fld F.PWR_CE_set_code e.val 0 = k ∧ t.fld F.PWR_CE_prio e.val 0 = bitsOf v.toNat 16 2 ∧
        t.fld F.PWR_CE_manual e.val 0 = bitsOf v.toNat 18 1) := by
  subst hk
  obtain ⟨l, shown⟩ := s.pwrCeWrite_eq e.val v.toNat
  refine ⟨s.pwrCeWrite e.val v.toNat, rfl, ?_⟩
  rw [shown]
  refine ⟨State.goalOf_setGoal_heldCode _ _, fun sv => ?_, fun ce => s.fld_ceShown v.toNat (by omega)⟩
  rw [sv]
  exact s.fld_ceShown_SV v.toNat

/-! ## The power cap (R347, R348) -/

theorem clampNat_bounds {lo hi : Nat} (h : lo ≤ hi) (x : Nat) : lo ≤ clampNat lo hi x ∧ clampNat lo hi x ≤ hi :=
  ⟨Nat.le_max_left _ _, Nat.max_le.2 ⟨h, Nat.min_le_left _ _⟩⟩

/-- A reading is within 3 % of stack power (R341). -/
theorem State.powerReading_bounds (s : State) (v : Nat) :
    100 * s.powerReading v ≤ 103 * s.stackPower ∧ 97 * s.stackPower ≤ 100 * s.powerReading v := by
  obtain ⟨lower, upper⟩ := clampNat_bounds (lo := s.stackPower - 3 * s.stackPower / 100) (hi := s.stackPower + 3 * s.stackPower / 100)
    (by omega) v
  unfold State.powerReading
  omega

theorem State.fld_setThrottle_ne (s : State) {f : Fld} {i j : Nat} (h : fldKey f i j ≠ fldKey F.GLOBAL_STATUS_throttled 0 0) :
    s.setThrottle.fld f i j = s.fld f i j := State.fld_setFld_ne _ _ _ _ _ _ _ _ h

theorem State.setThrottle_cap {s : State} (cap : s.pwr.capThrottle = true) : s.setThrottle.throttle = 2 ^ 34 - 1 := by
  simp [State.setThrottle, cap]

theorem State.avg_overCap (s : State) : s.overCap.fld F.PWR_POWER_avg 0 0 = s.fld F.PWR_POWER_avg 0 0 := by
  unfold State.overCap
  split
  · extract_lets at' _ s1
    have shown : s1.fld F.PWR_POWER_avg 0 0 = s.fld F.PWR_POWER_avg 0 0 := State.fld_setThrottle_ne _ (by decide)
    clear_value s1
    split
    · rw [State.fld_raise, State.fld_setFld_ne _ _ _ _ _ _ _ _ (by decide)]
      exact shown
    · exact shown
  · rfl

theorem State.avg_underCap (s : State) (avg : Nat) : (s.underCap avg).fld F.PWR_POWER_avg 0 0 = s.fld F.PWR_POWER_avg 0 0 := by
  unfold State.underCap
  extract_lets at' _ s1
  split
  · exact State.fld_setThrottle_ne _ (by decide)
  · rfl

/-- The cap's throttle is in force: every channel's bulk classes are throttled. -/
def CapThrottled (t : State) : Prop := t.pwr.capThrottle = true ∧ t.throttle = 2 ^ 34 - 1

/-- Over the cap, with no voltage left to take down. -/
theorem State.overCap_low {s : State} (low : s.allLow = true) : CapThrottled s.overCap := by
  unfold State.overCap
  rw [if_pos low]
  extract_lets at' _ s1
  have throttled : CapThrottled s1 := ⟨rfl, State.setThrottle_cap rfl⟩
  clear_value s1
  split
  · unfold CapThrottled
    rw [State.raise_pwr, State.raise_throttle]
    exact throttled
  · exact throttled

theorem State.overCap_high {s : State} (high : s.allLow = false) :
    s.overCap.pwr.capThrottle = s.pwr.capThrottle ∧ s.overCap.faults = s.faults := by
  unfold State.overCap
  rw [if_neg (by simp [high])]
  exact ⟨rfl, rfl⟩

theorem State.allLow_setAvg (s : State) (avg : Nat) : (s.setFld F.PWR_POWER_avg 0 0 avg).allLow = s.allLow := by
  have on (e : Nat) : (s.setFld F.PWR_POWER_avg 0 0 avg).engOn e = s.engOn e := by
    simp only [State.engOn, State.domOn, State.fldB]
    rw [State.fld_setFld_ne _ _ _ _ _ _ _ _ (fldKey_ne_above _ _ _ _).symm]
    rfl
  have code (e : Nat) : (s.setFld F.PWR_POWER_avg 0 0 avg).vCode e = s.vCode e := by
    have sv := s.fld_setFld_ne F.PWR_POWER_avg F.PWR_SV_v_code 0 0 avg 0 0 (by decide)
    have ce := s.fld_setFld_ne F.PWR_POWER_avg F.PWR_CE_v_code 0 0 avg e 0 (fldKey_ne_above _ _ _ _).symm
    simp only [State.vCode, sv, ce]
  simp only [State.allLow, on, code]

/-- The average is shown and compared with the cap. -/
def State.capJudge (s : State) (avg : Nat) : State :=
  if s.capUnits < avg then (s.setFld F.PWR_POWER_avg 0 0 avg).overCap else (s.setFld F.PWR_POWER_avg 0 0 avg).underCap avg

theorem State.avg_capJudge (s : State) (avg : Nat) :
    (s.capJudge avg).fld F.PWR_POWER_avg 0 0 = avg % 2 ^ F.PWR_POWER_avg.w := by
  unfold State.capJudge
  split
  · rw [State.avg_overCap, State.fld_setFld_same]
  · rw [State.avg_underCap, State.fld_setFld_same]

theorem State.capEnforce_governs (s : State) (v : Nat) : Governs (s.capJudge (s.powerReading v)) (s.capEnforce v) :=
  (Governs.refl _).capDodge.nextBurn

theorem capEnforce_runs (s : State) (v : BitVec 16) (avg : Nat) (havg : avg = s.powerReading v.toNat) :
    Runs (.capEnforce v) s fun t => t.fld F.PWR_POWER_avg 0 0 = avg % 2 ^ F.PWR_POWER_avg.w ∧
      100 * avg ≤ 103 * s.stackPower ∧ 97 * s.stackPower ≤ 100 * avg ∧
      (s.capUnits < avg → s.allLow = true → t.pwr.capThrottle = true ∧ t.throttle = 2 ^ 34 - 1) ∧
      (s.capUnits < avg → s.allLow = false → t.pwr.capThrottle = s.pwr.capThrottle ∧ t.faults = s.faults) := by
  have governs := s.capEnforce_governs v.toNat
  rw [← havg] at governs
  have avgKept := governs.fld (f := F.PWR_POWER_avg) (i := 0) (j := 0) (by decide)
  obtain ⟨upper, lower⟩ := s.powerReading_bounds v.toNat
  rw [← havg] at upper lower
  obtain ⟨_, _, cap, throttle, faults, _⟩ := governs
  refine ⟨s.capEnforce v.toNat, rfl, avgKept.trans (s.avg_capJudge avg), upper, lower, fun above low => ?_, fun above high => ?_⟩
  · rw [cap, throttle, State.capJudge, if_pos above]
    exact State.overCap_low ((s.allLow_setAvg avg).trans low)
  · rw [cap, faults, State.capJudge, if_pos above]
    exact State.overCap_high ((s.allLow_setAvg avg).trans high)

/-! ## The governor (R349 to R354) -/

/-- Where the governor is enabled, what it does after it has taken the slack. -/
theorem State.governor_governs {s : State} (serve : s.mode = 3) (due : s.tk.govDue = true) (enabled : s.fld F.PWR_CTRL_gov_en 0 0 ≠ 0) :
    Governs ({ s with tk := { s.tk with govDue := false } } : State).takeSlack s.governor := by
  unfold State.governor
  rw [if_neg (by simp [serve, due])]
  extract_lets _ s0 s1 s2 burns
  rw [if_neg (by simp [State.fldB, enabled])]
  have dodged : Governs s1 s2 := Governs.foldl (fun u e hu => by
    split
    · split
      · exact hu.dodge
      · exact hu
    · exact hu) _ (Governs.refl s1)
  exact dodged.setBurns.nextBurn

theorem State.governor_disabled {s : State} (serve : s.mode = 3) (due : s.tk.govDue = true) (off : s.fld F.PWR_CTRL_gov_en 0 0 = 0) :
    s.governor = { s with tk := { s.tk with govDue := false } } := by
  unfold State.governor
  rw [if_neg (by simp [serve, due])]
  extract_lets _ s0 s1 s2 burns
  rw [if_pos (by simp [State.fldB, off])]

theorem governorEvaluate_runs (s : State) :
    (s.mode ≠ 3 ∨ s.tk.govDue = false → Runs .governorEvaluate s fun t => t = s) ∧
    (s.mode = 3 → s.tk.govDue = true → Runs .governorEvaluate s fun t => t.tk.govDue = false ∧
      (s.fld F.PWR_CTRL_gov_en 0 0 = 0 → t.pwr = s.pwr ∧ t.regs = s.regs) ∧
      (s.fld F.PWR_CTRL_gov_en 0 0 ≠ 0 → t.pwr.slack = s.takeSlack.pwr.slack)) := by
  refine ⟨fun idle => ⟨s.governor, rfl, ?_⟩, fun serve due => ⟨s.governor, rfl, ?_⟩⟩
  · rw [State.governor, if_pos]
    obtain idle | idle := idle <;> simp [idle]
  · by_cases off : s.fld F.PWR_CTRL_gov_en 0 0 = 0
    · rw [State.governor_disabled serve due off]
      exact ⟨rfl, fun _ => ⟨rfl, rfl⟩, fun on => absurd off on⟩
    · obtain ⟨_, slack, _, _, _, tick⟩ := State.governor_governs serve due off
      exact ⟨by rw [tick]; rfl, fun on => absurd on off, fun _ => slack⟩

end Sys2Proof.Machine
end

section
/-!
PROOFS. The power manager's domains (O47): transitions that are asked for, start and end.
-/

namespace Sys2Proof.Machine

-- One proof is elaborated at a time: the stack of every thread counts against the memory the check allows.
set_option Elab.async false

/-! ## Domains (R355, R356) -/

theorem State.domOn_congr {s t : State} {n : Nat} (h : t.fld F.PWR_DOM_powered n 0 = s.fld F.PWR_DOM_powered n 0) :
    t.domOn n = s.domOn n := by
  simp only [State.domOn, State.fldB, h]

theorem State.domOn_of_powered {s : State} {n : Nat} (h : s.fld F.PWR_DOM_powered n 0 = 1) : s.domOn n = true := by
  simp [State.domOn, State.fldB, h]

theorem State.domOn_setTrans (s : State) (m n : Nat) (x : Option Trans) : (s.setTrans m x).domOn n = s.domOn n :=
  State.domOn_congr (s.fld_setTrans_ne m x (fldKey_ne_lo _ _ _ _))

theorem State.transOf_setTrans_ne (s : State) {m n : Nat} (x : Option Trans) (h : n ≠ m) :
    (s.setTrans m x).transOf n = s.transOf n := by
  cases x with
  | none => exact smapFind_erase_ne _ h
  | some x => exact smapFind_insert_ne _ _ h

/-! ### A transition that starts -/

/-- Only a domain that can be switched off may be. -/
theorem State.switched_of_fwMay {s : State} {n : Nat} (h : s.fwMay n false = true) : n ≠ 76 ∧ n ≠ 101 := by
  refine ⟨?_, ?_⟩ <;> rintro rfl <;> simp [State.fwMay] at h

theorem State.pwrDom_refused {s : State} {n : Nat} {on : Bool} (h : s.fwMay n on = false) :
    (s.pwrDom n on).2 = s.setFld F.PWR_DOM_refused n 0 1 := by
  rw [State.pwrDom, if_pos (by simp [h])]

theorem State.pwrDom_on {s : State} {n : Nat} (may : s.fwMay n true = true) (deps : s.depsOn n = true)
    (still : s.transOf n = none) (off : s.domOn n = false) :
    (s.pwrDom n true).2 = (s.setFld F.PWR_DOM_on n 0 1).startOn n := by
  simp [State.pwrDom, may, deps, still, off, b2n]

theorem State.pwrDom_off {s : State} {n : Nat} (may : s.fwMay n false = true) (free : s.unneeded n = true)
    (still : s.transOf n = none) (on : s.domOn n = true) :
    (s.pwrDom n false).2 = (s.setFld F.PWR_DOM_on n 0 0).startOff n := by
  simp [State.pwrDom, may, free, still, on, b2n]

/-- A domain that goes off is off at once. -/
theorem State.domOn_startOff {s : State} {n : Nat} (on : s.domOn n = true) (switched : n ≠ 76 ∧ n ≠ 101) :
    (s.startOff n).domOn n = false := by
  obtain ⟨h1, h2⟩ := switched
  rw [State.startOff, State.domOn_setTrans, State.domOff, if_pos (by simp [on, h1, h2])]
  simp [State.domOn, State.fldB, h1, h2]

theorem PWR_DOM_on_guarded (n : Fin 104) : guardedKey (fldKey F.PWR_DOM_on n.val 0) = true := by
  simp [guardedKey, fldKey, fldAddr, F.PWR_DOM_on]
  omega

theorem pwrDomWrite_runs (s : State) (n : Fin 104) :
    (∀ on, s.fwMay n.val on = false → Runs (.pwrDomWrite n on) s fun t => t.fld F.PWR_DOM_refused n.val 0 = 1 ∧
      OnlyRegs s t [fldKey F.PWR_DOM_refused n.val 0]) ∧
    (s.fwMay n.val true = true → s.depsOn n.val = true → s.transOf n.val = none → s.domOn n.val = false →
      Runs (.pwrDomWrite n true) s fun t => t.fld F.PWR_DOM_on n.val 0 = 1 ∧ t.fld F.PWR_DOM_busy n.val 0 = 1 ∧
        t.transOf n.val = some (if s.goingOn < 4 then .on else .queued) ∧ t.domOn n.val = false) ∧
    (s.fwMay n.val false = true → s.unneeded n.val = true → s.transOf n.val = none → s.domOn n.val = true →
      Runs (.pwrDomWrite n false) s fun t => t.fld F.PWR_DOM_on n.val 0 = 0 ∧ t.transOf n.val = some .off ∧
        t.domOn n.val = false) := by
  refine ⟨fun on refused => ⟨(s.pwrDom n.val on).2, rfl, ?_⟩, fun may deps still off => ⟨(s.pwrDom n.val true).2, rfl, ?_⟩,
    fun may free still on => ⟨(s.pwrDom n.val false).2, rfl, ?_⟩⟩
  · rw [State.pwrDom_refused refused]
    exact ⟨State.fld_setFld_same _ _ _ _ _, onlyRegs_setFld _ _ _ _ _⟩
  · rw [State.pwrDom_on may deps still off]
    refine ⟨?_, State.fld_busy_setTrans _ _ _, State.transOf_setTrans _ _ _, ?_⟩
    · exact (State.fld_setTrans_ne _ _ _ (fldKey_ne_lo _ _ _ _)).trans (State.fld_setFld_same _ _ _ _ _)
    · exact (State.domOn_setTrans _ _ _ _).trans
        ((State.domOn_congr (State.fld_setFld_ne _ _ _ _ _ _ _ _ (fldKey_ne_lo _ _ _ _))).trans off)
  · rw [State.pwrDom_off may free still on]
    refine ⟨?_, State.transOf_setTrans _ _ _, State.domOn_startOff ?_ (State.switched_of_fwMay may)⟩
    · rw [State.fld_startOff _ _ (PWR_DOM_on_guarded n) (fldKey_ne_lo _ _ _ _) (fldKey_ne_lo _ _ _ _)]
      exact State.fld_setFld_same _ _ _ _ _
    · exact (State.domOn_congr (State.fld_setFld_ne _ _ _ _ _ _ _ _ (fldKey_ne_lo _ _ _ _))).trans on

/-! ### A transition that ends -/

theorem State.fld_endFence (s : State) (m : Nat) {f : Fld} {i j : Nat} (h : fldKey f i j ≠ fldKey F.FC_FENCE_master 0 0) :
    (s.endFence m).fld f i j = s.fld f i j := by
  unfold State.endFence
  extract_lets g s1
  have kept : s1.fld f i j = s.fld f i j := State.fld_setFld_ne _ _ _ _ _ _ _ _ h
  split
  · rfl
  · split
    · exact kept
    · exact kept

/-- Coming on leaves the power manager's registers, but what tells that the domain is powered. -/
theorem State.fld_domUp (s : State) (n : Nat) {f : Fld} {i j : Nat} (own : guardedKey (fldKey f i j) = true)
    (fence : fldKey f i j ≠ fldKey F.FC_FENCE_master 0 0) :
    (s.domUp n).fld f i j = if s.domOn n || !domPresent s.part n then s.fld f i j else (s.setFld F.PWR_DOM_powered n 0 1).fld f i j := by
  unfold State.domUp
  extract_lets s1
  have channel (c v : Nat) : (s1.setFld F.CH_ID_state c 0 v).fld f i j = s1.fld f i j := by
    refine State.fld_setFld_ne _ _ _ _ _ _ _ _ fun same => ?_
    rw [same, Fld.apart_key (by decide)] at own
    cases own
  split
  · rfl
  · split
    · exact s1.fld_endFence n fence
    · split
      · split
        · rfl
        · exact channel _ _
      · split
        · exact s1.fld_endFence _ fence
        · split <;> rfl

theorem PWR_DOM_powered_guarded (n : Fin 104) : guardedKey (fldKey F.PWR_DOM_powered n.val 0) = true := by
  simp [guardedKey, fldKey, fldAddr, F.PWR_DOM_powered]
  omega

theorem State.domOn_domUp {s : State} {n : Fin 104} (present : domPresent s.part n.val = true) : (s.domUp n.val).domOn n.val = true := by
  have powered := s.fld_domUp n.val (PWR_DOM_powered_guarded n) (fldKey_ne_above _ _ _ _).symm
  cases on : s.domOn n.val with
  | true => rw [on, if_pos (by simp)] at powered; exact (State.domOn_congr powered).trans on
  | false =>
    rw [on, if_neg (by simp [present]), State.fld_setFld_same] at powered
    exact State.domOn_of_powered powered

theorem State.on_domUp (s : State) (n : Fin 104) : (s.domUp n.val).fld F.PWR_DOM_on n.val 0 = s.fld F.PWR_DOM_on n.val 0 := by
  rw [State.fld_domUp _ _ (PWR_DOM_on_guarded n) (fldKey_ne_above _ _ _ _).symm]
  split
  · rfl
  · exact State.fld_setFld_ne _ _ _ _ _ _ _ _ (fldKey_ne_lo _ _ _ _)

/-- A domain in no transition is in none after another, queued, has started. -/
theorem State.transOf_nextOn {s : State} {n : Nat} (h : s.transOf n = none) : s.nextOn.transOf n = none := by
  unfold State.nextOn
  split
  · split
    · next x found =>
      have other : n ≠ x.1 := (key_ne_of_smapFind_none h x (List.mem_of_find?_eq_some found)).symm
      rw [State.transOf_setTrans_ne _ _ other, h]
    · exact h
  · exact h

theorem State.domOn_nextOn (s : State) (n : Nat) : s.nextOn.domOn n = s.domOn n := by
  unfold State.nextOn
  split
  · split
    · exact State.domOn_setTrans _ _ _ _
    · rfl
  · rfl

/-- The domain as its transition on leaves it. -/
def State.cameOn (s : State) (n : Nat) : State := if s.depsOn n then s.domUp n else s

theorem State.on_cameOn (s : State) (n : Fin 104) : (s.cameOn n.val).fld F.PWR_DOM_on n.val 0 = s.fld F.PWR_DOM_on n.val 0 := by
  unfold State.cameOn
  split
  · exact s.on_domUp n
  · rfl

theorem State.domDone_on {s : State} {n : Fin 104} (on : s.transOf n.val = some .on) (wanted : s.fld F.PWR_DOM_on n.val 0 ≠ 0) :
    s.domDone n.val = (((s.cameOn n.val).setTrans n.val none).reactStage n.val .on .ended).nextOn := by
  have shown : ((s.cameOn n.val).setTrans n.val none).fld F.PWR_DOM_on n.val 0 = s.fld F.PWR_DOM_on n.val 0 :=
    (State.fld_setTrans_ne _ _ _ (fldKey_ne_lo _ _ _ _)).trans (s.on_cameOn n)
  unfold State.domDone
  rw [on]
  dsimp only
  rw [if_pos]
  · rfl
  · exact bne_iff_ne.2 (shown ▸ wanted)

theorem State.domDone_off {s : State} {n : Nat} (off : s.transOf n = some .off) (unwanted : s.fld F.PWR_DOM_on n 0 = 0) :
    s.domDone n = s.setTrans n none := by
  have shown : (s.setTrans n none).fld F.PWR_DOM_on n 0 = 0 := (s.fld_setTrans_ne _ _ (fldKey_ne_lo _ _ _ _)).trans unwanted
  unfold State.domDone
  rw [off]
  dsimp only
  rw [if_neg (by simp [State.fldB, shown])]

theorem domainTransitionComplete_runs (s : State) (n : Fin 104) :
    (s.transOf n.val = none ∨ s.transOf n.val = some .queued →
      Runs (.domainTransitionComplete n) s fun t => t = s) ∧
    (s.transOf n.val = some .on → domPresent s.part n.val = true → s.fld F.PWR_DOM_on n.val 0 ≠ 0 →
      Runs (.domainTransitionComplete n) s fun t => t.transOf n.val = none ∧
        (s.depsOn n.val = true → t.domOn n.val = true) ∧
        (s.depsOn n.val = false → s.domOn n.val = false → t.domOn n.val = false)) ∧
    (s.transOf n.val = some .off → s.fld F.PWR_DOM_on n.val 0 = 0 →
      Runs (.domainTransitionComplete n) s fun t => t.transOf n.val = none ∧ t.fld F.PWR_DOM_busy n.val 0 = 0) := by
  refine ⟨fun waits => ⟨s.domDone n.val, rfl, ?_⟩, fun on present wanted => ⟨s.domDone n.val, rfl, ?_⟩,
    fun off unwanted => ⟨s.domDone n.val, rfl, ?_⟩⟩
  · obtain waits | waits := waits <;> rw [State.domDone, waits]
  · rw [State.domDone_on on wanted]
    have domain : (((s.cameOn n.val).setTrans n.val none).reactStage n.val .on .ended).nextOn.domOn n.val =
        (s.cameOn n.val).domOn n.val := (State.domOn_nextOn _ _).trans ((s.cameOn n.val).domOn_setTrans n.val n.val none)
    refine ⟨State.transOf_nextOn ((s.cameOn n.val).transOf_setTrans n.val none), fun deps => ?_, fun deps off => ?_⟩
    · rw [domain, State.cameOn, if_pos deps]
      exact State.domOn_domUp present
    · rw [domain, State.cameOn, if_neg (by simp [deps])]
      exact off
  · rw [State.domDone_off off unwanted]
    exact ⟨State.transOf_setTrans _ _ _, State.fld_busy_setTrans _ _ _⟩

/-- Settles O47: each command by what its meaning comes to; what the cap and the governor leave alone by the frame of a burn or dodge. -/
theorem powerDomains : Obligations.PowerDomains := by
  unfold Obligations.PowerDomains
  intro s
  obtain ⟨idle, evaluates⟩ := governorEvaluate_runs s
  refine ⟨delayLineMeasure_runs s, ldoMonitor_runs s, railMonitor_runs s, capEnforce_runs s, idle, evaluates,
    voltageStepComplete_runs s, fun n => ?_, pwrCeSetCodeWrite_runs s⟩
  obtain ⟨refused, on, off⟩ := pwrDomWrite_runs s n
  exact ⟨refused, on, off, domainTransitionComplete_runs s n⟩

end Sys2Proof.Machine
end

section
/-!
PROOFS. What the entry of a record leaves alone: strands, engines, operations, events on their way (O10, O19, O56).
-/

namespace Sys2Proof.Machine

-- One proof is elaborated at a time: the stack of every thread counts against the memory the check allows.
set_option Elab.async false

/-! ## The performance monitor alone -/

/-- From `s` to `t` nothing has changed but the performance monitor and the free values used. -/
def Watched (s t : State) : Prop := ∃ p n, t = { s with pm := p, free := n }

namespace Watched

variable {s t : State}

theorem refl (s : State) : Watched s s := ⟨s.pm, s.free, rfl⟩

theorem setPm (h : Watched s t) {x : Pm} : Watched s { t with pm := x } := by
  obtain ⟨_, n, rfl⟩ := h
  exact ⟨x, n, rfl⟩

theorem useFree (h : Watched s t) : Watched s t.useFree := by
  obtain ⟨p, n, rfl⟩ := h
  exact ⟨p, n + 1, rfl⟩

theorem occ (h : Watched s t) {o : Occ} : Watched s (t.occ o) := by
  unfold State.occ
  split
  · exact h.setPm
  · exact h

theorem meshOcc (h : Watched s t) {r : Bool} {o : Op} : Watched s (t.meshOcc r o) := by
  unfold State.meshOcc
  generalize t.meshPath o = l
  induction l generalizing t with
  | nil => exact h
  | cons a l ih => exact ih h.occ

theorem iteSnd {c : Prop} [Decidable c] {x y : Bool × State} (h₁ : Watched s x.2) (h₂ : Watched s y.2) :
    Watched s (if c then x else y).2 := by
  split
  · exact h₁
  · exact h₂

theorem sampleHit (h : Watched s t) {o : Occ} : Watched s (t.sampleHit o).2 := by
  unfold State.sampleHit
  split
  · exact iteSnd h.setPm h
  · exact iteSnd (iteSnd h.setPm.useFree h.setPm) h

theorem sample (h : Watched s t) {o : Occ} {x : Sample} : Watched s (t.sample o x) := by
  have hit : Watched s (t.sampleHit o).2 := h.sampleHit
  unfold State.sample
  split
  · next eq => rw [eq] at hit; exact hit.setPm
  · next eq => rw [eq] at hit; exact hit

end Watched

/-! ## Records -/

/-- A bit place of a register at which no access to memory and no record writes a field: 9 and 25 of the register's word. -/
def quietKey (k : Nat) : Bool := k % 16 == 9

/-- From `s` to `t` memory has been accessed or records have been entered, at most: strands, engines, scratch and operations are as
before, events on their way are so still, and the fields at the places that no access writes stand. -/
def Records (s t : State) : Prop :=
  t.strands = s.strands ∧ t.engs = s.engs ∧ t.scratch = s.scratch ∧ t.ops = s.ops ∧
    (∀ g n, Raised s g n → Raised t g n) ∧ ∀ k, quietKey k = true → smapFind t.regs k = smapFind s.regs k

theorem quietKey_fldKey (f : Fld) (i j : Nat) : quietKey (fldKey f i j) = quietKey f.lo := by
  simp [quietKey, fldKey]

/-- An event on its way is so still when another is raised: it stands, or that one folds into it. -/
theorem Raised.raise {s : State} {g n : Nat} (h : Raised s g n) (v : FaultEv) : Raised (s.raise v) g n := by
  obtain ⟨w, hw, rfl, rfl⟩ := h
  unfold State.raise
  split
  · refine ⟨_, List.mem_map_of_mem hw, ?_⟩
    split <;> exact ⟨rfl, rfl⟩
  · exact ⟨w, List.mem_append_left _ hw, rfl, rfl⟩

namespace Records

variable {s t u : State}

theorem refl (s : State) : Records s s := ⟨rfl, rfl, rfl, rfl, fun _ _ h => h, fun _ _ => rfl⟩

theorem of_watched (h : Watched s t) : Records s t := by
  obtain ⟨p, n, rfl⟩ := h
  exact refl s

theorem trans (h₁ : Records s t) (h₂ : Records t u) : Records s u := by
  obtain ⟨strands₁, engs₁, scratch₁, ops₁, raised₁, regs₁⟩ := h₁
  obtain ⟨strands₂, engs₂, scratch₂, ops₂, raised₂, regs₂⟩ := h₂
  exact ⟨strands₂.trans strands₁, engs₂.trans engs₁, scratch₂.trans scratch₁, ops₂.trans ops₁,
    fun g n h => raised₂ g n (raised₁ g n h), fun k hk => (regs₂ k hk).trans (regs₁ k hk)⟩

theorem ite {c : Prop} [Decidable c] (h₁ : Records s t) (h₂ : Records s u) : Records s (if c then t else u) := by
  split
  · exact h₁
  · exact h₂

theorem foldl {α : Type} {f : State → α → State} (step : ∀ u a, Records s u → Records s (f u a)) (l : List α) (h : Records s t) :
    Records s (l.foldl f t) := by
  induction l generalizing t with
  | nil => exact h
  | cons a l ih => exact ih (step t a h)

/-! ### Plain updates -/

theorem setFld (h : Records s t) {f : Fld} {i j v : Nat} (loud : quietKey f.lo = false := by decide) : Records s (t.setFld f i j v) := by
  obtain ⟨strands, engs, scratch, ops, raised, regs⟩ := h
  refine ⟨strands, engs, scratch, ops, raised, fun k hk => ?_⟩
  have apart : k ≠ fldKey f i j := by
    rintro rfl
    rw [quietKey_fldKey, loud] at hk
    cases hk
  exact (smapFind_put_ne _ t.regs _ apart).trans (regs k hk)

theorem addFld (h : Records s t) {f : Fld} {i j v : Nat} (loud : quietKey f.lo = false := by decide) : Records s (t.addFld f i j v) :=
  h.setFld loud

theorem raise (h : Records s t) {v : FaultEv} : Records s (t.raise v) := by
  obtain ⟨strands, engs, scratch, ops, raised, regs⟩ := h
  refine ⟨?_, ?_, ?_, ?_, fun g n hr => (raised g n hr).raise v, ?_⟩
  all_goals unfold State.raise; split <;> assumption

theorem occ (h : Records s t) {o : Occ} : Records s (t.occ o) := h.trans (of_watched (Watched.refl t).occ)
theorem setPm (h : Records s t) {x : Pm} : Records s { t with pm := x } := h
theorem setChan (h : Records s t) {c : Nat} {x : Chan} : Records s (t.setChan c x) := h
theorem setGran (h : Records s t) {c g : Nat} {x : Gran} : Records s (t.setGran c g x) := h
theorem storeWhole (h : Records s t) {c g : Nat} {x : SMap Byte} : Records s (t.storeWhole c g x) := h
theorem storePoison (h : Records s t) {c g : Nat} {x : List Byte} : Records s (t.storePoison c g x) := h
theorem command (h : Records s t) {c : Nat} : Records s (t.command c) := h
theorem deny (h : Records s t) {m wa : Nat} {w : Bool} : Records s (t.deny m wa w) := h

/-! ### A write to memory -/

theorem exitSr (h : Records s t) {c : Nat} : Records s (t.exitSr c) := h.setChan.setFld.setFld.addFld.setFld.setFld.setFld

theorem rouse (h : Records s t) {c : Nat} : Records s (t.rouse c) := ite (ite h h.exitSr) (ite h h.setChan)

theorem clearRows (h : Records s t) {c j : Nat} {w : Bool} : Records s (t.clearRows c j w) := by
  cases w
  · exact h.setChan.addFld
  · exact h.setChan.addFld

theorem countAct (h : Records s t) {c j r : Nat} : Records s (t.countAct c j r) := ite h (ite h.setChan.clearRows h.setChan)

theorem neighbourStep (h : Records s t) {c j : Nat} : Records s (t.neighbourStep c j) := by
  unfold State.neighbourStep
  dsimp only
  split
  · exact h
  · next q rest _ =>
    cases q with
    | nil => exact ite h.setChan.addFld.occ h.setChan
    | cons r q => exact ite h.setChan.countAct.addFld.occ h.setChan.countAct

theorem drainNeigh (h : Records s t) {c j n : Nat} : Records s (t.drainNeigh c j n) := by
  induction n generalizing t with
  | zero => exact h
  | succ n ih => exact ite h (ih h.neighbourStep)

theorem openFor (h : Records s t) {c g : Nat} {o : Occ} : Records s (t.openFor c g o) := by
  have room : Records s (if ((t.chan c).neighOf (bankOf g)).length < 2 then t
      else (t.addFld F.CH_RP_HOLD_count c 0 1).drainNeigh c (bankOf g) 8) := ite h h.addFld.drainNeigh
  exact ite h.command.occ room.setChan.countAct.command.occ

theorem decode (h : Records s t) {c g : Nat} {l : List SymErr} : Records s (t.decode c g l).2 := by
  unfold State.decode
  dsimp only
  split <;> exact h.setGran

theorem countLine (h : Records s t) {c pc line : Nat} : Records s (t.countLine c pc line) :=
  have counted := h.setChan
  ite (ite (setFld (setFld counted)) counted) (ite (setFld (setFld counted)) counted)

theorem demand (h : Records s t) {c g wa m a : Nat} {d : Dec} : Records s (t.demand c g wa m a d) := by
  unfold State.demand
  split
  · exact h
  · exact foldl (fun _ _ hu => hu.countLine) _ (ite h.addFld h.addFld)
  · exact h.addFld.raise
  · exact h.addFld.raise

theorem updDrain (h : Records s t) {c : Nat} : Records s (t.updDrain c) := ite h.setFld.occ (ite h.setFld h)

theorem queueWrite (h : Records s t) {c g k : Nat} {x : SMap Byte} {w : Writer} : Records s (t.queueWrite c g k x w) := by
  unfold State.queueWrite
  dsimp only
  split
  · exact h.setChan
  · exact ite h (setChan (t := { t with nextReq := t.nextReq + 1 }) h).updDrain

theorem wholeGran (h : Records s t) {c g m k wa : Nat} {x : SMap Byte} : Records s (t.wholeGran c g m k wa x) :=
  ite h.queueWrite (openFor (addFld h)).storeWhole.occ

theorem ueEnter (h : Records s t) {c g wa k m : Nat} {n : Option Nat} : Records s (t.ueEnter c g wa k m n) := by
  unfold State.ueEnter
  dsimp only
  split
  · exact h.addFld.setFld
  · split
    · exact h.addFld
    · refine ite h.addFld (setFld ?_)
      exact foldl (fun _ _ hu => hu.rouse.wholeGran) _ h.addFld

theorem writeGran (h : Records s t) {c g m k wa : Nat} {x : SMap Byte} : Records s (t.writeGran c g m k wa x) := by
  have read : Records s (((t.countWr c k).countRd c k).openFor c g { ev := 0x21, inst := c, master := m, addr := wa, cls := k }) :=
    openFor (addFld (addFld h))
  exact ite h.queueWrite (ite h.wholeGran (ite (ite read.decode.demand.occ.occ.storePoison.ueEnter read.decode.demand.occ.occ.storePoison)
    read.decode.demand.occ.occ.storeWhole))

theorem directLate (h : Records s t) {c m wa k : Nat} : Records s (t.directLate c m wa k) := by
  unfold State.directLate
  split
  · exact ite h.addFld.occ h
  · exact h

theorem meshDirect (h : Records s t) {c m e n : Nat} : Records s (t.meshDirect c m e n) := ite h.occ.occ h

theorem worldWrite (h : Records s t) {wa m : Nat} {k : Option Nat} {x : SMap Byte} : Records s (t.worldWrite wa m k x).2 := by
  unfold State.worldWrite
  split
  · exact h.deny
  · split
    · exact h.deny
    · split
      · exact foldl (fun _ _ hu => hu.rouse.directLate.meshDirect.writeGran) _ h
      · exact h

/-! ### The entry of a record -/

theorem ringWrite (h : Records s t) {x y : List Byte} : Records s (t.ringWrite x y) := setFld (worldWrite h)

theorem ringRecord (h : Records s t) {w : Bool} {x : List Byte} : Records s (t.ringRecord w x) := by
  unfold State.ringRecord
  split
  · exact h
  · next q _ =>
    have written : Records s (({ t with pm := { t.pm with lone := none } }).ringWrite q x) := h.setPm.ringWrite
    exact ite written.setFld written

theorem loseRecord (h : Records s t) : Records s t.loseRecord := addFld (setPm h)

theorem enterRecord (h : Records s t) {x : Sample} {c : Nat} : Records s (t.enterRecord x c) := by
  unfold State.enterRecord
  dsimp only
  split
  · exact ite h h.loseRecord
  · split
    · exact h
    · refine ite h.loseRecord (ite h.setPm.ringRecord (ite ?_ (ite h.setPm h)))
      exact ite h.setPm.setFld.setFld h.setPm.setFld

theorem finishSamples (h : Records s t) {p : Sample → Bool} {c : Nat} : Records s (t.finishSamples p c) :=
  foldl (fun _ _ hu => hu.enterRecord) _ h

/-- A trap that occurs is counted, and recorded where it is sampled. -/
theorem trapOccurs (h : Records s t) {e k pc : Nat} {title : Bool} {cause : Nat} {addr : Word64} :
    Records s (t.trapOccurs e k pc title cause addr) := by
  have hit : Records s ((t.occ { ev := 0x09, inst := e, title := title }).sampleHit { ev := 0x09, inst := e, title := title }).2 :=
    h.trans (of_watched (Watched.refl t).occ.sampleHit)
  unfold State.trapOccurs
  dsimp only
  split
  · next eq => rw [eq] at hit; exact hit.enterRecord
  · next eq => rw [eq] at hit; exact hit

/-! ### What stands -/

theorem strand (h : Records s t) (a b : Nat) : t.strand a b = s.strand a b := by
  obtain ⟨strands, _⟩ := h
  rw [State.strand, strands, State.strand]

theorem eng (h : Records s t) (a : Nat) : t.eng a = s.eng a := by
  obtain ⟨_, engs, _⟩ := h
  rw [State.eng, engs, State.eng]

theorem ops (h : Records s t) : t.ops = s.ops := by
  obtain ⟨_, _, _, ops, _⟩ := h
  exact ops

theorem scratch (h : Records s t) : t.scratch = s.scratch := by
  obtain ⟨_, _, scratch, _⟩ := h
  exact scratch

theorem raised (h : Records s t) {g n : Nat} (hr : Raised s g n) : Raised t g n := by
  obtain ⟨_, _, _, _, raised, _⟩ := h
  exact raised g n hr

theorem fld (h : Records s t) {f : Fld} {i j : Nat} (quiet : quietKey f.lo = true := by decide) : t.fld f i j = s.fld f i j := by
  obtain ⟨_, _, _, _, _, regs⟩ := h
  rw [State.fld, smapGet, regs _ ((quietKey_fldKey f i j).trans quiet), State.fld, smapGet]

end Records

end Sys2Proof.Machine
end

section
/-!
PROOFS. Taking a trap (R45 to R47): the strand it leaves, its pending bits, and what it leaves alone (O10, O19, O56).
-/

namespace Sys2Proof.Machine

set_option Elab.async false

/-! ## The pending bits (R47) -/

theorem bitOf_or_two_pow {w k : Nat} (v : Nat) (h : k < w) : bitOf ((v ||| 2 ^ k) % 2 ^ w) k = true := by
  simp [bitOf_eq_testBit, Nat.testBit_mod_two_pow, h]

theorem TRAP_PEND_ne_SV_EVENT_LO (e : Nat) (he : e < 34) :
    fldKey F.CE_TRAP_PEND_pend e 0 ≠ fldKey F.SV_EVENT_LO_engine 0 0 := by
  simp only [fldKey, fldAddr, F.CE_TRAP_PEND_pend, F.SV_EVENT_LO_engine]
  omega

theorem TRAP_PEND_ne_SV_EVENT_HI (e : Nat) (he : e < 34) :
    fldKey F.CE_TRAP_PEND_pend e 0 ≠ fldKey F.SV_EVENT_HI_engine 0 0 := by
  simp only [fldKey, fldAddr, F.CE_TRAP_PEND_pend, F.SV_EVENT_HI_engine]
  omega

theorem Records.svEvent {s t : State} (h : Records s t) {e : Nat} : Records s (t.svEvent e) := ite h.setFld (ite h.setFld h)

theorem Records.trapPend {s t : State} (h : Records s t) {e k : Nat} : Records s (t.trapPend e k) := ite h.setFld.svEvent h

/-- The engine's event bit is another register's than the pending bits. -/
theorem State.fld_svEvent_pend (s : State) {e : Nat} (he : e < 34) :
    (s.svEvent e).fld F.CE_TRAP_PEND_pend e 0 = s.fld F.CE_TRAP_PEND_pend e 0 := by
  by_cases lo : e < 32
  · rw [State.svEvent, if_pos lo, State.fld_setFld_ne _ _ _ _ _ _ _ _ (TRAP_PEND_ne_SV_EVENT_LO e he)]
  · rw [State.svEvent, if_neg lo, if_pos he, State.fld_setFld_ne _ _ _ _ _ _ _ _ (TRAP_PEND_ne_SV_EVENT_HI e he)]

theorem State.pend_trapPend (s : State) {e k : Nat} (he : e < 34) (hk : k < 16) :
    bitOf ((s.trapPend e k).fld F.CE_TRAP_PEND_pend e 0) k = true := by
  rw [State.trapPend, if_pos he, State.fld_svEvent_pend _ he, State.fld_setFld_same]
  exact bitOf_or_two_pow _ hk

theorem State.eventLo_trapPend (s : State) {e : Nat} (k : Nat) (he : e < 32) :
    bitOf ((s.trapPend e k).fld F.SV_EVENT_LO_engine 0 0) e = true := by
  rw [State.trapPend, if_pos (by omega), State.svEvent, if_pos he, State.fld_setFld_same]
  exact bitOf_or_two_pow _ he

theorem State.eventHi_trapPend (s : State) {e : Nat} (k : Nat) (lo : 32 ≤ e) (hi : e < 34) :
    bitOf ((s.trapPend e k).fld F.SV_EVENT_HI_engine 0 0) (e - 32) = true := by
  rw [State.trapPend, if_pos hi, State.svEvent, if_neg (by omega), if_pos hi, State.fld_setFld_same]
  exact bitOf_or_two_pow (w := 2) _ (by omega)

/-! ## The trap -/

/-- The strand stopped TRAPPED, the supervisor trap CSRs written (R47). -/
def Strand.stopped (x : Strand) (tr : Trap) (epc fpc : Nat) (more : Bool) : Strand :=
  { x with ts := trapRegs tr epc fpc more, st := .trapped, wait := none, report := none, more := false, pc := BitVec.ofNat 16 epc }

/-- The strand in its title vector, the title trap CSRs written (R47). -/
def Strand.vectored (x : Strand) (tr : Trap) (epc fpc : Nat) (more : Bool) : Strand :=
  { x with tt := trapRegs tr epc fpc more, inHandler := true, st := .ready, wait := none, report := none, more := false,
           pc := x.tvec.setWidth 16 }

/-- A trap that the title vector does not take: it is recorded, the strand stops and its bits are raised. -/
theorem State.takeTrap_stops {s : State} {e k : Nat} {tr : Trap} (epc fpc : Nat) (more : Bool)
    (refused : (s.strand e k).takesTitle tr.cause = false) :
    ∃ u, Records s u ∧
      s.takeTrap e k tr epc fpc more = (u.setStrand e k ((s.strand e k).stopped tr epc fpc more)).trapPend e k := by
  refine ⟨s.trapOccurs e k fpc (s.strand e k).title tr.cause.code tr.addr, (Records.refl s).trapOccurs, ?_⟩
  simp only [State.takeTrap, refused, Bool.false_eq_true, if_false]
  rfl

/-- A trap that the title vector takes: it is recorded and the strand enters the vector. -/
theorem State.takeTrap_vectors {s : State} {e k : Nat} {tr : Trap} (epc fpc : Nat) (more : Bool)
    (taken : (s.strand e k).takesTitle tr.cause = true) :
    ∃ u, Records s u ∧ s.takeTrap e k tr epc fpc more = u.setStrand e k ((s.strand e k).vectored tr epc fpc more) := by
  refine ⟨s.trapOccurs e k fpc (s.strand e k).title tr.cause.code tr.addr, (Records.refl s).trapOccurs, ?_⟩
  simp only [State.takeTrap, taken, if_true]
  rfl

/-- What a trap that stops its strand leaves: the strand, its pending bits, and the rest of the machine as it was. -/
def Stops (s t : State) (e k : Nat) (x : Strand) : Prop :=
  t.strand e k = x ∧ t.ops = s.ops ∧ t.scratch = s.scratch ∧ (∀ g n, Raised s g n → Raised t g n) ∧
    (∀ f i j, quietKey f.lo = true → t.fld f i j = s.fld f i j) ∧
    (e < 34 → k < 16 → bitOf (t.fld F.CE_TRAP_PEND_pend e 0) k = true) ∧
    (e < 32 → bitOf (t.fld F.SV_EVENT_LO_engine 0 0) e = true) ∧
    (32 ≤ e → e < 34 → bitOf (t.fld F.SV_EVENT_HI_engine 0 0) (e - 32) = true)

theorem stops_takeTrap {s : State} {e k : Nat} {tr : Trap} (epc fpc : Nat) (more : Bool)
    (refused : (s.strand e k).takesTitle tr.cause = false) :
    Stops s (s.takeTrap e k tr epc fpc more) e k ((s.strand e k).stopped tr epc fpc more) := by
  obtain ⟨u, recorded, eq⟩ := State.takeTrap_stops epc fpc more refused
  rw [eq]
  have pend {v : State} : Records v (v.trapPend e k) := (Records.refl v).trapPend
  refine ⟨?_, ?_, ?_, fun g n h => ?_, fun f i j quiet => ?_, fun he hk => State.pend_trapPend _ he hk,
    fun he => State.eventLo_trapPend _ k he, fun lo hi => State.eventHi_trapPend _ k lo hi⟩
  · rw [pend.strand, State.strand_setStrand_same]
  · rw [pend.ops, State.setStrand_ops, recorded.ops]
  · rw [pend.scratch, State.setStrand_scratch, recorded.scratch]
  · exact pend.raised (recorded.raised h)
  · rw [pend.fld quiet, State.fld_setStrand, recorded.fld quiet]

/-- A token's end changes none of what a stopped strand leaves. -/
theorem Stops.endToken {s t : State} {e k : Nat} {x : Strand} (h : Stops s t e k x) (a : Nat) : Stops s (t.endToken a) e k x := h

/-- The causes that an instruction meets at issue, and those a supervisor's strand meets, are never the title vector's. -/
theorem Strand.takesTitle_refused (x : Strand) {c : Cause} (h : c.titleHandled = false) : x.takesTitle c = false := by
  simp [Strand.takesTitle, h]

theorem stops_issueTrap {s : State} {e k : Nat} {tr : Trap} (precise : tr.cause.titleHandled = false) :
    Stops s (s.issueTrap e k tr) e k
      ((s.strand e k).stopped tr (s.strand e k).pc.toNat (s.strand e k).pc.toNat false) :=
  (stops_takeTrap _ _ false ((s.strand e k).takesTitle_refused precise)).endToken e

/-- An issue-time trap of the strand that stands at its instruction in `u`, READY from now at most, is the trap the statements name
(R45). -/
theorem trapsAt_issueTrap {s u : State} {i : Iss} {tr : Trap} (strand : u.me i = { s.me i with st := (u.me i).st })
    (ops : u.ops = s.ops) (scratch : u.scratch = s.scratch) (precise : tr.cause.titleHandled = false)
    (sub : tr.sub % 16 = tr.sub) (info : tr.info = 0) : TrapsAt s (u.issueTrap i.e.val i.t.val tr) i tr.cause.code tr.sub tr.addr := by
  obtain ⟨me, ops', scratch', _, _, pend, _, _⟩ : Stops u _ _ _ _ := stops_issueTrap (s := u) (e := i.e.val) (k := i.t.val) precise
  change State.me _ i = (u.me i).stopped tr (u.me i).pc.toNat (u.me i).pc.toNat false at me
  rw [strand] at me
  refine ⟨by rw [me]; rfl, ?_, ?_, by rw [me]; rfl, by rw [me]; rfl, by rw [me]; rfl, by rw [me]; rfl, ops'.trans ops,
    scratch'.trans scratch, fun he => pend he i.t.isLt⟩
  · rw [me]
    simp [Strand.stopped, trapRegs, b2n, sub, info, BitVec.ofNat_toNat]
  · rw [me]
    simp [Strand.stopped]

end Sys2Proof.Machine
end

section
/-!
PROOFS. What stops an instruction at issue (O56): its fetch, its encoding, the last index, a register that awaits a result, its own
trap.
-/

namespace Sys2Proof.Machine

set_option Elab.async false

/-! ## The outcomes of issue -/

/-- A single-bit error of the fetch is corrected and counted (R33). -/
def State.corrected (s : State) (i : Iss) : State := if i.ecc = .single then s.fetchCorrected i.e.val else s

theorem State.corrected_shape (s : State) (i : Iss) : ∃ r, s.corrected i = { s with regs := r } := by
  unfold State.corrected
  split
  · exact fetchCorrected_shape s i.e.val
  · exact ⟨s.regs, rfl⟩

/-- An instruction that is fetched well and well encoded traps at the last index unless it may stand there (R79). -/
theorem issue_last {s : State} {i : Iss} {d : Info} (body : State → Res) (h : Fetched s i d) (last : (s.me i).pc = 0xFFFF)
    (mid : d.last = false) :
    issue s i d none body = (issued s i d.bare).issueTrap i.e.val i.t.val { cause := .illegal, sub := 3 } := by
  obtain ⟨ready, can, good⟩ := h
  have pc : ((s.corrected i).strand i.e.val i.t.val).pc = 0xFFFF := by
    obtain ⟨r, eq⟩ := s.corrected_shape i
    rw [eq]
    exact last
  unfold issue
  simp only [can, Bool.not_true, Bool.false_eq_true, if_false, wakeCome_ready ready]
  cases ecc : i.ecc with
  | double => exact absurd ecc good
  | clean => simp_all [State.corrected, issued]
  | single => simp_all [State.corrected, issued]

/-- One that needs a register whose result is awaited stalls (R28, R30). -/
theorem issue_hazard {s : State} {i : Iss} {d : Info} (body : State → Res) (h : Fetched s i d) (mid : (s.me i).pc ≠ 0xFFFF)
    (awaits : s.hazard i.e.val i.t.val d = true) :
    issue s i d none body =
      (s.corrected i).stallStrand i.e.val i.t.val (s.stallTill i.e.val i.t.val d) (s.awaitsLoad i.e.val i.t.val d) := by
  obtain ⟨ready, can, good⟩ := h
  obtain ⟨r, eq⟩ := s.corrected_shape i
  have pc : ((s.corrected i).strand i.e.val i.t.val).pc ≠ 0xFFFF := by
    rw [eq]
    exact mid
  have hazard : (s.corrected i).hazard i.e.val i.t.val d = true := by
    rw [eq]
    exact awaits
  have till : (s.corrected i).stallTill i.e.val i.t.val d = s.stallTill i.e.val i.t.val d := by rw [eq]; rfl
  have loads : (s.corrected i).awaitsLoad i.e.val i.t.val d = s.awaitsLoad i.e.val i.t.val d := by rw [eq]; rfl
  rw [← till, ← loads]
  clear eq till loads awaits mid
  unfold issue
  simp only [can, Bool.not_true, Bool.false_eq_true, if_false, wakeCome_ready ready]
  cases ecc : i.ecc with
  | double => exact absurd ecc good
  | clean => simp_all [State.corrected]
  | single => simp_all [State.corrected]

/-- A double-bit error at fetch fails the fetch, whatever the instruction is (R33). -/
theorem issue_double {s : State} {i : Iss} {d : Info} (ill : Option Nat) (body : State → Res)
    (can : s.canIssue i.e.val i.t.val d = true) (double : i.ecc = .double) :
    issue s i d ill body = ((s.wakeCome i.e.val i.t.val).takeToken i.e.val i.t.val d.bare).fetchFailed i.e.val i.t.val := by
  simp only [issue, can, Bool.not_true, Bool.false_eq_true, if_false, double]

theorem illIf_false {bad : Bool} (h : bad = false) : illIf bad = none := by simp [illIf, h]

/-- What a format A instruction over g registers comes to is an issue with `infoA`. -/
theorem exec_regA {c : Instr} {s : State} {i : Iss} {f : FmtA} {bad : Bool} {r : Strand → Word64}
    (eq : exec c s = .next (regA s i f bad r)) : ∃ body, exec c s = .next (issue s i (infoA f) (illIf bad) body) := ⟨_, eq⟩

theorem exec_add (s : State) (i : Iss) (f : FmtA) : ∃ body, exec (.add i f) s = .next (issue s i (infoA f) none body) :=
  exec_regA (bad := false) rfl

/-! ## Traps of a command that is an instruction -/

theorem trapsAt_issued (s : State) (i : Iss) (d : Info) {tr : Trap} (precise : tr.cause.titleHandled = false := by rfl)
    (sub : tr.sub % 16 = tr.sub := by rfl) (info : tr.info = 0 := by rfl) :
    TrapsAt s ((issued s i d).issueTrap i.e.val i.t.val tr) i tr.cause.code tr.sub tr.addr :=
  trapsAt_issueTrap (by rw [issued_me]) (issued_ops s i d) (issued_scratch s i d) precise sub info

/-- A bad encoding of a fetched instruction traps ILLEGAL (R62). -/
theorem runs_illegal {c : Instr} {s : State} {i : Iss} {d : Info} {ill : Option Nat} {sub : Nat} {body : State → Res}
    (eq : exec c s = .next (issue s i d ill body)) (bad : ill = some sub) (h : Fetched s i d) (small : sub % 16 = sub := by rfl) :
    Runs c s fun t => TrapsAt s t i 1 sub 0 := by
  obtain ⟨ready, can, good⟩ := h
  rw [bad, issue_ill sub body ready can good] at eq
  exact ⟨_, eq, trapsAt_issued s i d.bare (tr := { cause := .illegal, sub := sub }) rfl small⟩

/-- An instruction that issues and whose own part traps (R45). -/
theorem runs_trap {c : Instr} {s : State} {i : Iss} {d : Info} {ill : Option Nat} {body : State → Res} {tr : Trap}
    (eq : exec c s = .next (issue s i d ill body)) (good : ill = none) (h : Issues s i d) (trap : body (issued s i d) = .trap tr)
    (precise : tr.cause.titleHandled = false := by rfl) (sub : tr.sub % 16 = tr.sub := by rfl) (info : tr.info = 0 := by rfl) :
    Runs c s fun t => TrapsAt s t i tr.cause.code tr.sub tr.addr := by
  rw [good, issue_eq body h, trap] at eq
  exact ⟨_, eq, trapsAt_issued s i d.bare precise sub info⟩

/-! ## A double error at fetch (R33) -/

theorem State.wakeCome_me (s : State) (i : Iss) :
    (s.wakeCome i.e.val i.t.val).me i = { s.me i with st := ((s.wakeCome i.e.val i.t.val).me i).st } := by
  unfold State.wakeCome
  split
  · simp [State.me]
  · rfl

theorem State.wakeCome_rest (s : State) (e k : Nat) :
    { s.wakeCome e k with strands := s.strands, engs := s.engs } = s := by
  unfold State.wakeCome
  split <;> rfl

/-- The engine's group is told, and CE_STATUS shows it (R33, R60). -/
def FetchTold (t : State) (e : Nat) : Prop :=
  (e < 34 → Raised t 48 0 ∧ t.fld F.CE_STATUS_imem_ue e 0 = 1) ∧ (e = 34 → Raised t 49 0)

/-- The state in which a failed fetch traps: counted, and told. -/
def State.fetchTold (s : State) (e pc : Nat) : State :=
  if e = 34 then
    (s.addFld F.SV_SRAM_ECC_uncorrected 0 0 1).raise
      { group := 49, src := 0, inst := 34, master := 34, access := 3, addr := 4 * pc }
  else
    ((s.addFld F.CE_IMEM_ECC_uncorrected e 0 1).setFld F.CE_STATUS_imem_ue e 0 1).raise
      { group := 48, src := 0, inst := e, master := e, access := 3, addr := pc }

theorem State.fetchFailed_eq (s : State) (e k : Nat) :
    s.fetchFailed e k = (s.fetchTold e (s.strand e k).pc.toNat).issueTrap e k
      { cause := .check, addr := BitVec.ofNat 64 (s.strand e k).pc.toNat } := rfl

theorem fetchTold_told (s : State) (e pc : Nat) : FetchTold (s.fetchTold e pc) e := by
  unfold State.fetchTold
  refine ⟨fun ce => ?_, fun sv => ?_⟩
  · rw [if_neg (by omega)]
    exact ⟨State.raised_raise _ _, by rw [State.fld_raise, State.fld_setFld_same]; rfl⟩
  · rw [if_pos sv]
    exact State.raised_raise _ _

theorem State.fetchTold_rest (s : State) (e pc : Nat) :
    { s.fetchTold e pc with regs := s.regs, faults := s.faults } = s := by
  unfold State.fetchTold State.raise
  split <;> split <;> rfl

theorem FetchTold.stops {s t : State} {e k : Nat} {x : Strand} (h : FetchTold s e) (stops : Stops s t e k x) : FetchTold t e := by
  obtain ⟨ce, sv⟩ := h
  obtain ⟨_, _, _, raised, fld, _⟩ := stops
  refine ⟨fun he => ?_, fun he => raised _ _ (sv he)⟩
  obtain ⟨told, shown⟩ := ce he
  exact ⟨raised _ _ told, (fld F.CE_STATUS_imem_ue e 0 rfl).trans shown⟩

theorem trapsAt_fetchFailed (s : State) (i : Iss) (d : Info) :
    let t := ((s.wakeCome i.e.val i.t.val).takeToken i.e.val i.t.val d).fetchFailed i.e.val i.t.val
    TrapsAt s t i 7 0 ((s.me i).pc.setWidth 64) ∧ FetchTold t i.e.val := by
  intro t
  obtain ⟨r, g, p, token⟩ := takeToken_shape (s.wakeCome i.e.val i.t.val) i.e.val i.t.val d
  have woken := s.wakeCome_rest i.e.val i.t.val
  have me := s.wakeCome_me i
  have eq : t = ((s.wakeCome i.e.val i.t.val).takeToken i.e.val i.t.val d).fetchFailed i.e.val i.t.val := rfl
  rw [State.fetchFailed_eq, token] at eq
  generalize hw : s.wakeCome i.e.val i.t.val = w at *
  set v : State := { w with regs := r, engs := g, pm := p }
  have rest := v.fetchTold_rest i.e.val (v.strand i.e.val i.t.val).pc.toNat
  have told := fetchTold_told v i.e.val (v.strand i.e.val i.t.val).pc.toNat
  have pc : (v.strand i.e.val i.t.val).pc = (s.me i).pc := (congrArg Strand.pc me :)
  rw [pc] at rest told eq
  have strand : ((v.fetchTold i.e.val (s.me i).pc.toNat).me i) = w.me i := by
    have strands : (v.fetchTold i.e.val (s.me i).pc.toNat).strands = w.strands := (congrArg State.strands rest :)
    rw [State.me, State.strand, strands, State.me, State.strand]
  have ops : (v.fetchTold i.e.val (s.me i).pc.toNat).ops = s.ops :=
    (congrArg State.ops rest :).trans (congrArg State.ops woken :)
  have scratch : (v.fetchTold i.e.val (s.me i).pc.toNat).scratch = s.scratch :=
    (congrArg State.scratch rest :).trans (congrArg State.scratch woken :)
  rw [eq]
  refine ⟨?_, told.stops (stops_issueTrap rfl)⟩
  rw [← BitVec.ofNat_toNat]
  exact trapsAt_issueTrap (by rw [strand]; exact me) ops scratch rfl rfl rfl

/-! ## The checks of a world and of a scratch access, in their order (R66, R72, R74) -/

theorem State.worldChecks_align (s : State) (i : Iss) {a : Word64} {al : Nat} (n : Nat) (b : RangeBit) (dl : BitVec 3)
    (h : a.toNat % al ≠ 0) : s.worldChecks i a al n b dl = some { cause := .align, addr := a } := by
  simp [State.worldChecks, firstTrap, h]

theorem State.worldChecks_range {s : State} {i : Iss} {a : Word64} {al n : Nat} {b : RangeBit} (dl : BitVec 3)
    (aligned : a.toNat % al = 0) (h : s.rangeBad i a n b = true) :
    s.worldChecks i a al n b dl = some { cause := .range, addr := a } := by
  simp [State.worldChecks, firstTrap, aligned, h]

theorem State.worldChecks_deadline {s : State} {i : Iss} {a : Word64} {al n : Nat} {b : RangeBit} {dl : BitVec 3}
    (aligned : a.toNat % al = 0) (inRange : s.rangeBad i a n b = false) (h : s.dlBad i dl = true) :
    s.worldChecks i a al n b dl = some { cause := .deadline, addr := a } := by
  simp [State.worldChecks, firstTrap, aligned, inRange, h]

theorem State.rangeBad_high (s : State) (i : Iss) {a : Word64} (n : Nat) (b : RangeBit) (h : 2 ^ 36 ≤ a.toNat) :
    s.rangeBad i a n b = true := by
  simp only [State.rangeBad, h, decide_true, Bool.true_or]

theorem State.rangeBad_device {s : State} {i : Iss} {a : Word64} (n : Nat) (b : RangeBit) (title : (s.me i).title = true)
    (ce : i.e.val < 34) (h : inDeviceArea a.toNat = true) : s.rangeBad i a n b = true := by
  simp [State.rangeBad, touchesDevice, title, ce, h]

theorem State.scratchChecks_align (s : State) (i : Iss) {a : Word64} {al : Nat} (n : Nat) (h : a.toNat % al ≠ 0) :
    s.scratchChecks i a al n = some { cause := .align, addr := a } := by
  simp [State.scratchChecks, firstTrap, h]

theorem State.scratchChecks_range {s : State} {i : Iss} {a : Word64} {al n : Nat} (aligned : a.toNat % al = 0)
    (h : s.scratchReach i < a.toNat + n) : s.scratchChecks i a al n = some { cause := .range, addr := a } := by
  simp [State.scratchChecks, firstTrap, aligned, h]

theorem SCRATCH_SPLIT_not_issueKey (e : Fin 35) : fldKey F.CE_SCRATCH_SPLIT_title_kib e.val 0 ∉ issueKeys e.val := by
  have := e.isLt
  simp only [issueKeys, fldKey, fldAddr, F.CE_SCRATCH_SPLIT_title_kib, F.PM_TD_slots, F.CE_IMEM_ECC_corrected, F.SV_SRAM_ECC_corrected,
    List.mem_cons, List.not_mem_nil, or_false, not_or]
  omega

theorem scratchReach_issued (s : State) (i : Iss) (d : Info) : (issued s i d).scratchReach i = s.scratchReach i := by
  simp only [State.scratchReach, State.titleShare, issued_me, issued_fld s i d _ _ _ (SCRATCH_SPLIT_not_issueKey i.e)]

theorem unprivileged_issued (s : State) (i : Iss) (d : Info) : (issued s i d).unprivileged i = s.unprivileged i := by
  rw [State.unprivileged, issued_me, State.unprivileged]

theorem infoMem_nil (f : FmtL) (writes : List Nat) : infoMem f [] writes = { reads := gN f.rs1, writes := writes, mem := true } := by
  rw [infoMem, List.append_nil]

/-- Ranks 2 and 3: a queue slot, scratch DMA buffers (R50). -/
theorem Strand.one_lt_rank (x : Strand) : 1 < x.rank ↔ x.slots ≠ [] ∨ x.dma ≠ 0 := by
  unfold Strand.rank
  by_cases dma : x.dma = 0
  · cases slots : x.slots with
    | nil => simp [dma]; split <;> omega
    | cons a l => simp [dma]
  · simp [dma]

/-! ## O56 -/

theorem runs_add_double {i : Iss} {s : State} (f : FmtA) (can : s.canIssue i.e.val i.t.val (infoA f) = true) (double : i.ecc = .double) :
    Runs (.add i f) s fun t => TrapsAt s t i 7 0 ((s.me i).pc.setWidth 64) ∧ FetchTold t i.e.val := by
  obtain ⟨body, eq⟩ := exec_add s i f
  rw [issue_double none body can double] at eq
  exact ⟨_, eq, trapsAt_fetchFailed s i (infoA f).bare⟩

theorem runs_add_hazard {i : Iss} {s : State} (f : FmtA) (h : Fetched s i (infoA f)) (mid : (s.me i).pc ≠ 0xFFFF)
    (awaits : s.hazard i.e.val i.t.val (infoA f) = true) :
    Runs (.add i f) s fun t => (t.me i).st = .stalled ∧ (t.me i).pc = (s.me i).pc ∧ (t.me i).g = (s.me i).g ∧
      t.ops = s.ops ∧ t.dram = s.dram := by
  obtain ⟨body, eq⟩ := exec_add s i f
  rw [issue_hazard body h mid awaits] at eq
  refine ⟨_, eq, ?_⟩
  obtain ⟨r, shape⟩ := s.corrected_shape i
  rw [shape]
  have me (u : State) (till : Option Nat) (mem : Bool) :
      (u.stallStrand i.e.val i.t.val till mem).me i = { u.me i with st := .stalled, stallMem := mem } := by
    simp [State.stallStrand, State.me]
  rw [me]
  exact ⟨rfl, rfl, rfl, rfl, rfl⟩

theorem runs_br_out {i : Iss} {s : State} {f : FmtB}
    (h : Issues s i { reads := pN f.pred.toNat, branch := true, last := uncond f }) (rs1 : f.rs1 = 0)
    (takes : ((s.me i).rp f.pred.toNat != f.neg) = true)
    (out : ((s.me i).pc.toNat : Int) + f.imm.toInt < 0 ∨ 65535 < ((s.me i).pc.toNat : Int) + f.imm.toInt) :
    Runs (.br i f) s fun t => TrapsAt s t i 1 3 0 := by
  have guard : (s.me i).guard f.pred f.neg = true := takes
  refine runs_trap (tr := { cause := .illegal, sub := 3 }) rfl (illIf_false (by simp [rs1])) h ?_
  simp only [issued_me, guard, Bool.not_true, Bool.false_eq_true, if_false, relTarget, out, if_true]

/-- A load whose checks find a trap takes it (R66, R72). -/
theorem runs_ld_trap {i : Iss} {s : State} {f : FmtL} {tr : Trap} (h : Issues s i (infoMem f [] (gN f.rt)))
    (found : (issued s i (infoMem f [] (gN f.rt))).worldChecks i (eaL f (s.me i) (bytesL f)) (bytesL f) (bytesL f) .read f.dl = some tr)
    (precise : tr.cause.titleHandled = false := by rfl) (sub : tr.sub % 16 = tr.sub := by rfl) (info : tr.info = 0 := by rfl) :
    Runs (.ld i f) s fun t => TrapsAt s t i tr.cause.code tr.sub tr.addr := by
  rw [infoMem_nil] at h found
  refine runs_trap rfl rfl h ?_ precise sub info
  simp only [issued_me, found]

theorem runs_sld_trap {i : Iss} {s : State} {f : FmtL} {tr : Trap} (dl : f.dl = 0) (h : Issues s i (infoSld f (gN f.rt)))
    (found : (issued s i (infoSld f (gN f.rt))).scratchChecks i (eaL f (s.me i) (bytesL f)) (bytesL f) (bytesL f) = some tr)
    (precise : tr.cause.titleHandled = false := by rfl) (sub : tr.sub % 16 = tr.sub := by rfl) (info : tr.info = 0 := by rfl) :
    Runs (.sld i f) s fun t => TrapsAt s t i tr.cause.code tr.sub tr.addr := by
  refine runs_trap rfl (illIf_false (by simp [dl])) h ?_ precise sub info
  simp only [infoSld] at found
  simp only [issued_me, found]

theorem runs_entLock_order {i : Iss} {s : State} {f : FmtE} (rs2 : f.rs2 = 0) (dl : f.dl = 0)
    (h : Issues s i { reads := gN f.rs1, writes := gN f.rd, mem := true }) :
    ((s.me i).slots ≠ [] ∨ (s.me i).dma ≠ 0 →
      Runs (.entLock i f) s fun t => TrapsAt s t i 5 0 ((s.me i).rg f.rs1.toNat)) ∧
    ((s.me i).slots = [] → (s.me i).dma = 0 → (∃ k ∈ (s.me i).locks, hIndex ((s.me i).rg f.rs1.toNat).toNat ≤ k) →
      Runs (.entLock i f) s fun t => TrapsAt s t i 5 1 ((s.me i).rg f.rs1.toNat)) := by
  have good : illIf (f.rs2 != 0 || f.dl != 0) = none := illIf_false (by simp [rs2, dl])
  refine ⟨fun holds => ?_, fun slots dma above => ?_⟩
  · have rank : 1 < (s.me i).rank := (s.me i).one_lt_rank.2 holds
    refine runs_trap (tr := { cause := .order, addr := (s.me i).rg f.rs1.toNat }) rfl good h ?_
    simp [issued_me, firstTrap, rank, trapAt]
  · have rank : ¬ 1 < (s.me i).rank := by simp [(s.me i).one_lt_rank, slots, dma]
    refine runs_trap (tr := { cause := .order, sub := 1, addr := (s.me i).rg f.rs1.toNat }) rfl good h ?_
    have any : ((s.me i).locks.any fun k => decide (hIndex ((s.me i).rg f.rs1.toNat).toNat ≤ k)) = true := by
      simpa [List.any_eq_true] using above
    simp only [issued_me, firstTrap, rank, decide_false, Bool.false_eq_true, if_false, any, if_true, trapAt]

theorem runs_regrd_title {i : Iss} {s : State} {f : FmtX} (imm : f.imm = 0) (title : s.unprivileged i = true)
    (h : Issues s i (infoX (gN f.rs1) (gN f.rd))) : Runs (.regrd i f) s fun t => TrapsAt s t i 2 0 0 := by
  refine runs_trap (tr := { cause := .privilege }) rfl (illIf_false (by simp [imm])) h ?_
  simp only [unprivileged_issued, title, if_true]

/-- Settles O56: each outcome by the equation of issue for it, the traps of an access by the order of its checks. -/
theorem issueTraps : Obligations.IssueTraps := by
  unfold Obligations.IssueTraps
  refine fun i s => ⟨fun f => ⟨fun idle => ?_, fun can double => ?_, fun h rs2 => ?_, fun h round => ?_, fun h last => ?_,
    fun h mid awaits => runs_add_hazard f h mid awaits⟩, fun f h rs1 takes out => runs_br_out h rs1 takes out, fun f a ha h => ?_,
    fun f h hh rs2 dl issues => ?_, fun f imm title h => runs_regrd_title imm title h⟩
  · obtain ⟨body, eq⟩ := exec_add s i f
    rw [eq, issue_idle none body idle]
  · exact runs_add_double f can double
  · obtain ⟨body, eq⟩ := exec_regA (c := .clz i f) (s := s) rfl
    exact runs_illegal eq (by simpa [illIf] using rs2) h
  · exact runs_illegal rfl (by simp [fpIll, round]) h
  · obtain ⟨body, eq⟩ := exec_add s i f
    rw [issue_last body h last rfl] at eq
    exact ⟨_, eq, trapsAt_issued s i (infoA f).bare (tr := { cause := .illegal, sub := 3 })⟩
  · subst ha
    refine ⟨fun unaligned => ?_, fun aligned high => ?_, fun aligned _ title ce device => ?_, fun aligned inRange late => ?_,
      fun dl hs unaligned => ?_, fun dl hs aligned out => ?_⟩
    · exact runs_ld_trap h (State.worldChecks_align _ i _ _ _ unaligned)
    · exact runs_ld_trap h (State.worldChecks_range _ aligned (State.rangeBad_high _ i _ _ high))
    · refine runs_ld_trap h (State.worldChecks_range _ aligned (State.rangeBad_device _ _ ?_ ce device))
      rw [issued_me]
      exact title
    · exact runs_ld_trap h (State.worldChecks_deadline aligned inRange late)
    · exact runs_sld_trap dl hs (State.scratchChecks_align _ i _ unaligned)
    · refine runs_sld_trap dl hs (State.scratchChecks_range aligned ?_)
      rwa [scratchReach_issued]
  · subst hh
    exact runs_entLock_order rs2 dl issues

end Sys2Proof.Machine
end

section
/-!
PROOFS. Results that come tokens later (R30): what issue enters, and the stall of an instruction that needs it (O59).
-/

namespace Sys2Proof.Machine

set_option Elab.async false

/-! ## What issue enters -/

theorem eng_takeToken (s : State) (e k : Nat) (d : Info) :
    (s.takeToken e k d).eng e =
      if s.pairs e k d then { s.eng e with token := none, lates := latesAfter (s.eng e).lates (s.tokenTime e k d) k d }
      else { s.eng e with
        rr := k, tokens := ((s.eng e).tokens + 1) % 2 ^ 64, lastTok := s.tb, slot := s.tokenTime e k d,
        lates := latesAfter (s.eng e).lates (s.tokenTime e k d) k d,
        token := if d.branch then none else some ⟨k, d.writes, d.mem, d.fp⟩ } := by
  unfold State.takeToken
  dsimp only
  split
  · rw [State.eng_setFld, State.eng_setEng_same, State.eng_addFld, State.eng_occ]
  · rw [State.eng_occ, State.eng_addFld, State.eng_setEng_same, State.eng_addFld, State.eng_occ]

/-- What issue leaves of its engine: the results to come are entered from the token time, and a token of that time is open, or none is. -/
theorem eng_issued (s : State) (i : Iss) (d : Info) :
    ((issued s i d).eng i.e.val).lates = latesAfter (s.eng i.e.val).lates (s.tokenTime i.e.val i.t.val d) i.t.val d ∧
      ((issued s i d).eng i.e.val).slot = s.tokenTime i.e.val i.t.val d := by
  obtain ⟨r, eq⟩ := s.corrected_shape i
  have token : issued s i d = (s.corrected i).takeToken i.e.val i.t.val d := rfl
  have eng : (s.corrected i).eng i.e.val = s.eng i.e.val := by rw [eq]; rfl
  have time : (s.corrected i).tokenTime i.e.val i.t.val d = s.tokenTime i.e.val i.t.val d := by rw [eq]; rfl
  have pairs : (s.corrected i).pairs i.e.val i.t.val d = s.pairs i.e.val i.t.val d := by rw [eq]; rfl
  rw [token, eng_takeToken, eng, time, pairs]
  split
  · next joins => exact ⟨rfl, by rw [State.tokenTime, if_pos joins]⟩
  · exact ⟨rfl, rfl⟩

/-- While a strand may run, the token time at hand is the next one (R30). -/
theorem State.coming_of_ready {s : State} {e k : Nat} (hk : k < 16) (ready : (s.strand e k).st = .ready)
    (told : (s.strand e k).report = none) : s.coming e = (s.eng e).slot + 1 := by
  have any : ((List.range 16).any fun u => decide ((s.strand e u).st = .ready) && (s.strand e u).report.isNone) = true :=
    List.any_eq_true.2 ⟨k, List.mem_range.2 hk, by simp [ready, told]⟩
  simp only [State.coming, any, if_true]

/-- A READY strand's next instruction issues in the open token's time or in the one after it. -/
theorem State.tokenTime_le {s : State} {e k : Nat} (d : Info) (hk : k < 16) (ready : (s.strand e k).st = .ready)
    (told : (s.strand e k).report = none) : s.tokenTime e k d ≤ (s.eng e).slot + 1 := by
  rw [State.tokenTime, State.coming_of_ready hk ready told]
  split <;> omega

theorem State.report_none_of_canIssue {s : State} {e k : Nat} {d : Info} (h : s.canIssue e k d = true) :
    (s.strand e k).report = none := by
  simp only [State.canIssue, State.mayRun, Bool.and_eq_true] at h
  obtain ⟨⟨_, _, told⟩, _⟩ := h
  exact Option.isNone_iff_eq_none.1 told

/-! ## The stall -/

theorem le_foldl_max {l : List Nat} {a n : Nat} (h : n ≤ a ∨ n ∈ l) : n ≤ l.foldl max a := by
  induction l generalizing a with
  | nil => exact h.resolve_right List.not_mem_nil
  | cons b l ih =>
    refine ih ?_
    obtain below | here := h
    · exact Or.inl (le_max_of_le_left below)
    · obtain rfl | rest := List.mem_cons.1 here
      · exact Or.inl (le_max_right _ _)
      · exact Or.inr rest

/-- A strand with no operation's result to await stalls on the latest of the results to come. -/
theorem stallsTill_issue {t : State} {j : Iss} {d : Info} {n : Nat} (body : State → Res) (h : Fetched t j d)
    (mid : (t.me j).pc ≠ 0xFFFF) (busy : (t.me j).busy = []) (late : n ∈ t.lateFor j.e.val j.t.val d) :
    StallsTill t (issue t j d none body) j n := by
  have awaits : t.hazard j.e.val j.t.val d = true := by
    simp [State.hazard, List.ne_nil_of_mem late]
  have till : t.stallTill j.e.val j.t.val d = some ((t.lateFor j.e.val j.t.val d).foldl max 0) := by
    have none_busy : (t.strand j.e.val j.t.val).busy = [] := busy
    simp [State.stallTill, none_busy]
  obtain ⟨r, eq⟩ := t.corrected_shape j
  rw [issue_hazard body h mid awaits, till, eq]
  refine ⟨⟨t.awaitsLoad j.e.val j.t.val d, ?_⟩, rfl, rfl, (t.lateFor j.e.val j.t.val d).foldl max 0, ?_, le_foldl_max (Or.inr late)⟩
  · dsimp only [State.stallStrand, State.me]
    rw [State.strand_setEng, State.strand_setStrand_same]
    rfl
  · simp [State.stallStrand, smapFind_insert_same]

/-- An instruction has issued that only changes its strand, and a result of it comes `d.lat` tokens later: the strand's next
instruction that needs it stalls until then. -/
theorem stallsTill_retire {s t : State} {i j : Iss} {d d' : Info} {u : Strand → Strand} {r n : Nat} (body : State → Res)
    (issues : Issues s i d) (ht : t = (issued s i d).retire i u) (same : j.e = i.e ∧ j.t = i.t)
    (st : (u (s.me i)).st = (s.me i).st) (busy : (u (s.me i)).busy = []) (pc : (u (s.me i)).pc = (s.me i).pc)
    (mid : (s.me i).pc + 1 ≠ 0xFFFF) (good : j.ecc ≠ .double) (writes : r ∈ d.writes) (needs : r ∈ d'.reads ++ d'.writes)
    (lat : d.lat = n) (two : 2 ≤ n) (can : t.canIssue j.e.val j.t.val d' = true) :
    StallsTill t (issue t j d' none body) j (s.tokenTime i.e.val i.t.val d + n) := by
  subst lat
  obtain ⟨ready, _⟩ := issues
  obtain ⟨he, ht'⟩ := same
  have me : t.me j = (u (s.me i)).next := by
    rw [State.me, he, ht', ht]
    exact (retire_me _ i u).trans (by rw [issued_me])
  have eng : t.eng j.e.val = (issued s i d).eng i.e.val := by rw [he, ht]; rfl
  obtain ⟨lates, slot⟩ := eng_issued s i d
  have now_ready : (t.me j).st = .ready := by rw [me]; exact st.trans ready
  have soon := State.tokenTime_le d' j.t.isLt now_ready (State.report_none_of_canIssue can)
  rw [eng, slot] at soon
  refine stallsTill_issue body ⟨now_ready, can, good⟩ ?_ (by rw [me]; exact busy) ?_
  · rw [me]
    change (u (s.me i)).pc + 1 ≠ 0xFFFF
    rwa [pc]
  · have entered : (i.t.val, r, s.tokenTime i.e.val i.t.val d + d.lat) ∈ (t.eng j.e.val).lates := by
      rw [eng, lates, latesAfter, if_neg (by omega)]
      exact List.mem_append_right _ (List.mem_map_of_mem writes)
    refine List.mem_map.2 ⟨_, List.mem_filter.2 ⟨entered, ?_⟩, rfl⟩
    simp only [ht', beq_self_eq_true, List.contains_iff_mem.2 needs, Bool.true_and, decide_eq_true_eq]
    rw [ht'] at soon
    omega

/-! ## The instructions with late results -/

theorem Strand.wg_st (x : Strand) (n : Nat) (v : Word64) : (x.wg n v).st = x.st := by unfold Strand.wg; split <;> rfl
theorem Strand.wg_busy (x : Strand) (n : Nat) (v : Word64) : (x.wg n v).busy = x.busy := by unfold Strand.wg; split <;> rfl
theorem Strand.wg_pc (x : Strand) (n : Nat) (v : Word64) : (x.wg n v).pc = x.pc := by unfold Strand.wg; split <;> rfl

/-- A multiply or a divide is a format A instruction over g registers with a late result. -/
theorem exec_late (p : (Iss → FmtA → Instr) × Nat × List Nat)
    (h : p ∈ mulTable.map (fun p => (p.1, 3, [])) ++ divTable.map (fun p => (p.1, 18, [regDiv]))) (i : Iss) (f : FmtA) (s : State) :
    2 ≤ p.2.1 ∧ ∃ r, exec (p.1 i f) s = .next (regN s i f p.2.1 p.2.2 r) := by
  revert p
  simp only [mulTable, divTable, List.map_cons, List.map_nil, List.cons_append, List.nil_append, List.forall_mem_cons]
  exact ⟨⟨by decide, _, rfl⟩, ⟨by decide, _, rfl⟩, ⟨by decide, _, rfl⟩, ⟨by decide, _, rfl⟩, ⟨by decide, _, rfl⟩, ⟨by decide, _, rfl⟩,
    ⟨by decide, _, rfl⟩, fun _ h => absurd h List.not_mem_nil⟩

/-- An FP32 instruction with a late result is one of format A, well encoded where a field it does not use is 0. -/
theorem exec_fp (p : (Iss → FmtA → Instr) × (Bool × Nat) × (Nat → Word32 → Word32 → Word32 → Word32 × Nat)) (h : p ∈ fpTable)
    (i : Iss) (f : FmtA) (s : State) (rs2 : p.2.1.1 = true → f.rs2 = 0) (late : 0 < p.2.1.2) :
    2 ≤ p.2.1.2 ∧ ∃ g, exec (p.1 i f) s = .next (fpA s i f p.2.1.2 false g) := by
  revert p
  have unused (e : f.rs2 = 0) : (f.rs2 != 0) = false := by simp [e]
  simp only [fpTable, List.forall_mem_cons]
  refine ⟨fun _ _ => ⟨by decide, _, rfl⟩, fun _ _ => ⟨by decide, _, rfl⟩, fun _ _ => ⟨by decide, _, rfl⟩,
    fun _ _ => ⟨by decide, _, rfl⟩, fun _ _ => ⟨by decide, _, rfl⟩, fun _ _ => ⟨by decide, _, rfl⟩, fun e _ => ⟨by decide, ?_⟩,
    fun _ _ => ⟨by decide, _, rfl⟩, fun _ _ => ⟨by decide, _, rfl⟩, fun _ none => absurd none (by decide),
    fun _ none => absurd none (by decide), fun e _ => ⟨by decide, ?_⟩, fun _ h => absurd h List.not_mem_nil⟩
  · rw [← unused (e trivial)]
    exact ⟨_, rfl⟩
  · rw [← unused (e trivial)]
    exact ⟨_, rfl⟩

theorem mem_gN {n : BitVec 5} (h : n ≠ 0) : n.toNat ∈ gN n := by
  rw [gN, if_neg h]
  exact List.mem_singleton_self _

/-- An ADD reads what its rs1 names. -/
theorem reads_infoA {g : FmtA} {n : BitVec 5} (h : n ≠ 0) (rs1 : g.rs1 = n) : n.toNat ∈ (infoA g).reads ++ (infoA g).writes := by
  subst rs1
  exact List.mem_append_left _ (List.mem_append_left _ (List.mem_append_left _ (mem_gN h)))

/-- An instruction of a strand whose result has come issues as if the strand were READY. -/
theorem issue_wakeCome {s : State} {i : Iss} {d : Info} (ill : Option Nat) (body : State → Res)
    (can : s.canIssue i.e.val i.t.val d = true) (now : (s.wakeCome i.e.val i.t.val).canIssue i.e.val i.t.val d = true)
    (ready : ((s.wakeCome i.e.val i.t.val).me i).st = .ready) :
    issue s i d ill body = issue (s.wakeCome i.e.val i.t.val) i d ill body := by
  simp only [issue, can, now, wakeCome_ready (s := s.wakeCome i.e.val i.t.val) ready, Bool.not_true, Bool.false_eq_true, if_false]

/-- Settles O59: the result is entered `d.lat` tokens ahead, and the next instruction issues at most one token on. -/
theorem lateResults : Obligations.LateResults := by
  unfold Obligations.LateResults
  refine ⟨fun p hp i j f g s d hd issues holds rd busy mid he ht good rs1 => ?_,
    fun p hp i j f g s d hd issues rs2 round late holds rd busy mid he ht good rs1 => ?_,
    fun p hp q hq i j f g s d hd issues holds busy mid he ht good => ?_, fun i f s come can now => ?_⟩
  · obtain ⟨lat, r, eq⟩ := exec_late p hp i f s
    have dlat : d.lat = p.2.1 := by rw [hd]; exact if_pos holds
    have guard : (s.me i).guard f.pred f.neg = true := holds
    subst hd
    rw [regN_eq p.2.1 p.2.2 r issues] at eq
    refine ⟨_, eq, fun can => ?_⟩
    obtain ⟨body, next⟩ := exec_add _ j g
    refine ⟨_, next, ?_⟩
    refine stallsTill_retire body issues rfl ⟨he, ht⟩ ?_ ?_ ?_ mid good (List.mem_append_left _ (mem_gN rd)) (reads_infoA rd rs1)
      dlat lat can
    all_goals simp only [guard, if_true, Strand.wg_st, Strand.wg_busy, Strand.wg_pc, busy]
  · obtain ⟨lat, r, eq⟩ := exec_fp p hp i f s rs2 late
    have dlat : d.lat = p.2.1.2 := by rw [hd]; exact if_pos holds
    have guard : (s.me i).guard f.pred f.neg = true := holds
    subst hd
    rw [fpA_eq p.2.1.2 r round issues] at eq
    refine ⟨_, eq, fun can => ?_⟩
    obtain ⟨body, next⟩ := exec_add _ j g
    refine ⟨_, next, ?_⟩
    refine stallsTill_retire body issues rfl ⟨he, ht⟩ ?_ ?_ ?_ mid good (mem_gN rd) (reads_infoA rd rs1) dlat lat can
    all_goals simp only [guard, if_true, Strand.sticky, Strand.wg_st, Strand.wg_busy, Strand.wg_pc, busy]
  · obtain ⟨lat, r, eq⟩ := exec_late (p.1, 18, [regDiv]) (List.mem_append_right _ (List.mem_map_of_mem hp)) i f s
    have dlat : d.lat = 18 := by rw [hd]; exact if_pos holds
    have guard : (s.me i).guard f.pred f.neg = true := holds
    subst hd
    rw [regN_eq 18 [regDiv] r issues] at eq
    refine ⟨_, eq, fun can => ?_⟩
    obtain ⟨_, r', next⟩ := exec_late (q.1, 18, [regDiv]) (List.mem_append_right _ (List.mem_map_of_mem hq)) j g
      ((issued s i (infoN s i f 18 [regDiv])).retire i fun x => if x.guard f.pred f.neg then x.wg f.rd.toNat (r x) else x)
    refine ⟨_, next, ?_⟩
    have divider {w : List Nat} : regDiv ∈ w ++ [regDiv] := List.mem_append_right _ (List.mem_singleton_self _)
    refine stallsTill_retire _ issues rfl ⟨he, ht⟩ ?_ ?_ ?_ mid good divider (List.mem_append_right _ divider) dlat
      (by decide) can
    all_goals simp only [guard, if_true, Strand.wg_st, Strand.wg_busy, Strand.wg_pc, busy]
  · have ready : ((s.wakeCome i.e.val i.t.val).me i).st = .ready := by
      simp [State.wakeCome, come, State.me]
    refine ⟨ready, ?_⟩
    have add (u : State) : exec (.add i f) u = .next (regA u i f false fun x => rs1A f x + rs2A f x) := rfl
    rw [add, add]
    exact congrArg _ (issue_wakeCome _ _ can now ready)

end Sys2Proof.Machine
end

section
/-!
PROOFS. SYSCALL and the traps of completion (O10).
-/

namespace Sys2Proof.Machine

set_option Elab.async false

/-- SYSCALL stops its strand at the next instruction, the code and g[rs1] recorded (R95). -/
theorem syscall_stops {i : Iss} {f : FmtX} {s : State} (rd : f.rd = 0) (issues : Issues s i (infoX (gN f.rs1) [])) :
    ∃ t, exec (.syscall i f) s = .next t ∧
      Stops (issued s i (infoX (gN f.rs1) [])) t i.e.val i.t.val
        ((s.me i).stopped { cause := .syscall, addr := (s.me i).rg f.rs1.toNat, info := f.imm.setWidth 64 }
          ((s.me i).pc.toNat + 1) (s.me i).pc.toNat false) := by
  have good : illIf (f.rd != 0) = none := illIf_false (by simp [rd])
  have refused (x : Strand) : x.takesTitle .syscall = false := x.takesTitle_refused rfl
  refine ⟨_, rfl, ?_⟩
  rw [infoX] at issues ⊢
  rw [good, issue_eq _ issues]
  simp only [issued_me]
  have me : (issued s i { reads := gN f.rs1, mem := true }).strand i.e.val i.t.val = s.me i := issued_me s i i _
  rw [← me]
  exact (stops_takeTrap _ _ false (refused _)).endToken _

theorem ofNat_succ_toNat (p : BitVec 16) : BitVec.ofNat 16 (p.toNat + 1) = p + 1 := by
  apply BitVec.eq_of_toNat_eq
  simp

theorem State.withdrawWait_none {s : State} {e k : Nat} (h : (s.strand e k).wait = none) : s.withdrawWait e k = s := by
  simp only [State.withdrawWait, h]

/-- A report is delivered to a strand that waits for nothing: it takes the trap (R46). -/
theorem State.completionTrap_report {s : State} {e k : Nat} {r : Report} (report : (s.strand e k).report = some r)
    (free : (s.strand e k).st ≠ .trapped) (on : (s.strand e k).st ≠ .disabled) (idle : (s.strand e k).wait = none) :
    s.completionTrap e k = ((s.setStrand e k { s.strand e k with wait := none }).endToken e).takeTrap e k r.trap
      (s.strand e k).pc.toNat r.fpc.toNat (s.strand e k).more := by
  simp only [State.completionTrap, report, free, on, or_self, if_false, State.withdrawWait_none idle]

/-- Settles O10: SYSCALL's own part takes the trap, the delivery of a report likewise; where it goes is the vector's to say. -/
theorem trapsTaken : Obligations.TrapsTaken := by
  unfold Obligations.TrapsTaken
  refine ⟨fun i f s rd issues => ?_, fun e u s x r hx report free on idle => ?_⟩
  · obtain ⟨t, eq, me, ops, scratch, _, _, pend, _, _⟩ := syscall_stops rd issues
    change t.me i = _ at me
    refine ⟨t, eq, by rw [me]; rfl, ?_, ?_, fun n => by rw [me]; rfl, by rw [me]; rfl, by rw [ops, issued_ops],
      by rw [scratch, issued_scratch], fun he => pend he i.t.isLt⟩
    · rw [me]
      simp [Strand.stopped, trapRegs, Cause.code, b2n]
    · rw [me]
      exact ofNat_succ_toNat _
  · subst hx
    have eq := State.completionTrap_report report free on idle
    set v := (s.setStrand e.val u.val { s.strand e.val u.val with wait := none }).endToken e.val
    have strand : v.strand e.val u.val = { s.strand e.val u.val with wait := none } := State.strand_setStrand_same _ _ _ _
    refine ⟨fun refused => ⟨_, rfl, ?_⟩, fun taken => ⟨_, rfl, ?_⟩⟩
    · rw [eq]
      have refused' : (v.strand e.val u.val).takesTitle r.trap.cause = false := by rw [strand]; exact refused
      obtain ⟨me, _, _, _, _, pend, lo, hi⟩ :=
        stops_takeTrap (s.strand e.val u.val).pc.toNat r.fpc.toNat (s.strand e.val u.val).more refused'
      rw [strand] at me
      exact ⟨by rw [me]; rfl, by rw [me]; rfl, by rw [me]; rfl, fun n => by rw [me]; rfl, fun he => pend he u.isLt, lo, hi⟩
    · have taken' : (v.strand e.val u.val).takesTitle r.trap.cause = true := by rw [strand]; exact taken
      obtain ⟨w, _, shape⟩ := State.takeTrap_vectors (s.strand e.val u.val).pc.toNat r.fpc.toNat (s.strand e.val u.val).more taken'
      rw [eq, shape, State.strand_setStrand_same, strand]
      exact ⟨rfl, rfl, rfl, rfl, fun _ => rfl⟩

end Sys2Proof.Machine
end

section
/-!
PROOFS. The end of a scratch DMA frees more buffers than its strand held (O17): with it a transfer that asks for a mesh bulk credit
starts, and may be refused.
-/

namespace Sys2Proof.Machine

set_option Elab.async false

/-- The scratch DMA of engine 0, strand 0, at its end: its one granule has gone and nothing of it is outstanding. -/
def doneDma : Op := { id := 1, e := 0, t := 0, kind := .sdmaIn, len := 64, need := 0, prog := 1, credit := .held 0 }

/-- The one of strand 1, which holds its buffer and asks for a mesh bulk credit, to the channel of logical 31. -/
def askingDma : Op := { id := 2, e := 0, t := 1, kind := .sdmaOut, addr := 31 * 2 ^ 31, len := 64, need := 0, credit := .asked 0 }

/-- The two transfers hold a buffer of the eight each, and logical channel 31 has become ABSENT since the second was issued. -/
def twoTransfers : State :=
  { State.reset with
    regs := [(fldKey F.RG_CHMAP_state 31 0, 2)]
    strands := [(skey 0 0, { st := .ready, dma := 1 }), (skey 0 1, { st := .waiting, wait := some (.credit 2), dma := 1 })]
    engs := [(0, { dmaFree := 6 })]
    ops := [doneDma, askingDma], nextOp := 3 }

theorem twoTransfers_runs : exec (.sdmaComplete 1) twoTransfers = .next (twoTransfers.sdmaComplete 1) := rfl

/-- The second transfer is refused, ABSENT, where it is routed, and its buffer is free too. -/
theorem twoTransfers_dmaFree : ((twoTransfers.sdmaComplete 1).eng 0).dmaFree = 8 := by decide +kernel

/-- Refutes O17: no transfer of the engine waits for buffers in `twoTransfers`, but one waits for the credit that the end of the first
gives back (R50). It starts, is refused where it is routed (R243), and gives its own buffer back: 6 free buffers become 8, not 7. -/
theorem not_operationsComplete : ¬ Obligations.OperationsComplete := by
  unfold Obligations.OperationsComplete
  intro ⟨_, ends⟩
  obtain ⟨t, eq, _, _, free⟩ := ends 1 twoTransfers doneDma rfl (by decide) (Or.inl rfl) rfl (by decide) rfl (by decide)
  rw [twoTransfers_runs] at eq
  rw [← Host.Outcome.next.inj eq] at free
  exact absurd (twoTransfers_dmaFree.symm.trans free) (by decide)

end Sys2Proof.Machine
end

section
/-!
PROOFS. World loads, stores and atomics start an operation and send its request (O4).
-/

namespace Sys2Proof.Machine

set_option Elab.async false

/-! ## Where an access leads: issue's own accounts have no part in it -/

theorem issued_fld_low (s : State) (i : Iss) (d : Info) (f : Fld) (a : Nat) (lo : 0x50000 ≤ f.base) (hi : f.base + a * f.s1 < 0x60000)
    (small : f.lo < 32) : (issued s i d).fld f a 0 = s.fld f a 0 := by
  have := i.e.isLt
  refine issued_fld s i d f a 0 ?_
  simp only [issueKeys, fldKey, fldAddr, F.PM_TD_slots, F.CE_IMEM_ECC_corrected, F.SV_SRAM_ECC_corrected,
    List.mem_cons, List.not_mem_nil, or_false, not_or]
  omega

theorem issued_stripeRaw (s : State) (i : Iss) (d : Info) {n : Nat} (hn : n < 4) : (issued s i d).stripeRaw n = s.stripeRaw n := by
  have region (f : Fld) (lo : 0x50000 ≤ f.base) (hi : f.base ≤ 0x50800) (step : f.s1 = 0x10) (small : f.lo < 32) :
      (issued s i d).fld f n 0 = s.fld f n 0 := by
    refine issued_fld_low s i d f n lo ?_ small
    rw [step]
    omega
  simp only [State.stripeRaw, State.fldB, issued_part, region F.RG_STRIPE_BASE_base (by decide) (by decide) rfl (by decide),
    region F.RG_STRIPE_CTRL_ways (by decide) (by decide) rfl (by decide),
    region F.RG_STRIPE_SIZE_units (by decide) (by decide) rfl (by decide),
    region F.RG_STRIPE_CTRL_valid (by decide) (by decide) rfl (by decide)]
  rfl

theorem issued_place (s : State) (i : Iss) (d : Info) (wa : Nat) : (issued s i d).place wa = s.place wa := by
  have stripes : (issued s i d).stripes = s.stripes := by
    refine List.foldl_ext _ _ _ fun l n hn => ?_
    rw [issued_stripeRaw s i d (List.mem_range.1 hn)]
  rw [State.place, stripes, State.place]

theorem issued_route (s : State) (i : Iss) (d : Info) (l off : Nat) : (issued s i d).route l off = s.route l off := by
  by_cases absent : logicals s.part ≤ l
  · simp only [State.route, issued_part, absent, if_true]
  have inMap : l < 32 := by
    unfold logicals at absent
    split at absent <;> omega
  have column (f : Fld) (lo : 0x50000 ≤ f.base) (hi : f.base ≤ 0x50804) (step : f.s1 = 0x8) (small : f.lo < 32) :
      (issued s i d).fld f l 0 = s.fld f l 0 := by
    refine issued_fld_low s i d f l lo ?_ small
    rw [step]
    omega
  have stopped : (issued s i d).copyStopped = s.copyStopped := by
    obtain ⟨r, g, p, eq⟩ := issued_shape s i d
    rw [eq]
  simp only [State.route, issued_part, stopped, column F.RG_CHMAP_phys (by decide) (by decide) rfl (by decide),
    column F.RG_CHMAP_old (by decide) (by decide) rfl (by decide), column F.RG_CHMAP_state (by decide) (by decide) rfl (by decide),
    column F.RG_CHCUR_cursor (by decide) (by decide) rfl (by decide)]

theorem State.place_congr {s t : State} (regs : t.regs = s.regs) (part : t.part = s.part) (wa : Nat) : t.place wa = s.place wa := by
  have raw (n : Nat) : t.stripeRaw n = s.stripeRaw n := by
    simp only [State.stripeRaw, State.fldB, State.fld, regs, part]
    rfl
  have stripes : t.stripes = s.stripes := by simp only [State.stripes, raw]
  rw [State.place, stripes, State.place]

theorem State.route_congr {s t : State} (regs : t.regs = s.regs) (part : t.part = s.part) (stopped : t.copyStopped = s.copyStopped)
    (l off : Nat) : t.route l off = s.route l off := by
  simp only [State.route, State.fld, regs, part, stopped]
  rfl

/-! ## An operation starts -/

/-- An operation as the strand's instruction enters it: under the next number. -/
def Op.entered (o : Op) (s : State) (i : Iss) : Op :=
  { o with id := s.nextOp, e := i.e.val, t := i.t.val, fpc := (s.me i).pc,
           pub := if (s.me i).inWin && o.kind.publishes then some (s.me i).tick else none, issued := s.tb, sram := i.sram }

/-- The strand, a register of which awaits a result. -/
def Strand.awaiting (x : Strand) (dst : Nat) : Strand := { x with busy := if dst = regNone ∨ dst = 0 then x.busy else dst :: x.busy }

/-- The state in which a memory operation has been entered, and the strand has moved past its instruction. -/
def State.started (s : State) (i : Iss) (o : Op) : State :=
  (({ s with ops := s.ops ++ [o.entered s i], nextOp := s.nextOp + 1 }).setStrand i.e.val i.t.val ((s.me i).awaiting o.dst)).advance i

/-- An operation that names no entry and no context is entered, and no more than that is done. -/
theorem State.startOp_advance (s : State) (i : Iss) {o : Op} (ent : o.kind.isEnt = false) (ses : o.kind.isSes = false) :
    { (s.startOp i o).advance i with pm := s.pm, free := s.free, engs := s.engs } = s.started i o := by
  have watched (x : Occ) (y : Sample) :
      Watched s ((if o.kind.bulk then s else (s.occ x).sample x y).meshOcc false { o with e := i.e.val }) := by
    split
    · exact (Watched.refl s).meshOcc
    · exact (Watched.refl s).occ.sample.meshOcc
  have unstruck (u : State) : (if i.sram = .double then u.strike o else u) = u := by simp [State.strike, ent, ses]
  unfold State.startOp
  simp only [unstruck]
  obtain ⟨p, n, eq⟩ := watched _ _
  rw [eq]
  split
  · next pub =>
    simp only [State.started, Op.entered, pub]
    rfl
  · next tick pub =>
    simp only [State.started, Op.entered, pub]
    rfl

/-- What the operation that started is, where it is found, and how its strand goes on. -/
theorem starts_started {s t : State} {i : Iss} {o : Op} (fresh : Fresh s)
    (eq : { t with pm := s.pm, free := s.free, engs := s.engs } = s.started i o) :
    t.findOp s.nextOp = some (o.entered s i) ∧ Starts s t i o.kind o.dst o.addr o.len := by
  have ops : t.ops = s.ops ++ [o.entered s i] := (congrArg State.ops eq :)
  have strands : t.strands = (s.started i o).strands := (congrArg State.strands eq :)
  have me : t.me i = ((s.me i).awaiting o.dst).next := by
    rw [State.me, State.strand, strands]
    refine (retire_me _ i id).trans ?_
    rw [State.me, State.strand_setStrand_same]
    rfl
  refine ⟨?_, ⟨o.entered s i, by simp [ops], rfl, rfl, rfl, rfl, rfl, rfl, rfl, rfl⟩, ?_⟩
  · have none_before : s.ops.find? (fun x => x.id == s.nextOp) = none :=
      List.find?_eq_none.2 fun x hx => by simpa using (fresh x hx).ne
    simp [State.findOp, ops, List.find?_append, none_before, Op.entered]
  · rw [me]
    exact ⟨rfl, rfl, rfl, fun _ => rfl, fun _ => rfl, rfl, (congrArg State.dram eq :), (congrArg State.scratch eq :),
      (congrArg State.svram eq :)⟩

/-! ## Its request is sent -/

/-- A read of an operation whose address is routed stands in front of the channel that serves it (R242, R243). -/
theorem State.sendRead_routed {s : State} {id e t m wa len target cls l off : Nat} {kind : ReqKind} {o : Op} {r : Route}
    (found : s.findOp id = some o) (place : s.place wa = .at l off) (route : s.route l off = some r) :
    s.sendRead id e t m wa len target kind cls =
      s.sendReq { id := 0, op := id, e := e, t := t, master := m, kind := kind, phys := r.rd, gran := off / 64, waddr := wa,
                  len := len, cls := cls, bulk := o.kind.bulk } target := by
  simp only [State.sendRead, found, place, route]

theorem State.sendWrite_routed {s : State} {id e t m wa target cls l off : Nat} {wr : SMap Byte} {o : Op} {r : Route}
    (found : s.findOp id = some o) (place : s.place wa = .at l off) (route : s.route l off = some r) :
    s.sendWrite id e t m wa wr target cls =
      r.wr.foldl (fun s c => s.sendReq { id := 0, op := id, e := e, t := t, master := m, kind := .write, phys := c, gran := off / 64,
                                         waddr := wa, wr := wr, cls := cls, bulk := o.kind.bulk } target)
        (s.setOp { o with need := r.wr.length }) := by
  simp only [State.sendWrite, found, place, route]

theorem State.foldl_sendReq_frame (f : Nat → Req) (target : Nat) (l : List Nat) (s : State) :
    { l.foldl (fun s c => s.sendReq (f c) target) s with reqs := s.reqs, nextReq := s.nextReq } = s := by
  induction l generalizing s with
  | nil => rfl
  | cons a l ih => exact congrArg (fun u : State => { u with reqs := s.reqs, nextReq := s.nextReq }) (ih (s.sendReq (f a) target))

theorem State.foldl_sendReq_old (f : Nat → Req) (target : Nat) (l : List Nat) {s : State} {q : Req} (h : q ∈ s.reqs) :
    q ∈ (l.foldl (fun s c => s.sendReq (f c) target) s).reqs := by
  induction l generalizing s with
  | nil => exact h
  | cons a l ih => exact ih (List.mem_append_left _ h)

/-- Requests that are sent one after the other all stand at their channels. -/
theorem State.foldl_sendReq_sent (f : Nat → Req) (target : Nat) (l : List Nat) (s : State) {c : Nat} (h : c ∈ l) :
    ∃ q ∈ (l.foldl (fun s c => s.sendReq (f c) target) s).reqs, ∃ n h k j x,
      q = { f c with id := n, dl := h, far := k, late := j, input := x } := by
  induction l generalizing s with
  | nil => exact absurd h List.not_mem_nil
  | cons a l ih =>
    obtain rfl | rest := List.mem_cons.1 h
    · exact ⟨_, foldl_sendReq_old f target l (List.mem_append_right _ (List.mem_singleton_self _)), _, _, _, _, _, rfl⟩
    · exact ih _ rest

theorem starts_issued {s t : State} {i : Iss} {d : Info} {kind : OpKind} {dst addr len : Nat}
    (h : Starts (issued s i d) t i kind dst addr len) : Starts s t i kind dst addr len := by
  have dram : (issued s i d).dram = s.dram := (congrArg State.dram (issued_frame s i d) :)
  simpa only [Starts, issued_nextOp, issued_me, dram, issued_scratch, issued_svram] using h

/-- A memory operation that started in the state issue left. -/
theorem started_found {s : State} {i : Iss} {d : Info} {o : Op} (ent : o.kind.isEnt = false) (ses : o.kind.isSes = false)
    (fresh : Fresh s) {l off : Nat} {r : Route} {wa : Nat} (place : s.place wa = .at l off) (route : s.route l off = some r) :
    let t := ((issued s i d).startOp i o).advance i
    t.findOp s.nextOp = some (o.entered (issued s i d) i) ∧ Starts s t i o.kind o.dst o.addr o.len ∧
      t.place wa = .at l off ∧ t.route l off = some r := by
  intro t
  have eq := (issued s i d).startOp_advance i ent ses
  have fresh' : Fresh (issued s i d) := by simpa [Fresh] using fresh
  obtain ⟨found, starts⟩ := starts_started fresh' eq
  have regs : t.regs = (issued s i d).regs := (congrArg State.regs eq :)
  have part : t.part = (issued s i d).part := (congrArg State.part eq :)
  have stopped : t.copyStopped = (issued s i d).copyStopped := (congrArg State.copyStopped eq :)
  have same_place : t.place wa = (issued s i d).place wa := State.place_congr regs part wa
  have same_route : t.route l off = (issued s i d).route l off := State.route_congr regs part stopped l off
  refine ⟨?_, starts_issued starts, ?_, ?_⟩
  · rwa [issued_nextOp] at found
  · rw [same_place, issued_place, place]
  · rw [same_route, issued_route, route]

/-- A load or an atomic: the operation starts and its read stands at its channel. -/
theorem sends_read {s : State} {i : Iss} {d : Info} {o : Op} {kind : ReqKind} {target cls : Nat} (ent : o.kind.isEnt = false)
    (ses : o.kind.isSes = false) (fresh : Fresh s) {l off : Nat} {r : Route} (place : s.place o.addr = .at l off)
    (route : s.route l off = some r) :
    let t := (((issued s i d).startOp i o).advance i).sendRead s.nextOp i.e.val i.t.val (engMaster i.e.val) o.addr o.len
      target kind cls
    Starts s t i o.kind o.dst o.addr o.len ∧ SendsRead s t i kind r off o.addr o.len := by
  obtain ⟨found, starts, place', route'⟩ := started_found (i := i) (d := d) ent ses fresh place route
  rw [State.sendRead_routed found place' route']
  exact ⟨starts, _, List.mem_append_right _ (List.mem_singleton_self _), rfl, rfl, rfl, rfl, rfl, rfl, rfl⟩

/-- The number of its writes is put into the operation that has started. -/
theorem Starts.need {s t : State} {i : Iss} {o : Op} {kind : OpKind} {dst addr len : Nat} (h : Starts s t i kind dst addr len)
    (found : t.findOp s.nextOp = some o) (is : o.e = i.e.val ∧ o.t = i.t.val ∧ o.kind = kind ∧ o.dst = dst ∧ o.addr = addr ∧
      o.len = len ∧ o.fpc = (s.me i).pc) (n : Nat) :
    Starts s (t.setOp { o with need := n }) i kind dst addr len := by
  obtain ⟨_, rest⟩ := h
  have number : o.id = s.nextOp := by simpa using List.find?_some found
  refine ⟨⟨{ o with need := n }, List.mem_map.2 ⟨o, State.findOp_mem found, if_pos rfl⟩, number, is⟩, rest⟩

/-- A store: the operation starts and its write stands at every channel that must hold it. -/
theorem sends_write {s : State} {i : Iss} {d : Info} {o : Op} {wr : SMap Byte} {target cls : Nat} (ent : o.kind.isEnt = false)
    (ses : o.kind.isSes = false) (fresh : Fresh s) {l off : Nat} {r : Route} (place : s.place o.addr = .at l off)
    (route : s.route l off = some r) :
    let t := (((issued s i d).startOp i o).advance i).sendWrite s.nextOp i.e.val i.t.val (engMaster i.e.val) o.addr wr target cls
    Starts s t i o.kind o.dst o.addr o.len ∧ SendsWrite s t i r off o.addr wr := by
  obtain ⟨found, starts, place', route'⟩ := started_found (i := i) (d := d) ent ses fresh place route
  rw [State.sendWrite_routed found place' route']
  set v := (((issued s i d).startOp i o).advance i).setOp { (o.entered (issued s i d) i) with need := r.wr.length }
  have starts' : Starts s v i o.kind o.dst o.addr o.len :=
    starts.need found ⟨rfl, rfl, rfl, rfl, rfl, rfl, by rw [← issued_me s i i d]; rfl⟩ _
  set f : Nat → Req := fun c =>
    { id := 0, op := s.nextOp, e := i.e.val, t := i.t.val, master := engMaster i.e.val, kind := .write, phys := c, gran := off / 64,
      waddr := o.addr, wr := wr, cls := cls, bulk := (o.entered (issued s i d) i).kind.bulk }
  refine ⟨?_, fun c hc => ?_⟩
  · have frame := v.foldl_sendReq_frame f target r.wr
    rw [← frame] at starts'
    exact starts'
  · obtain ⟨q, hq, _, _, _, _, _, rfl⟩ := v.foldl_sendReq_sent f target r.wr hc
    exact ⟨_, hq, rfl, rfl, rfl, rfl, rfl, rfl, rfl⟩

/-! ## O4 -/

/-- A world load that reaches its channel (R36, R73). -/
theorem worldLoad_reaches {c : Instr} {s : State} {i : Iss} {f : FmtL} {kind : OpKind} {n scale dst : Nat} {writes : List Nat} {bad : Bool}
    (eq : exec c s = .next (worldLoad s i f kind n scale dst writes bad)) (good : bad = false) (ent : kind.isEnt = false)
    (ses : kind.isSes = false) {l off : Nat} {r : Route} {a : Word64} (ha : a = eaL f (s.me i) scale)
    (h : Reaches s i (infoMem f [] writes) a n n .read f.dl kind l off r) :
    ∃ t, exec c s = .next t ∧ Starts s t i kind dst a.toNat n ∧ SendsRead s t i .read r off a.toNat n := by
  obtain ⟨issues, checks, room, free, place, route, fresh⟩ := h
  rw [infoMem_nil] at issues checks room free
  subst ha
  refine ⟨_, eq, ?_⟩
  rw [worldLoad, good, illIf_false rfl, issue_eq _ issues]
  simp only [issued_me, checks, room, free, Bool.not_true, Bool.or_self, Bool.false_eq_true, if_false, issued_nextOp]
  exact sends_read (o := { id := 0, e := 0, t := 0, kind := kind, dst := dst, addr := (eaL f (s.me i) scale).toNat, len := n, dl := _ })
    ent ses fresh place route

theorem worldStore_reaches {c : Instr} {s : State} {i : Iss} {f : FmtL} {kind : OpKind} {n scale : Nat} {reads : List Nat} {bad : Bool}
    {data : Strand → Nat} (eq : exec c s = .next (worldStore s i f kind n scale reads bad data)) (good : bad = false)
    (ent : kind.isEnt = false) (ses : kind.isSes = false) {l off : Nat} {r : Route} {a : Word64} (ha : a = eaL f (s.me i) scale)
    (h : Reaches s i (infoMem f reads []) a n n .write f.dl kind l off r) :
    ∃ t, exec c s = .next t ∧ Starts s t i kind 255 a.toNat n ∧
      SendsWrite s t i r off a.toNat (bytesAt (a.toNat % 64) (leBytes n (data (s.me i)))) := by
  obtain ⟨issues, checks, room, free, place, route, fresh⟩ := h
  subst ha
  refine ⟨_, eq, ?_⟩
  have issues' : Issues s i { reads := gN f.rs1 ++ reads, mem := true } := issues
  rw [worldStore, good, illIf_false rfl, issue_eq _ issues']
  simp only [infoMem] at checks room free
  simp only [issued_me, checks, room, free, Bool.not_true, Bool.or_self, Bool.false_eq_true, if_false, issued_nextOp]
  exact sends_write (o := { id := 0, e := 0, t := 0, kind := kind, addr := (eaL f (s.me i) scale).toNat, len := n, dl := _ })
    ent ses fresh place route

/-- An atomic that reaches its channel (R77). -/
theorem atomic_reaches {c : Instr} {s : State} {i : Iss} {d : Bool} {f : FmtE} {op : Nat} (eq : exec c s = .next (atomic s i d f op))
    {l off n : Nat} {r : Route} (hn : n = if d then 8 else 4)
    (h : Reaches s i { reads := gN f.rs1 ++ gN f.rs2 ++ gN f.rd, writes := gN f.rd, mem := true } ((s.me i).rg f.rs1.toNat) n n
      .atomic f.dl (.amo op d) l off r) :
    ∃ t, exec c s = .next t ∧ Starts s t i (.amo op d) f.rd.toNat ((s.me i).rg f.rs1.toNat).toNat n ∧
      SendsRead s t i .atomic r off ((s.me i).rg f.rs1.toNat).toNat n := by
  obtain ⟨issues, checks, room, free, place, route, fresh⟩ := h
  subst hn
  refine ⟨_, eq, ?_⟩
  change State.fenced _ _ _ 2 = false at free
  rw [atomic, issue_eq _ issues]
  simp only [issued_me, checks, room, free, Bool.not_true, Bool.or_self, Bool.false_eq_true, if_false, issued_nextOp]
  exact sends_read
    (o := { id := 0, e := 0, t := 0, kind := .amo op d, dst := f.rd.toNat, addr := ((s.me i).rg f.rs1.toNat).toNat,
            a1 := _, a2 := _, len := _, dl := _ }) rfl rfl fresh place route

theorem exec_amo (p : (Iss → Bool → FmtE → Instr) × Nat) (h : p ∈ amoTable) (i : Iss) (d : Bool) (f : FmtE) (s : State) :
    exec (p.1 i d f) s = .next (atomic s i d f p.2) := by
  revert p
  simp only [amoTable, List.forall_mem_cons]
  exact ⟨rfl, rfl, rfl, rfl, rfl, rfl, rfl, rfl, rfl, rfl, fun _ h => absurd h List.not_mem_nil⟩

/-- Settles O4: the access is entered and its request sent, where nothing of R66 stops it. -/
theorem memoryAccessesStart : Obligations.MemoryAccessesStart := by
  unfold Obligations.MemoryAccessesStart
  have vector {f : FmtL} (size : f.size = 0) (rt : f.rt.toNat < 16) : (f.size != 0 || !vOk f.rt) = false := by
    simp [size, vOk, rt]
  refine ⟨⟨fun i f s l off r a ha => ⟨fun h => ?_, fun h => ?_⟩, fun i f s l off r a ha size rt h => ?_,
    fun p hp i d f s l off n r hn h => atomic_reaches (exec_amo p hp i d f s) hn h⟩, fun i f s l off r a ha h => ?_,
    fun i f s l off r a ha size rt h => ?_⟩
  · exact worldLoad_reaches (c := .ld i f) rfl rfl rfl rfl ha h
  · exact worldLoad_reaches (c := .ldu i f) rfl rfl rfl rfl ha h
  · exact worldLoad_reaches (c := .vld i f) rfl (vector size rt) rfl rfl ha h
  · exact worldStore_reaches (c := .st i f) rfl rfl rfl rfl ha h
  · exact worldStore_reaches (c := .vst i f) rfl (vector size rt) rfl rfl ha h

end Sys2Proof.Machine
end

section
/-!
PROOFS. Migration of a logical engine; the watchdog and the hang source (O20).
-/

namespace Sys2Proof.Machine

set_option Elab.async false

/-! ## The fields of the engines' registers -/

/-- The registers of the channel engines: 64 KiB of addresses for each, below those of the SV. -/
def engineFld (f : Fld) : Bool := f.s1 == 0x10000 && decide (0x2000000 ≤ f.base) && decide (f.base < 0x2000100) && decide (f.lo < 32)

theorem fldKey_engineFld {f : Fld} (h : engineFld f = true) (e : Nat) :
    ∃ n, n < 0x1020 ∧ f.base * 16 + f.lo = 0x20000000 + n ∧ fldKey f e 0 = 0x20000000 + e * 0x100000 + n := by
  simp only [engineFld, Bool.and_eq_true, beq_iff_eq, decide_eq_true_eq] at h
  obtain ⟨⟨⟨stride, low⟩, high⟩, bit⟩ := h
  refine ⟨f.base * 16 + f.lo - 0x20000000, by omega, by omega, ?_⟩
  simp only [fldKey, fldAddr, stride]
  omega

/-- Fields of two engines, or two fields of engines' registers, are apart. -/
theorem fldKey_engineFld_ne {f g : Fld} (hf : engineFld f = true) (hg : engineFld g = true) {a b : Nat}
    (h : a ≠ b ∨ f.base * 16 + f.lo ≠ g.base * 16 + g.lo) : fldKey f a 0 ≠ fldKey g b 0 := by
  obtain ⟨m, hm, fm, eqf⟩ := fldKey_engineFld hf a
  obtain ⟨n, hn, gn, eqg⟩ := fldKey_engineFld hg b
  rw [eqf, eqg]
  omega

theorem State.fld_setFld_engine (s : State) {f g : Fld} {a b : Nat} (v : Nat) (hf : engineFld f = true) (hg : engineFld g = true)
    (h : a ≠ b ∨ f.base * 16 + f.lo ≠ g.base * 16 + g.lo) : (s.setFld g b 0 v).fld f a 0 = s.fld f a 0 :=
  State.fld_setFld_ne _ _ _ _ _ _ _ _ (fldKey_engineFld_ne hf hg h)

/-! ## The request, the wait and the copy's start (R54 to R56) -/

theorem migrationStart_runs {p q : Fin 34} {s : State} (apart : p ≠ q) (onP : s.engOn p.val = true) (onQ : s.engOn q.val = true)
    (idle : (s.eng p.val).mig = none) (freeP : (s.eng p.val).fenced = false) (freeQ : (s.eng q.val).fenced = false) :
    Runs (.migrationStart p q) s fun t => t.fld F.CE_MIG_STATUS_phase p.val 0 = 1 ∧ t.fld F.CE_MIG_CTRL_target p.val 0 = q.val ∧
      (t.eng p.val).mig = some { target := q.val, startTick := s.fld F.TK_NEXT_tick 0 0 } := by
  have ready : ¬ (p.val = q.val ∨ 34 ≤ q.val ∨ (!s.engOn p.val) = true ∨ (!s.engOn q.val) = true ∨ (s.eng p.val).mig.isSome = true ∨
      (s.eng p.val).fenced = true ∨ (s.eng q.val).fenced = true) := by
    simp [onP, onQ, idle, freeP, freeQ, Fin.val_ne_of_ne apart]
  refine ⟨s.migStart p.val q.val, rfl, ?_⟩
  rw [State.migStart, if_neg ready]
  refine ⟨?_, ?_, ?_⟩
  · rw [State.fld_setEng, State.fld_setFld_same]
    rfl
  · rw [State.fld_setEng, State.fld_setFld_engine _ _ rfl rfl (Or.inr (by decide)), State.fld_setFld_same]
    exact Nat.mod_eq_of_lt (by have := q.isLt; change q.val < 64; omega)
  · rw [State.eng_setEng_same]

/-- The copy begins. -/
theorem migCopy_begins (s : State) (p : Nat) (m : Mig) :
    (s.migCopy p m).fld F.CE_MIG_STATUS_phase p 0 = 2 ∧
      ((s.migCopy p m).eng p).mig = some { m with copying := true, since := s.tb } ∧ (s.migCopy p m).strands = s.strands := by
  unfold State.migCopy State.endToken
  refine ⟨?_, ?_, rfl⟩
  · rw [State.fld_setEng, State.fld_setEng, State.fld_setFld_same]
    rfl
  · rw [State.eng_setEng_same, State.eng_setEng_same]

/-- The owners are renamed in the directory, and nowhere else. -/
theorem renameOwner_shape (s : State) (p q : Nat) : ∃ d, s.renameOwner p q = { s with ed := d } := by
  have fold (l : SMap Word64) (u : State) (h : ∃ d, u = { s with ed := d }) :
      ∃ d, l.foldl (fun s x => if entLock x.2 && entOwner x.2 == p then s.setEntry x.1 (withOwner x.2 q) else s) u =
        { s with ed := d } := by
    induction l generalizing u with
    | nil => exact h
    | cons x l ih =>
      obtain ⟨d, rfl⟩ := h
      refine ih _ ?_
      dsimp only
      split
      · exact ⟨_, rfl⟩
      · exact ⟨_, rfl⟩
  exact fold s.ed.ent s ⟨s.ed, rfl⟩

theorem migForced_begins {s : State} {p : Nat} (m : Mig) (drained : s.migDrained p = true) :
    (s.migForced p m).fld F.CE_MIG_STATUS_phase p 0 = 2 ∧
      ((s.migForced p m).eng p).mig = some { m with copying := true, stopped := true, since := s.tb } := by
  rw [State.migForced, if_pos drained]
  obtain ⟨phase, mig, _⟩ := migCopy_begins (s.renameOwner p m.target) p { m with stopped := true }
  obtain ⟨d, eq⟩ := renameOwner_shape s p m.target
  have tb : (s.renameOwner p m.target).tb = s.tb := by rw [eq]
  rw [tb] at mig
  exact ⟨phase, mig⟩

theorem migForced_waits {s : State} {p : Nat} (m : Mig) (drained : s.migDrained p = false) :
    ((s.migForced p m).eng p).mig = some { m with stopped := true } ∧ (s.migForced p m).engIssues p = false ∧
      (s.migForced p m).ed = s.ed := by
  have eq : s.migForced p m = (s.setEng p { s.eng p with mig := some { m with stopped := true } }).endToken p := by
    rw [State.migForced, drained]
    rfl
  have mig : ((s.migForced p m).eng p).mig = some { m with stopped := true } := by
    rw [eq, State.endToken, State.eng_setEng_same, State.eng_setEng_same]
  refine ⟨mig, ?_, by rw [eq]; rfl⟩
  simp [State.engIssues, mig]

theorem migDrained_iff {s : State} {p : Nat} : s.migDrained p = true ↔ ∀ o ∈ s.ops, o.e = p → o.st = .waiting := by
  simp [State.migDrained, ← imp_iff_not_or]

theorem migrationWaitExpired_runs {p : Fin 34} {s : State} {m : Mig} (mig : (s.eng p.val).mig = some m) (copying : m.copying = false)
    (stopped : m.stopped = false) (freeP : (s.eng p.val).fenced = false) (freeQ : (s.eng m.target).fenced = false)
    (long : m.startTick + max 1 (s.fld F.CE_MIG_WAIT_ticks p.val 0) ≤ s.fld F.TK_NEXT_tick 0 0) :
    (s.fld F.CE_MIG_CTRL_force p.val 0 ≠ 0 → exec (.migrationWaitExpired p) s = .next (s.migForced p.val m)) ∧
    (s.fld F.CE_MIG_CTRL_force p.val 0 = 0 → exec (.migrationWaitExpired p) s = .next
      (((s.setFld F.CE_MIG_STATUS_failed p.val 0 1).setFld F.CE_MIG_STATUS_phase p.val 0 0).setEng p.val
        { s.eng p.val with mig := none })) := by
  have eq : exec (.migrationWaitExpired p) s = .next (s.migExpired p.val) := rfl
  have due : ¬ s.fld F.TK_NEXT_tick 0 0 < m.startTick + max 1 (s.fld F.CE_MIG_WAIT_ticks p.val 0) := by omega
  rw [eq]
  simp only [State.migExpired, mig, copying, stopped, freeP, freeQ, due, State.fldB, decide_false, Bool.or_self, Bool.false_eq_true,
    if_false]
  refine ⟨fun force => ?_, fun force => ?_⟩
  · simp [force]
  · simp [force]

/-! ## The copy (R55, R57): the strands -/

/-- One strand of engine `p` moves to engine `q`. -/
def State.moveStrand (p q : Nat) (s : State) (t : Nat) : State :=
  (s.setStrand q t { s.strand p t with examAt := 0 }).setStrand p t strand0

theorem moveStrand_moved {s : State} {p q t : Nat} (apart : p ≠ q) (ht : t < 16) :
    (s.moveStrand p q t).strand q t = { s.strand p t with examAt := 0 } ∧ (s.moveStrand p q t).strand p t = strand0 := by
  have key : skey q t ≠ skey p t := skey_ne ht ht fun h => apart (congrArg Prod.fst h).symm
  refine ⟨?_, State.strand_setStrand_same _ _ _ _⟩
  rw [State.moveStrand, State.strand_setStrand_ne _ _ _ _ _ _ key, State.strand_setStrand_same]

theorem moveStrand_others {s : State} {p q t e u : Nat} (ht : t < 16) (hu : u < 16) (other : u ≠ t) :
    (s.moveStrand p q t).strand e u = s.strand e u := by
  have key (a : Nat) : skey e u ≠ skey a t := skey_ne ht hu fun h => other (congrArg Prod.snd h)
  rw [State.moveStrand, State.strand_setStrand_ne _ _ _ _ _ _ (key p), State.strand_setStrand_ne _ _ _ _ _ _ (key q)]

/-- Of the strands that move, each stands at its place on the target; the others stand as they did. -/
theorem foldl_moveStrand {p q u : Nat} (apart : p ≠ q) (hu : u < 16) (l : List Nat) (nodup : l.Nodup) (lt : ∀ t ∈ l, t < 16)
    (s : State) :
    (u ∈ l → (l.foldl (State.moveStrand p q) s).strand q u = { s.strand p u with examAt := 0 } ∧
      (l.foldl (State.moveStrand p q) s).strand p u = strand0) ∧
    (u ∉ l → ∀ e, (l.foldl (State.moveStrand p q) s).strand e u = s.strand e u) := by
  induction l generalizing s with
  | nil => exact ⟨fun h => absurd h List.not_mem_nil, fun _ _ => rfl⟩
  | cons a l ih =>
    obtain ⟨notin, nodup⟩ := List.nodup_cons.1 nodup
    obtain ⟨la, lt⟩ := List.forall_mem_cons.1 lt
    obtain ⟨moves, stands⟩ := ih nodup lt (s.moveStrand p q a)
    rw [List.foldl_cons]
    refine ⟨fun h => ?_, fun h e => ?_⟩
    · by_cases here : u = a
      · subst here
        rw [stands notin, stands notin]
        exact moveStrand_moved apart la
      · have rest := moves ((List.mem_cons.1 h).resolve_left here)
        rwa [moveStrand_others la hu here] at rest
    · rw [stands (List.not_mem_of_not_mem_cons h), moveStrand_others la hu (List.ne_of_not_mem_cons h)]

/-- A strand, looking again if it is STALLED. -/
def Strand.woken (x : Strand) : Strand := { x with st := if x.st = .stalled then .ready else x.st }

theorem Strand.woken_woken (x : Strand) : x.woken.woken = x.woken := by
  unfold Strand.woken
  by_cases h : x.st = .stalled <;> simp [h]

theorem wake_eng (s : State) (e t a : Nat) : (s.wake e t).eng a = s.eng a := by
  unfold State.wake
  dsimp only
  split <;> rfl

/-- A strand of an engine with no result to come is woken. -/
theorem wake_strand {s : State} {e t a u : Nat} (ht : t < 16) (hu : u < 16) (none_due : (s.eng e).tills = []) :
    (s.wake e t).strand a u = if a = e ∧ u = t then (s.strand a u).woken else s.strand a u := by
  have find : smapFind (s.eng e).tills t = none := by rw [none_due]; rfl
  by_cases here : a = e ∧ u = t
  · obtain ⟨rfl, rfl⟩ := here
    rw [if_pos ⟨rfl, rfl⟩]
    by_cases stalled : (s.strand a u).st = .stalled
    · rw [State.wake, if_pos ⟨stalled, find⟩, State.strand_setStrand_same, Strand.woken, if_pos stalled]
    · rw [State.wake, if_neg (by tauto), Strand.woken, if_neg stalled]
  · have key : skey a u ≠ skey e t := skey_ne ht hu fun h => here (Prod.mk.inj h)
    rw [if_neg here]
    unfold State.wake
    dsimp only
    split
    · exact State.strand_setStrand_ne _ _ _ _ _ _ key
    · rfl

theorem foldl_wake {e a u : Nat} (hu : u < 16) (l : List Nat) (lt : ∀ t ∈ l, t < 16) (s : State) (none_due : (s.eng e).tills = []) :
    (l.foldl (fun s t => s.wake e t) s).strand a u = if a = e ∧ u ∈ l then (s.strand a u).woken else s.strand a u := by
  induction l generalizing s with
  | nil => simp
  | cons t l ih =>
    obtain ⟨ht, lt⟩ := List.forall_mem_cons.1 lt
    rw [List.foldl_cons, ih lt (s.wake e t) (by rw [wake_eng]; exact none_due), wake_strand ht hu none_due]
    by_cases engine : a = e
    · by_cases here : u = t
      · by_cases again : u ∈ l <;> simp [engine, here, Strand.woken_woken]
      · simp [engine, here]
    · simp [engine]

theorem wakeAll_strand {s : State} {e a u : Nat} (hu : u < 16) (none_due : (s.eng e).tills = []) :
    (s.wakeAll e).strand a u = if a = e then (s.strand a u).woken else s.strand a u := by
  rw [State.wakeAll, foldl_wake hu _ (fun t h => List.mem_range.1 h) s none_due]
  simp [hu]

theorem wakeAll_shape (s : State) (e : Nat) : ∃ x, s.wakeAll e = { s with strands := x } := by
  have fold (l : List Nat) (u : State) (h : ∃ x, u = { s with strands := x }) :
      ∃ x, l.foldl (fun s t => s.wake e t) u = { s with strands := x } := by
    induction l generalizing u with
    | nil => exact h
    | cons t l ih =>
      obtain ⟨x, rfl⟩ := h
      refine ih _ ?_
      unfold State.wake
      dsimp only
      split
      · exact ⟨_, rfl⟩
      · exact ⟨x, rfl⟩
  exact fold (List.range 16) s ⟨s.strands, rfl⟩

theorem grantDma_none {s : State} {e : Nat} (h : ∀ o ∈ s.ops, o.e ≠ e) (n : Nat) : s.grantDma e n = s := by
  have none_waits : s.ops.find? (fun o => o.e == e && decide (o.st = .waiting) &&
      (decide (o.kind = .sdmaIn) || decide (o.kind = .sdmaOut))) = none :=
    List.find?_eq_none.2 fun o ho => by simp [h o ho]
  cases n with
  | zero => rfl
  | succ n => rw [State.grantDma, none_waits]

/-! ## The copy: what else moves -/

theorem copyRanges_shape (s : State) (p q : Nat) : ∃ r h, s.copyRanges p q = { s with regs := r, shadow := h } := by
  have inner (f : Fld) (l : List Nat) (u : State) (h : ∃ r h, u = { s with regs := r, shadow := h }) :
      ∃ r h, l.foldl (fun s n => (s.setFld f q n (s.fld f p n)).setShd f q n (s.shd f p n)) u = { s with regs := r, shadow := h } := by
    induction l generalizing u with
    | nil => exact h
    | cons n l ih =>
      obtain ⟨r, h, rfl⟩ := h
      exact ih _ ⟨_, _, rfl⟩
  have outer (l : List Fld) (u : State) (h : ∃ r h, u = { s with regs := r, shadow := h }) :
      ∃ r h, l.foldl (fun s f => (List.range 64).foldl (fun s n => (s.setFld f q n (s.fld f p n)).setShd f q n (s.shd f p n)) s) u =
        { s with regs := r, shadow := h } := by
    induction l generalizing u with
    | nil => exact h
    | cons f l ih =>
      rw [List.foldl_cons]
      exact ih _ (inner f (List.range 64) u h)
  rw [State.copyRanges]
  exact outer ceRangeFlds s ⟨s.regs, s.shadow, rfl⟩

theorem foldl_moveStrand_ops (p q : Nat) (l : List Nat) (s : State) : (l.foldl (State.moveStrand p q) s).ops = s.ops := by
  induction l generalizing s with
  | nil => rfl
  | cons t l ih => exact ih (s.moveStrand p q t)

theorem renameParty_ops {s : State} {p q : Nat} (h : ∀ o ∈ s.ops, o.e ≠ p) : (s.renameParty p q).ops = s.ops := by
  have same (o : Op) (ho : o ∈ s.ops) : (if o.e = p then { o with e := q } else o) = o := if_neg (h o ho)
  exact (List.map_congr_left same).trans (List.map_id _)

/-- The ranges, the names and the lock owners take nothing from the strands, and from operations of others. -/
theorem named_strands (s : State) (p q : Nat) : (((s.copyRanges p q).renameParty p q).renameOwner p q).strands = s.strands := by
  obtain ⟨d, eq⟩ := renameOwner_shape ((s.copyRanges p q).renameParty p q) p q
  obtain ⟨r, g, ranges⟩ := copyRanges_shape s p q
  rw [eq, ranges]
  rfl

theorem named_ops {s : State} {p q : Nat} (h : ∀ o ∈ s.ops, o.e ≠ p) :
    (((s.copyRanges p q).renameParty p q).renameOwner p q).ops = s.ops := by
  obtain ⟨d, eq⟩ := renameOwner_shape ((s.copyRanges p q).renameParty p q) p q
  obtain ⟨r, g, ranges⟩ := copyRanges_shape s p q
  have ops : (s.copyRanges p q).ops = s.ops := by rw [ranges]
  have parties := renameParty_ops (s := s.copyRanges p q) (p := p) (q := q) (by rw [ops]; exact h)
  rw [eq]
  dsimp only
  rw [parties, ops]

theorem svEvent_shape (s : State) (e : Nat) : ∃ r, s.svEvent e = { s with regs := r } := by
  unfold State.svEvent
  split
  · exact ⟨_, rfl⟩
  · split
    · exact ⟨_, rfl⟩
    · exact ⟨s.regs, rfl⟩

theorem svUnevent_shape (s : State) (e : Nat) : ∃ r, s.svUnevent e = { s with regs := r } := by
  unfold State.svUnevent
  dsimp only
  split
  · exact ⟨_, rfl⟩
  · exact ⟨_, rfl⟩

theorem events_shape (s : State) (c : Prop) [Decidable c] (p q : Nat) :
    ∃ r, (if c then s else s.svEvent q).svUnevent p = { s with regs := r } := by
  split
  · exact svUnevent_shape s p
  · obtain ⟨r, event⟩ := svEvent_shape s q
    obtain ⟨r', unevent⟩ := svUnevent_shape { s with regs := r } p
    exact ⟨r', by rw [event, unevent]⟩

theorem events_strands (s : State) (c : Prop) [Decidable c] (p q : Nat) :
    ((if c then s else s.svEvent q).svUnevent p).strands = s.strands := by
  obtain ⟨r, eq⟩ := events_shape s c p q
  rw [eq]

theorem events_ops (s : State) (c : Prop) [Decidable c] (p q : Nat) :
    ((if c then s else s.svEvent q).svUnevent p).ops = s.ops := by
  obtain ⟨r, eq⟩ := events_shape s c p q
  rw [eq]

/-- The engines' event bits are no field of the engines. -/
theorem fld_events {s : State} {c : Prop} [Decidable c] {p q a : Nat} {f : Fld} (hf : engineFld f = true) (ha : a < 34) :
    ((if c then s else s.svEvent q).svUnevent p).fld f a 0 = s.fld f a 0 := by
  obtain ⟨n, hn, _, key⟩ := fldKey_engineFld hf a
  have lo : fldKey f a 0 ≠ fldKey F.SV_EVENT_LO_engine 0 0 := by
    simp only [fldKey, fldAddr, F.SV_EVENT_LO_engine] at key ⊢
    omega
  have hi : fldKey f a 0 ≠ fldKey F.SV_EVENT_HI_engine 0 0 := by
    simp only [fldKey, fldAddr, F.SV_EVENT_HI_engine] at key ⊢
    omega
  have event (u : State) (e : Nat) : (u.svEvent e).fld f a 0 = u.fld f a 0 := by
    unfold State.svEvent
    split
    · exact State.fld_setFld_ne _ _ _ _ _ _ _ _ lo
    · split
      · exact State.fld_setFld_ne _ _ _ _ _ _ _ _ hi
      · rfl
  have unevent (u : State) (e : Nat) : (u.svUnevent e).fld f a 0 = u.fld f a 0 := by
    unfold State.svUnevent
    dsimp only
    split
    · exact State.fld_setFld_ne _ _ _ _ _ _ _ _ lo
    · exact State.fld_setFld_ne _ _ _ _ _ _ _ _ hi
  rw [unevent]
  split
  · rfl
  · exact event s q

/-- The state of the copy's end, before the target's strands look again. -/
theorem migDone_ends {s : State} {p : Nat} {m : Mig} (apart : p ≠ m.target) (hp : p < 34) (hq : m.target < 34)
    (none_left : ∀ o ∈ s.ops, o.e ≠ p) :
    ∃ w : State, s.migDone p m = (w.wakeAll m.target).grantDma m.target 16 ∧
      w.strands = (strandsOf.foldl (State.moveStrand p m.target) s).strands ∧ w.ops = s.ops ∧ (w.eng m.target).tills = [] ∧
      (w.eng p).mig = none ∧ w.fld F.CE_ID_logical m.target 0 = s.fld F.CE_ID_logical p 0 % 64 ∧ w.fld F.CE_ID_logical p 0 = 0x3F ∧
      w.fld F.CE_STRAND_EN_en m.target 0 = s.fld F.CE_STRAND_EN_en p 0 % 65536 ∧ w.fld F.CE_STRAND_EN_en p 0 = 0 ∧
      w.fld F.CE_CTRL_run m.target 0 = 1 ∧ w.fld F.CE_CTRL_run p 0 = 0 ∧ w.fld F.CE_MIG_STATUS_phase p 0 = 3 := by
  have step : (fun (s : State) t => (s.setStrand m.target t { s.strand p t with examAt := 0 }).setStrand p t strand0) =
      State.moveStrand p m.target := rfl
  have ops := foldl_moveStrand_ops p m.target strandsOf s
  unfold State.migDone
  dsimp only
  rw [step]
  generalize strandsOf.foldl (State.moveStrand p m.target) s = v at ops
  refine ⟨_, rfl, ?_, ?_, ?_, ?_, ?_⟩
  · simp only [State.setFld_strands, State.setEng_strands, events_strands, named_strands]
  · simp only [State.setFld_ops, State.setEng_ops, events_ops]
    rw [named_ops (by dsimp only; rw [ops]; exact none_left), ops]
  · rw [State.eng_setFld, State.eng_setFld, State.eng_setEng_ne _ _ _ _ apart.symm, State.eng_setEng_same]
  · rw [State.eng_setFld, State.eng_setFld, State.eng_setEng_same]
  · simp (disch := simp [apart, apart.symm, engineFld, F.CE_ID_logical, F.CE_STRAND_EN_en, F.CE_CTRL_run, F.CE_MIG_STATUS_phase,
        F.CE_MIG_STATUS_stall, F.CE_TRAP_PEND_pend, hp, hq]) only
      [State.fld_setEng, State.fld_setFld_engine, State.fld_setFld_same, fld_events]
    exact ⟨rfl, rfl, rfl, rfl, rfl, rfl, rfl⟩

/-! ## The watchdog and the hang source (R59, R360) -/

theorem raise_shape (s : State) (v : FaultEv) : ∃ x, s.raise v = { s with faults := x } := by
  unfold State.raise
  split
  · exact ⟨_, rfl⟩
  · exact ⟨_, rfl⟩

theorem hangDetect_told {s : State} {e : Fin 34} {u : Nat} (hu : u < 16) (issues : s.engIssues e.val = true)
    (ready : (s.strand e.val u).st = .ready) (long : (s.eng e.val).lastTok + 100000 ≤ s.tb) :
    s.hangDetect e.val = s.raise { group := 48, src := 1, inst := e.val, master := e.val } := by
  have now : s.stNow e.val u = .ready := by
    unfold State.stNow
    split
    · rfl
    · exact ready
  have any : (strandsOf.any fun t => decide (s.stNow e.val t = .ready)) = true :=
    List.any_eq_true.2 ⟨u, List.mem_range.2 hu, by simp [now]⟩
  simp only [State.hangDetect, issues, any, long, decide_true, Bool.and_self, if_true]

theorem wdogExpire_told {s : State} (enabled : s.fld F.SV_WDOG_enable 0 0 ≠ 0) (out : s.wdogRemain = 0) (once : s.wdogOut = false) :
    s.wdogExpire = ({ s with wdogOut := true }).raise { group := 49, src := 1, inst := 34, master := 34 } := by
  simp [State.wdogExpire, State.fldB, enabled, out, once]

/-- A kick loads the count: at its time nothing of it has run. -/
theorem wdogKick_remain (s : State) : s.wdogKick.wdogRemain = s.wdogKick.wdogLoad := by
  simp [State.wdogRemain, State.wdogKick]

theorem migrationCopyComplete_runs {p : Fin 34} {s : State} {m : Mig} (mig : (s.eng p.val).mig = some m) (copying : m.copying = true)
    (apart : m.target ≠ p.val) (hq : m.target < 34) (freeP : (s.eng p.val).fenced = false) (freeQ : (s.eng m.target).fenced = false)
    (none_left : ∀ o ∈ s.ops, o.e ≠ p.val ∧ o.e ≠ m.target) :
    Runs (.migrationCopyComplete p) s fun t =>
      (∀ u, u < 16 → t.strand m.target u = { s.strand p.val u with
          examAt := 0, st := if (s.strand p.val u).st = .stalled then .ready else (s.strand p.val u).st } ∧
        t.strand p.val u = strand0) ∧
      t.fld F.CE_ID_logical m.target 0 = s.fld F.CE_ID_logical p.val 0 % 64 ∧ t.fld F.CE_ID_logical p.val 0 = 0x3F ∧
      t.fld F.CE_STRAND_EN_en m.target 0 = s.fld F.CE_STRAND_EN_en p.val 0 % 65536 ∧
      t.fld F.CE_STRAND_EN_en p.val 0 = 0 ∧ t.fld F.CE_CTRL_run m.target 0 = 1 ∧ t.fld F.CE_CTRL_run p.val 0 = 0 ∧
      t.fld F.CE_MIG_STATUS_phase p.val 0 = 3 ∧ (t.eng p.val).mig = none := by
  have drained : s.migDrained p.val = true := migDrained_iff.2 fun o ho same => absurd same (none_left o ho).1
  have runs : exec (.migrationCopyComplete p) s = .next (s.migDone p.val m) := by
    have eq : exec (.migrationCopyComplete p) s = .next (s.migComplete p.val) := rfl
    simp only [eq, State.migComplete, mig, copying, drained, freeP, freeQ, Bool.not_false, Bool.and_self, if_true]
  refine ⟨_, runs, ?_⟩
  obtain ⟨w, eq, strands, ops, tills, idle, fields⟩ := migDone_ends apart.symm p.isLt hq fun o ho => (none_left o ho).1
  obtain ⟨x, woken⟩ := wakeAll_shape w m.target
  have waking : (w.wakeAll m.target).ops = s.ops := by rw [woken, ← ops]
  rw [eq, grantDma_none (by rw [waking]; exact fun o ho => (none_left o ho).2)]
  refine ⟨fun u hu => ?_, ?_⟩
  · have listed : u ∈ strandsOf := List.mem_range.2 hu
    obtain ⟨moved, left⟩ := (foldl_moveStrand apart.symm hu strandsOf List.nodup_range (fun t h => List.mem_range.1 h) s).1 listed
    have place (a : Nat) : w.strand a u = (strandsOf.foldl (State.moveStrand p.val m.target) s).strand a u := by
      rw [State.strand, strands, State.strand]
    rw [wakeAll_strand hu tills, wakeAll_strand hu tills, if_pos rfl, if_neg apart.symm, place, place, moved, left]
    exact ⟨rfl, rfl⟩
  · obtain ⟨logical, gone, enables, off, run, stop, phase⟩ := fields
    rw [woken]
    exact ⟨logical, gone, enables, off, run, stop, phase, idle⟩

/-- Settles O20: each command by the branch its hypotheses choose; the copy's end strand by strand. -/
theorem migrationAndWatchdogs : Obligations.MigrationAndWatchdogs := by
  unfold Obligations.MigrationAndWatchdogs
  refine ⟨fun p s => ⟨fun q apart onP onQ idle freeP freeQ => migrationStart_runs apart onP onQ idle freeP freeQ,
    fun m mig copying stopped freeP freeQ => ⟨fun quiet => ?_, fun long => ?_⟩,
    fun m mig copying apart hq freeP freeQ none_left => migrationCopyComplete_runs mig copying apart hq freeP freeQ none_left⟩,
    fun s => ⟨⟨s.wdogKick, rfl, rfl, rfl, wdogKick_remain s, rfl⟩, fun enabled out once => ?_, fun e u hu issues ready long => ?_⟩⟩
  · have runs : exec (.migrationQuiet p) s = .next (s.migCopy p.val m) := by
      have eq : exec (.migrationQuiet p) s = .next (s.migQuiet p.val) := rfl
      simp only [eq, State.migQuiet, mig, copying, stopped, freeP, freeQ, quiet, Bool.or_self, Bool.false_eq_true, if_false, if_true]
    exact ⟨_, runs, migCopy_begins s p.val m⟩
  · obtain ⟨forced, fails⟩ := migrationWaitExpired_runs mig copying stopped freeP freeQ long
    refine ⟨fun force => ⟨_, forced force, fun waits => ?_, fun ⟨o, ho, mine, busy⟩ => ?_⟩, fun force => ⟨_, fails force, ?_⟩⟩
    · exact migForced_begins m (migDrained_iff.2 waits)
    · exact migForced_waits m (Bool.eq_false_iff.2 fun drained => busy (migDrained_iff.1 drained o ho mine))
    · refine ⟨?_, ?_, by rw [State.eng_setEng_same], rfl⟩
      · rw [State.fld_setEng, State.fld_setFld_engine _ _ rfl rfl (Or.inr (by decide)), State.fld_setFld_same]
        rfl
      · rw [State.fld_setEng, State.fld_setFld_same]
        rfl
  · refine ⟨_, rfl, ?_⟩
    rw [wdogExpire_told enabled out once]
    have told := State.raised_raise { s with wdogOut := true } { group := 49, src := 1, inst := 34, master := 34 }
    obtain ⟨x, eq⟩ := raise_shape { s with wdogOut := true } { group := 49, src := 1, inst := 34, master := 34 }
    rw [eq] at told ⊢
    exact ⟨rfl, told, rfl⟩
  · refine ⟨_, rfl, ?_⟩
    rw [hangDetect_told hu issues ready long]
    refine ⟨State.raised_raise _ _, State.raise_frame _ _⟩

end Sys2Proof.Machine
end

section
/-!
PROOFS. Strand enables and the commands to a trapped strand (O19).
-/

namespace Sys2Proof.Machine

set_option Elab.async false

/-! ## A bit of a word -/

/-- The bits above one that is set stay as they are when it is taken away. -/
theorem testBit_sub_two_pow {v u : Nat} (h : v.testBit u = true) (k : Nat) :
    (v - 2 ^ u).testBit k = (v.testBit k && decide (k ≠ u)) := by
  obtain ⟨x, rfl⟩ := Nat.exists_eq_add_of_le (Nat.ge_two_pow_of_testBit h)
  rw [Nat.add_sub_cancel_left]
  rw [Nat.testBit_two_pow_add_eq, Bool.not_eq_true'] at h
  obtain below | rfl | above := Nat.lt_trichotomy k u
  · rw [Nat.testBit_two_pow_add_gt below]
    simp [below.ne]
  · simp [h]
  · have low : x % 2 ^ (u + 1) < 2 ^ u := by
      have clear : x / 2 ^ u % 2 = 0 := by
        simpa [Nat.testBit_eq_decide_div_mod_eq] using h
      rw [Nat.mod_pow_succ, clear]
      simpa using Nat.mod_lt x (Nat.two_pow_pos u)
    have high : (2 ^ u + x) / 2 ^ (u + 1) = x / 2 ^ (u + 1) := by
      have two : 2 ^ (u + 1) = 2 * 2 ^ u := by rw [Nat.pow_succ, Nat.mul_comm]
      have split := Nat.div_add_mod x (2 ^ (u + 1))
      rw [Nat.div_eq_iff (Nat.two_pow_pos _)]
      rw [Nat.mul_comm] at split
      omega
    obtain ⟨j, rfl⟩ := Nat.exists_eq_add_of_lt above
    have shift (y : Nat) : y.testBit (u + j + 1) = (y / 2 ^ (u + 1)).testBit j := by
      rw [← Nat.shiftRight_eq_div_pow, Nat.testBit_shiftRight]
      congr 1
      omega
    have other : u + j + 1 ≠ u := by omega
    simp [shift, high, other]

theorem bitOf_mod_two_pow {w k : Nat} (v : Nat) (h : k < w) : bitOf (v % 2 ^ w) k = bitOf v k := by
  simp [bitOf_eq_testBit, Nat.testBit_mod_two_pow, h]

/-- The enables of 16 strands in a word. -/
theorem bitOf_enables {k : Nat} (v : Nat) (h : k < 16) : bitOf (v % 65536) k = bitOf v k := bitOf_mod_two_pow (w := 16) v h

/-! ## The enables (R49) -/

theorem fldKey_EN_ne_SPC (e u : Nat) : fldKey F.CE_SPC_index e u ≠ fldKey F.CE_STRAND_EN_en e 0 ∧
    fldKey F.CE_SPC_title e u ≠ fldKey F.CE_STRAND_EN_en e 0 := by
  simp only [fldKey, fldAddr, F.CE_SPC_index, F.CE_SPC_title, F.CE_STRAND_EN_en]
  omega

/-- A fold that leaves the state at every number but one does there what it does. -/
theorem foldl_only {f : State → Nat → State} {u : Nat} (l : List Nat) (nodup : l.Nodup)
    (others : ∀ t ∈ l, t ≠ u → ∀ s, f s t = s) (s : State) : l.foldl f s = if u ∈ l then f s u else s := by
  induction l generalizing s with
  | nil => rfl
  | cons a l ih =>
    obtain ⟨notin, nodup⟩ := List.nodup_cons.1 nodup
    obtain ⟨first, rest⟩ := List.forall_mem_cons.1 others
    rw [List.foldl_cons, ih nodup rest]
    by_cases here : a = u
    · subst here
      rw [if_neg notin, if_pos List.mem_cons_self]
    · simp [first here, Ne.symm here]

/-- A write of the enables that changes one of them acts on that strand alone. -/
theorem strandEn_one {s : State} {e v u : Nat} (on : s.engOn e = true) (hu : u < 16)
    (others : ∀ k, k < 16 → k ≠ u → bitOf v k = bitOf (s.fld F.CE_STRAND_EN_en e 0) k) :
    s.strandEn e v =
      if bitOf (s.fld F.CE_STRAND_EN_en e 0) u && !bitOf v u then (s.setFld F.CE_STRAND_EN_en e 0 v).disableStrand e u
      else if !bitOf (s.fld F.CE_STRAND_EN_en e 0) u && bitOf v u then (s.setFld F.CE_STRAND_EN_en e 0 v).enableStrand e u
      else s.setFld F.CE_STRAND_EN_en e 0 v := by
  simp only [State.strandEn, on, Bool.not_true, Bool.false_eq_true, if_false]
  rw [foldl_only (u := u) _ List.nodup_range fun t ht other x => ?_, if_pos (List.mem_range.2 hu)]
  rw [others t (List.mem_range.1 ht) other]
  simp

theorem enableStrand_starts {s : State} {e u : Nat} (idle : s.opsOf e u = []) : s.enableStrand e u = s.startStrand e u := by
  rw [State.enableStrand, idle]
  rfl

/-! ## A strand is disabled (R49) -/

/-- A strand out of its window, with no report, that is not to start again. -/
def Strand.off (x : Strand) : Prop := x.st = .disabled ∧ x.report = none ∧ x.inWin = false ∧ x.start = false

/-- What a strand holds says nothing of that. -/
theorem Strand.off_holds {x : Strand} {l q : List Nat} {n : Nat} (h : x.off) : ({ x with locks := l, slots := q, dma := n } : Strand).off :=
  h

theorem Strand.off_slots {x : Strand} {q : List Nat} (h : x.off) : ({ x with slots := q } : Strand).off := h

/-- From `s` to `t` the strand has stayed off, and no register has changed. -/
def StaysOff (e u : Nat) (s t : State) : Prop := (t.strand e u).off ∧ t.regs = s.regs

namespace StaysOff

variable {e u : Nat} {s t : State}

theorem of_strands {v : State} (h : StaysOff e u s t) (strands : v.strands = t.strands) (regs : v.regs = t.regs) : StaysOff e u s v := by
  obtain ⟨off, same⟩ := h
  refine ⟨?_, regs.trans same⟩
  rwa [State.strand, strands]

theorem foldl {f : State → Nat → State} (step : ∀ t i, StaysOff e u s t → StaysOff e u s (f t i)) (l : List Nat)
    (h : StaysOff e u s t) : StaysOff e u s (l.foldl f t) := by
  induction l generalizing t with
  | nil => exact h
  | cons i l ih => exact ih (step t i h)

theorem setStrand {x : Strand} (h : StaysOff e u s t) (off : (t.strand e u).off → x.off) : StaysOff e u s (t.setStrand e u x) := by
  obtain ⟨here, same⟩ := h
  refine ⟨?_, same⟩
  rw [State.strand_setStrand_same]
  exact off here

theorem releaseSlot (h : StaysOff e u s t) {i : Nat} : StaysOff e u s (t.releaseSlot i e u) :=
  setStrand (h.of_strands (v := t.setCtx i _) rfl rfl) Strand.off_slots

theorem loseSlot (h : StaysOff e u s t) {i : Nat} : StaysOff e u s (t.loseSlot e u i) := by
  unfold State.loseSlot
  split
  · exact releaseSlot (h.of_strands (v := t.dropMsg _) rfl rfl)
  · exact h.releaseSlot

theorem reclaim (h : StaysOff e u s t) : StaysOff e u s (t.reclaim e u) := by
  unfold State.reclaim
  have torn : StaysOff e u s ((t.strand e u).locks.foldl (fun s i => s.tearLock i) t) :=
    foldl (fun v i hv => hv.of_strands (v := v.tearLock i) (State.setEntry_strands _ _ _) (State.setEntry_regs _ _ _)) _ h
  have lost : StaysOff e u s
      ((t.strand e u).slots.foldl (fun s i => s.loseSlot e u i) ((t.strand e u).locks.foldl (fun s i => s.tearLock i) t)) :=
    foldl (fun _ _ hv => hv.loseSlot) _ torn
  exact setStrand (lost.of_strands (v := State.setEng _ _ _) rfl rfl) Strand.off_holds

theorem noteDone (h : StaysOff e u s t) {k : Nat} : StaysOff e u s (t.noteDone k) := by
  unfold State.noteDone
  split
  · exact h.of_strands rfl rfl
  · exact h

theorem drainedOff (h : StaysOff e u s t) : StaysOff e u s (t.drainedOff e u) := by
  have ⟨⟨_, _, _, start⟩, _⟩ := h
  unfold State.drainedOff
  simp only [start, Bool.false_eq_true, if_false]
  split
  · exact h.reclaim.noteDone
  · exact h

end StaysOff

/-! ## The bits of CE_TRAP_PEND -/

theorem strand_trapUnpend (s : State) (e u a b : Nat) : (s.trapUnpend e u).strand a b = s.strand a b := by
  unfold State.trapUnpend
  split <;> rfl

theorem fld_trapUnpend (s : State) {e u a : Nat} {f : Fld} (hf : engineFld f = true)
    (other : f.base * 16 + f.lo ≠ F.CE_TRAP_PEND_pend.base * 16 + F.CE_TRAP_PEND_pend.lo) :
    (s.trapUnpend e u).fld f a 0 = s.fld f a 0 := by
  unfold State.trapUnpend
  split
  · exact State.fld_setFld_engine _ _ hf rfl (Or.inr other)
  · rfl

theorem pend_trapUnpend (s : State) {e u : Nat} (he : e < 34) (hu : u < 16) :
    bitOf ((s.trapUnpend e u).fld F.CE_TRAP_PEND_pend e 0) u = false := by
  have clear : (2 ^ 16 - 1 - 2 ^ u).testBit u = false := by
    rw [testBit_sub_two_pow]
    · simp
    · exact (Nat.testBit_two_pow_sub_one 16 u).trans (decide_eq_true hu)
  rw [State.trapUnpend, if_pos he, State.fld_setFld_same, Nat.mod_eq_of_lt hu, bitOf_eq_testBit]
  have wide : F.CE_TRAP_PEND_pend.w = 16 := rfl
  rw [wide, Nat.testBit_mod_two_pow, Nat.testBit_and, clear]
  simp

/-! ## The commands -/

/-- A strand that is off, its bit in CE_TRAP_PEND cleared, stays so when it gives up what it holds. -/
theorem drainedOff_put {s : State} {e u : Nat} {x : Strand} (off : x.off) :
    (((((s.setStrand e u x).trapUnpend e u).endToken e).drainedOff e u).strand e u).off ∧
      ((((s.setStrand e u x).trapUnpend e u).endToken e).drainedOff e u).fld F.CE_STRAND_EN_en e 0 =
        s.fld F.CE_STRAND_EN_en e 0 := by
  have here : (((s.setStrand e u x).trapUnpend e u).endToken e).strand e u = x := by
    rw [State.endToken, State.strand_setEng, strand_trapUnpend, State.strand_setStrand_same]
  have enables : (((s.setStrand e u x).trapUnpend e u).endToken e).fld F.CE_STRAND_EN_en e 0 = s.fld F.CE_STRAND_EN_en e 0 := by
    rw [State.endToken, State.fld_setEng, fld_trapUnpend _ rfl (by decide), State.fld_setStrand]
  generalize ((s.setStrand e u x).trapUnpend e u).endToken e = v at here enables ⊢
  have start : StaysOff e u v v := ⟨by rw [here]; exact off, rfl⟩
  obtain ⟨stays, regs⟩ := start.drainedOff
  refine ⟨stays, ?_⟩
  rw [← enables, State.fld, regs, State.fld]

/-- A strand that does not wait is disabled with no report, out of its window, and no enable has changed. -/
theorem disableStrand_off {s : State} {e u : Nat} (idle : (s.strand e u).wait = none) :
    ((s.disableStrand e u).strand e u).off ∧
      (s.disableStrand e u).fld F.CE_STRAND_EN_en e 0 = s.fld F.CE_STRAND_EN_en e 0 := by
  rw [State.disableStrand, State.withdrawWait_none idle]
  exact drainedOff_put ⟨rfl, rfl, rfl, rfl⟩

theorem leaveTrap_eq {s : State} {e u : Nat} (f : Strand → Strand) (on : s.engOn e = true) (trapped : (s.strand e u).st = .trapped) :
    s.leaveTrap e u f = (s.setStrand e u { f (s.strand e u) with st := .ready, wait := none }).trapUnpend e u := by
  simp [State.leaveTrap, State.isTrapped, on, trapped]

/-- A strand leaves TRAPPED, its bit in CE_TRAP_PEND cleared. -/
theorem leaveTrap_leaves {s : State} {e : Fin 34} {u : Fin 16} (f : Strand → Strand) (on : s.engOn e.val = true)
    (trapped : (s.strand e.val u.val).st = .trapped) :
    (s.leaveTrap e.val u.val f).strand e.val u.val = { f (s.strand e.val u.val) with st := .ready, wait := none } ∧
      bitOf ((s.leaveTrap e.val u.val f).fld F.CE_TRAP_PEND_pend e.val 0) u.val = false := by
  rw [leaveTrap_eq f on trapped]
  refine ⟨by rw [strand_trapUnpend, State.strand_setStrand_same], ?_⟩
  exact pend_trapUnpend _ e.isLt u.isLt

/-- Stopping a strand takes its enable away (R48, R49). -/
theorem strandStop_eq {s : State} {e u : Nat} (on : s.engOn e = true) (hu : u < 16)
    (enabled : bitOf (s.fld F.CE_STRAND_EN_en e 0) u = true) :
    s.strandStop e u =
      (s.setFld F.CE_STRAND_EN_en e 0 (s.fld F.CE_STRAND_EN_en e 0 - 2 ^ u)).disableStrand e u := by
  have bit (k : Nat) : bitOf (s.fld F.CE_STRAND_EN_en e 0 - 2 ^ u) k = (bitOf (s.fld F.CE_STRAND_EN_en e 0) k && decide (k ≠ u)) := by
    simp only [bitOf_eq_testBit] at enabled ⊢
    exact testBit_sub_two_pow enabled k
  rw [State.strandStop, enabled, if_pos rfl, strandEn_one on hu fun k _ other => by rw [bit]; simp [other]]
  simp [bit, enabled]

end Sys2Proof.Machine
end

section
/-!
PROOFS. The wait breaker (R52, R53), and what a strand without locks and slots keeps (O19).
-/

namespace Sys2Proof.Machine

set_option Elab.async false

/-! ## A strand without locks and slots -/

/-- A strand that holds no lock and no slot where `y` holds none. -/
structure Strand.TakesNone (y x : Strand) : Prop where
  locks : y.locks = [] → x.locks = []
  slots : y.slots = [] → x.slots = []

/-- The strand at a key holds no lock and no slot. Nothing but the grant of one, to a strand that waits for it, ends that. -/
def Bare (k : Nat) (s : State) : Prop := (smapGet strand0 s.strands k).locks = [] ∧ (smapGet strand0 s.strands k).slots = []

namespace Bare

variable {k : Nat} {s t : State}

theorem of_strands (h : Bare k s) (same : t.strands = s.strands) : Bare k t := by rwa [Bare, same]

/-- Whatever leaves the strands alone leaves it bare. -/
theorem of_keeps (h : Bare k s) (kept : Keeps true s t) : Bare k t := by
  obtain ⟨_, _, still⟩ := kept
  exact h.of_strands (still rfl).1

theorem ite {c : Prop} [Decidable c] (h₁ : Bare k s) (h₂ : Bare k t) : Bare k (if c then s else t) := by
  split
  · exact h₁
  · exact h₂

theorem foldl {α : Type} {f : State → α → State} (step : ∀ u a, Bare k u → Bare k (f u a)) (l : List α) (h : Bare k s) :
    Bare k (l.foldl f s) := by
  induction l generalizing s with
  | nil => exact h
  | cons a l ih => exact ih (step s a h)

/-- A strand that takes no lock and no slot. -/
theorem setStrand (h : Bare k s) {e u : Nat} {x : Strand} (takes : (s.strand e u).TakesNone x := by exact ⟨id, id⟩) :
    Bare k (s.setStrand e u x) := by
  by_cases key : k = skey e u
  · subst key
    obtain ⟨noLocks, noSlots⟩ := h
    rw [Bare, State.setStrand, smapGet_put_same]
    exact ⟨takes.locks noLocks, takes.slots noSlots⟩
  · rw [Bare, State.setStrand, smapGet_put_ne _ _ _ _ key]
    exact h

theorem setEng (h : Bare k s) {e : Nat} {x : Eng} : Bare k (s.setEng e x) := h

theorem setOp (h : Bare k s) {o : Op} : Bare k (s.setOp o) := h

theorem endToken (h : Bare k s) {e : Nat} : Bare k (s.endToken e) := h

theorem occ (h : Bare k s) {o : Occ} : Bare k (s.occ o) := h.of_keeps (Keeps.refl true s).occ

theorem releaseSlot (h : Bare k s) {i e u : Nat} : Bare k (s.releaseSlot i e u) := by
  refine setStrand (s := s.setCtx i _) (h.of_strands (State.setCtx_strands _ _ _)) ⟨id, fun none_held => ?_⟩
  rw [none_held]
  rfl

theorem loseSlot (h : Bare k s) {e u i : Nat} : Bare k (s.loseSlot e u i) := by
  unfold State.loseSlot
  split
  · exact releaseSlot h
  · exact h.releaseSlot

theorem reclaim (h : Bare k s) {e u : Nat} : Bare k (s.reclaim e u) := by
  unfold State.reclaim
  have torn : Bare k ((s.strand e u).locks.foldl (fun s i => s.tearLock i) s) :=
    foldl (fun _ _ hv => hv.of_strands (State.setEntry_strands _ _ _)) _ h
  exact setStrand (setEng (foldl (fun _ _ hv => hv.loseSlot) _ torn)) ⟨fun _ => rfl, fun _ => rfl⟩

theorem startStrand (h : Bare k s) {e u : Nat} : Bare k (s.startStrand e u) := h.setStrand

theorem drainedOff (h : Bare k s) {e u : Nat} : Bare k (s.drainedOff e u) := by
  have done : Bare k ((s.reclaim e u).noteDone (skey e u)) := ite h.reclaim h.reclaim
  exact ite (ite done.startStrand done) h

theorem wakeAll (h : Bare k s) {e : Nat} : Bare k (s.wakeAll e) := foldl (fun _ _ hv => ite (hv.setStrand) hv) _ h

theorem report (h : Bare k s) {e u : Nat} {r : Report} : Bare k (s.report e u r) := by
  refine ite (h.setStrand) ?_
  split
  · exact h.setStrand
  · exact h.setStrand

/-! ### Operations -/

theorem endOp (h : Bare k s) {o : Op} : Bare k (s.endOp o) := by
  have left : Bare k (((s.meshOcc true o).dropOp o.id).countAcked o) := h.of_keeps (Keeps.refl true s).meshOcc.dropOp.countAcked
  exact drainedOff (wakeAll (left.setStrand))

theorem failOp (h : Bare k s) {o : Op} {tr : Trap} : Bare k (s.failOp o tr) :=
  ite h.endOp (h.endOp.report.of_keeps (Keeps.refl true _).finishSample)

theorem refuseOp (h : Bare k s) {o : Op} {wa : Nat} : Bare k (s.refuseOp o wa) := by
  have failed : Bare k ((s.fillCut o).failOp o (absentTrap wa)) := (h.of_keeps (Keeps.refl true s).fillCut).failOp
  exact ite (failed.setEng.setStrand) failed

theorem sendReq (h : Bare k s) {r : Req} {d : Nat} : Bare k (s.sendReq r d) := h

theorem sendRead (h : Bare k s) {id e u m wa n d : Nat} {q : ReqKind} {c : Nat} : Bare k (s.sendRead id e u m wa n d q c) := by
  unfold State.sendRead
  split
  · exact h
  · split
    · exact h.refuseOp
    · split
      · exact h.refuseOp
      · exact h.sendReq

theorem sendWrite (h : Bare k s) {id e u m wa : Nat} {x : SMap Byte} {d c : Nat} : Bare k (s.sendWrite id e u m wa x d c) := by
  unfold State.sendWrite
  split
  · exact h
  · split
    · exact h.refuseOp
    · split
      · exact h.refuseOp
      · exact foldl (fun _ _ hv => hv.sendReq) _ h.setOp

theorem granuleOcc (h : Bare k s) {o : Op} {wa c : Nat} : Bare k (s.granuleOcc o wa c) := h.of_keeps (Keeps.refl true s).granuleOcc

theorem sendGranule (h : Bare k s) {id : Nat} : Bare k (s.sendGranule id) := by
  unfold State.sendGranule
  split
  · exact h
  · dsimp only
    split
    · exact h.setOp.granuleOcc.sendRead
    · exact h.setOp.granuleOcc.sendWrite
    · exact h.setOp.granuleOcc.sendWrite
    · exact h

/-! ### Scratch DMA -/

theorem spanFree (h : Bare k s) {e a n : Nat} : Bare k (s.spanFree e a n) := by
  refine h.of_strands ?_
  unfold State.spanFree State.wrScratch
  split <;> rfl

theorem dmaBegin (h : Bare k s) {id : Nat} : Bare k (s.dmaBegin id) := by
  unfold State.dmaBegin
  split
  · exact h
  · exact sendGranule (ite h.setOp.spanFree h.setOp)

theorem grantCredits (h : Bare k s) {n : Nat} : Bare k (s.grantCredits n) := by
  induction n generalizing s with
  | zero => exact h
  | succ n ih =>
    unfold State.grantCredits
    split
    · exact h
    · exact ih (dmaBegin (setOp (ite (h.setStrand) h)))

theorem takeDma (h : Bare k s) {e u n : Nat} : Bare k (s.takeDma e u n) := h.setEng.setStrand

theorem enterWait (h : Bare k s) {e u : Nat} {w : Wait} : Bare k (s.enterWait e u w) := occ (endToken (h.setStrand))

theorem dmaStart (h : Bare k s) {id : Nat} : Bare k (s.dmaStart id) := by
  unfold State.dmaStart
  split
  · exact h
  · split
    · exact h.dmaBegin
    · exact ite h.setOp.grantCredits.enterWait h.setOp.grantCredits

theorem grantDma (h : Bare k s) {e n : Nat} : Bare k (s.grantDma e n) := by
  induction n generalizing s with
  | zero => exact h
  | succ n ih =>
    unfold State.grantDma
    split
    · exact h
    · exact ite (ih (dmaStart (takeDma (ite (h.setStrand) h)))) h

theorem releaseDma (h : Bare k s) {e u : Nat} : Bare k (s.releaseDma e u) :=
  grantCredits (grantDma (h.setEng.setStrand))

end Bare

/-! ## The wait breaker -/

theorem breakRelease_bare (s : State) (e u : Nat) : Bare (skey e u) (s.breakRelease e u) := by
  unfold State.breakRelease
  refine Bare.releaseDma ?_
  rw [Bare, State.setStrand, smapGet_put_same]
  exact ⟨rfl, rfl⟩

theorem breakTrap_cause (s : State) (w : Wait) : (s.breakTrap w).cause = .brk := by cases w <;> rfl

/-- A holder that is broken has no lock and no slot left, and traps BREAK at the instruction that waits. -/
theorem breakHolder_traps (s : State) (w : Wait) (h : Nat) :
    let x := s.strand (h / 16) (h % 16)
    let y := (s.breakHolder w h).strand (h / 16) (h % 16)
    y.st = .trapped ∧ y.locks = [] ∧ y.slots = [] ∧
      y.ts = trapRegs (s.breakTrap w) x.pc.toNat x.pc.toNat x.report.isSome := by
  intro x y
  have bare := breakRelease_bare ((s.finishSample x.waitOp Cause.brk.code).withdrawWait (h / 16) (h % 16)) (h / 16) (h % 16)
  generalize hb : ((s.finishSample x.waitOp Cause.brk.code).withdrawWait (h / 16) (h % 16)).breakRelease (h / 16) (h % 16) = b at bare
  have eq : s.breakHolder w h =
      ((b.setStrand (h / 16) (h % 16) { b.strand (h / 16) (h % 16) with wait := none }).endToken (h / 16)).takeTrap (h / 16) (h % 16)
        (s.breakTrap w) x.pc.toNat x.pc.toNat x.report.isSome := by
    rw [← hb]
    rfl
  have here : ((b.setStrand (h / 16) (h % 16) { b.strand (h / 16) (h % 16) with wait := none }).endToken (h / 16)).strand (h / 16)
      (h % 16) = { b.strand (h / 16) (h % 16) with wait := none } := State.strand_setStrand_same _ _ _ _
  obtain ⟨locks, slots⟩ := bare
  have precise : (s.breakTrap w).cause.titleHandled = false := by rw [breakTrap_cause]; rfl
  obtain ⟨stops, _⟩ := stops_takeTrap x.pc.toNat x.pc.toNat x.report.isSome
    (Strand.takesTitle_refused (State.strand _ (h / 16) (h % 16)) precise)
  rw [← eq, here] at stops
  change y = _ at stops
  rw [stops]
  exact ⟨rfl, locks, slots, rfl⟩

/-- The same trap is named whatever strands are looked at. -/
theorem breakTrap_setStrand (s : State) (e u : Nat) (x : Strand) (w : Wait) : (s.setStrand e u x).breakTrap w = s.breakTrap w := by
  cases w <;> rfl

/-- A strand's instruction and its report stand when its wait has been looked at. -/
theorem looked_at (s : State) (e u n a b : Nat) :
    ((s.setStrand e u { s.strand e u with examAt := n }).strand a b).pc = (s.strand a b).pc ∧
      ((s.setStrand e u { s.strand e u with examAt := n }).strand a b).report = (s.strand a b).report := by
  by_cases key : skey a b = skey e u
  · have same : s.strand a b = s.strand e u := by rw [State.strand, key, State.strand]
    have here : (s.setStrand e u { s.strand e u with examAt := n }).strand a b = { s.strand e u with examAt := n } := by
      rw [State.strand, key]
      exact State.strand_setStrand_same _ _ _ _
    rw [here, same]
    exact ⟨rfl, rfl⟩
  · rw [State.strand_setStrand_ne _ _ _ _ _ _ key]
    exact ⟨rfl, rfl⟩

/-- A wait that is due is examined. -/
theorem waitBreaker_runs {e : Fin 35} {u : Fin 16} {s : State} {w : Wait} (waits : (s.strand e.val u.val).wait = some w)
    (due : s.breakDue e.val u.val = true) : exec (.waitBreakerCheck e u) s = .next (s.examine e.val u.val w) := by
  have eq : exec (.waitBreakerCheck e u) s = .next (s.waitBreaker e.val u.val) := rfl
  simp only [eq, State.waitBreaker, waits, due, if_true]

/-- A wait that is due is one for a lock, a queue slot, buffers or a credit. -/
theorem breakDue_tracked {e u : Nat} {s : State} {w : Wait} (waits : (s.strand e u).wait = some w) (due : s.breakDue e u = true) :
    (∃ op n, w = .lock op n) ∨ (∃ op n, w = .slot op n) ∨ (∃ op, w = .dma op) ∨ ∃ op, w = .credit op := by
  simp only [State.breakDue, waits, Bool.and_eq_true] at due
  obtain ⟨⟨⟨⟨_, tracked⟩, _⟩, _⟩, _⟩ := due
  cases w with
  | lock op n => exact Or.inl ⟨op, n, rfl⟩
  | slot op n => exact Or.inr (Or.inl ⟨op, n, rfl⟩)
  | dma op => exact Or.inr (Or.inr (Or.inl ⟨op, rfl⟩))
  | credit op => exact Or.inr (Or.inr (Or.inr ⟨op, rfl⟩))
  | tick n m => exact absurd tracked Bool.false_ne_true
  | event n m => exact absurd tracked Bool.false_ne_true

/-- The holder of a lock or a slot that itself waits, with nothing else under way, is broken. -/
theorem examine_breaks {e u : Nat} {s : State} {w : Wait} {h : Nat} (kind : (∃ op n, w = .lock op n) ∨ ∃ op n, w = .slot op n)
    (holder : s.holderOf e w = some h) (waits : (s.strand (h / 16) (h % 16)).inWait = true) (still : s.inTransit (h / 16) = false)
    (alone : ∀ o ∈ s.ops, o.e = h / 16 → (o.t = h % 16 ∧ o.id = (s.strand (h / 16) (h % 16)).waitOp)) :
    s.examine e u w = ((((s.setStrand e u { s.strand e u with examAt := s.tb }).breakHolder w h).addFld
      F.CE_BREAK_COUNT_trapped e 0 1).occ { ev := 0x0A, inst := e }) := by
  have drained : ((s.opsOf (h / 16) (h % 16)).all fun o => o.id == (s.strand (h / 16) (h % 16)).waitOp) = true := by
    refine List.all_eq_true.2 fun o ho => ?_
    obtain ⟨mem, place⟩ := List.mem_filter.1 ho
    simp only [Bool.and_eq_true, beq_iff_eq] at place
    exact beq_iff_eq.2 (alone o mem place.1).2
  have examined : ¬ ((!(s.strand (h / 16) (h % 16)).inWait) = true ∨ s.inTransit (h / 16) = true) := by simp [waits, still]
  obtain ⟨op, n, rfl⟩ | ⟨op, n, rfl⟩ := kind
  · rw [State.examine, holder]
    simp only [examined, drained, if_true, if_false]
  · rw [State.examine, holder]
    simp only [examined, drained, if_true, if_false]

theorem strand_counted (s : State) (f : Fld) (e n a b : Nat) (o : Occ) : ((s.addFld f e 0 n).occ o).strand a b = s.strand a b :=
  ((Records.refl (s.addFld f e 0 n)).occ).strand a b

/-- A strand that is enabled with no operation under way starts (R28, R49). -/
theorem ceStrandEnWrite_enables {e : Fin 34} {u : Fin 16} {v : Word32} {s : State} (on : s.engOn e.val = true)
    (others : ∀ k : Nat, k < 16 → k ≠ u.val → bitOf v.toNat k = bitOf (s.fld F.CE_STRAND_EN_en e.val 0) k)
    (set : bitOf v.toNat u.val = true) (clear : bitOf (s.fld F.CE_STRAND_EN_en e.val 0) u.val = false)
    (idle : s.opsOf e.val u.val = []) :
    exec (.ceStrandEnWrite e v) s = .next ((s.setFld F.CE_STRAND_EN_en e.val 0 (v.toNat % 65536)).startStrand e.val u.val) := by
  have eq : exec (.ceStrandEnWrite e v) s = .next (s.strandEn e.val (v.toNat % 65536)) := rfl
  rw [eq, strandEn_one on u.isLt fun k hk other => (bitOf_enables _ hk).trans (others k hk other), bitOf_enables _ u.isLt, clear, set]
  exact congrArg _ (enableStrand_starts idle)

theorem ceStrandEnWrite_disables {e : Fin 34} {u : Fin 16} {v : Word32} {s : State} (on : s.engOn e.val = true)
    (others : ∀ k : Nat, k < 16 → k ≠ u.val → bitOf v.toNat k = bitOf (s.fld F.CE_STRAND_EN_en e.val 0) k)
    (clear : bitOf v.toNat u.val = false) (set : bitOf (s.fld F.CE_STRAND_EN_en e.val 0) u.val = true) :
    exec (.ceStrandEnWrite e v) s = .next ((s.setFld F.CE_STRAND_EN_en e.val 0 (v.toNat % 65536)).disableStrand e.val u.val) := by
  have eq : exec (.ceStrandEnWrite e v) s = .next (s.strandEn e.val (v.toNat % 65536)) := rfl
  rw [eq, strandEn_one on u.isLt fun k hk other => (bitOf_enables _ hk).trans (others k hk other), bitOf_enables _ u.isLt, clear, set]
  rfl

theorem fld_setEN (s : State) (e n : Nat) : (s.setFld F.CE_STRAND_EN_en e 0 n).fld F.CE_STRAND_EN_en e 0 = n % 65536 :=
  State.fld_setFld_same _ _ _ _ _

/-- Settles O19: each command by its branch; the wait breaker by what the holder keeps when it is released. -/
theorem strandControl : Obligations.StrandControl := by
  unfold Obligations.StrandControl
  refine ⟨fun e u s on => ⟨fun v others => ⟨fun set clear idle => ?_, fun clear set idle => ?_⟩, fun enabled idle => ?_,
    fun trapped => ⟨?_, ?_, fun title vector => ?_⟩⟩,
    fun e u s w waits due => ⟨fun free => ?_, fun h holder kind inWait still alone => ?_⟩⟩
  · refine ⟨_, ceStrandEnWrite_enables on others set clear idle, ?_⟩
    obtain ⟨index, title⟩ := fldKey_EN_ne_SPC e.val u.val
    rw [State.startStrand, State.strand_setStrand_same, State.fldB, State.fld_setFld_ne _ _ _ _ _ _ _ _ index,
      State.fld_setFld_ne _ _ _ _ _ _ _ _ title, State.fld_setStrand, fld_setEN, Nat.mod_mod]
    exact ⟨rfl, rfl, rfl, rfl⟩
  · obtain ⟨⟨st, report, inWin, _⟩, enables⟩ := disableStrand_off (s := s.setFld F.CE_STRAND_EN_en e.val 0 (v.toNat % 65536)) idle
    rw [fld_setEN, Nat.mod_mod] at enables
    exact ⟨_, ceStrandEnWrite_disables on others clear set, st, report, inWin, enables⟩
  · obtain ⟨⟨st, _⟩, enables⟩ := disableStrand_off (u := u.val)
      (s := s.setFld F.CE_STRAND_EN_en e.val 0 (s.fld F.CE_STRAND_EN_en e.val 0 - 2 ^ u.val)) idle
    have runs : exec (.strandStop e u) s = .next (s.strandStop e.val u.val) := rfl
    rw [strandStop_eq on u.isLt enabled] at runs
    refine ⟨_, runs, st, ?_⟩
    rw [bitOf_eq_testBit] at enabled
    rw [enables, fld_setEN, bitOf_enables _ u.isLt, bitOf_eq_testBit, testBit_sub_two_pow enabled]
    simp
  · exact ⟨_, rfl, leaveTrap_leaves id on trapped⟩
  · exact ⟨_, rfl, leaveTrap_leaves _ on trapped⟩
  · have forwards : ((s.strand e.val u.val).title && (s.strand e.val u.val).tvec != 0) = true := by
      rw [title, bne_iff_ne.2 vector]
      rfl
    exact ⟨_, (congrArg Host.Outcome.next (if_pos forwards) :), leaveTrap_leaves _ on trapped⟩
  · have eq : s.examine e.val u.val w =
        (s.setStrand e.val u.val { s.strand e.val u.val with examAt := s.tb }).addFld F.CE_BREAK_COUNT_skipped e.val 0 1 := by
      simp only [State.examine, free]
    have runs := waitBreaker_runs waits due
    rw [eq] at runs
    refine ⟨_, runs, ?_, State.strand_setStrand_same _ _ _ _⟩
    rw [State.addFld, State.fld_setFld_same, State.fld_setStrand]
    exact Nat.mod_eq_of_lt (Nat.lt_of_le_of_lt (Nat.min_le_right _ _) (by decide))
  · have held : (∃ op n, w = .lock op n) ∨ ∃ op n, w = .slot op n := by
      obtain lock | slot | ⟨op, rfl⟩ | ⟨op, rfl⟩ := breakDue_tracked waits due
      · exact Or.inl lock
      · exact Or.inr slot
      · exact absurd rfl (kind op).1
      · exact absurd rfl (kind op).2
    have runs := waitBreaker_runs waits due
    rw [examine_breaks held holder inWait still alone] at runs
    obtain ⟨st, locks, slots, ts⟩ := breakHolder_traps (s.setStrand e.val u.val { s.strand e.val u.val with examAt := s.tb }) w h
    obtain ⟨pc, report⟩ := looked_at s e.val u.val s.tb (h / 16) (h % 16)
    rw [pc, report, breakTrap_setStrand] at ts
    refine ⟨_, runs, ?_⟩
    dsimp only
    rw [strand_counted]
    exact ⟨st, locks, slots, ts⟩

end Sys2Proof.Machine
end

section
/-!
PROOFS. Decode and encode agree (O55, O54): the fields of a word are those it was made of, so its opcode and function code lead
back to the instruction.
-/

namespace Sys2Proof

set_option Elab.async false

open BitVec (extractLsb'_append_eq_of_le extractLsb'_append_eq_of_add_le)

/-! ## The fields of a word (R63) -/

@[simp] theorem wordA_word (f : FmtA) (op : BitVec 7) (fn : BitVec 6) : wordA (f.word op fn) = f := by
  simp (disch := decide) only [wordA, FmtA.word, extractLsb'_append_eq_of_le, extractLsb'_append_eq_of_add_le, BitVec.getLsbD_append]
  simp

@[simp] theorem wordI_word (f : FmtI) (op : BitVec 7) : wordI (f.word op) = f := by
  simp (disch := decide) only [wordI, FmtI.word, extractLsb'_append_eq_of_le, extractLsb'_append_eq_of_add_le]
  simp

@[simp] theorem wordL_word (f : FmtL) (op : BitVec 7) : wordL (f.word op) = f := by
  simp (disch := decide) only [wordL, FmtL.word, extractLsb'_append_eq_of_le, extractLsb'_append_eq_of_add_le]
  simp

@[simp] theorem wordB_word (f : FmtB) (op : BitVec 7) : wordB (f.word op) = f := by
  simp (disch := decide) only [wordB, FmtB.word, extractLsb'_append_eq_of_le, extractLsb'_append_eq_of_add_le, BitVec.getLsbD_append]
  simp

@[simp] theorem wordE_word (f : FmtE) (op fn : BitVec 7) : wordE (f.word op fn) = f := by
  simp (disch := decide) only [wordE, FmtE.word, extractLsb'_append_eq_of_le, extractLsb'_append_eq_of_add_le]
  simp

@[simp] theorem wordX_word (f : FmtX) (op : BitVec 7) (fn : BitVec 3) : wordX (f.word op fn) = f := by
  simp (disch := decide) only [wordX, FmtX.word, extractLsb'_append_eq_of_le, extractLsb'_append_eq_of_add_le]
  simp

/-- The opcode of a word is its lowest part, whatever stands above. -/
theorem opcodeOf_append (rest : BitVec 25) (op : BitVec 7) : opcodeOf (rest ++ op : BitVec (25 + 7)) = op.toNat := by
  rw [opcodeOf, BitVec.extractLsb'_append_eq_right]

@[simp] theorem opcodeOf_wordA (f : FmtA) (op : BitVec 7) (fn : BitVec 6) : opcodeOf (f.word op fn) = op.toNat := opcodeOf_append _ op
@[simp] theorem opcodeOf_wordI (f : FmtI) (op : BitVec 7) : opcodeOf (f.word op) = op.toNat := opcodeOf_append _ op
@[simp] theorem opcodeOf_wordL (f : FmtL) (op : BitVec 7) : opcodeOf (f.word op) = op.toNat := opcodeOf_append _ op
@[simp] theorem opcodeOf_wordB (f : FmtB) (op : BitVec 7) : opcodeOf (f.word op) = op.toNat := opcodeOf_append _ op
@[simp] theorem opcodeOf_wordE (f : FmtE) (op fn : BitVec 7) : opcodeOf (f.word op fn) = op.toNat := opcodeOf_append _ op
@[simp] theorem opcodeOf_wordX (f : FmtX) (op : BitVec 7) (fn : BitVec 3) : opcodeOf (f.word op fn) = op.toNat := opcodeOf_append _ op

@[simp] theorem functA_word (f : FmtA) (op : BitVec 7) (fn : BitVec 6) : functA (f.word op fn) = fn.toNat := by
  simp (disch := decide) only [functA, FmtA.word, extractLsb'_append_eq_of_le]
  simp

@[simp] theorem functE_word (f : FmtE) (op fn : BitVec 7) : functE (f.word op fn) = fn.toNat := by
  simp (disch := decide) only [functE, FmtE.word, extractLsb'_append_eq_of_le]
  simp

@[simp] theorem functX_word (f : FmtX) (op : BitVec 7) (fn : BitVec 3) : functX (f.word op fn) = fn.toNat := by
  simp (disch := decide) only [functX, FmtX.word, extractLsb'_append_eq_of_le, extractLsb'_append_eq_of_add_le]
  simp

/-! ## The instruction of a word -/

/-- Every word that an instruction is spelled by leads back to it by its opcode and function code (R65). -/
theorem decodeRaw_encode {c : Instr} {w : Word32} (wf : c.wf = true) (h : encodeSillar c = some w) : ∃ i, decodeRaw i w = some c := by
  cases c
  all_goals cases h
  case amoAdd i d f | amoAnd i d f | amoOr i d f | amoXor i d f | amoSmin i d f | amoSmax i d f | amoUmin i d f | amoUmax i d f |
      amoSwap i d f | amoCas i d f =>
    refine ⟨i, ?_⟩
    cases d <;> simp [decodeRaw, decodeMem]
  case yield i f =>
    change (f.imm == 0 && f.rs1 == 0 && f.rd == 0) = true at wf
    have imm : f.imm = 0 := by simp_all
    exact ⟨i, by simp [decodeRaw, decodeSys, imm]⟩
  case tret i f =>
    change (f.imm == 1 && f.rs1 == 0 && f.rd == 0) = true at wf
    have imm : f.imm = 1 := by simp_all
    exact ⟨i, by simp [decodeRaw, decodeSys, imm]⟩
  all_goals
    next i _ =>
      refine ⟨i, ?_⟩
      simp [decodeRaw, decodeInt, decodeCmp, decodePlog, decodeFp, decodeVec, decodeMem, decodeEnt, decodeSes, decodeTick, decodeSys,
        decodePriv]

/-- Settles O55: the word leads back to the instruction, which is well-formed. -/
theorem sillarRoundTrip : Obligations.SillarRoundTrip := by
  unfold Obligations.SillarRoundTrip
  intro c w wf h
  obtain ⟨i, raw⟩ := decodeRaw_encode wf h
  exact ⟨i, by rw [decodeSillar, raw]; exact if_pos wf⟩

/-- Settles O54: the decoder is run on each word. -/
theorem wordsDecode : Obligations.WordsDecode := by
  unfold Obligations.WordsDecode
  exact fun i => ⟨rfl, rfl, rfl, rfl, rfl, rfl, rfl⟩

end Sys2Proof
end

section
/-!
PROOFS. What reset leaves (O51), and the trap cause codes (O57).
-/

namespace Sys2Proof.Machine

set_option Elab.async false

/-! ## Reset -/

/-- No strand is listed at reset: each is as at power-on. -/
theorem strand_reset (e u : Nat) : State.reset.strand e u = strand0 := rfl

/-- No directory entry is listed at reset: each is as never used. -/
theorem entry_reset (x : Nat) : State.reset.entry x = entry0 := rfl

/-- A register is as the table of its field gives it. -/
theorem fld_reset (f : Fld) (i j : Nat) : State.reset.fld f i j = rstVal f i j := rfl

theorem rp_strand0 (n : Nat) : strand0.rp n = decide (n = 0) := by
  cases n with
  | zero => rfl
  | succ n => simp [Strand.rp, strand0, BitVec.getLsbD_one]

/-- The fields listed have a reset value of their own in the register tables. -/
theorem rst_resetFields : ∀ p ∈ resetFields, p.1.2.rst = .val p.2 := by decide

/-- Settles O51: nothing is listed at reset, so every strand, entry and context is as at power-on, and every register as in its table. -/
theorem resetState : Obligations.ResetState := by
  unfold Obligations.ResetState
  refine ⟨rfl, rfl, rfl, fun e u n => ?_, fun x => ?_, fun _ => rfl, fun p hp i _ => ?_⟩
  · rw [strand_reset]
    have g0 : strand0.rg n = 0 := by
      unfold Strand.rg
      split <;> rfl
    exact ⟨rfl, g0, rfl, rp_strand0 n, rfl, rfl⟩
  · rw [entry_reset]
    decide
  · rw [fld_reset, rstVal, rst_resetFields p hp]

/-! ## Cause codes (R428) -/

theorem code_of_causeTable : ∀ p ∈ causeTable, p.1.code = p.2 := by decide

theorem exists_mem_causeTable (c : Cause) : ∃ n, (c, n) ∈ causeTable ∧ 1 ≤ n ∧ n ≤ 15 := by
  refine ⟨c.code, ?_⟩
  cases c <;> decide

/-- Byte 0x17 of a record: it stands behind 4 + 4 + 8 + 4 + 2 + 1 bytes. -/
theorem record_cause (x : Sample) (sq now n : Nat) (gap : Bool) : (x.record sq now n gap)[0x17]? = some (BitVec.ofNat 8 n) := by
  simp [Sample.record, leBytes]

/-- Settles O57: the table lists the code of every cause, and the CSRs and records pack it where the rule says. -/
theorem trapCauseCodes : Obligations.TrapCauseCodes := by
  unfold Obligations.TrapCauseCodes
  refine ⟨fun p hp sub epc fpc addr info more small => ?_, exists_mem_causeTable, fun p hp e u pc title addr s => ?_,
    fun x sq now n gap _ => record_cause x sq now n gap⟩
  · simp only [trapRegs, code_of_causeTable p hp, Nat.mod_eq_of_lt small]
    cases more <;> simp [b2n, Nat.mul_comm]
  · rw [code_of_causeTable p hp]

end Sys2Proof.Machine
end

section
/-!
PROOFS. The integer, immediate, compare and predicate instructions (O1, O2): each is one of the operand forms, which issues and
changes its strand alone.
-/

namespace Sys2Proof.Machine

set_option Elab.async false

/-! ## An instruction that only changes its strand -/

/-- An instruction that issues and whose own part goes on comes to the state of that part. -/
theorem exec_go {c : Instr} {s u : State} {i : Iss} {d : Info} {ill : Option Nat} {body : State → Res}
    (eq : exec c s = .next (issue s i d ill body)) (good : ill = none) (h : Issues s i d) (go : body (issued s i d) = .go u) :
    exec c s = .next u := by
  rw [eq, good, issue_eq body h, go]

theorem goesTo_retire {c : Instr} {s : State} {i : Iss} {d : Info} {u : Strand → Strand}
    (eq : exec c s = .next ((issued s i d).retire i u)) : GoesTo c s i (u (s.me i)).next :=
  ⟨_, eq, by rw [retire_me, issued_me], retire_onlyStrand s i d u⟩

/-- One that does `w` to it where its predicate holds (R64). -/
theorem goesTo_guarded {c : Instr} {s : State} {i : Iss} {d : Info} {pred : BitVec 3} {neg : Bool} {w : Strand → Strand}
    (eq : exec c s = .next ((issued s i d).retire i fun x => if x.guard pred neg then w x else x)) :
    GoesTo c s i (guarded (s.me i) pred neg w) := (goesTo_retire eq :)

theorem goesTo_regA {c : Instr} {s : State} {i : Iss} {f : FmtA} {bad : Bool} {r : Strand → Word64}
    (eq : exec c s = .next (regA s i f bad r)) (good : bad = false) (h : Issues s i (infoA f)) :
    GoesTo c s i (guarded (s.me i) f.pred f.neg fun x => x.wg f.rd.toNat (r x)) := by
  rw [good, regA_eq r h] at eq
  exact goesTo_guarded eq

theorem goesTo_regN {c : Instr} {s : State} {i : Iss} {f : FmtA} {n : Nat} {unit : List Nat} {r : Strand → Word64}
    (eq : exec c s = .next (regN s i f n unit r)) (h : Issues s i (infoN s i f n unit)) :
    GoesTo c s i (guarded (s.me i) f.pred f.neg fun x => x.wg f.rd.toNat (r x)) := by
  rw [regN_eq n unit r h] at eq
  exact goesTo_guarded eq

theorem goesTo_aluI {c : Instr} {s : State} {i : Iss} {f : FmtI} {bad : Bool} {g : Word64 → Word64}
    (eq : exec c s = .next (aluI s i f bad g)) (good : bad = false) (h : Issues s i (infoI f)) :
    GoesTo c s i (guarded (s.me i) f.pred false fun x => x.wg f.rd.toNat (g (x.rg f.rs1.toNat))) := by
  rw [good, aluI_eq g h] at eq
  exact goesTo_guarded eq

/-! ## Integer instructions (R67) -/

theorem exec_int (p : (Iss → FmtA → Instr) × (Word64 → Word64 → Word64)) (h : p ∈ intTable) (i : Iss) (f : FmtA) (s : State) :
    exec (p.1 i f) s = .next (aluA s i f p.2) := by
  revert p
  have signed (x y : Word64 → Word64 → Word64) : (fun a b => if a.slt b then x a b else y a b) =
      fun a b => if a.toInt < b.toInt then x a b else y a b := by
    funext a b
    simp only [BitVec.slt_iff_toInt_lt]
  have unsigned (x y : Word64 → Word64 → Word64) : (fun a b => if a.ult b then x a b else y a b) =
      fun a b => if a.toNat < b.toNat then x a b else y a b := by
    funext a b
    simp only [BitVec.ult_iff_toNat_lt]
  simp only [intTable, List.forall_mem_cons, ← signed, ← unsigned]
  exact ⟨rfl, rfl, rfl, rfl, rfl, rfl, rfl, rfl, rfl, rfl, rfl, rfl, rfl, fun _ h => absurd h List.not_mem_nil⟩

theorem exec_mul (p : (Iss → FmtA → Instr) × (Word64 → Word64 → Word64)) (h : p ∈ mulTable) (i : Iss) (f : FmtA) (s : State) :
    exec (p.1 i f) s = .next (mulA s i f p.2) := by
  revert p
  simp only [mulTable, List.forall_mem_cons]
  exact ⟨rfl, rfl, rfl, fun _ h => absurd h List.not_mem_nil⟩

theorem exec_div (p : (Iss → FmtA → Instr) × (Word64 → Word64 → Word64)) (h : p ∈ divTable) (i : Iss) (f : FmtA) (s : State) :
    exec (p.1 i f) s = .next (divA s i f p.2) := by
  revert p
  simp only [divTable, List.forall_mem_cons]
  exact ⟨rfl, rfl, rfl, rfl, fun _ h => absurd h List.not_mem_nil⟩

theorem exec_int1 (p : (Iss → FmtA → Instr) × (Word64 → Word64)) (h : p ∈ intTable1) (i : Iss) (f : FmtA) (s : State) :
    exec (p.1 i f) s = .next (aluA1 s i f p.2) := by
  revert p
  simp only [intTable1, List.forall_mem_cons]
  exact ⟨rfl, rfl, rfl, rfl, fun _ h => absurd h List.not_mem_nil⟩

theorem exec_imm (p : (Iss → FmtI → Instr) × (Word64 → BitVec 12 → Word64)) (h : p ∈ immTable) (i : Iss) (f : FmtI) (s : State) :
    exec (p.1 i f) s = .next (aluI s i f false fun a => p.2 a f.imm) := by
  revert p
  simp only [immTable, List.forall_mem_cons]
  exact ⟨rfl, rfl, rfl, rfl, rfl, fun _ h => absurd h List.not_mem_nil⟩

/-- A shift count and kind below 192 are those of the three shifts (R68). -/
theorem shiApply_eq {imm : BitVec 12} (h : imm.toNat < 192) (a : Word64) :
    shiApply imm a = if imm.toNat < 64 then a <<< (imm.toNat % 64) else if imm.toNat < 128 then a >>> (imm.toNat % 64)
      else a.sshiftRight (imm.toNat % 64) := by
  have kind : shiKind imm = imm.toNat / 64 := by simp only [shiKind, bitsOf]; omega
  have count : bitsOf imm.toNat 0 6 = imm.toNat % 64 := by simp [bitsOf]
  simp only [shiApply, kind, count]
  obtain left | right | arithmetic : imm.toNat / 64 = 0 ∨ imm.toNat / 64 = 1 ∨ imm.toNat / 64 = 2 := by omega
  · rw [left, if_pos (by omega)]
    rfl
  · rw [right, if_neg (by omega), if_pos (by omega)]
    rfl
  · rw [arithmetic, if_neg (by omega), if_neg (by omega)]
    rfl

theorem shi_good {imm : BitVec 12} (h : imm.toNat < 192) : (shiKind imm == 3 || decide (256 ≤ imm.toNat)) = false := by
  simp only [shiKind, bitsOf, Bool.or_eq_false_iff, beq_eq_false_iff_ne, decide_eq_false_iff_not]
  omega

/-- Settles O1: each instruction by the operand form it is. -/
theorem integerResult : Obligations.IntegerResult := by
  unfold Obligations.IntegerResult
  refine ⟨⟨fun p hp i f s h => ?_, fun p hp i f s h => ?_, fun p hp i f s h => ?_, fun p hp i f s rs2 h => ?_, fun i f s h => ?_⟩,
    fun p hp i f s h => ?_, fun i f s small h => ?_⟩
  · exact goesTo_regA (exec_int p hp i f s) rfl h
  · exact goesTo_regN (exec_mul p hp i f s) h
  · exact goesTo_regN (exec_div p hp i f s) h
  · exact goesTo_regA (exec_int1 p hp i f s) (by simp [rs2]) h
  · exact goesTo_retire (c := .sel i f) (congrArg Host.Outcome.next (issue_retire _ h))
  · exact goesTo_aluI (exec_imm p hp i f s) rfl h
  · have goes := goesTo_aluI (c := .shi i f) rfl (shi_good small) h
    simp only [shiApply_eq small] at goes
    exact goes

/-! ## Compares and predicate logic (R69) -/

theorem pdOk_of_bounds {n : BitVec 5} (lo : 0 < n.toNat) (hi : n.toNat < 8) : pdOk n = true := by simp [pdOk, lo, hi]

theorem goesTo_predA {c : Instr} {s : State} {i : Iss} {f : FmtA} {reads : List Nat} {bad : Bool} {b : Strand → Bool}
    (eq : exec c s = .next (predA s i f reads bad b)) (good : bad = false) (lo : 0 < f.rd.toNat) (hi : f.rd.toNat < 8)
    (h : Issues s i { reads := reads ++ pN f.pred.toNat, writes := pN f.rd.toNat }) :
    GoesTo c s i (guarded (s.me i) f.pred f.neg fun x => x.wp f.rd.toNat (b x)) := by
  rw [good, predA_eq reads b (pdOk_of_bounds lo hi) h] at eq
  exact goesTo_guarded eq

/-- A bad source field is a bad encoding, whatever pd is. -/
theorem runs_predA_illegal {c : Instr} {s : State} {i : Iss} {f : FmtA} {reads : List Nat} {bad : Bool} {b : Strand → Bool}
    (eq : exec c s = .next (predA s i f reads bad b)) (ill : bad = true)
    (h : Fetched s i { reads := reads ++ pN f.pred.toNat, writes := pN f.rd.toNat }) :
    Runs c s fun t => TrapsAt s t i 1 0 0 :=
  runs_illegal eq (by simp [illIf, ill]) h

theorem exec_cmp (p : (Iss → FmtA → Instr) × (Word64 → Word64 → Bool)) (h : p ∈ cmpTable) (i : Iss) (f : FmtA) (s : State) :
    exec (p.1 i f) s = .next (cmpA s i f p.2) := by
  revert p
  have signed : (fun a b : Word64 => decide (b.toInt ≤ a.toInt)) = fun a b => !a.slt b := by
    funext a b
    simp [BitVec.slt, ← decide_not]
  have unsigned : (fun a b : Word64 => decide (b.toNat ≤ a.toNat)) = fun a b => !a.ult b := by
    funext a b
    simp [BitVec.ult, ← decide_not]
  simp only [cmpTable, List.forall_mem_cons, signed, unsigned]
  exact ⟨rfl, rfl, rfl, rfl, rfl, rfl, rfl, fun _ h => absurd h List.not_mem_nil⟩

theorem exec_plog (p : (Iss → FmtA → Instr) × (Bool → Bool → Bool)) (h : p ∈ plogTable) (i : Iss) (f : FmtA) (s : State) :
    exec (p.1 i f) s = .next (plogA s i f p.2) := by
  revert p
  simp only [plogTable, List.forall_mem_cons]
  exact ⟨rfl, rfl, rfl, rfl, fun _ h => absurd h List.not_mem_nil⟩

/-- The function codes of the compares and of the predicate logic are their places in the tables. -/
theorem encode_predicates (i : Iss) (f : FmtA) :
    (∀ p ∈ cmpTable.zipIdx, encodeSillar (p.1.1 i f) = some (f.word 0x02 (BitVec.ofNat 6 p.2))) ∧
    (∀ p ∈ plogTable.zipIdx, encodeSillar (p.1.1 i f) = some (f.word 0x03 (BitVec.ofNat 6 p.2))) := by
  simp only [cmpTable, plogTable, List.zipIdx_cons, List.zipIdx_nil, List.forall_mem_cons]
  exact ⟨⟨rfl, rfl, rfl, rfl, rfl, rfl, rfl, fun _ h => absurd h List.not_mem_nil⟩,
    rfl, rfl, rfl, rfl, fun _ h => absurd h List.not_mem_nil⟩

/-- Settles O2: each instruction is the predicate form with its own sources, and a source out of its range a bad encoding of it. -/
theorem predicateResult : Obligations.PredicateResult := by
  unfold Obligations.PredicateResult
  refine ⟨fun p hp i f s lo hi h => ?_, fun p hp i f s lo hi rs1 rs2 h => ?_, fun i f s lo hi rs1 rs2 h => ⟨?_, ?_⟩,
    fun i f s lo hi rs2 h => ?_, fun p hp i f s out h => ?_, fun i f s used h => ⟨?_, ?_⟩, fun i f s rs2 h => ?_, fun i f => ?_⟩
  · exact goesTo_predA (exec_cmp p hp i f s) rfl lo hi h
  · exact goesTo_predA (exec_plog p hp i f s) (by simp [psOk, rs1, rs2]) lo hi h
  · exact goesTo_predA (c := .pset i f) rfl (by simp [rs1, rs2]) lo hi h
  · exact goesTo_predA (c := .pclr i f) rfl (by simp [rs1, rs2]) lo hi h
  · exact goesTo_predA (c := .pnz i f) rfl (by simp [rs2]) lo hi h
  · exact runs_predA_illegal (exec_plog p hp i f s) (by simpa [psOk] using out) h
  · exact runs_predA_illegal (c := .pset i f) rfl (by simpa using used) h
  · exact runs_predA_illegal (c := .pclr i f) rfl (by simpa using used) h
  · exact runs_predA_illegal (c := .pnz i f) rfl (by simpa using rs2) h
  · obtain ⟨cmp, plog⟩ := encode_predicates i f
    exact ⟨cmp, plog, rfl, rfl, rfl⟩

end Sys2Proof.Machine
end

section
/-!
PROOFS. The FP32 and vector instructions (O3): with a rounding mode of 0 to 3 and good fields each issues and changes its strand
alone.
-/

namespace Sys2Proof.Machine

set_option Elab.async false

/-! ## FP32 instructions (R70) -/

theorem exec_fpTable (p : (Iss → FmtA → Instr) × (Bool × Nat) × (Nat → Word32 → Word32 → Word32 → Word32 × Nat)) (h : p ∈ fpTable)
    (i : Iss) (f : FmtA) (s : State) :
    exec (p.1 i f) s = .next (fpA s i f p.2.1.2 (p.2.1.1 && f.rs2 != 0) fun x =>
      p.2.2 x.round (x.rf f.rd) (x.rf f.rs1) (x.rf f.rs2)) := by
  revert p
  simp only [fpTable, List.forall_mem_cons]
  exact ⟨rfl, rfl, rfl, rfl, rfl, rfl, rfl, rfl, rfl, rfl, rfl, rfl, fun _ h => absurd h List.not_mem_nil⟩

theorem exec_fpCmpTable (p : (Iss → FmtA → Instr) × (Word32 → Word32 → Bool × Nat)) (h : p ∈ fpCmpTable) (i : Iss) (f : FmtA)
    (s : State) : exec (p.1 i f) s = .next (fpCmpA s i f p.2) := by
  revert p
  simp only [fpCmpTable, List.forall_mem_cons]
  exact ⟨rfl, rfl, rfl, fun _ h => absurd h List.not_mem_nil⟩

theorem goesTo_fpA {c : Instr} {s : State} {i : Iss} {f : FmtA} {n : Nat} {bad : Bool} {g : Strand → Word32 × Nat}
    (eq : exec c s = .next (fpA s i f n bad g)) (good : bad = false) (round : (s.me i).round < 4) (h : Issues s i (infoFp s i f n)) :
    GoesTo c s i (guarded (s.me i) f.pred f.neg fun x => (x.wg f.rd.toNat ((g x).1.setWidth 64)).sticky (g x).2) := by
  rw [good, fpA_eq n g round h] at eq
  exact goesTo_guarded eq

/-- An instruction whose bad encoding is that of the FP32 group, well encoded: where its predicate holds it does `w` to its strand. -/
theorem goesTo_fp {c : Instr} {s : State} {i : Iss} {d : Info} {bad neg : Bool} {pred : BitVec 3} {w : Strand → Strand}
    (eq : exec c s = .next (issue s i d (fpIll s i bad) fun s => .go (s.retire i fun x => if x.guard pred neg then w x else x)))
    (good : bad = false) (round : (s.me i).round < 4) (h : Issues s i d) : GoesTo c s i (guarded (s.me i) pred neg w) := by
  rw [good, fpIll_none round, issue_retire _ h] at eq
  exact goesTo_guarded eq

/-! ## Vector instructions (R71) -/

theorem exec_vecTable (p : (Iss → FmtA → Instr) × (Nat → Word32 → Word32 → Word32 → Word32 × Nat)) (h : p ∈ vecTable) (i : Iss)
    (f : FmtA) (s : State) : exec (p.1 i f) s = .next (vecA s i f p.2) := by
  revert p
  simp only [vecTable, List.forall_mem_cons]
  exact ⟨rfl, rfl, rfl, rfl, rfl, rfl, fun _ h => absurd h List.not_mem_nil⟩

theorem vOk_of_lt {n : BitVec 5} (h : n.toNat < 16) : vOk n = true := by simp [vOk, h]

/-- Settles O3: each instruction by its operand form; its fields are good and its rounding mode is none of the reserved ones. -/
theorem floatResult : Obligations.FloatResult := by
  unfold Obligations.FloatResult
  refine ⟨⟨fun p hp i f s unused round h => ?_, fun i f s rs2 round h => ?_, fun p hp i f s lo hi round h => ?_⟩,
    fun p hp i f s rd rs1 rs2 round h => ?_, fun i f s rs1 rs2 round h => ?_, fun i f s rd rs2 round h => ?_,
    fun i f s rs1 small round h => ?_, fun i f s rd small round h => ?_, fun i f s rd rs1 rs2 round h => ?_⟩
  · refine goesTo_fpA (exec_fpTable p hp i f s) ?_ round h
    cases one : p.2.1.1 with
    | false => rfl
    | true => simp [unused one]
  · exact goesTo_fp (c := .fcvtWS i f) rfl (by simp [rs2]) round h
  · exact goesTo_fp (exec_fpCmpTable p hp i f s) (by simp [pdOk_of_bounds lo hi]) round h
  · exact goesTo_fp (exec_vecTable p hp i f s) (by simp [vOk_of_lt rd, vOk_of_lt rs1, vOk_of_lt rs2]) round h
  · exact goesTo_fp (c := .vdot i f) rfl (by simp [vOk_of_lt rs1, vOk_of_lt rs2]) round h
  · exact goesTo_fp (c := .vsplat i f) rfl (by simp [vOk_of_lt rd, rs2]) round h
  · exact goesTo_fp (c := .vext i f) rfl (by simp [vOk_of_lt rs1, small]) round h
  · exact goesTo_fp (c := .vins i f) rfl (by simp [vOk_of_lt rd, small]) round h
  · exact goesTo_fp (c := .vmov i f) rfl (by simp [vOk_of_lt rd, vOk_of_lt rs1, rs2]) round h

end Sys2Proof.Machine
end

section
/-!
PROOFS. Scratch loads and stores (O5): the bytes of scratch that a store moves, the frame, and what stops an access.
-/

namespace Sys2Proof.Machine

set_option Elab.async false

/-! ## Bytes written at an address -/

/-- The map with these bytes from address `a` on. -/
def smapWrite (m : SMap Byte) (a : Nat) (bs : List Byte) : SMap Byte := (bytesAt a bs).foldl (fun m x => smapPut 0 m x.1 x.2) m

theorem smapWrite_cons (m : SMap Byte) (a : Nat) (b : Byte) (bs : List Byte) :
    smapWrite m a (b :: bs) = smapWrite (smapPut 0 m a b) (a + 1) bs := rfl

theorem smapGet_smapWrite_out {m : SMap Byte} {a q : Nat} {bs : List Byte} (h : q < a ∨ a + bs.length ≤ q) :
    smapGet 0 (smapWrite m a bs) q = smapGet 0 m q := by
  induction bs generalizing m a with
  | nil => rfl
  | cons b bs ih =>
    simp only [List.length_cons] at h
    rw [smapWrite_cons, ih (by omega), smapGet_put_ne _ _ _ _ (by omega)]

theorem smapGet_smapWrite {m : SMap Byte} {a k : Nat} {bs : List Byte} (h : k < bs.length) :
    smapGet 0 (smapWrite m a bs) (a + k) = bs[k] := by
  induction bs generalizing m a k with
  | nil => exact absurd h (Nat.not_lt_zero k)
  | cons b bs ih =>
    rw [smapWrite_cons]
    cases k with
    | zero => rw [smapGet_smapWrite_out (by omega), Nat.add_zero, smapGet_put_same]; rfl
    | succ k =>
      rw [List.getElem_cons_succ, ← ih (m := smapPut 0 m a b) (a := a + 1) (Nat.lt_of_succ_lt_succ h), Nat.add_right_comm, Nat.add_assoc]

/-- The bytes read back are those written. -/
theorem map_smapGet_smapWrite (m : SMap Byte) (a : Nat) (bs : List Byte) :
    ((List.range bs.length).map fun k => smapGet 0 (smapWrite m a bs) (a + k)) = bs := by
  refine List.ext_getElem (by simp) fun k hk _ => ?_
  have inside : k < bs.length := by simpa using hk
  rw [List.getElem_map, List.getElem_range, smapGet_smapWrite inside]

/-! ## Scratch (R34) -/

theorem State.wrScratch_ce {s : State} {e : Nat} (a : Nat) (bs : List Byte) (ce : e ≠ 34) :
    s.wrScratch e a bs = { s with scratch := smapWrite s.scratch (e * 131072 + a) bs } := if_neg ce

theorem State.wrScratch_sv (s : State) (a : Nat) (bs : List Byte) :
    s.wrScratch 34 a bs = { s with svram := smapWrite s.svram a bs } := if_pos rfl

theorem State.rdScratch_ce {s : State} {e : Nat} (a n : Nat) (ce : e ≠ 34) :
    s.rdScratch e a n = (List.range n).map fun k => smapGet 0 s.scratch (e * 131072 + a + k) := if_neg ce

theorem State.rdScratch_sv (s : State) (a n : Nat) :
    s.rdScratch 34 a n = (List.range n).map fun k => smapGet 0 s.svram (a + k) := if_pos rfl

theorem State.rdScratch_congr {s t : State} (scratch : t.scratch = s.scratch) (svram : t.svram = s.svram) (e a n : Nat) :
    t.rdScratch e a n = s.rdScratch e a n := by
  rw [State.rdScratch, scratch, svram, State.rdScratch]

/-- A store is read back where it was written. -/
theorem State.rdScratch_wrScratch (s : State) (e a : Nat) (bs : List Byte) : (s.wrScratch e a bs).rdScratch e a bs.length = bs := by
  by_cases sv : e = 34
  · subst sv
    rw [State.wrScratch_sv, State.rdScratch_sv, map_smapGet_smapWrite]
  · rw [State.wrScratch_ce _ _ sv, State.rdScratch_ce _ _ sv, map_smapGet_smapWrite]

/-- Every other byte of the engine's scratch, and every byte of another's, is as before a store within its 131,072 bytes. -/
theorem State.rdScratch_wrScratch_other {s : State} {e a j k : Nat} {bs : List Byte} (reach : a + bs.length ≤ 131072) (hk : k < 131072)
    (other : j ≠ e ∨ k < a ∨ a + bs.length ≤ k) : (s.wrScratch e a bs).rdScratch j k 1 = s.rdScratch j k 1 := by
  have one {f g : Nat → Byte} (h : f 0 = g 0) : (List.range 1).map f = (List.range 1).map g := by simp [List.range_succ, h]
  by_cases sv : e = 34
  · subst sv
    rw [State.wrScratch_sv]
    by_cases same : j = 34
    · subst same
      rw [State.rdScratch_sv, State.rdScratch_sv]
      exact one (smapGet_smapWrite_out (by omega))
    · rw [State.rdScratch_ce _ _ same, State.rdScratch_ce _ _ same]
  · rw [State.wrScratch_ce _ _ sv]
    by_cases same : j = 34
    · subst same
      rw [State.rdScratch_sv, State.rdScratch_sv]
    · rw [State.rdScratch_ce _ _ same, State.rdScratch_ce _ _ same]
      exact one (smapGet_smapWrite_out (by omega))

theorem State.wrScratch_shape (s : State) (e a : Nat) (bs : List Byte) :
    ∃ x y, s.wrScratch e a bs = { s with scratch := x, svram := y } := by
  unfold State.wrScratch
  split
  · exact ⟨s.scratch, _, rfl⟩
  · exact ⟨_, s.svram, rfl⟩

theorem State.strand_wrScratch (s : State) (e a : Nat) (bs : List Byte) (j k : Nat) : (s.wrScratch e a bs).strand j k = s.strand j k := by
  unfold State.wrScratch
  split <;> rfl

theorem State.scratchReach_le (s : State) (i : Iss) : s.scratchReach i ≤ 131072 := by
  unfold State.scratchReach State.titleShare
  split <;> omega

theorem issued_rdScratch (s : State) (i : Iss) (d : Info) (e a n : Nat) : (issued s i d).rdScratch e a n = s.rdScratch e a n :=
  State.rdScratch_congr (issued_scratch s i d) (issued_svram s i d) e a n

/-- An aligned access in reach passes its checks. -/
theorem scratchChecks_issued {s : State} {i : Iss} (d : Info) {a : Word64} {n : Nat} (h : ScratchOk s i a n) :
    (issued s i d).scratchChecks i a n n = none := by
  obtain ⟨aligned, inReach⟩ := h
  simp [State.scratchChecks, firstTrap, aligned, scratchReach_issued, inReach]

/-! ## Loads and stores (R74) -/

theorem goesTo_scratchLoad {c : Instr} {s : State} {i : Iss} {f : FmtL} {n : Nat} {writes : List Nat} {bad : Bool}
    {w : Strand → Nat → Strand} (eq : exec c s = .next (scratchLoad s i f n n writes bad w)) (good : bad = false) (dl : f.dl = 0)
    (ok : ScratchOk s i (eaL f (s.me i) n) n) (h : Issues s i (infoSld f writes)) :
    GoesTo c s i (w (s.me i) (leNat (s.rdScratch i.e.val (eaL f (s.me i) n).toNat n))).next := by
  have checks := scratchChecks_issued (infoSld f writes) ok
  rw [scratchLoad, illIf_false (by simp [good, dl])] at eq
  change exec c s = .next (issue s i (infoSld f writes) none _) at eq
  rw [issue_eq _ h] at eq
  simp only [issued_me, checks, issued_rdScratch] at eq
  exact goesTo_retire eq

theorem scratchStore_stores {c : Instr} {s : State} {i : Iss} {f : FmtL} {n : Nat} {reads : List Nat} {bad : Bool}
    {data : Strand → Nat} (eq : exec c s = .next (scratchStore s i f n n reads bad data)) (good : bad = false) (dl : f.dl = 0)
    (ok : ScratchOk s i (eaL f (s.me i) n) n) (h : Issues s i (infoMem f reads [])) :
    ∃ t, exec c s = .next t ∧ t.me i = (s.me i).next ∧ OnlyScratch s t i (eaL f (s.me i) n).toNat n ∧
      t.rdScratch i.e.val (eaL f (s.me i) n).toNat n = leBytes n (data (s.me i)) := by
  have checks := scratchChecks_issued (infoMem f reads []) ok
  obtain ⟨_, inReach⟩ := ok
  have reach := Nat.le_trans inReach (s.scratchReach_le i)
  rw [scratchStore, illIf_false (by simp [good, dl])] at eq
  change exec c s = .next (issue s i (infoMem f reads []) none _) at eq
  rw [issue_eq _ h] at eq
  simp only [issued_me, checks] at eq
  refine ⟨_, eq, ?_⟩
  generalize (eaL f (s.me i) n).toNat = a at *
  have len : (leBytes n (data (s.me i))).length = n := by simp [leBytes]
  generalize leBytes n (data (s.me i)) = bs at *
  subst len
  have strands := (issued s i (infoMem f reads [])).strand_wrScratch i.e.val a bs
  refine ⟨?_, ⟨?_, fun e u hu other => ?_, fun e k hk other => ?_⟩, ?_⟩
  · rw [State.advance, retire_me, State.me, strands, issued_strand]
    rfl
  · obtain ⟨r, g, p, shape⟩ := issued_shape s i (infoMem f reads [])
    obtain ⟨x, y, written⟩ := (issued s i (infoMem f reads [])).wrScratch_shape i.e.val a bs
    rw [written, shape]
    rfl
  · rw [State.advance, State.retire, State.strand_setStrand_ne _ _ _ _ _ _ (skey_ne i.t.isLt hu other), strands, issued_strand]
  · rw [← issued_rdScratch s i (infoMem f reads [])]
    exact State.rdScratch_wrScratch_other reach hk other
  · exact State.rdScratch_wrScratch _ _ _ _

/-- What a scratch instruction is: its issue, with a deadline field of 0, and the checks that come first of its own part. -/
def ScratchForm (c : Iss → FmtL → Instr) (i : Iss) (f : FmtL) (s : State) (n : Nat) (d : Info) : Prop :=
  ∃ bad body, exec (c i f) s = .next (issue s i d (illIf (bad || f.dl != 0)) body) ∧
    ((n = 16 → f.size = 0 ∧ f.rt.toNat < 16) → bad = false) ∧
    ∀ u tr, u.scratchChecks i (eaL f (u.me i) n) n n = some tr → body u = .trap tr

theorem scratchForm (p : (Iss → FmtL → Instr) × (FmtL → Nat) × (FmtL → Info)) (h : p ∈ scratchTable) (i : Iss) (f : FmtL) (s : State) :
    ScratchForm p.1 i f s (p.2.1 f) (p.2.2 f) := by
  revert p
  have vector (h : 16 = 16 → f.size = 0 ∧ f.rt.toNat < 16) : (f.size != 0 || !vOk f.rt) = false := by
    obtain ⟨size, rt⟩ := h rfl
    simp [size, vOk_of_lt rt]
  simp only [scratchTable, List.forall_mem_cons]
  refine ⟨⟨false, _, rfl, fun _ => rfl, fun u tr found => ?_⟩, ⟨false, _, rfl, fun _ => rfl, fun u tr found => ?_⟩,
    ⟨false, _, rfl, fun _ => rfl, fun u tr found => ?_⟩, ⟨_, _, rfl, vector, fun u tr found => ?_⟩,
    ⟨_, _, rfl, vector, fun u tr found => ?_⟩, fun _ h => absurd h List.not_mem_nil⟩
  all_goals simp only [found]

/-- Addresses at or above 131,072, and for a title strand at or above the title share, are out of reach (R34, R74). -/
theorem out_of_scratchReach {s : State} {i : Iss} {a n : Nat} (some_bytes : 0 < n)
    (out : 131072 ≤ a ∨ (s.unprivileged i = true ∧ s.titleShare i.e.val ≤ a)) : s.scratchReach i < a + n := by
  obtain high | ⟨title, above⟩ := out
  · have := s.scratchReach_le i
    omega
  · have share : s.scratchReach i = s.titleShare i.e.val := if_pos title
    omega

theorem scratchTable_pos (p : (Iss → FmtL → Instr) × (FmtL → Nat) × (FmtL → Info)) (h : p ∈ scratchTable) (f : FmtL) : 0 < p.2.1 f := by
  revert p
  have scalar : 0 < bytesL f := Nat.two_pow_pos _
  simp only [scratchTable, List.forall_mem_cons]
  exact ⟨scalar, scalar, scalar, by decide, by decide, fun _ h => absurd h List.not_mem_nil⟩

/-- Settles O5: a load reads and a store writes the bytes at its address; what stops them is found before, in the order of R66. -/
theorem scratchResult : Obligations.ScratchResult := by
  unfold Obligations.ScratchResult
  have vector {f : FmtL} (size : f.size = 0) (rt : f.rt.toNat < 16) : (f.size != 0 || !vOk f.rt) = false := by
    simp [size, vOk_of_lt rt]
  refine ⟨⟨fun i f s a ha dl ok h => ?_, fun i f s a ha dl size rt ok h => ?_⟩,
    ⟨fun i f s a ha dl ok h => ?_, fun i f s a ha dl size rt ok h => ?_⟩, fun p hp i f s n d a hn hd ha => ?_⟩
  · subst ha
    exact ⟨goesTo_scratchLoad (c := .sld i f) rfl rfl dl ok h, goesTo_scratchLoad (c := .sldu i f) rfl rfl dl ok h⟩
  · subst ha
    exact goesTo_scratchLoad (c := .svld i f) rfl (vector size rt) dl ok h
  · subst ha
    exact scratchStore_stores (c := .sst i f) rfl rfl dl ok h
  · subst ha
    exact scratchStore_stores (c := .svst i f) rfl (vector size rt) dl ok h
  · obtain ⟨bad, body, eq, good, traps⟩ := scratchForm p hp i f s
    have pos := scratchTable_pos p hp f
    subst hn hd ha
    refine ⟨fun dl h => ?_, fun dl fields h => ?_⟩
    · have used : (bad || f.dl != 0) = true := by rw [bne_iff_ne.2 dl, Bool.or_true]
      exact runs_illegal eq (by rw [used]; rfl) h
    have encoded : illIf (bad || f.dl != 0) = none := illIf_false (by simp [good fields, dl])
    refine ⟨fun unaligned => ?_, fun aligned out => ?_⟩
    · refine runs_trap (tr := { cause := .align, addr := eaL f (s.me i) (p.2.1 f) }) eq encoded h (traps _ _ ?_)
      rw [issued_me]
      exact State.scratchChecks_align _ i _ unaligned
    · refine runs_trap (tr := { cause := .range, addr := eaL f (s.me i) (p.2.1 f) }) eq encoded h (traps _ _ ?_)
      rw [issued_me]
      refine State.scratchChecks_range aligned ?_
      rw [scratchReach_issued]
      exact out_of_scratchReach pos out

end Sys2Proof.Machine
end

section
/-!
PROOFS. Branches (O7), FENCE and YIELD (O8).
-/

namespace Sys2Proof.Machine

set_option Elab.async false

/-! ## Branches (R79) -/

theorem goesTo_setStrand {c : Instr} {s : State} {i : Iss} {d : Info} {x : Strand}
    (eq : exec c s = .next ((issued s i d).setStrand i.e.val i.t.val x)) : GoesTo c s i x :=
  ⟨_, eq, State.strand_setStrand_same _ _ _ _, setStrand_onlyStrand s i d x⟩

/-- A branch whose target is in range goes there where its predicate holds, and on where it does not. -/
theorem goesTo_branch {c : Instr} {s : State} {i : Iss} {f : FmtB} {bad link : Bool} {reads : List Nat} {target : Strand → Int}
    (eq : exec c s = .next (branch s i f bad link reads target)) (good : bad = false)
    (inRange : ((s.me i).rp f.pred.toNat != f.neg) = true → 0 ≤ target (s.me i) ∧ target (s.me i) ≤ 65535)
    (h : Issues s i { reads := reads ++ pN f.pred.toNat, writes := if link then [regG 31] else [], branch := true, last := uncond f }) :
    GoesTo c s i (if (s.me i).rp f.pred.toNat != f.neg then
      { (if link then (s.me i).wg 31 (BitVec.ofNat 64 ((s.me i).pc.toNat + 1)) else s.me i) with
        pc := BitVec.ofInt 16 (target (s.me i)) } else (s.me i).next) := by
  rw [branch, illIf_false good, issue_eq _ h] at eq
  simp only [issued_me] at eq
  by_cases takes : ((s.me i).rp f.pred.toNat != f.neg) = true
  · obtain ⟨lo, hi⟩ := inRange takes
    have guard : (s.me i).guard f.pred f.neg = true := takes
    have fits : ¬ (target (s.me i) < 0 ∨ 65535 < target (s.me i)) := by omega
    simp only [guard, Bool.not_true, Bool.false_eq_true, if_false, fits] at eq
    rw [if_pos takes]
    exact goesTo_setStrand eq
  · have guard : (s.me i).guard f.pred f.neg = false := Bool.eq_false_iff.2 takes
    simp only [guard, Bool.not_false, if_true] at eq
    rw [if_neg takes]
    exact goesTo_retire eq

/-- Settles O7: each of the three is a branch, with its own target. -/
theorem branchResult : Obligations.BranchResult := by
  unfold Obligations.BranchResult
  refine fun i f s => ⟨fun rs1 inRange => ⟨fun h => ?_, fun h => ?_⟩, fun imm inRange h => ?_⟩
  · exact goesTo_branch (c := .br i f) rfl (by simp [rs1]) inRange h
  · exact goesTo_branch (c := .call i f) rfl (by simp [rs1]) inRange h
  · have goes := goesTo_branch (c := .jr i f) rfl (by simp [imm]) (fun takes => ⟨by omega, by have := inRange takes; omega⟩) h
    have target : BitVec.ofInt 16 (((s.me i).rg f.rs1.toNat).toNat : Int) = ((s.me i).rg f.rs1.toNat).setWidth 16 := by
      rw [BitVec.ofInt_natCast]
      rfl
    rw [target] at goes
    exact goes

/-! ## FENCE (R78) -/

theorem fenced_issued (s : State) (i : Iss) (d : Info) (e k bit : Nat) : (issued s i d).fenced e k bit = s.fenced e k bit := by
  simp only [State.fenced, State.findOp, issued_strand, issued_ops]

/-- A kind of operation is among those that a fence's mask names; mask 0 names every kind. -/
def maskNames (mask bit : Nat) : Bool := mask == 0 || bitOf mask bit

theorem maskNames_iff (mask bit : Nat) : maskNames mask bit = true ↔ mask = 0 ∨ bitOf mask bit = true := by simp [maskNames]

/-- An operation that a fence waits for is outstanding. -/
def State.outstanding (s : State) (l : List Nat) : Bool := l.any fun id => (s.findOp id).isSome

/-- The fences in force, after one over the operations `l` of the kinds of `mask` has joined those with operations outstanding. -/
def State.fencesWith (s : State) (l : List (Nat × List Nat)) (mask : Nat) (ids : List Nat) : List (Nat × List Nat) :=
  (l.filter fun g => s.outstanding g.2) ++ (if ids.isEmpty then [] else [(mask, ids)])

theorem State.fencesWith_holds (s : State) (l : List (Nat × List Nat)) (mask : Nat) (ids : List Nat) (bit : Nat) :
    ((s.fencesWith l mask ids).any fun g => maskNames g.1 bit && s.outstanding g.2) =
      ((l.any fun g => maskNames g.1 bit && s.outstanding g.2) || (maskNames mask bit && s.outstanding ids)) := by
  have dropped : ((l.filter fun g => s.outstanding g.2).any fun g => maskNames g.1 bit && s.outstanding g.2) =
      l.any fun g => maskNames g.1 bit && s.outstanding g.2 := by
    rw [List.any_filter]
    congr 1
    funext g
    cases s.outstanding g.2 <;> simp
  rw [State.fencesWith, List.any_append, dropped]
  cases ids with
  | nil => simp [State.outstanding]
  | cons a l => simp

/-- The operations that a new fence waits for are outstanding, if there are any. -/
theorem State.outstanding_fenceSet (s : State) (e k mask : Nat) :
    s.outstanding (s.fenceSet e k mask) = true ↔ ∃ o ∈ s.ops, o.e = e ∧ o.t = k ∧ (mask = 0 ∨ bitOf mask o.kind.fenceBit = true) := by
  have found {o : Op} (h : o ∈ s.ops) : (s.findOp o.id).isSome = true := by
    rw [State.findOp, List.find?_isSome]
    exact ⟨o, h, beq_self_eq_true _⟩
  simp only [State.outstanding, State.fenceSet, State.opsOf, List.any_map, List.any_eq_true, List.mem_filter, Bool.and_eq_true,
    beq_iff_eq, Bool.or_eq_true, Function.comp]
  constructor
  · rintro ⟨o, ⟨⟨mem, he, hk⟩, named⟩, _⟩
    exact ⟨o, mem, he, hk, named⟩
  · rintro ⟨o, mem, he, hk, named⟩
    exact ⟨o, ⟨⟨mem, he, hk⟩, named⟩, found mem⟩

theorem fence_goes {i : Iss} {f : FmtX} {s : State} (rs1 : f.rs1 = 0) (rd : f.rd = 0) (small : f.imm.toNat < 128)
    (h : Issues s i (infoX [] [])) :
    GoesTo (.fence i f) s i
      { (s.me i).next with
        fences := s.fencesWith (s.me i).fences f.imm.toNat (s.fenceSet i.e.val i.t.val f.imm.toNat) } := by
  have found (d : Info) (id : Nat) : (issued s i d).findOp id = s.findOp id := by rw [State.findOp, issued_ops, State.findOp]
  have goes := goesTo_retire (exec_go (c := .fence i f) rfl (illIf_false (by simp [rs1, rd, small])) h rfl)
  simp only [State.fenceSet, State.opsOf, issued_ops, found] at goes
  exact goes

/-- A load or store that a fence holds back stalls, its checks passed (R78). -/
theorem stalls_fenced {c : Instr} {s : State} {i : Iss} {d : Info} {body : State → Res}
    (eq : exec c s = .next (issue s i d none body)) (h : Issues s i d) (stall : body (issued s i d) = .stall) :
    Runs c s fun t => t.me i = { s.me i with st := .stalled, stallMem := true } ∧ t.ops = s.ops ∧ t.reqs = s.reqs ∧ t.dram = s.dram := by
  rw [issue_eq body h, stall] at eq
  obtain ⟨r, shape⟩ := s.corrected_shape i
  change exec c s = .next ((s.corrected i).stallStrand i.e.val i.t.val none true) at eq
  rw [shape] at eq
  refine ⟨_, eq, ?_⟩
  refine ⟨?_, rfl, rfl, rfl⟩
  rw [State.stallStrand, State.me, State.strand_setEng, State.strand_setStrand_same]
  rfl

theorem worldLoad_fenced {c : Instr} {s : State} {i : Iss} {f : FmtL} {kind : OpKind} {n dst : Nat} {writes : List Nat}
    (eq : exec c s = .next (worldLoad s i f kind n n dst writes false)) (h : Issues s i (infoMem f [] writes))
    (checks : (issued s i (infoMem f [] writes)).worldChecks i (eaL f (s.me i) n) n n .read f.dl = none)
    (fenced : s.fenced i.e.val i.t.val kind.fenceBit = true) :
    Runs c s fun t => t.me i = { s.me i with st := .stalled, stallMem := true } ∧ t.ops = s.ops ∧ t.reqs = s.reqs ∧ t.dram = s.dram := by
  rw [infoMem_nil] at h checks
  refine stalls_fenced eq h ?_
  simp only [issued_me, checks, fenced_issued, fenced, Bool.or_true, if_true]

theorem worldStore_fenced {c : Instr} {s : State} {i : Iss} {f : FmtL} {kind : OpKind} {n : Nat} {reads : List Nat}
    {data : Strand → Nat} (eq : exec c s = .next (worldStore s i f kind n n reads false data)) (h : Issues s i (infoMem f reads []))
    (checks : (issued s i (infoMem f reads [])).worldChecks i (eaL f (s.me i) n) n n .write f.dl = none)
    (fenced : s.fenced i.e.val i.t.val kind.fenceBit = true) :
    Runs c s fun t => t.me i = { s.me i with st := .stalled, stallMem := true } ∧ t.ops = s.ops ∧ t.reqs = s.reqs ∧ t.dram = s.dram := by
  rw [infoMem] at h checks
  refine stalls_fenced eq h ?_
  simp only [issued_me, checks, fenced_issued, fenced, Bool.or_true, if_true]

/-! ## YIELD (R97) -/

theorem OnlyStrand.setEng {s t : State} {i : Iss} (h : OnlyStrand s t i) (x : Eng) : OnlyStrand s (t.setEng i.e.val x) i := by
  obtain ⟨rest, strands, flds, engs⟩ := h
  exact ⟨rest, strands, flds, fun e he => (State.eng_setEng_ne _ _ _ _ he).trans (engs e he)⟩

/-- An instruction that takes a token of its own leaves its strand as the one selected last; one that joins a token leaves that as it
was (R29). -/
theorem rr_issued (s : State) (i : Iss) (d : Info) :
    ((issued s i d).eng i.e.val).rr = if s.pairs i.e.val i.t.val d then (s.eng i.e.val).rr else i.t.val := by
  obtain ⟨r, eq⟩ := s.corrected_shape i
  have token : issued s i d = (s.corrected i).takeToken i.e.val i.t.val d := rfl
  have eng : (s.corrected i).eng i.e.val = s.eng i.e.val := by rw [eq]; rfl
  have pairs : (s.corrected i).pairs i.e.val i.t.val d = s.pairs i.e.val i.t.val d := by rw [eq]; rfl
  rw [token, eng_takeToken, eng, pairs]
  split <;> rfl

/-- A strand selected last stands behind every other that may run (R29). -/
theorem State.not_selected_of_rr {s : State} {e k u : Nat} (rr : (s.eng e).rr = k) (hk : k < 16) (hu : u < 16) (other : u ≠ k)
    (runs : s.mayRun e u = true) : s.selected e k = false := by
  refine Bool.eq_false_iff.2 fun all => ?_
  have first := List.all_eq_true.1 all u (List.mem_range.2 hu)
  simp only [runs, rr, Bool.not_true, Bool.false_or, decide_eq_true_eq, rrDist] at first
  omega

theorem yield_goes {i : Iss} {f : FmtX} {s : State} (rs1 : f.rs1 = 0) (rd : f.rd = 0) (imm : f.imm = 0)
    (h : Issues s i (infoX [] [])) : exec (.yield i f) s = .next (((issued s i (infoX [] [])).retire i id).endToken i.e.val) :=
  exec_go rfl (illIf_false (by simp [rs1, rd, imm])) h rfl

/-- Settles O8: a fence joins those in force; YIELD leaves its strand the one selected last; a load or store under a fence stalls. -/
theorem fenceAndYieldResult : Obligations.FenceAndYieldResult := by
  unfold Obligations.FenceAndYieldResult
  refine ⟨fun i f s rs1 rd small h => ?_, fun i f s rs1 rd imm h joins => ?_, fun p hp i f s d hd h checks fenced => ?_⟩
  · obtain ⟨t, eq, me, only⟩ := fence_goes rs1 rd small h
    refine ⟨t, eq, only, ⟨_, me⟩, fun bit _ => ?_⟩
    obtain ⟨rest, _⟩ := only
    have ops : t.ops = s.ops := (congrArg State.ops rest :)
    have fenced : t.fenced i.e.val i.t.val bit = ((t.me i).fences.any fun g => maskNames g.1 bit && s.outstanding g.2) := by
      simp only [State.fenced, State.findOp, ops, State.outstanding]
      rfl
    rw [fenced, me, State.fencesWith_holds, Bool.or_eq_true, Bool.and_eq_true, State.outstanding_fenceSet, maskNames_iff]
    rfl
  · have rr : ((((issued s i (infoX [] [])).retire i id).endToken i.e.val).eng i.e.val).rr = i.t.val := by
      rw [State.endToken, State.eng_setEng_same]
      refine (rr_issued s i (infoX [] [])).trans ?_
      split
      · next pairs => exact joins pairs
      · rfl
    refine ⟨_, yield_goes rs1 rd imm h, ?_, ?_, ?_, rr, fun u hu other runs => State.not_selected_of_rr rr i.t.isLt hu other runs⟩
    · exact (retire_me _ i id).trans (by rw [issued_me]; rfl)
    · exact (retire_onlyStrand s i _ id).setEng _
    · rw [State.endToken, State.eng_setEng_same]
  · subst hd
    simp only [List.mem_cons, List.not_mem_nil, or_false] at hp
    obtain rfl | rfl | rfl := hp
    · exact worldLoad_fenced (c := .ld i f) rfl h checks fenced
    · exact worldLoad_fenced (c := .ldu i f) rfl h checks fenced
    · exact worldStore_fenced (c := .st i f) rfl h checks fenced

end Sys2Proof.Machine
end

section
/-!
PROOFS. The CSR, remote CSR and register instructions (O9), TRET (O11) and EVWAIT (O12).
-/

namespace Sys2Proof.Machine

set_option Elab.async false

/-! ## CSR.GET, CSR.PUT, CSR.MERGE, DLREL (R94, R99) -/

theorem csrDenied_issued (s : State) (i : Iss) (d : Info) (n : Nat) : (issued s i d).csrDenied i n = s.csrDenied i n := by
  rw [State.csrDenied, issued_me, State.csrDenied]

theorem goesTo_csrGet {i : Iss} {f : FmtX} {s : State} (rs1 : f.rs1 = 0) (good : csrIll f.imm.toNat false = false)
    (may : s.csrDenied i f.imm.toNat = false) (h : Issues s i (infoX (csrP f.imm.toNat) (gN f.rd))) :
    GoesTo (.csrGet i f) s i
      ((s.me i).wg f.rd.toNat (csrValue s i (infoX (csrP f.imm.toNat) (gN f.rd)) f.imm.toNat)).next := by
  have goes := goesTo_retire (exec_go (c := .csrGet i f) rfl (illIf_false (by simp [rs1, good])) h (if_neg (by simp [csrDenied_issued, may])))
  simp only [issued_me] at goes
  exact goes

theorem goesTo_csrPut {i : Iss} {f : FmtX} {s : State} (rd : f.rd = 0) (good : csrIll f.imm.toNat true = false)
    (may : s.csrDenied i f.imm.toNat = false) (h : Issues s i (infoX (gN f.rs1) (csrP f.imm.toNat))) :
    GoesTo (.csrPut i f) s i ((s.me i).writeCsr f.imm.toNat ((s.me i).rg f.rs1.toNat)).next :=
  goesTo_retire (exec_go (c := .csrPut i f) rfl (illIf_false (by simp [rd, good])) h (if_neg (by simp [csrDenied_issued, may])))

theorem goesTo_csrMerge {i : Iss} {f : FmtX} {s : State} (good : csrIll f.imm.toNat true = false)
    (may : s.csrDenied i f.imm.toNat = false) (h : Issues s i (infoX (gN f.rs1 ++ gN f.rd) (csrP f.imm.toNat))) :
    GoesTo (.csrMerge i f) s i ((s.me i).writeCsr f.imm.toNat
      ((csrValue s i (infoX (gN f.rs1 ++ gN f.rd) (csrP f.imm.toNat)) f.imm.toNat &&& ~~~ (s.me i).rg f.rd.toNat) |||
        ((s.me i).rg f.rs1.toNat &&& (s.me i).rg f.rd.toNat))).next := by
  have goes := goesTo_retire (exec_go (c := .csrMerge i f) rfl (illIf_false good) h (if_neg (by simp [csrDenied_issued, may])))
  simp only [issued_me] at goes
  exact goes

theorem goesTo_dlrel {i : Iss} {f : FmtX} {s : State} (imm : f.imm = 0) (small : f.rd.toNat < 8)
    (h : Issues s i (infoX (gN f.rs1) [56 + f.rd.toNat])) :
    GoesTo (.dlrel i f) s i ((s.me i).wdl f.rd.toNat (BitVec.ofNat 64 s.tb + (s.me i).rg f.rs1.toNat)).next := by
  have goes := goesTo_retire (exec_go (c := .dlrel i f) rfl (illIf_false (by simp [imm, psOk, small])) h rfl)
  simp only [issued_tb] at goes
  exact goes

/-! ## REGRD, REGWR, XCSRR, XCSRW (R98) -/

theorem remoteTarget_eq (v : Word64) : remoteTarget v = (v.toNat % 64, v.toNat / 256 % 16) := by simp [remoteTarget, bitsOf]

theorem exec_regrd {i : Iss} {f : FmtX} {s : State} (imm : f.imm = 0) (may : s.unprivileged i = false)
    (aligned : ((s.me i).rg f.rs1.toNat).toNat % 4 = 0)
    (free : (issued s i (infoX (gN f.rs1) (gN f.rd))).fenced i.e.val i.t.val 6 = false) (h : Issues s i (infoX (gN f.rs1) (gN f.rd))) :
    let r := (issued s i (infoX (gN f.rs1) (gN f.rd))).regRead (pathOf i) ((s.me i).rg f.rs1.toNat).toNat
    exec (.regrd i f) s = .next (r.2.retire i fun y => y.wg f.rd.toNat (BitVec.ofNat 64 r.1)) := by
  refine exec_go rfl (illIf_false (by simp [imm])) h ?_
  simp only [infoX] at free
  simp only [infoX, issued_me, unprivileged_issued, may, aligned, free, Bool.false_eq_true, ne_eq, not_true_eq_false, if_false]

theorem exec_regwr {i : Iss} {f : FmtX} {s : State} (imm : f.imm = 0) (may : s.unprivileged i = false)
    (aligned : ((s.me i).rg f.rs1.toNat).toNat % 4 = 0)
    (free : (issued s i (infoX (gN f.rs1 ++ gN f.rd) [])).fenced i.e.val i.t.val 6 = false)
    (h : Issues s i (infoX (gN f.rs1 ++ gN f.rd) [])) :
    exec (.regwr i f) s = .next (((issued s i (infoX (gN f.rs1 ++ gN f.rd) [])).regWrite (pathOf i) ((s.me i).rg f.rs1.toNat).toNat
      (((s.me i).rg f.rd.toNat).toNat % 2 ^ 32)).2.retire i id) := by
  refine exec_go rfl (illIf_false (by simp [imm])) h ?_
  simp only [infoX] at free
  simp only [infoX, issued_me, unprivileged_issued, may, aligned, free, bitsOf, Bool.false_eq_true, ne_eq, not_true_eq_false, if_false,
    pow_zero, Nat.div_one]

theorem goesTo_xcsrr {i : Iss} {f : FmtX} {s : State} (known : (csrKind f.imm.toNat).isSome = true) (may : s.unprivileged i = false)
    (free : (issued s i (infoX (gN f.rs1) (gN f.rd))).fenced i.e.val i.t.val 6 = false) (h : Issues s i (infoX (gN f.rs1) (gN f.rd))) :
    let e := ((s.me i).rg f.rs1.toNat).toNat % 64
    let u := ((s.me i).rg f.rs1.toNat).toNat / 256 % 16
    GoesTo (.xcsrr i f) s i ((s.me i).wg f.rd.toNat
      (if (issued s i (infoX (gN f.rs1) (gN f.rd))).remoteOn e then
        (issued s i (infoX (gN f.rs1) (gN f.rd))).readCsr e u f.imm.toNat false else 0)).next := by
  intro e u
  refine goesTo_retire (d := infoX (gN f.rs1) (gN f.rd)) (u := fun x => x.wg f.rd.toNat
    (if (issued s i (infoX (gN f.rs1) (gN f.rd))).remoteOn e then
      (issued s i (infoX (gN f.rs1) (gN f.rd))).readCsr e u f.imm.toNat false else 0))
    (exec_go rfl (illIf_false (by simp [known])) h ?_)
  simp only [infoX] at free
  simp only [infoX, issued_me, unprivileged_issued, may, free, remoteTarget_eq, Bool.false_eq_true, if_false, e, u]
  rfl

/-- XCSRW of a privileged strand to a strand that is TRAPPED or DISABLED, or to an engine that is absent or off, behind no fence. -/
theorem exec_xcsrw {i : Iss} {f : FmtX} {s : State} {e u : Nat} (writable : (csrKind f.imm.toNat).map (·.2) = some true)
    (he : e = ((s.me i).rg f.rs1.toNat).toNat % 64) (hu : u = ((s.me i).rg f.rs1.toNat).toNat / 256 % 16)
    (still : (issued s i (infoX (gN f.rs1 ++ gN f.rd) [])).remoteOn e = true → (s.strand e u).st = .trapped ∨ (s.strand e u).st = .disabled)
    (may : s.unprivileged i = false) (free : (issued s i (infoX (gN f.rs1 ++ gN f.rd) [])).fenced i.e.val i.t.val 6 = false)
    (h : Issues s i (infoX (gN f.rs1 ++ gN f.rd) [])) :
    exec (.xcsrw i f) s = .next ((if (issued s i (infoX (gN f.rs1 ++ gN f.rd) [])).remoteOn e then
      (issued s i (infoX (gN f.rs1 ++ gN f.rd) [])).setStrand e u ((s.strand e u).writeCsr f.imm.toNat ((s.me i).rg f.rd.toNat))
      else issued s i (infoX (gN f.rs1 ++ gN f.rd) [])).retire i id) := by
  refine exec_go rfl (illIf_false (by simp [writable])) h ?_
  have idle : ((issued s i (infoX (gN f.rs1 ++ gN f.rd) [])).remoteOn e &&
      !(decide ((s.strand e u).st = .trapped) || decide ((s.strand e u).st = .disabled))) = false := by
    cases on : (issued s i (infoX (gN f.rs1 ++ gN f.rd) [])).remoteOn e with
    | false => rfl
    | true => obtain trapped | disabled := still on
              · simp [trapped]
              · simp [disabled]
  simp only [infoX] at free idle
  subst he hu
  simp only [infoX, issued_me, issued_strand, remoteTarget_eq, unprivileged_issued, may, free, idle, Bool.false_eq_true, if_false]
  rfl

/-- Settles O9: each instruction comes to its own part, whose checks find nothing. -/
theorem csrAndRegisterResult : Obligations.CsrAndRegisterResult := by
  unfold Obligations.CsrAndRegisterResult
  refine ⟨⟨fun i f s rs1 good may h => goesTo_csrGet rs1 good may h, fun i f s rd good may h => goesTo_csrPut rd good may h,
    fun i f s good may h => goesTo_csrMerge good may h, fun i f s imm small h => goesTo_dlrel imm small h⟩,
    fun i f s d hd imm may aligned free h => ?_, fun i f s d hd imm may aligned free h => ?_,
    fun i f s d e u hd known may free he hu h => ?_, fun i f s d e u hd writable may free he hu on still h => ?_,
    fun i f s d e u hd writable he hu h => ⟨fun on trapped disabled => ?_, fun off may free => ?_⟩⟩
  all_goals subst hd
  · exact exec_regrd imm may aligned free h
  · exact exec_regwr imm may aligned free h
  · subst he hu
    exact goesTo_xcsrr known may free h
  · have eq := exec_xcsrw writable he hu (fun _ => still) may free h
    rw [if_pos on] at eq
    have apart : skey e u ≠ skey i.e.val i.t.val := by
      have hu16 : u < 16 := by omega
      refine skey_ne i.t.isLt hu16 fun same => ?_
      obtain ⟨rfl, rfl⟩ := Prod.mk.inj same
      obtain ⟨ready, _⟩ := h
      change (s.me i).st = _ ∨ (s.me i).st = _ at still
      simp [ready] at still
    refine ⟨_, eq, ?_, ?_, ?_⟩
    · rw [State.retire, State.strand_setStrand_ne _ _ _ _ _ _ apart, State.strand_setStrand_same]
    · rw [retire_me, State.me, State.strand_setStrand_ne _ _ _ _ _ _ apart.symm, issued_strand]
      rfl
    · obtain ⟨r, g, p, shape⟩ := issued_shape s i (infoX (gN f.rs1 ++ gN f.rd) [])
      rw [shape]
      rfl
  · refine runs_trap (tr := { cause := .illegal, sub := 1 }) (c := .xcsrw i f) rfl (illIf_false (by simp [writable])) h ?_
    subst he hu
    simp only [infoX] at on
    simp only [issued_me, issued_strand, remoteTarget_eq, on, trapped, disabled, decide_false, Bool.or_self, Bool.not_false,
      Bool.and_self, if_true]
  · have eq := exec_xcsrw writable he hu (fun on => absurd (on.symm.trans off) (by decide)) may free h
    rw [if_neg (by simp [off])] at eq
    exact goesTo_retire eq

/-! ## TRET (R96) -/

/-- Settles O11: the strand's own record is all that the return writes. -/
theorem tretResult : Obligations.TretResult := by
  unfold Obligations.TretResult
  intro i f s rs1 rd imm h
  have good : illIf (f.rs1 != 0 || f.rd != 0 || f.imm != 1) = none := illIf_false (by simp [rs1, rd, imm])
  refine ⟨fun inside => ⟨_, exec_go (c := .tret i f) rfl good h (if_pos (by rw [issued_me, inside])), ?_, ?_⟩, fun outside => ?_⟩
  · change State.me ((issued s i _).trapReturn i.e.val i.t.val) i = _
    rw [State.me, State.trapReturn, State.strand_setStrand_same, issued_strand]
    rfl
  · exact (setStrand_onlyStrand s i _ _).setEng _
  · exact runs_trap (c := .tret i f) (tr := { cause := .illegal, sub := 1 }) rfl good h (if_neg (by simp [outside]))

/-! ## EVWAIT (R98) -/

/-- The strand of the SV goes on past its EVWAIT with the reasons in its register. -/
theorem strand_evReturn (s : State) (t rd r : Nat) : (s.evReturn t rd r).strand 34 t =
    { (s.strand 34 t).wg rd (BitVec.ofNat 64 r) with st := .ready, wait := none, pc := (s.strand 34 t).pc + 1 } := by
  exact State.strand_setStrand_same s 34 t
    { (s.strand 34 t).wg rd (BitVec.ofNat 64 r) with st := .ready, wait := none, pc := (s.strand 34 t).pc + 1 }

/-- A strand that enters a wait stays at its instruction. -/
theorem strand_enterWait (s : State) (e t : Nat) (w : Wait) : (s.enterWait e t w).strand e t =
    { s.strand e t with st := .waiting, wait := some w, waitSince := s.tb } := by
  simp [State.enterWait]

/-- Settles O12: EVWAIT either returns or enters its wait, and the wake is the same return. -/
theorem evwaitResult : Obligations.EvwaitResult := by
  unfold Obligations.EvwaitResult
  refine ⟨fun i f s d r hd rs1 small sv hr h => ?_, fun i f s rs1 small ce h => ?_, fun u s rd n r waits event hr some_reason => ?_⟩
  · have good : illIf (f.rs1 != 0 || decide (8 ≤ f.imm.toNat)) = none := illIf_false (by simp [rs1, small])
    have mod : f.imm.toNat % 8 = f.imm.toNat := Nat.mod_eq_of_lt small
    subst hd hr
    by_cases none : (issued s i (infoX [] (gN f.rd))).evReasons ((s.me i).rdl f.imm.toNat) = 0
    · refine ⟨_, exec_go (c := .evwait i f) rfl good h
        ((if_neg (by simp [sv])).trans (if_pos (by rw [issued_me, mod]; exact none))), fun some => absurd none some, fun _ => ?_⟩
      rw [State.me, State.me, sv, strand_enterWait, mod, issued_strand]
      exact ⟨rfl, rfl, rfl⟩
    · refine ⟨_, exec_go (c := .evwait i f) rfl good h
        ((if_neg (by simp [sv])).trans (if_neg (by rw [issued_me, mod]; exact none))), fun _ => ?_, fun no => absurd no none⟩
      rw [State.me, sv, strand_evReturn, issued_me, issued_strand, mod, State.me, sv]
      rfl
  · have good : illIf (f.rs1 != 0 || decide (8 ≤ f.imm.toNat)) = none := illIf_false (by simp [rs1, small])
    obtain ⟨t, eq, trapped, regs, pc, _⟩ := runs_trap (c := .evwait i f) (tr := { cause := .illegal, sub := 1 }) rfl good h (if_pos ce)
    exact ⟨t, eq, trapped, by rw [regs]; rfl, pc⟩
  · refine ⟨_, rfl, ?_⟩
    subst hr
    simp only [State.evWake, event, waits, some_reason, ne_eq, not_true_eq_false, or_self, if_false]
    exact strand_evReturn ..

end Sys2Proof.Machine
end

section
/-!
PROOFS. FILL and the scratch DMA transfers start (O6).
-/

namespace Sys2Proof.Machine

set_option Elab.async false

/-! ## The operation entered last -/

/-- The operation entered last, behind those of `l`, none of which has its number. -/
def LastOp (s : State) (l : List Op) (o : Op) : Prop := s.ops = l ++ [o] ∧ ∀ q ∈ l, q.id ≠ o.id

/-- From `s` to `t` operations were written, requests sent and events counted, at most. -/
def Sends (s t : State) : Prop := ∃ o r n p f, t = { s with ops := o, reqs := r, nextReq := n, pm := p, free := f }

theorem Sends.trans {s t u : State} (h : Sends s t) (g : Sends t u) : Sends s u := by
  obtain ⟨_, _, _, _, _, rfl⟩ := h
  obtain ⟨o, r, n, p, f, rfl⟩ := g
  exact ⟨o, r, n, p, f, rfl⟩

theorem Sends.setOp {s t : State} (h : Sends s t) (x : Op) : Sends s (t.setOp x) := h.trans ⟨_, _, _, _, _, rfl⟩

theorem Sends.place {s t : State} (h : Sends s t) (wa : Nat) : t.place wa = s.place wa := by
  obtain ⟨_, _, _, _, _, rfl⟩ := h
  exact State.place_congr rfl rfl wa

theorem Sends.route {s t : State} (h : Sends s t) (l off : Nat) : t.route l off = s.route l off := by
  obtain ⟨_, _, _, _, _, rfl⟩ := h
  exact State.route_congr rfl rfl rfl l off

namespace LastOp

variable {s : State} {l : List Op} {o : Op}

theorem find (h : LastOp s l o) : s.findOp o.id = some o := by
  obtain ⟨ops, before⟩ := h
  have none_before : l.find? (fun q => q.id == o.id) = none := List.find?_eq_none.2 fun q hq => by simpa using before q hq
  simp [State.findOp, ops, List.find?_append, none_before]

theorem setOp (h : LastOp s l o) {x : Op} (same : x.id = o.id) : LastOp (s.setOp x) l x := by
  obtain ⟨ops, before⟩ := h
  refine ⟨?_, fun q hq => same ▸ before q hq⟩
  have kept : l.map (fun q => if q.id = o.id then x else q) = l :=
    (List.map_congr_left fun q hq => if_neg (before q hq)).trans l.map_id
  simp [State.setOp, ops, kept, same]

theorem mem (h : LastOp s l o) : o ∈ s.ops := h.1 ▸ List.mem_append_right _ (List.mem_singleton_self o)

theorem of_ops (h : LastOp s l o) {t : State} (ops : t.ops = s.ops) : LastOp t l o := ⟨ops.trans h.1, h.2⟩

/-! ## Its granules -/

variable {ch off : Nat} {r : Route}

theorem sendRead (h : LastOp s l o) {wa : Nat} (place : s.place wa = .at ch off) (route : s.route ch off = some r)
    (e t m len target cls : Nat) (kind : ReqKind) :
    LastOp (s.sendRead o.id e t m wa len target kind cls) l o ∧ Sends s (s.sendRead o.id e t m wa len target kind cls) := by
  rw [State.sendRead_routed h.find place route]
  exact ⟨h.of_ops rfl, _, _, _, _, _, rfl⟩

theorem sendWrite (h : LastOp s l o) {wa : Nat} (place : s.place wa = .at ch off) (route : s.route ch off = some r)
    (e t m target cls : Nat) (wr : SMap Byte) :
    LastOp (s.sendWrite o.id e t m wa wr target cls) l { o with need := r.wr.length } ∧
      Sends s (s.sendWrite o.id e t m wa wr target cls) := by
  rw [State.sendWrite_routed h.find place route]
  set v := s.setOp { o with need := r.wr.length }
  have last : LastOp v l { o with need := r.wr.length } := h.setOp rfl
  set f : Nat → Req := fun c => { id := 0, op := o.id, e := e, t := t, master := m, kind := .write, phys := c, gran := off / 64,
                                  waddr := wa, wr := wr, cls := cls, bulk := o.kind.bulk }
  have frame := v.foldl_sendReq_frame f target r.wr
  refine ⟨last.of_ops (congrArg State.ops frame :), ?_⟩
  generalize r.wr.foldl _ v = u at frame
  exact ⟨v.ops, u.reqs, u.nextReq, v.pm, v.free, congrArg (fun w : State => { w with reqs := u.reqs, nextReq := u.nextReq }) frame⟩

/-- The first granule of a transfer whose address is routed is sent. -/
theorem sendGranule (h : LastOp s l o) {id : Nat} (number : o.id = id) (bulk : o.kind.bulk = true) (first : o.prog = 0) (place : s.place o.addr = .at ch off)
    (route : s.route ch off = some r) :
    ∃ k, LastOp (s.sendGranule id) l { o with prog := 1, need := k } ∧ Sends s (s.sendGranule id) := by
  subst number
  have issued (cls : Nat) : let u := (s.setOp { o with prog := 1 }).granuleOcc o o.addr cls
      LastOp u l { o with prog := 1 } ∧ Sends s u := by
    obtain ⟨p, n, eq⟩ : Watched _ ((s.setOp { o with prog := 1 }).granuleOcc o o.addr cls) := (Watched.refl _).occ.sample
    rw [eq]
    exact ⟨(h.setOp (x := { o with prog := 1 }) rfl).of_ops rfl, _, _, _, _, _, rfl⟩
  have write (e t m target cls cls' : Nat) (wr : SMap Byte) :
      let u := ((s.setOp { o with prog := 1 }).granuleOcc o o.addr cls).sendWrite o.id e t m o.addr wr target cls'
      ∃ k, LastOp u l { o with prog := 1, need := k } ∧ Sends s u := by
    obtain ⟨last, sends⟩ := issued cls
    obtain ⟨last', sends'⟩ := last.sendWrite ((sends.place _).trans place) ((sends.route _ _).trans route) e t m target cls' wr
    exact ⟨_, last', sends.trans sends'⟩
  unfold State.sendGranule
  rw [h.find]
  simp only [first, Nat.mul_zero, Nat.add_zero, Nat.zero_add]
  split
  · obtain ⟨last, sends⟩ := issued (s.classOf o.addr)
    obtain ⟨last', sends'⟩ := last.sendRead ((sends.place _).trans place) ((sends.route _ _).trans route) o.e o.t (engMaster o.e) 64 o.dl
      (s.classOf o.addr) .read
    exact ⟨_, last', sends.trans sends'⟩
  · exact write ..
  · exact write ..
  · next not_in not_fill not_out => cases kind : o.kind <;> simp_all [OpKind.bulk]

/-! ## Scratch DMA -/

/-- A transfer begins: its first granule is sent. -/
theorem dmaBegin (h : LastOp s l o) (bulk : o.kind.bulk = true) (first : o.prog = 0) (place : s.place o.addr = .at ch off)
    (route : s.route ch off = some r) :
    ∃ k x y, LastOp (s.dmaBegin o.id) l { o with st := .sent, prog := 1, need := k } ∧
      Sends { s with scratch := x, svram := y } (s.dmaBegin o.id) := by
  unfold State.dmaBegin
  rw [h.find]
  set v := s.setOp { o with st := .sent, need := o.granules - o.prog }
  have last : LastOp v l { o with st := .sent, need := o.granules - o.prog } := h.setOp rfl
  obtain ⟨x, y, n, eq⟩ : ∃ x y n, (if o.kind = .sdmaIn ∧ o.prog = 0 then v.spanFree o.e o.a1 o.len else v) =
      { v with scratch := x, svram := y, free := n } := by
    split
    · obtain ⟨x, y, eq⟩ := v.wrScratch_shape o.e o.a1 (freeBytes v.freeVal o.len)
      exact ⟨x, y, v.free + 1, by rw [State.spanFree, eq]; rfl⟩
    · exact ⟨v.scratch, v.svram, v.free, rfl⟩
  dsimp only
  rw [eq]
  have sends : Sends { s with scratch := x, svram := y } { v with scratch := x, svram := y, free := n } := ⟨_, _, _, _, _, rfl⟩
  obtain ⟨k, last', sends'⟩ := (last.of_ops (t := { v with scratch := x, svram := y, free := n }) rfl).sendGranule rfl bulk first
    ((State.place_congr rfl rfl _).trans place) ((State.route_congr rfl rfl rfl _ _).trans route)
  exact ⟨k, x, y, last', sends.trans sends'⟩

theorem creditNext (h : LastOp s l o) {half : Nat} (asks : o.credit = .asked half) (alone : ∀ q ∈ l, ∀ h, q.credit ≠ .asked h)
    (free : s.creditFree half = true) : s.creditNext = some (o, half) := by
  unfold State.creditNext
  rw [h.1, List.findSome?_append]
  refine (congrArg (Option.or · _) (List.findSome?_eq_none_iff.2 fun q hq => ?_)).trans ?_
  · split
    · next half' eq => exact absurd eq (alone q hq half')
    · rfl
  · simp [asks, free]

end LastOp

theorem creditNext_none {s : State} (none_asks : ∀ q ∈ s.ops, ∀ h, q.credit ≠ .asked h) : s.creditNext = none := by
  refine List.findSome?_eq_none_iff.2 fun q hq => ?_
  split
  · next h eq => exact absurd eq (none_asks q hq h)
  · rfl

theorem grantCredits_none {s : State} (none_asks : ∀ q ∈ s.ops, ∀ h, q.credit ≠ .asked h) (n : Nat) : s.grantCredits n = s := by
  cases n with
  | zero => rfl
  | succ n => rw [State.grantCredits, creditNext_none none_asks]

/-- What a transfer that has its buffers leaves: the operation stands last, its strand keeps its place and its buffers, and engines
and memory are as they were. -/
def Begun (s t : State) (l : List Op) (o : Op) : Prop :=
  (∃ k c, LastOp t l { o with st := .sent, prog := 1, need := k, credit := c } ∧ ∀ h, c ≠ .asked h) ∧
    (t.strand o.e o.t).pc = (s.strand o.e o.t).pc ∧ (t.strand o.e o.t).dma = (s.strand o.e o.t).dma ∧ t.engs = s.engs ∧ t.dram = s.dram

namespace LastOp

variable {s : State} {l : List Op} {o : Op} {ch off : Nat} {r : Route}

theorem dmaBegin_begun (h : LastOp s l o) (bulk : o.kind.bulk = true) (first : o.prog = 0) (place : s.place o.addr = .at ch off)
    (route : s.route ch off = some r) (granted : ∀ half, o.credit ≠ .asked half) : Begun s (s.dmaBegin o.id) l o := by
  obtain ⟨k, x, y, last, _, _, _, _, _, eq⟩ := h.dmaBegin bulk first place route
  refine ⟨⟨k, o.credit, last, granted⟩, ?_⟩
  rw [eq]
  exact ⟨rfl, rfl, rfl, rfl⟩

theorem none_asks (h : LastOp s l o) (alone : ∀ q ∈ l, ∀ half, q.credit ≠ .asked half) (granted : ∀ half, o.credit ≠ .asked half) :
    ∀ q ∈ s.ops, ∀ half, q.credit ≠ .asked half := by
  rw [h.1]
  intro q hq
  obtain old | rfl := List.mem_append.1 hq |>.imp_right List.mem_singleton.1
  · exact alone q old
  · exact granted

/-- The transfer that alone asks for a credit that is free is granted it and begins. -/
theorem grantCredits (h : LastOp s l o) (bulk : o.kind.bulk = true) (first : o.prog = 0) (place : s.place o.addr = .at ch off)
    (route : s.route ch off = some r) {half : Nat} (asks : o.credit = .asked half) (alone : ∀ q ∈ l, ∀ half, q.credit ≠ .asked half)
    (free : s.creditFree half = true) (n : Nat) : Begun s (s.grantCredits (n + 1)) l o := by
  rw [State.grantCredits, h.creditNext asks alone free]
  dsimp only
  obtain ⟨v, woken, pc, dma, z, frame⟩ : ∃ v, (if (s.strand o.e o.t).wait = some (.credit o.id) then
        s.setStrand o.e o.t { s.strand o.e o.t with st := .ready, wait := none } else s) = v ∧
      (v.strand o.e o.t).pc = (s.strand o.e o.t).pc ∧ (v.strand o.e o.t).dma = (s.strand o.e o.t).dma ∧
      ∃ z, v = { s with strands := z } := by
    split
    · exact ⟨_, rfl, by rw [State.strand_setStrand_same], by rw [State.strand_setStrand_same], _, rfl⟩
    · exact ⟨s, rfl, rfl, rfl, _, rfl⟩
  rw [woken]
  have held : LastOp (v.setOp { o with credit := .held half }) l { o with credit := .held half } :=
    (h.of_ops (t := v) (by rw [frame])).setOp rfl
  have place' : (v.setOp { o with credit := .held half }).place o.addr = .at ch off := by
    rw [frame]
    exact (State.place_congr rfl rfl _).trans place
  have route' : (v.setOp { o with credit := .held half }).route ch off = some r := by
    rw [frame]
    exact (State.route_congr rfl rfl rfl _ _).trans route
  obtain ⟨⟨k, c, last, granted⟩, pc', dma', engs, dram⟩ := held.dmaBegin_begun bulk first place' route' (by simp)
  rw [grantCredits_none (last.none_asks alone granted)]
  exact ⟨⟨k, c, last, granted⟩, pc'.trans pc, dma'.trans dma, engs.trans (by rw [frame]; rfl), dram.trans (by rw [frame]; rfl)⟩

/-- A transfer that has its buffers begins: no other asks for a mesh credit, and every half has one free. -/
theorem dmaStart (h : LastOp s l o) {id : Nat} (number : o.id = id) (bulk : o.kind.bulk = true) (first : o.prog = 0) (place : s.place o.addr = .at ch off)
    (route : s.route ch off = some r) (none : o.credit = .none) (alone : ∀ q ∈ l, ∀ half, q.credit ≠ .asked half)
    (free : ∀ half, s.creditFree half = true) : Begun s (s.dmaStart id) l o := by
  subst number
  unfold State.dmaStart
  rw [h.find]
  dsimp only
  split
  · exact h.dmaBegin_begun bulk first place route (by simp [none])
  · next half path =>
    have asks : LastOp (s.setOp { o with st := .sent, credit := .asked half, need := 0 }) l
        { o with st := .sent, credit := .asked half, need := 0 } := h.setOp rfl
    have free' : (s.setOp { o with st := .sent, credit := .asked half, need := 0 }).creditFree half = true := by
      have before := free half
      simpa [State.creditFree, asks.1, h.1, none] using before
    obtain ⟨⟨k, c, last, granted⟩, rest⟩ := asks.grantCredits bulk first ((State.place_congr rfl rfl _).trans place)
      ((State.route_congr rfl rfl rfl _ _).trans route) rfl alone free' 63
    have no_wait : ((s.setOp { o with st := .sent, credit := .asked half, need := 0 }).grantCredits 64).ops.any
        (fun q => q.id == o.id && decide (q.credit = .asked half)) = false := by
      refine List.any_eq_false.2 fun q hq => ?_
      simp [last.none_asks alone granted q hq half]
    rw [no_wait]
    exact ⟨⟨k, c, last, granted⟩, rest⟩

end LastOp

/-! ## O6 -/

theorem issued_dmaFree (s : State) (i : Iss) (d : Info) : ((issued s i d).eng i.e.val).dmaFree = (s.eng i.e.val).dmaFree := by
  obtain ⟨r, eq⟩ := s.corrected_shape i
  have token : issued s i d = (s.corrected i).takeToken i.e.val i.t.val d := rfl
  have eng : (s.corrected i).eng i.e.val = s.eng i.e.val := by rw [eq]; rfl
  rw [token, eng_takeToken, eng]
  split <;> rfl

theorem startOp_dmaFree (s : State) (i : Iss) {o : Op} (ent : o.kind.isEnt = false) (ses : o.kind.isSes = false) :
    (((s.startOp i o).advance i).eng i.e.val).dmaFree = (s.eng i.e.val).dmaFree := by
  have watched (x : Occ) (y : Sample) :
      Watched s ((if o.kind.bulk then s else (s.occ x).sample x y).meshOcc false { o with e := i.e.val }) := by
    split
    · exact (Watched.refl s).meshOcc
    · exact (Watched.refl s).occ.sample.meshOcc
  have unstruck (u : State) : (if i.sram = .double then u.strike o else u) = u := by simp [State.strike, ent, ses]
  unfold State.startOp
  simp only [unstruck]
  obtain ⟨p, n, eq⟩ := watched _ _
  rw [eq]
  split
  · rfl
  · rw [State.advance, State.retire, State.eng_setStrand, State.countIssued, State.eng_setEng_same]
    rfl

/-- The operation that started stands last. -/
theorem started_last {s : State} {i : Iss} {d : Info} {o : Op} (ent : o.kind.isEnt = false) (ses : o.kind.isSes = false)
    (fresh : Fresh s) : LastOp (((issued s i d).startOp i o).advance i) s.ops (o.entered (issued s i d) i) := by
  have eq := (issued s i d).startOp_advance i ent ses
  refine ⟨?_, fun q hq => ?_⟩
  · rw [← issued_ops s i d]
    exact (congrArg State.ops eq :)
  · have := fresh q hq
    change q.id ≠ (issued s i d).nextOp
    rw [issued_nextOp]
    omega

theorem firstTrap_cons_false (t : Trap) (l : List (Bool × Trap)) : firstTrap ((false, t) :: l) = firstTrap l := rfl

theorem bulkLenOk_of {n top : Nat} (whole : n % 64 = 0) (low : 64 ≤ n) (high : n ≤ top) : bulkLenOk n top = true := by
  simp [bulkLenOk, whole, low, high]

/-- A transfer of which the first granule is sent has started as its instruction started it. -/
theorem Starts.sends {s t u : State} {i : Iss} {kind : OpKind} {dst addr len : Nat} {l : List Op} {o : Op} {k : Nat}
    (h : Starts s t i kind dst addr len) (sent : LastOp u l { o with prog := 1, need := k }) (sends : Sends t u)
    (is : o.id = s.nextOp ∧ o.e = i.e.val ∧ o.t = i.t.val ∧ o.kind = kind ∧ o.dst = dst ∧ o.addr = addr ∧ o.len = len ∧
      o.fpc = (s.me i).pc) : Starts s u i kind dst addr len := by
  obtain ⟨_, rest⟩ := h
  refine ⟨⟨_, sent.mem, is⟩, ?_⟩
  obtain ⟨_, _, _, _, _, rfl⟩ := sends
  exact rest

theorem fill_starts {i : Iss} {f : FmtE} {s : State} {a : Word64} {n : Nat} (ha : a = (s.me i).rg f.rs1.toNat)
    (hn : n = ((s.me i).rg f.rs2.toNat).toNat) (fresh : Fresh s) (ok : BulkOk s i (infoE f) a n .fill f.dl) (high : n ≤ 2 ^ 31)
    (whole : a.toNat / 2 ^ 31 = (a.toNat + n - 1) / 2 ^ 31) (room : (issued s i (infoE f)).lsqRoom i.e.val i.t.val = true)
    (free : (issued s i (infoE f)).fenced i.e.val i.t.val 3 = false) {l off : Nat} {r : Route} (place : s.place a.toNat = .at l off)
    (route : s.route l off = some r) : ∃ t, exec (.fill i f) s = .next t ∧ Starts s t i .fill 255 a.toNat n := by
  obtain ⟨issues, multiple, low, aligned, range, deadline⟩ := ok
  have len := bulkLenOk_of multiple low high
  subst ha hn
  refine ⟨_, rfl, ?_⟩
  simp only [infoE] at range deadline room free issues
  rw [issue_eq _ issues]
  simp only [issued_me, len, aligned, range, whole, deadline, firstTrap, room, free, bne_self_eq_false, Bool.or_self, Bool.not_true,
    Bool.false_eq_true, if_false, issued_nextOp]
  set o : Op := { id := 0, e := 0, t := 0, kind := .fill, addr := ((s.me i).rg f.rs1.toNat).toNat,
                  a1 := ((s.me i).rg f.rd.toNat).toNat, len := ((s.me i).rg f.rs2.toNat).toNat,
                  dl := ((s.me i).rdl f.dl.toNat).toNat }
  obtain ⟨_, starts, place', route'⟩ := started_found (i := i) (d := infoE f) (o := o) rfl rfl fresh place route
  have last := started_last (i := i) (d := infoE f) (o := o) rfl rfl fresh
  have number : (o.entered (issued s i (infoE f)) i).id = s.nextOp := issued_nextOp ..
  simp only [infoE] at starts last number place' route'
  obtain ⟨k, sent, sends⟩ := last.sendGranule number rfl rfl place' route'
  exact starts.sends sent sends ⟨number, rfl, rfl, rfl, rfl, rfl, rfl, by rw [← issued_me s i i (infoE f)]; rfl⟩

theorem sdma_starts {c : Instr} {i : Iss} {f : FmtE} {s : State} {kind : OpKind} {b : RangeBit} {a sc : Word64} {n : Nat}
    (eq : exec c s = .next (sdma s i f kind b)) (bulk : kind.bulk = true) (ent : kind.isEnt = false) (ses : kind.isSes = false)
    (ha : a = (s.me i).rg f.rs1.toNat) (hn : n = ((s.me i).rg f.rs2.toNat).toNat) (hsc : sc = (s.me i).rg f.rd.toNat)
    (fresh : Fresh s) (ok : BulkOk s i (infoE f) a n b f.dl) (high : n ≤ 32768) (aligned' : sc.toNat % 64 = 0)
    (reach : sc.toNat + n ≤ s.scratchReach i) (idle : (s.me i).dma = 0) (free : (issued s i (infoE f)).fenced i.e.val i.t.val 4 = false)
    (buffers : dmaBufs n ≤ (s.eng i.e.val).dmaFree) {l off : Nat} {r : Route} (place : s.place a.toNat = .at l off)
    (route : s.route l off = some r) (credits : ∀ h, s.creditFree h = true) (alone : ∀ o ∈ s.ops, ∀ h, o.credit ≠ .asked h) :
    ∃ t, exec c s = .next t ∧
      (∃ o ∈ t.ops, o.id = s.nextOp ∧ o.kind = kind ∧ o.addr = a.toNat ∧ o.a1 = sc.toNat ∧ o.len = n) ∧
      (t.me i).pc = (s.me i).pc + 1 ∧ (t.me i).dma = dmaBufs n ∧
      (t.eng i.e.val).dmaFree = (s.eng i.e.val).dmaFree - dmaBufs n ∧ t.dram = s.dram := by
  obtain ⟨issues, multiple, low, aligned, range, deadline⟩ := ok
  have len := bulkLenOk_of multiple low high
  subst ha hn hsc
  refine ⟨_, eq, ?_⟩
  have dmaFree := issued_dmaFree s i (infoE f)
  have reach' : ¬ s.scratchReach i < ((s.me i).rg f.rd.toNat).toNat + ((s.me i).rg f.rs2.toNat).toNat := by omega
  simp only [infoE] at range deadline free issues dmaFree
  rw [sdma, issue_eq _ issues]
  simp only [issued_me, len, aligned, aligned', range, deadline, scratchReach_issued, reach', idle, firstTrap, free, bne_self_eq_false,
    decide_false, Bool.not_true, Bool.false_eq_true, if_false, issued_nextOp, dmaFree, buffers, if_true]
  set o : Op := { id := 0, e := 0, t := 0, kind := kind, addr := ((s.me i).rg f.rs1.toNat).toNat,
                  a1 := ((s.me i).rg f.rd.toNat).toNat, a2 := dmaBufs ((s.me i).rg f.rs2.toNat).toNat,
                  len := ((s.me i).rg f.rs2.toNat).toNat, dl := ((s.me i).rdl f.dl.toNat).toNat } with ho
  obtain ⟨_, starts, place', route'⟩ := started_found (i := i) (d := infoE f) (o := o) ent ses fresh place route
  have started := started_last (i := i) (d := infoE f) (o := o) ent ses fresh
  have engFree := startOp_dmaFree (issued s i (infoE f)) i (o := o) ent ses
  obtain ⟨_, pc, _, _, _, _, _, dram, _⟩ := starts
  have number : (o.entered (issued s i (infoE f)) i).id = s.nextOp := issued_nextOp ..
  simp only [infoE] at started place' route' engFree pc dram number
  generalize ((issued s i { reads := gN f.rs1 ++ gN f.rs2 ++ gN f.rd, mem := true }).startOp i o).advance i = v at *
  have taken : (v.takeDma i.e.val i.t.val (dmaBufs ((s.me i).rg f.rs2.toNat).toNat)).strand i.e.val i.t.val =
      { v.me i with dma := dmaBufs ((s.me i).rg f.rs2.toNat).toNat } := State.strand_setStrand_same _ _ _ { v.me i with dma := _ }
  have last := started.of_ops (t := v.takeDma i.e.val i.t.val (dmaBufs ((s.me i).rg f.rs2.toNat).toNat)) rfl
  obtain ⟨⟨k, c, last', _⟩, pc', dma, engs, dram'⟩ := last.dmaStart number bulk rfl ((State.place_congr rfl rfl _).trans place')
    ((State.route_congr rfl rfl rfl _ _).trans route') rfl alone (fun half => by
      have before := credits half
      simpa [State.creditFree, last.1, Op.entered, ho] using before)
  refine ⟨⟨_, last'.mem, number, rfl, rfl, rfl, rfl⟩, ?_, ?_, ?_,
    dram'.trans dram⟩
  · exact (pc'.trans (congrArg Strand.pc taken)).trans pc
  · exact dma.trans (congrArg Strand.dma taken)
  · rw [State.eng, engs, ← dmaFree, ← engFree]
    exact congrArg Eng.dmaFree (State.eng_setEng_same ..)

/-- Settles O6: the transfer is entered last and its first granule sent; a scratch DMA has its credit at once where it needs one. -/
theorem bulkStarts : Obligations.BulkStarts := by
  unfold Obligations.BulkStarts
  refine ⟨fun i f s a n ha hn fresh ok high whole room free ⟨l, off, r, place, route⟩ =>
    fill_starts ha hn fresh ok high whole room free place route, ?_⟩
  simp only [List.forall_mem_cons]
  refine ⟨fun i f s a sc n ha hn hsc fresh ok high al reach idle free buffers ⟨l, off, r, place, route⟩ credits alone =>
      sdma_starts rfl rfl rfl rfl ha hn hsc fresh ok high al reach idle free buffers place route credits alone,
    fun i f s a sc n ha hn hsc fresh ok high al reach idle free buffers ⟨l, off, r, place, route⟩ credits alone =>
      sdma_starts rfl rfl rfl rfl ha hn hsc fresh ok high al reach idle free buffers place route credits alone,
    fun _ h => absurd h List.not_mem_nil⟩

end Sys2Proof.Machine
end

section
/-!
PROOFS. The entity and the session instructions start their request (O13).
-/

namespace Sys2Proof.Machine

set_option Elab.async false

/-! ## An operation on the directory or the session table starts -/

/-- The state in which an operation has been entered, and nothing else. -/
def State.enteredOp (s : State) (i : Iss) (o : Op) : State :=
  ({ s with ops := s.ops ++ [o.entered s i], nextOp := s.nextOp + 1 }).setStrand i.e.val i.t.val ((s.me i).awaiting o.dst)

theorem State.strike_shape (s : State) (o : Op) :
    ∃ x y, s.strike o = { s with ed := { s.ed with upset := x }, st := { s.st with upset := y } } := by
  unfold State.strike
  split
  · exact ⟨_, _, rfl⟩
  · split
    · exact ⟨_, _, rfl⟩
    · exact ⟨_, _, rfl⟩

/-- Of the units, an operation that starts touches the counts of its engine, the monitor's and the marks of struck words alone. -/
theorem State.startOp_shape (s : State) (i : Iss) (o : Op) :
    ∃ g p n x y, s.startOp i o = { s.enteredOp i o with
      engs := g, pm := p, free := n, ed := { s.ed with upset := x }, st := { s.st with upset := y } } := by
  have watched (x : Occ) (y : Sample) :
      Watched s ((if o.kind.bulk then s else (s.occ x).sample x y).meshOcc false { o with e := i.e.val }) := by
    split
    · exact (Watched.refl s).meshOcc
    · exact (Watched.refl s).occ.sample.meshOcc
  unfold State.startOp
  dsimp only
  obtain ⟨p, n, eq⟩ := watched _ _
  rw [eq]
  have struck (u : State) : ∃ x y, (if i.sram = .double then u.strike o else u) =
      { u with ed := { u.ed with upset := x }, st := { u.st with upset := y } } := by
    split
    · exact u.strike_shape o
    · exact ⟨_, _, rfl⟩
  split
  · next pub =>
    obtain ⟨x, y, eq'⟩ := struck _
    refine ⟨s.engs, p, n, x, y, eq'.trans ?_⟩
    simp only [State.enteredOp, Op.entered, pub]
    rfl
  · next tick pub =>
    obtain ⟨x, y, eq'⟩ := struck _
    rw [eq']
    exact ⟨(s.setEng i.e.val { s.eng i.e.val with issued := bumpPar (s.eng i.e.val).issued tick }).engs, p, n, x, y,
      by simp only [State.enteredOp, Op.entered, pub]; rfl⟩

theorem State.enteredOp_me (s : State) (i : Iss) (o : Op) : (s.enteredOp i o).me i = (s.me i).awaiting o.dst :=
  State.strand_setStrand_same ..

theorem State.startOp_me (s : State) (i : Iss) (o : Op) : (s.startOp i o).me i = (s.me i).awaiting o.dst := by
  obtain ⟨_, _, _, _, _, eq⟩ := s.startOp_shape i o
  rw [eq]
  exact s.enteredOp_me i o

theorem State.startOp_mem (s : State) (i : Iss) (o : Op) : o.entered s i ∈ (s.startOp i o).ops := by
  obtain ⟨_, _, _, _, _, eq⟩ := s.startOp_shape i o
  rw [eq]
  exact List.mem_append_right _ (List.mem_singleton_self _)

/-- The operation starts and the strand goes on, with the locks `ls` from now. -/
theorem starts_retire (s : State) (i : Iss) (d : Info) (o : Op) (ls : List Nat) :
    let t := ((issued s i d).startOp i o).retire i fun y => { y with locks := ls }
    Starts s t i o.kind o.dst o.addr o.len ∧ (t.me i).locks = ls := by
  intro t
  have me : t.me i = { ((s.me i).awaiting o.dst).next with locks := ls } := by
    refine (retire_me _ i _).trans ?_
    rw [State.startOp_me, issued_me]
    rfl
  refine ⟨starts_issued ⟨⟨_, (issued s i d).startOp_mem i o, rfl, rfl, rfl, rfl, rfl, rfl, rfl, rfl⟩, ?_⟩, by rw [me]⟩
  obtain ⟨_, _, _, _, _, eq⟩ := (issued s i d).startOp_shape i o
  rw [me, issued_me]
  refine ⟨rfl, rfl, rfl, fun _ => rfl, fun _ => rfl, rfl, ?_, ?_, ?_⟩
  · exact (congrArg State.dram eq :)
  · exact (congrArg State.scratch eq :)
  · exact (congrArg State.svram eq :)

theorem starts_advance (s : State) (i : Iss) (d : Info) (o : Op) :
    Starts s (((issued s i d).startOp i o).advance i) i o.kind o.dst o.addr o.len := by
  have locks : (((issued s i d).startOp i o).strand i.e.val i.t.val).locks = (s.me i).locks := by
    rw [← State.me, State.startOp_me, issued_me]
    rfl
  have same : ((issued s i d).startOp i o).advance i =
      ((issued s i d).startOp i o).retire i fun y => { y with locks := (s.me i).locks } := by
    rw [State.advance, State.retire, State.retire, ← locks]
    rfl
  rw [same]
  exact (starts_retire s i d o _).1

theorem State.enterWait_shape (s : State) (e t : Nat) (w : Wait) :
    ∃ z g p, s.enterWait e t w = { s with strands := z, engs := g, pm := p } := by
  obtain ⟨p, eq⟩ := occ_shape
    ((s.setStrand e t { s.strand e t with st := .waiting, wait := some w, waitSince := s.tb }).endToken e)
    { ev := 0x08, inst := e, title := (s.strand e t).title }
  exact ⟨_, _, p, eq⟩

/-- The operation starts and the strand waits for it. -/
theorem waits_enterWait (s : State) (i : Iss) (d : Info) (o : Op) (w : Wait) :
    Waits s (((issued s i d).startOp i o).enterWait i.e.val i.t.val w) i o.kind o.addr w := by
  have number := issued_nextOp s i d
  have dram : (issued s i d).dram = s.dram := (congrArg State.dram (issued_frame s i d) :)
  have ses : (issued s i d).ses = s.ses := (congrArg State.ses (issued_frame s i d) :)
  have me : (((issued s i d).startOp i o).enterWait i.e.val i.t.val w).me i =
      { (s.me i).awaiting o.dst with st := .waiting, wait := some w, waitSince := ((issued s i d).startOp i o).tb } := by
    rw [State.me, strand_enterWait, ← State.me, State.startOp_me, issued_me]
  have entered := (issued s i d).startOp_mem i o
  obtain ⟨_, _, _, _, _, eq⟩ := (issued s i d).startOp_shape i o
  obtain ⟨_, _, _, wait⟩ := ((issued s i d).startOp i o).enterWait_shape i.e.val i.t.val w
  refine ⟨⟨o.entered (issued s i d) i, ?_, number, rfl, rfl, rfl, rfl⟩, by rw [me], by rw [me], by rw [me]; rfl, fun n => by rw [me]; rfl, ?_⟩
  · rw [wait]
    exact entered
  · rw [wait, eq]
    exact ⟨dram, congrArg (fun x : Ed => { x with upset := s.ed.upset }) (issued_ed s i d), ses⟩

/-! ## The entity instructions (R81 to R86) -/

theorem entOp_starts {c : Instr} {s : State} {i : Iss} {f : FmtE} {kind : OpKind} {reads : List Nat} {bad : Bool} {dst : Nat}
    {own : State → List (Bool × Trap)} {upd : Strand → Nat → Strand} {d : Info} {ls : List Nat}
    (eq : exec c s = .next (entOp s i f kind reads bad dst own upd))
    (hd : d = { reads := gN f.rs1 ++ reads, writes := if dst = regNone then [] else gN f.rd, mem := true })
    (good : bad = false) (dl : f.dl = 0) (h : IssuesE s i d) (clear : firstTrap (own (issued s i d)) = none)
    (locks : ∀ x : Strand, x.locks = (s.me i).locks → upd x (hIndex ((s.me i).rg f.rs1.toNat).toNat) = { x with locks := ls }) :
    ∃ t, exec c s = .next t ∧ Starts s t i kind dst ((s.me i).rg f.rs1.toNat).toNat 0 ∧ (t.me i).locks = ls := by
  obtain ⟨issues, free⟩ := h
  refine ⟨_, eq, ?_⟩
  rw [entOp, ← hd, illIf_false (by simp [good, dl]), issue_eq _ issues]
  simp only [clear, free, Bool.false_eq_true, if_false, issued_me]
  set o : Op := { id := 0, e := 0, t := 0, kind := kind, dst := dst, addr := ((s.me i).rg f.rs1.toNat).toNat, a1 := _, a2 := _ }
  have same : ((issued s i d).startOp i o).retire i (fun y => upd y (hIndex ((s.me i).rg f.rs1.toNat).toNat)) =
      ((issued s i d).startOp i o).retire i fun y => { y with locks := ls } := by
    rw [State.retire, State.retire, locks]
    rw [← State.me, State.startOp_me, issued_me]
    rfl
  rw [same]
  exact starts_retire s i _ o ls

theorem gridCells_issued (s : State) (i : Iss) (d : Info) : (issued s i d).gridCells = s.gridCells := by
  have := i.e.isLt
  have field (f : Fld) (base : f.base = 0x300200) (small : f.lo < 32) : (issued s i d).fld f 0 0 = s.fld f 0 0 := by
    refine issued_fld s i d f 0 0 ?_
    simp only [issueKeys, fldKey, fldAddr, F.PM_TD_slots, F.CE_IMEM_ECC_corrected, F.SV_SRAM_ECC_corrected,
      List.mem_cons, List.not_mem_nil, or_false, not_or]
    omega
  rw [State.gridCells, field F.ED_GRID_xbits rfl (by decide), field F.ED_GRID_ybits rfl (by decide), State.gridCells]

theorem inView_issued (s : State) (i : Iss) (d : Info) (wa n : Nat) : (issued s i d).inView wa n = s.inView wa n := by
  have stripes : (issued s i d).stripes = s.stripes := by
    refine List.foldl_ext _ _ _ fun l n hn => ?_
    rw [issued_stripeRaw s i d (List.mem_range.1 hn)]
  rw [State.inView, stripes, State.inView]

theorem regG_ne_regNone (r : BitVec 5) : regG r.toNat ≠ regNone := by
  have := r.isLt
  unfold regG regNone
  omega

/-- ENT.GET: the operation reads the register of its handle, and the result's register awaits it. -/
theorem entGet_starts {c : Instr} {s : State} {i : Iss} {f : FmtE} {kind : OpKind}
    (eq : exec c s = .next (entOp s i f kind [] (f.rs2 != 0) (regG f.rd.toNat) (fun _ => []) keep)) (rs2 : f.rs2 = 0) (dl : f.dl = 0)
    (h : IssuesE s i { reads := gN f.rs1, writes := gN f.rd, mem := true }) :
    ∃ t, exec c s = .next t ∧ Starts s t i kind f.rd.toNat ((s.me i).rg f.rs1.toNat).toNat 0 ∧ (t.me i).locks = (s.me i).locks :=
  entOp_starts (dst := regG f.rd.toNat) eq (by rw [List.append_nil, if_neg (regG_ne_regNone _)]) (by simp [rs2]) dl h rfl fun x same => by rw [keep, ← same]

/-- The strand holds the lock that its register names. -/
theorem lockMissing_issued {s : State} {i : Iss} {f : FmtE} (d : Info)
    (holds : (s.me i).locks.contains (hIndex ((s.me i).rg f.rs1.toNat).toNat) = true) : (issued s i d).lockMissing i f = false := by
  simp only [State.lockMissing, issued_me, holds, Bool.not_true]

/-- ENT.UNLOCK and ENT.FREE: the strand's hold on the lock is given up with the request. -/
theorem entGive_starts {c : Instr} {s : State} {i : Iss} {f : FmtE} {kind : OpKind} {own : State → List (Bool × Trap)}
    (eq : exec c s = .next (entOp s i f kind [] (f.rs2 != 0 || f.rd != 0) regNone own giveLock)) (rs2 : f.rs2 = 0) (rd : f.rd = 0)
    (dl : f.dl = 0) (h : IssuesE s i { reads := gN f.rs1, mem := true })
    (clear : firstTrap (own (issued s i { reads := gN f.rs1, mem := true })) = none) :
    ∃ t, exec c s = .next t ∧ Starts s t i kind 255 ((s.me i).rg f.rs1.toNat).toNat 0 ∧
      (t.me i).locks = (s.me i).locks.filter (· != hIndex ((s.me i).rg f.rs1.toNat).toNat) :=
  entOp_starts (dst := regNone) eq (by rw [List.append_nil, if_pos rfl]) (by simp [rs2, rd]) dl h clear
    fun x same => by rw [giveLock, same]

/-- ENT.PUB and ENT.MOVE: the strand keeps its locks. -/
theorem entKeep_starts {c : Instr} {s : State} {i : Iss} {f : FmtE} {kind : OpKind} {own : State → List (Bool × Trap)}
    (eq : exec c s = .next (entOp s i f kind (gN f.rs2) (f.rd != 0) regNone own keep)) (rd : f.rd = 0) (dl : f.dl = 0)
    (h : IssuesE s i { reads := gN f.rs1 ++ gN f.rs2, mem := true })
    (clear : firstTrap (own (issued s i { reads := gN f.rs1 ++ gN f.rs2, mem := true })) = none) :
    ∃ t, exec c s = .next t ∧ Starts s t i kind 255 ((s.me i).rg f.rs1.toNat).toNat 0 := by
  obtain ⟨t, runs, starts, _⟩ := entOp_starts (dst := regNone) (ls := (s.me i).locks) eq (by rw [if_pos rfl]) (by simp [rd]) dl h clear
    fun x same => by rw [keep, ← same]
  exact ⟨t, runs, starts⟩

/-- ENT.NEW with a good descriptor and two slots in its grant and in one channel, outside every striped view. -/
theorem entNew_starts {s : State} {i : Iss} {f : FmtE} {a : Word64} {k : Nat} {d : Info}
    (hd : d = { reads := gN f.rs1 ++ gN f.rs2, writes := gN f.rd, mem := true }) (ha : a = (s.me i).rg f.rs1.toNat)
    (hk : k = ((s.me i).rg f.rs2.toNat).toNat) (dl : f.dl = 0) (h : IssuesE s i d) (may : (issued s i d).entState i = false)
    (desc : descBad k = false) (aligned : a.toNat % (64 * 2 ^ (k % 8)) = 0)
    (range : (issued s i d).rangeBad i a (2 * (64 * 2 ^ (k % 8))) .write = false)
    (one : a.toNat / 2 ^ 31 = (a.toNat + 2 * (64 * 2 ^ (k % 8)) - 1) / 2 ^ 31)
    (view : s.inView (a.toNat % 2 ^ 36) (2 * (64 * 2 ^ (k % 8))) = false) :
    ∃ t, exec (.entNew i f) s = .next t ∧ Starts s t i .entNew f.rd.toNat a.toNat 0 := by
  subst ha hk
  obtain ⟨t, runs, starts, _⟩ := entOp_starts (c := .entNew i f) (dst := regG f.rd.toNat) (ls := (s.me i).locks) rfl
    (by rw [hd, if_neg (regG_ne_regNone _)]) rfl dl h
    (by simp only [issued_me, firstTrap, may, desc, aligned, range, inView_issued, view, ← one, bne_self_eq_false,
      Bool.or_self, Bool.false_eq_true, if_false])
    fun x same => by rw [keep, ← same]
  exact ⟨t, runs, starts⟩

/-- ENT.LOCK: the order of R82 is kept, and the strand waits for its lock. -/
theorem entLock_waits {s : State} {i : Iss} {f : FmtE} (dl : f.dl = 0) (rs2 : f.rs2 = 0) (dma : (s.me i).dma = 0)
    (slots : (s.me i).slots = []) (order : ∀ k ∈ (s.me i).locks, k < hIndex ((s.me i).rg f.rs1.toNat).toNat)
    (few : (s.me i).locks.length < 8) (h : IssuesE s i { reads := gN f.rs1, writes := gN f.rd, mem := true }) :
    ∃ t, exec (.entLock i f) s = .next t ∧ Waits s t i .entLock ((s.me i).rg f.rs1.toNat).toNat
      (.lock s.nextOp (hIndex ((s.me i).rg f.rs1.toNat).toNat)) := by
  obtain ⟨issues, free⟩ := h
  have rank : ¬ 1 < (s.me i).rank := by simp [(s.me i).one_lt_rank, slots, dma]
  have below : (s.me i).locks.any (fun k => decide (hIndex ((s.me i).rg f.rs1.toNat).toNat ≤ k)) = false := by
    simpa [List.any_eq_false] using order
  have room : ¬ 8 ≤ (s.me i).locks.length := by omega
  refine ⟨_, exec_go (c := .entLock i f) rfl (illIf_false (by simp [rs2, dl])) issues ?_, waits_enterWait s i { reads := gN f.rs1, writes := gN f.rd, mem := true }
    { id := 0, e := 0, t := 0, kind := .entLock, dst := regG f.rd.toNat, addr := ((s.me i).rg f.rs1.toNat).toNat } _⟩
  simp only [issued_me, firstTrap, rank, below, room, decide_false, free, Bool.false_eq_true, if_false, issued_nextOp]

/-! ## The session instructions (R87 to R90) -/

theorem lastPartOut_issued (s : State) (i : Iss) (d : Info) (e t n : Nat) : (issued s i d).lastPartOut e t n = s.lastPartOut e t n := by
  simp only [State.lastPartOut, State.opsOf, issued_ops]

theorem sesRecv_starts {s : State} {i : Iss} {f : FmtE} {d : Info} {a : Word64}
    (hd : d = { reads := gN f.rs1 ++ gN f.rs2, writes := gN f.rd, mem := true }) (ha : a = (s.me i).rg f.rs2.toNat)
    (aligned : a.toNat % 8 = 0) (reach : a.toNat + 2048 ≤ s.scratchReach i) (deadline : (issued s i d).dlBad i f.dl = false)
    (h : IssuesE s i d) : ∃ t, exec (.sesRecv i f) s = .next t ∧
      Starts s t i .sesRecv f.rd.toNat ((s.me i).rg f.rs1.toNat).toNat 2048 := by
  obtain ⟨issues, free⟩ := h
  subst hd ha
  have within : ¬ s.scratchReach i < ((s.me i).rg f.rs2.toNat).toNat + 2048 := by omega
  refine ⟨_, exec_go (c := .sesRecv i f) rfl rfl issues ?_, starts_advance s i { reads := gN f.rs1 ++ gN f.rs2, writes := gN f.rd, mem := true }
    { id := 0, e := 0, t := 0, kind := .sesRecv, dst := regG f.rd.toNat, addr := ((s.me i).rg f.rs1.toNat).toNat,
      a1 := ((s.me i).rg f.rs2.toNat).toNat, a2 := (s.me i).tick % 2 ^ 32, len := 2048, dl := ((s.me i).rdl f.dl.toNat).toNat }⟩
  simp only [issued_me, firstTrap, aligned, scratchReach_issued, within, deadline, decide_false, bne_self_eq_false, free,
    Bool.false_eq_true, if_false]

theorem sesInfo_starts {s : State} {i : Iss} {f : FmtE} (dl : f.dl = 0)
    (h : IssuesE s i { reads := gN f.rs1 ++ gN f.rs2, writes := gN f.rd, mem := true }) :
    ∃ t, exec (.sesInfo i f) s = .next t ∧ Starts s t i .sesInfo f.rd.toNat ((s.me i).rg f.rs1.toNat).toNat 0 := by
  obtain ⟨issues, free⟩ := h
  refine ⟨_, exec_go (c := .sesInfo i f) rfl (illIf_false (by simp [dl])) issues ?_,
    starts_advance s i { reads := gN f.rs1 ++ gN f.rs2, writes := gN f.rd, mem := true }
    { id := 0, e := 0, t := 0, kind := .sesInfo, dst := regG f.rd.toNat, addr := ((s.me i).rg f.rs1.toNat).toNat,
      a1 := ((s.me i).rg f.rs2.toNat).toNat }⟩
  simp only [issued_me, free, Bool.false_eq_true, if_false]

theorem sesInfoSet_starts {s : State} {i : Iss} {f : FmtE} {sel v : Nat} (hsel : sel = ((s.me i).rg f.rs2.toNat).toNat)
    (hv : v = ((s.me i).rg f.rd.toNat).toNat) (fits : sel = 2 ∧ v < 2 ^ 28 ∨ sel = 3 ∧ v < 2 ^ 16) (dl : f.dl = 0)
    (h : IssuesE s i { reads := gN f.rs1 ++ gN f.rs2 ++ gN f.rd, mem := true }) :
    ∃ t, exec (.sesInfoSet i f) s = .next t ∧ Starts s t i .sesInfoSet 255 ((s.me i).rg f.rs1.toNat).toNat 0 := by
  obtain ⟨issues, free⟩ := h
  have known : (sel == 2 || sel == 3) = true := by
    obtain ⟨rfl, _⟩ | ⟨rfl, _⟩ := fits <;> rfl
  have small : ¬ (if sel = 2 then 2 ^ 28 else 2 ^ 16) ≤ v := by
    obtain ⟨rfl, _⟩ | ⟨rfl, _⟩ := fits
    · simpa using ‹_›
    · simpa using ‹_›
  refine ⟨_, exec_go (c := .sesInfoSet i f) rfl (illIf_false (by simp [dl])) issues ?_,
    starts_advance s i { reads := gN f.rs1 ++ gN f.rs2 ++ gN f.rd, mem := true }
    { id := 0, e := 0, t := 0, kind := .sesInfoSet, addr := ((s.me i).rg f.rs1.toNat).toNat, a1 := sel, a2 := v }⟩
  simp only [issued_me, ← hsel, ← hv, firstTrap, known, small, decide_false, Bool.not_true, free, Bool.false_eq_true, if_false]

section Send

variable {s : State} {i : Iss} {f : FmtE} {d : Info} {a : Word64} {h w : Nat}

/-- The operation of a SES.SEND. -/
def sendOp (s : State) (i : Iss) (f : FmtE) (d : Info) (more : Bool) : Op :=
  { id := 0, e := 0, t := 0, kind := .sesSend, dst := regG f.rd.toNat, addr := ((s.me i).rg f.rs1.toNat).toNat,
    a1 := ((s.me i).rg f.rs2.toNat).toNat, a2 := ((s.me i).rg f.rd.toNat).toNat,
    data := (issued s i d).rdScratch i.e.val ((s.me i).rg f.rs2.toNat).toNat (sendLen ((s.me i).rg f.rd.toNat).toNat), prog := b2n more,
    dl := ((s.me i).rdl f.dl.toNat).toNat }

/-- A part of a message that nothing stops at issue (R89): a first part waits for its slot, a later one goes on. -/
theorem exec_sesSend (hd : d = { reads := gN f.rs1 ++ gN f.rs2 ++ gN f.rd, writes := gN f.rd, mem := true })
    (ha : a = (s.me i).rg f.rs2.toNat) (hh : h = ((s.me i).rg f.rs1.toNat).toNat) (hw : w = ((s.me i).rg f.rd.toNat).toNat)
    (good : sendBad w = false) (aligned : a.toNat % 8 = 0) (reach : a.toNat + sendLen w ≤ s.scratchReach i)
    (deadline : (issued s i d).dlBad i f.dl = false) (hE : IssuesE s i d) (out : s.lastPartOut i.e.val i.t.val (h / 2 ^ 14) = false)
    (order : (s.me i).slots.contains (h / 2 ^ 14) = true ∨ (s.me i).dma = 0 ∧ ∀ k ∈ (s.me i).slots, k < h / 2 ^ 14) :
    exec (.sesSend i f) s = .next (if (s.me i).slots.contains (h / 2 ^ 14) then
      ((issued s i d).startOp i (sendOp s i f d true)).advance i
      else ((issued s i d).startOp i (sendOp s i f d false)).enterWait i.e.val i.t.val (.slot s.nextOp (h / 2 ^ 14))) := by
  obtain ⟨issues, free⟩ := hE
  subst hd ha hh hw
  have within : ¬ s.scratchReach i < ((s.me i).rg f.rs2.toNat).toNat + sendLen ((s.me i).rg f.rd.toNat).toNat := by omega
  have dma : (!(s.me i).slots.contains (((s.me i).rg f.rs1.toNat).toNat / 2 ^ 14) && (s.me i).dma != 0) = false := by
    obtain later | ⟨none, _⟩ := order
    · simp only [later, Bool.not_true, Bool.false_and]
    · simp only [none, bne_self_eq_false, Bool.and_false]
  have slots : (!(s.me i).slots.contains (((s.me i).rg f.rs1.toNat).toNat / 2 ^ 14) &&
      (s.me i).slots.any fun k => decide (((s.me i).rg f.rs1.toNat).toNat / 2 ^ 14 ≤ k)) = false := by
    obtain later | ⟨_, below⟩ := order
    · simp only [later, Bool.not_true, Bool.false_and]
    · have none : ((s.me i).slots.any fun k => decide (((s.me i).rg f.rs1.toNat).toNat / 2 ^ 14 ≤ k)) = false :=
        List.any_eq_false.2 fun k hk => by simpa using below k hk
      simp only [none, Bool.and_false]
  refine exec_go (c := .sesSend i f) rfl rfl issues ?_
  simp only [issued_me, firstTrap, good, aligned, scratchReach_issued, within, dma, slots, deadline, decide_false, bne_self_eq_false, free,
    lastPartOut_issued, out, Bool.false_eq_true, if_false, issued_nextOp]
  split
  · next later => rw [later]; rfl
  · next first => rw [Bool.not_eq_true _ |>.mp first]; rfl

end Send

/-! ## O13 -/

/-- Settles O13: issue finds nothing to stop the instruction, and its operation is entered. -/
theorem directoryOperationsStart : Obligations.DirectoryOperationsStart := by
  unfold Obligations.DirectoryOperationsStart
  refine ⟨⟨?_, fun i f s h hh dl rd => ⟨fun holds rs2 hE => ⟨?_, fun may => ?_⟩, fun hE may => ⟨?_, fun holds cells => ?_⟩⟩,
    fun i f s a k d hd ha hk dl hE may desc aligned range one view => ?_,
    fun i f s h hh dl rs2 dma slots order few hE => hh ▸ entLock_waits dl rs2 dma slots (hh ▸ order) few hE⟩,
    fun i f s d a hd ha aligned reach deadline hE => sesRecv_starts hd ha aligned reach deadline hE,
    fun i f s d a h w hd ha hh hw good aligned reach deadline hE out => ⟨fun later => ?_, fun below dma => ?_⟩,
    fun i f s d hd dl hE => sesInfo_starts dl (hd ▸ hE),
    fun i f s d sel v hd hsel hv fits dl hE => sesInfoSet_starts hsel hv fits dl (hd ▸ hE)⟩
  · simp only [List.forall_mem_cons]
    exact ⟨fun i f s rs2 dl h => entGet_starts rfl rs2 dl h, fun i f s rs2 dl h => entGet_starts rfl rs2 dl h,
      fun i f s rs2 dl h => entGet_starts rfl rs2 dl h, fun _ h => absurd h List.not_mem_nil⟩
  · subst hh
    exact entGive_starts (c := .entUnlock i f) rfl rs2 rd dl hE (by simp only [lockMissing_issued _ holds, firstTrap, Bool.false_eq_true, if_false])
  · subst hh
    exact entGive_starts (c := .entFree i f) rfl rs2 rd dl hE
      (by simp only [may, lockMissing_issued _ holds, firstTrap, Bool.false_eq_true, if_false])
  · subst hh
    exact entKeep_starts (c := .entPub i f) rfl rd dl hE (by simp only [may, firstTrap, Bool.false_eq_true, if_false])
  · subst hh
    have inside : ¬ s.gridCells ≤ ((s.me i).rg f.rs2.toNat).toNat % 2 ^ 20 := by omega
    exact entKeep_starts (c := .entMove i f) rfl rd dl hE
      (by simp only [may, lockMissing_issued _ holds, firstTrap, gridCells_issued, issued_me, inside, decide_false, Bool.false_eq_true,
        if_false])
  · exact entNew_starts hd ha hk dl hE may desc aligned range one view
  · have runs := exec_sesSend hd ha hh hw good aligned reach deadline hE out (.inl later)
    rw [if_pos later] at runs
    exact ⟨_, runs, hh ▸ starts_advance s i d (sendOp s i f d true)⟩
  · have runs := exec_sesSend hd ha hh hw good aligned reach deadline hE out (.inr ⟨dma, below⟩)
    have first : ¬ (s.me i).slots.contains (h / 2 ^ 14) = true := fun later =>
      (below _ (List.contains_iff_mem.1 later)).ne rfl
    rw [if_neg first] at runs
    exact ⟨_, runs, hh ▸ waits_enterWait s i d (sendOp s i f d false) _⟩

end Sys2Proof.Machine
end

section
/-!
PROOFS. What the directory answers to a strand that is stopped already (O15).
-/

namespace Sys2Proof.Machine

set_option Elab.async false

/-- ENT.GET.L with the handle of an entry that no entity has: entry 0, generation 0. -/
def staleGet : Op := { id := 1, e := 34, t := 0, kind := .entGetL }

/-- A strand of the SV that has stopped on a completion-time trap, ABSENT (code 9), while its ENT.GET.L is on its way to
a directory with power. -/
def stoppedStrand : State :=
  { State.reset with
    regs := [(fldKey F.PWR_DOM_powered 93 0, 1)]
    strands := [(skey 34 0, { st := .trapped, title := false, ts := { cause := 9 } })]
    ops := [staleGet], nextOp := 2 }

theorem stoppedStrand_runs : exec (.directoryResponse 1) stoppedStrand = .next (stoppedStrand.directoryResponse 1) := rfl

theorem stoppedStrand_stale : stoppedStrand.edCheck staleGet.addr staleGet.kind = some { cause := .stale } := by decide

/-- The second report sets `more` in the record of the trap the strand stopped on; none waits for delivery (R46). -/
theorem stoppedStrand_report : ((stoppedStrand.directoryResponse 1).strand 34 0).report = none := by decide +kernel

/-- Refutes O15: the bad handle's report comes to a strand that stands TRAPPED on another, and finds its place there. -/
theorem not_directoryAnswers : ¬ Obligations.DirectoryAnswers := by
  unfold Obligations.DirectoryAnswers
  intro ⟨answers, _⟩
  obtain ⟨_, traps⟩ := answers 1 stoppedStrand staleGet rfl (by decide) (by decide) rfl (by decide) rfl (by decide)
  obtain ⟨t, eq, _, _, report, _⟩ := traps _ stoppedStrand_stale (Or.inl rfl) rfl
  rw [stoppedStrand_runs] at eq
  rw [← Host.Outcome.next.inj eq] at report
  exact absurd (stoppedStrand_report.symm.trans report) (by simp)

end Sys2Proof.Machine
end

section
/-!
PROOFS. What accesses to memory and the entry of records leave alone, and what an operation that completes leaves (O14, O60).
-/

namespace Sys2Proof.Machine

set_option Elab.async false

/-! ## Accesses to memory -/

/-- The machine but for its registers, its memory with the channels before it, and the units that watch it. -/
def State.core (s : State) : State :=
  { s with regs := [], dram := [], gran := [], chans := [], denied := [], reqs := [], nextReq := 0, ueSeq := [], faults := [], pm := {},
           free := 0 }

/-- From `s` to `t` memory has been accessed or records have been entered, at most. -/
structure Accesses (s t : State) : Prop where
  core : t.core = s.core

namespace Accesses

variable {s t u : State}

theorem refl (s : State) : Accesses s s := ⟨rfl⟩
theorem trans (h : Accesses s t) (g : Accesses t u) : Accesses s u := ⟨g.core.trans h.core⟩

theorem ite {c : Prop} [Decidable c] (h : Accesses s t) (g : Accesses s u) : Accesses s (if c then t else u) := by
  split
  · exact h
  · exact g

theorem foldl {α : Type} {f : State → α → State} (step : ∀ u a, Accesses s u → Accesses s (f u a)) (l : List α) (h : Accesses s t) :
    Accesses s (l.foldl f t) := by
  induction l generalizing t with
  | nil => exact h
  | cons a l ih => exact ih (step t a h)

/-! ### What stands -/

theorem strands (h : Accesses s t) : t.strands = s.strands := (congrArg State.strands h.core :)
theorem engs (h : Accesses s t) : t.engs = s.engs := (congrArg State.engs h.core :)
theorem ops (h : Accesses s t) : t.ops = s.ops := (congrArg State.ops h.core :)
theorem ed (h : Accesses s t) : t.ed = s.ed := (congrArg State.ed h.core :)
theorem st (h : Accesses s t) : t.st = s.st := (congrArg State.st h.core :)
theorem tk (h : Accesses s t) : t.tk = s.tk := (congrArg State.tk h.core :)
theorem ses (h : Accesses s t) : t.ses = s.ses := (congrArg State.ses h.core :)
theorem tb (h : Accesses s t) : t.tb = s.tb := (congrArg State.tb h.core :)

theorem strand (h : Accesses s t) (e k : Nat) : t.strand e k = s.strand e k := by rw [State.strand, h.strands, State.strand]
theorem eng (h : Accesses s t) (e : Nat) : t.eng e = s.eng e := by rw [State.eng, h.engs, State.eng]
theorem entry (h : Accesses s t) (i : Nat) : t.entry i = s.entry i := by rw [State.entry, h.ed, State.entry]

/-! ### Plain updates -/

theorem setFld (h : Accesses s t) {f : Fld} {i j v : Nat} : Accesses s (t.setFld f i j v) := ⟨h.core⟩
theorem addFld (h : Accesses s t) {f : Fld} {i j v : Nat} : Accesses s (t.addFld f i j v) := ⟨h.core⟩
theorem setPm (h : Accesses s t) {x : Pm} : Accesses s { t with pm := x } := ⟨h.core⟩
theorem setChan (h : Accesses s t) {c : Nat} {x : Chan} : Accesses s (t.setChan c x) := ⟨h.core⟩
theorem setGran (h : Accesses s t) {c g : Nat} {x : Gran} : Accesses s (t.setGran c g x) := ⟨h.core⟩
theorem storeWhole (h : Accesses s t) {c g : Nat} {x : SMap Byte} : Accesses s (t.storeWhole c g x) := ⟨h.core⟩
theorem storePoison (h : Accesses s t) {c g : Nat} {x : List Byte} : Accesses s (t.storePoison c g x) := ⟨h.core⟩
theorem command (h : Accesses s t) {c : Nat} : Accesses s (t.command c) := ⟨h.core⟩
theorem deny (h : Accesses s t) {m wa : Nat} {w : Bool} : Accesses s (t.deny m wa w) := ⟨h.core⟩
theorem useFree (h : Accesses s t) : Accesses s t.useFree := ⟨h.core⟩

theorem of_watched (h : Watched s t) : Accesses s t := by
  obtain ⟨p, n, rfl⟩ := h
  exact ⟨rfl⟩

theorem occ (h : Accesses s t) {o : Occ} : Accesses s (t.occ o) := h.trans (of_watched (Watched.refl t).occ)

theorem raise (h : Accesses s t) {v : FaultEv} : Accesses s (t.raise v) := by
  unfold State.raise
  split <;> exact ⟨h.core⟩

/-! ### A channel -/

theorem exitSr (h : Accesses s t) {c : Nat} : Accesses s (t.exitSr c) := h.setChan.setFld.setFld.addFld.setFld.setFld.setFld

theorem rouse (h : Accesses s t) {c : Nat} : Accesses s (t.rouse c) := ite (ite h h.exitSr) (ite h h.setChan)

theorem clearRows (h : Accesses s t) {c j : Nat} {w : Bool} : Accesses s (t.clearRows c j w) := h.setChan.addFld

theorem countAct (h : Accesses s t) {c j r : Nat} : Accesses s (t.countAct c j r) := ite h (ite h.setChan.clearRows h.setChan)

theorem activate (h : Accesses s t) {c j r : Nat} : Accesses s (t.activate c j r) := h.setChan.countAct

theorem neighbourStep (h : Accesses s t) {c j : Nat} : Accesses s (t.neighbourStep c j) := by
  unfold State.neighbourStep
  dsimp only
  split
  · exact h
  · next q rest _ =>
    cases q with
    | nil => exact ite h.setChan.addFld.occ h.setChan
    | cons r q => exact ite h.setChan.countAct.addFld.occ h.setChan.countAct

theorem drainNeigh (h : Accesses s t) {c j n : Nat} : Accesses s (t.drainNeigh c j n) := by
  induction n generalizing t with
  | zero => exact h
  | succ n ih => exact ite h (ih h.neighbourStep)

theorem openFor (h : Accesses s t) {c g : Nat} {o : Occ} : Accesses s (t.openFor c g o) :=
  ite h.command.occ (ite h h.addFld.drainNeigh).activate.command.occ

theorem decode (h : Accesses s t) {c g : Nat} {l : List SymErr} : Accesses s (t.decode c g l).2 := by
  unfold State.decode
  dsimp only
  split <;> exact h.setGran

theorem countLine (h : Accesses s t) {c pc line : Nat} : Accesses s (t.countLine c pc line) :=
  have counted := h.setChan
  ite (ite (setFld (setFld counted)) counted) (ite (setFld (setFld counted)) counted)

theorem demand (h : Accesses s t) {c g wa m a : Nat} {d : Dec} : Accesses s (t.demand c g wa m a d) := by
  unfold State.demand
  split
  · exact h
  · exact foldl (fun _ _ hu => hu.countLine) _ (ite h.addFld h.addFld)
  · exact h.addFld.raise
  · exact h.addFld.raise

theorem queueGran (h : Accesses s t) {c g q : Nat} : Accesses s (t.queueGran c g q).2 := by
  unfold State.queueGran
  dsimp only
  split
  · exact h
  · split
    · exact h
    · exact h.decode

theorem readOcc (h : Accesses s t) {o : Occ} {out : GOut} : Accesses s (t.readOcc o out) := by
  cases out with
  | clean => exact h.occ
  | corrected => exact h.occ.occ
  | poisoned => exact h
  | uncorrectable => exact h

theorem readGran (h : Accesses s t) {c g m k wa : Nat} : Accesses s (t.readGran c g m k wa).2 := by
  have counted : Accesses s (t.countRd c k) := h.addFld
  unfold State.readGran
  dsimp only
  split
  · exact counted.queueGran.demand.readOcc
  · exact counted.openFor.decode.demand.readOcc

theorem updDrain (h : Accesses s t) {c : Nat} : Accesses s (t.updDrain c) := ite h.setFld.occ (ite h.setFld h)

theorem queueWrite (h : Accesses s t) {c g k : Nat} {x : SMap Byte} {w : Writer} : Accesses s (t.queueWrite c g k x w) := by
  unfold State.queueWrite
  dsimp only
  split
  · exact h.setChan
  · exact ite ⟨h.core⟩ (setChan (t := { t with nextReq := t.nextReq + 1 }) ⟨h.core⟩).updDrain

theorem wholeGran (h : Accesses s t) {c g m k wa : Nat} {x : SMap Byte} : Accesses s (t.wholeGran c g m k wa x) :=
  ite h.queueWrite (openFor (addFld h)).storeWhole.occ

theorem ueEnter (h : Accesses s t) {c g wa k m : Nat} {n : Option Nat} : Accesses s (t.ueEnter c g wa k m n) := by
  unfold State.ueEnter
  dsimp only
  split
  · exact h.addFld.setFld
  · split
    · exact h.addFld
    · refine ite h.addFld (setFld (foldl (fun _ _ hu => hu.rouse.wholeGran) _ ?_))
      exact ⟨h.core⟩

theorem writeGran (h : Accesses s t) {c g m k wa : Nat} {x : SMap Byte} : Accesses s (t.writeGran c g m k wa x) := by
  have read : Accesses s (((t.countWr c k).countRd c k).openFor c g { ev := 0x21, inst := c, master := m, addr := wa, cls := k }) :=
    openFor (addFld (addFld h))
  exact ite h.queueWrite (ite h.wholeGran (ite (ite read.decode.demand.occ.occ.storePoison.ueEnter read.decode.demand.occ.occ.storePoison)
    read.decode.demand.occ.occ.storeWhole))

theorem directLate (h : Accesses s t) {c m wa k : Nat} : Accesses s (t.directLate c m wa k) := by
  unfold State.directLate
  split
  · exact ite h.addFld.occ h
  · exact h

theorem meshDirect (h : Accesses s t) {c m e n : Nat} : Accesses s (t.meshDirect c m e n) := ite h.occ.occ h

/-! ### Reads and writes -/

theorem worldRead (h : Accesses s t) {wa m : Nat} {k : Option Nat} : Accesses s (t.worldRead wa m k).2 := by
  unfold State.worldRead
  split
  · exact h.deny
  · split
    · exact h.deny
    · split
      · exact h.rouse.directLate.meshDirect.readGran
      · exact h

theorem worldWrite (h : Accesses s t) {wa m : Nat} {k : Option Nat} {x : SMap Byte} : Accesses s (t.worldWrite wa m k x).2 := by
  unfold State.worldWrite
  split
  · exact h.deny
  · split
    · exact h.deny
    · split
      · exact foldl (fun _ _ hu => hu.rouse.directLate.meshDirect.writeGran) _ h
      · exact h

theorem worldPut (h : Accesses s t) {wa m : Nat} {x : List Byte} : Accesses s (t.worldPut wa m x) :=
  foldl (fun _ _ hu => hu.worldWrite) _ h

theorem lateSpan (h : Accesses s t) {wa n due : Nat} : Accesses s (t.lateSpan wa n due) := by
  refine ite h (foldl (fun u k hu => ?_) _ h)
  split
  · exact hu
  · split
    · exact ite hu.addFld hu
    · exact hu

theorem readPieces (h : Accesses s t) {f wa n m : Nat} {k : Option Nat} {l : List Byte} {o : Option GOut} :
    Accesses s (readPieces f t wa n m k l o).2.2 := by
  induction f generalizing t wa n l o with
  | zero => exact h
  | succ f ih =>
    have read : Accesses s (t.worldRead wa m k).2 := h.worldRead
    unfold Machine.readPieces
    split
    · exact h
    · dsimp only
      split
      · next eq => rwa [eq] at read
      · next eq => exact ih (by rwa [eq] at read)

theorem worldGet (h : Accesses s t) {wa n m : Nat} {k : Option Nat} : Accesses s (t.worldGet wa n m k).2.2 := h.readPieces

/-! ### The tick unit's accesses, the interest grid's, those to a key record -/

theorem tkRead (h : Accesses s t) {wa n m : Nat} : Accesses s (t.tkRead wa n m).2 := h.worldGet
theorem tkWrite (h : Accesses s t) {wa n v : Nat} : Accesses s (t.tkWrite wa n v) := h.worldPut
theorem tkPut (h : Accesses s t) {wa n v : Nat} {x : Byte} : Accesses s (t.tkPut wa n v x) :=
  foldl (fun _ _ hu => hu.worldRead.worldWrite) _ h

theorem gridRead (h : Accesses s t) {wa n m : Nat} : Accesses s (t.gridRead wa n m).2 := by
  unfold State.gridRead
  dsimp only
  split
  · exact h.tkRead
  · exact h.tkRead.raise

theorem setLink (h : Accesses s t) {i w : Nat} : Accesses s (t.setLink i w) := h.tkPut
theorem setHead (h : Accesses s t) {c w : Nat} : Accesses s (t.setHead c w) := h.tkPut
theorem neighbourLink (h : Accesses s t) {i c : Nat} : Accesses s (t.neighbourLink i c).2 := h.gridRead

theorem unlink (h : Accesses s t) {i : Nat} : Accesses s (t.unlink i) := by
  unfold State.unlink
  dsimp only
  split
  · exact h.gridRead
  · exact setLink (ite (ite h.gridRead.setHead h.gridRead.neighbourLink.setLink)
      (neighbourLink (ite h.gridRead.setHead h.gridRead.neighbourLink.setLink)).setLink)

theorem linkHead (h : Accesses s t) {i c : Nat} : Accesses s (t.linkHead i c) := by
  unfold State.linkHead
  dsimp only
  exact setHead (ite h.tkPut.gridRead.neighbourLink.setLink.setLink h.tkPut.gridRead.setLink)

theorem keyLost (h : Accesses s t) {i : Nat} : Accesses s (t.keyLost i) := h.raise
theorem keyCount (h : Accesses s t) {i k : Nat} : Accesses s (t.keyCount i k).2 := ite h.worldGet h.worldGet.keyLost
theorem setKeyCount (h : Accesses s t) {i k v : Nat} : Accesses s (t.setKeyCount i k v) := h.worldPut

/-! ### Records -/

theorem ringRecord (h : Accesses s t) {w : Bool} {x : List Byte} : Accesses s (t.ringRecord w x) := by
  unfold State.ringRecord
  split
  · exact h.setPm
  · next q _ =>
    have written : Accesses s (({ t with pm := { t.pm with lone := none } }).ringWrite q x) := h.setPm.worldWrite.setFld
    exact ite written.setFld written

theorem loseRecord (h : Accesses s t) : Accesses s t.loseRecord := h.setPm.addFld

theorem enterRecord (h : Accesses s t) {x : Sample} {c : Nat} : Accesses s (t.enterRecord x c) := by
  unfold State.enterRecord
  dsimp only
  split
  · exact ite h.setPm h.loseRecord
  · split
    · exact h
    · refine ite h.loseRecord (ite h.setPm.ringRecord (ite ?_ (ite h.setPm h)))
      exact ite h.setPm.setFld.setFld h.setPm.setFld

theorem finishSamples (h : Accesses s t) {p : Sample → Bool} {c : Nat} : Accesses s (t.finishSamples p c) :=
  foldl (fun _ _ hu => hu.enterRecord) _ h.setPm

theorem finishSample (h : Accesses s t) {id c : Nat} : Accesses s (t.finishSample id c) := h.finishSamples

end Accesses

end Sys2Proof.Machine
end

section
/-!
PROOFS. What an operation that completes leaves; grants of an entity's lock and of a session's slot (O14).
-/

namespace Sys2Proof.Machine

set_option Elab.async false

/-! ## The operation leaves -/

/-- Waking the engine's strands moves no more of a strand than its state, and disables none. -/
theorem strand_wakeAll (s : State) (e a b : Nat) :
    ∃ x, (s.wakeAll e).strand a b = { s.strand a b with st := x } ∧ ((s.strand a b).st ≠ .disabled → x ≠ .disabled) := by
  have fold (l : List Nat) (u : State)
      (h : ∃ x, u.strand a b = { s.strand a b with st := x } ∧ ((s.strand a b).st ≠ .disabled → x ≠ .disabled)) :
      ∃ x, (l.foldl (fun s t => s.wake e t) u).strand a b = { s.strand a b with st := x } ∧
        ((s.strand a b).st ≠ .disabled → x ≠ .disabled) := by
    induction l generalizing u with
    | nil => exact h
    | cons k l ih =>
      refine ih _ ?_
      unfold State.wake
      dsimp only
      split
      · by_cases key : skey a b = skey e k
        · obtain ⟨x, eq, _⟩ := h
          have same : u.strand e k = u.strand a b := by rw [State.strand, State.strand, key]
          refine ⟨.ready, ?_, fun _ => by decide⟩
          rw [State.strand, key, ← State.strand, State.strand_setStrand_same, same, eq]
        · rwa [State.strand_setStrand_ne _ _ _ _ _ _ key]
      · exact h
  exact fold (List.range 16) s ⟨_, rfl, id⟩

/-- From `s` to `t` operation `o` has ended: it is found no more, its strand is what `f` makes of it, but for the registers it awaits and
its state, and the directory, the session table and the tick unit are as they were. -/
structure Ends (s t : State) (o : Op) (f : Strand → Strand) : Prop where
  ops : t.ops = s.ops.filter fun q => q.id != o.id
  ed : t.ed = s.ed
  st : t.st = s.st
  ses : t.ses = s.ses
  strand : ∃ b x, t.strand o.e o.t = f { s.strand o.e o.t with busy := b, st := x }

namespace Ends

variable {s t u : State} {o : Op} {f : Strand → Strand}

theorem findOp (h : Ends s t o f) : t.findOp o.id = none := by
  rw [State.findOp, h.ops]
  refine List.find?_eq_none.2 fun q hq => ?_
  simpa using (List.mem_filter.1 hq).2

theorem entry (h : Ends s t o f) (i : Nat) : t.entry i = s.entry i := by rw [State.entry, h.ed, State.entry]

theorem accesses (h : Ends s t o f) (g : Accesses t u) : Ends s u o f :=
  ⟨g.ops.trans h.ops, g.ed.trans h.ed, g.st.trans h.st, g.ses.trans h.ses, by rw [g.strand]; exact h.strand⟩

theorem setStrand (h : Ends s t o f) (g : Strand → Strand) : Ends s (t.setStrand o.e o.t (g (t.strand o.e o.t))) o fun x => g (f x) := by
  obtain ⟨b, x, eq⟩ := h.strand
  exact ⟨h.ops, h.ed, h.st, h.ses, b, x, by rw [State.strand_setStrand_same, eq]⟩

end Ends

/-- The end of an operation, the last or not, of a strand that is not disabled: nothing is drained off. -/
theorem endOp_shape {s : State} {o : Op} (up : (s.strand o.e o.t).st ≠ .disabled) :
    (∃ z g p n, s.endOp o = { s with
        ops := s.ops.filter fun q => q.id != o.id, strands := z, engs := g, pm := p, free := n }) ∧
      ∃ b x, (s.endOp o).strand o.e o.t = { s.strand o.e o.t with busy := b, st := x } := by
  have counted : ∃ g p n, ((s.meshOcc true o).dropOp o.id).countAcked o =
      { s with ops := s.ops.filter fun q => q.id != o.id, engs := g, pm := p, free := n } := by
    obtain ⟨p, n, eq⟩ := (Watched.refl s).meshOcc (r := true) (o := o)
    rw [eq]
    unfold State.countAcked
    split
    · exact ⟨_, p, n, rfl⟩
    · exact ⟨_, p, n, rfl⟩
  obtain ⟨g, p, n, eq⟩ := counted
  unfold State.endOp
  dsimp only
  rw [eq]
  set v : State := { s with ops := s.ops.filter fun q => q.id != o.id, engs := g, pm := p, free := n }
  set w := v.setStrand o.e o.t
    { v.strand o.e o.t with busy := if o.dst = regNone then (v.strand o.e o.t).busy else (v.strand o.e o.t).busy.filter (· != o.dst) }
  obtain ⟨x, woken, stays⟩ := strand_wakeAll w o.e o.e o.t
  have here : w.strand o.e o.t = _ := State.strand_setStrand_same ..
  rw [here] at woken stays
  have drained : (w.wakeAll o.e).drainedOff o.e o.t = w.wakeAll o.e := by
    rw [State.drainedOff, if_neg]
    simp [woken, stays up]
  rw [drained]
  obtain ⟨z, shape⟩ := wakeAll_shape w o.e
  exact ⟨⟨z, g, p, n, shape⟩, _, x, woken⟩

theorem endOp_ends {s : State} {o : Op} (up : (s.strand o.e o.t).st ≠ .disabled) : Ends s (s.endOp o) o id := by
  obtain ⟨⟨_, _, _, _, eq⟩, strand⟩ := endOp_shape up
  exact ⟨by rw [eq], by rw [eq], by rw [eq], by rw [eq], strand⟩

theorem ackOp_ends {s : State} {o : Op} (up : (s.strand o.e o.t).st ≠ .disabled) : Ends s (s.ackOp o) o id :=
  (endOp_ends up).accesses (Accesses.refl _).finishSample

/-- The response of a fenced engine is discarded (R369). -/
theorem completeOp_ends {s : State} {o : Op} (v : Nat) (up : (s.strand o.e o.t).st ≠ .disabled) :
    Ends s (s.completeOp o v) o fun x => if (s.eng o.e).fenced then x else x.wreg o.dst v := by
  unfold State.completeOp
  dsimp only
  split
  · exact endOp_ends up
  · exact ((endOp_ends up).setStrand fun x => x.wreg o.dst v).accesses (Accesses.refl _).finishSample

theorem Strand.rg_wreg {x : Strand} {r v : Nat} (pos : 0 < r) (small : r < 32) : (x.wreg r v).rg r = BitVec.ofNat 64 v := by
  rw [Strand.wreg, if_pos small, Strand.rg_wg_same _ _ _ (by omega)]

/-- A result goes to a general or a vector register. -/
theorem Strand.wreg_shape (x : Strand) (r v : Nat) : ∃ g w, x.wreg r v = { x with g := g, v := w } := by
  unfold Strand.wreg Strand.wg
  split
  · split
    · exact ⟨_, _, rfl⟩
    · exact ⟨_, _, rfl⟩
  · split
    · exact ⟨_, _, rfl⟩
    · exact ⟨_, _, rfl⟩

/-- The operation's result has come to its register. -/
theorem Ends.returns {s t : State} {o : Op} {v : Nat} {f : Strand → Strand} (h : Ends s t o f)
    (result : ∀ x, 0 < o.dst → o.dst < 32 → (f x).rg o.dst = BitVec.ofNat 64 v) : Returns t o v := by
  obtain ⟨busy, x, eq⟩ := h.strand
  exact ⟨h.findOp, fun pos small => by rw [eq]; exact result _ pos small⟩

/-! ## The lock of an entity (R82) -/

/-- A strand that waited goes on past its instruction. -/
def Strand.goneOn (x : Strand) : Strand := { x with st := .ready, wait := none, pc := x.pc + 1 }

theorem Ends.endWait {s t : State} {o : Op} {f : Strand → Strand} (h : Ends s t o f) :
    Ends s (t.endWait o.e o.t) o fun x => (f x).goneOn := h.setStrand Strand.goneOn

theorem edScan_none {s : State} {m i : Nat} (good : i ∉ s.ed.upset) : s.edScan m (· == i) = s := by
  have none : s.ed.upset.filter (· == i) = [] := List.filter_eq_nil_iff.2 fun j hj => by
    rintro same
    exact good (by rwa [← beq_iff_eq.1 same])
  rw [State.edScan, none]
  rfl

theorem lockQueue_index {s : State} {i : Nat} {o : Op} {l : List Op} (h : s.lockQueue i = o :: l) : hIndex o.addr = i := by
  have mem : o ∈ s.lockQueue i := by rw [h]; exact List.mem_cons_self
  have index := (List.mem_filter.1 mem).2
  simp only [Bool.and_eq_true, beq_iff_eq] at index
  exact index.2

/-- A free lock is granted to the first request queued for it. -/
theorem entityLockGrant_eq {s : State} {i : Nat} {o : Op} {l : List Op} (unlocked : entLock (s.entry i) = false)
    (queue : s.lockQueue i = o :: l) (good : i ∉ s.ed.upset) (valid : s.edCheck o.addr .entLock = none) :
    s.entityLockGrant i = s.grantLock o := by
  unfold State.entityLockGrant
  simp only [unlocked, queue, edScan_none good, valid, Bool.false_eq_true, if_false]

theorem grantLock_grants {s : State} {o : Op} (fenced : (s.eng o.e).fenced = false) (waits : (s.strand o.e o.t).st = .waiting) :
    ∃ v, v = withOwner (withLock (s.entry (hIndex o.addr)) true) o.e ∧ (s.grantLock o).entry (hIndex o.addr) = v ∧ (∀ j, j ≠ hIndex o.addr → (s.grantLock o).entry j = s.entry j) ∧
      hIndex o.addr ∈ ((s.grantLock o).strand o.e o.t).locks ∧ ((s.grantLock o).strand o.e o.t).st = .ready ∧
      ((s.grantLock o).strand o.e o.t).pc = (s.strand o.e o.t).pc + 1 ∧ Returns (s.grantLock o) o v.toNat := by
  obtain ⟨v, hv⟩ : ∃ v, v = withOwner (withLock (s.entry (hIndex o.addr)) true) o.e := ⟨_, rfl⟩
  set w := (s.setEntry (hIndex o.addr) v).setStrand o.e o.t
    { s.strand o.e o.t with locks := (s.strand o.e o.t).locks ++ [hIndex o.addr] }
  have grant : s.grantLock o = (w.completeOp o v.toNat).endWait o.e o.t := by
    rw [State.grantLock, ← hv]
    rfl
  have here : w.strand o.e o.t = { s.strand o.e o.t with locks := (s.strand o.e o.t).locks ++ [hIndex o.addr] } :=
    State.strand_setStrand_same ..
  have up : (w.strand o.e o.t).st ≠ .disabled := by rw [here]; simp [waits]
  have ends := (completeOp_ends v.toNat up).endWait
  have in_use : (w.eng o.e).fenced = false := fenced
  simp only [← grant, in_use, Bool.false_eq_true, if_false] at ends
  obtain ⟨b, x, strand⟩ := ends.strand
  obtain ⟨g, vec, shape⟩ := Strand.wreg_shape { w.strand o.e o.t with busy := b, st := x } o.dst v.toNat
  rw [shape, here] at strand
  refine ⟨v, hv, ?_, fun j other => ?_, ?_, by rw [strand]; rfl, by rw [strand]; rfl,
    ends.returns fun _ pos small => Strand.rg_wreg pos small⟩
  · rw [ends.entry]
    exact State.entry_setEntry_same ..
  · rw [ends.entry]
    exact State.entry_setEntry_ne _ _ _ _ other
  · rw [strand]
    exact List.mem_append_right _ (List.mem_singleton_self _)

/-! ## The slot of a session (R89, R131) -/

/-- The state in which the strand fills message `m` of session `i`. -/
def State.filler (s : State) (i : Nat) (m : Msg) : State :=
  let s1 := s.setCtx i { s.ctx i with used := (s.ctx i).used + 1 }
  { s1 with st := { s1.st with msgs := s1.st.msgs ++ [m] } }

/-- A slot is taken where the session has room: the strand fills a message of no bytes in a buffer of the session's home. -/
theorem takeSlot_eq {s : State} {i : Nat} {o : Op} (room : s.slotRoom i = true) :
    ∃ m : Msg, m.len = 0 ∧ m.ses = i ∧ m.filler = some (o.e, o.t) ∧
      s.takeSlot i o = (s.filler i m).setStrand o.e o.t { s.strand o.e o.t with slots := (s.strand o.e o.t).slots ++ [i] } := by
  obtain ⟨b, buffer⟩ : ∃ b, s.freeBuffer (s.ctx i).home = some b := by
    unfold State.slotRoom at room
    exact Option.isSome_iff_exists.1 (Bool.and_eq_true_iff.1 room).2
  refine ⟨⟨(s.ctx i).home, b, i, sendKind o.a2, 0, 0, some (o.e, o.t), 0⟩, rfl, rfl, rfl, ?_⟩
  unfold State.takeSlot
  dsimp only
  rw [buffer]
  rfl

theorem takeSlot_takes {s : State} {i : Nat} {o : Op} (room : s.slotRoom i = true) (idle : s.filling i o.e o.t = none) :
    (s.takeSlot i o).strand o.e o.t = { s.strand o.e o.t with slots := (s.strand o.e o.t).slots ++ [i] } ∧
      ∃ m, (s.takeSlot i o).filling i o.e o.t = some m ∧ m.len = 0 := by
  obtain ⟨m, empty, ses, filler, eq⟩ := takeSlot_eq room
  rw [eq]
  refine ⟨State.strand_setStrand_same .., m, ?_, empty⟩
  have msgs : ((s.filler i m).setStrand o.e o.t { s.strand o.e o.t with slots := (s.strand o.e o.t).slots ++ [i] }).st.msgs =
      s.st.msgs ++ [m] := rfl
  unfold State.filling at idle ⊢
  rw [msgs, List.find?_append, idle]
  simp [ses, filler]

/-- A strand that gives its slot up changes in nothing else. -/
theorem strand_releaseSlot (s : State) (i e k : Nat) :
    (s.releaseSlot i e k).strand e k = { s.strand e k with slots := (s.strand e k).slots.filter (· != i) } :=
  State.strand_setStrand_same (s.setCtx i { s.ctx i with used := (s.ctx i).used - 1 }) e k
    { s.strand e k with slots := (s.strand e k).slots.filter (· != i) }

theorem strand_completeMsg (s : State) (i : Nat) (o : Op) (m : Msg) : (s.completeMsg i o m).strand o.e o.t =
    { s.strand o.e o.t with slots := (s.strand o.e o.t).slots.filter (· != i) } := by
  obtain ⟨u, hu⟩ : ∃ u, u = (s.keyCount i 0x28).2.setKeyCount i 0x28 ((s.keyCount i 0x28).1 + 1) := ⟨_, rfl⟩
  have counted : Accesses s u := by
    rw [hu]
    exact (Accesses.refl s).keyCount.setKeyCount
  rw [State.completeMsg, ← hu, strand_releaseSlot, ← counted.strand o.e o.t]
  rfl

/-- A part that fits ends with a status; while more parts follow the strand keeps its slots. -/
theorem sendPart_completes {s : State} {i : Nat} {o : Op} {m : Msg} (fills : s.filling i o.e o.t = some m)
    (fits : m.len + sendLen o.a2 ≤ 2032) :
    ∃ (w : State) (k : Nat) (sl : List Nat), s.sendPart i o = w.completeOp o k ∧ w.strand o.e o.t = { s.strand o.e o.t with slots := sl } ∧
      (sendMore o.a2 = true → sl = (s.strand o.e o.t).slots) := by
  unfold State.sendPart
  simp only [fills]
  split
  · cases more : sendMore o.a2 with
    | false => exact ⟨_, 1, _, rfl, strand_releaseSlot _ i o.e o.t, fun no => absurd no (by decide)⟩
    | true => exact ⟨_, 1, _, rfl, rfl, fun _ => rfl⟩
  · rw [if_neg (by omega)]
    obtain ⟨u, hu⟩ : ∃ u, u = (s.lateSpan (bufAddr m.home m.buf + m.len) o.data.length o.dl).worldPut (bufAddr m.home m.buf + m.len)
        (engMaster o.e) o.data := ⟨_, rfl⟩
    have put : u.strand o.e o.t = s.strand o.e o.t := by
      rw [hu]
      exact (Accesses.refl s).lateSpan.worldPut.strand o.e o.t
    rw [← hu]
    cases more : sendMore o.a2 with
    | false => exact ⟨_, 0, _, rfl, by rw [← put]; exact strand_completeMsg u i o _, fun no => absurd no (by decide)⟩
    | true => exact ⟨_, 0, (s.strand o.e o.t).slots, rfl, put, fun _ => rfl⟩

theorem filling_setOp (s : State) (x : Op) (i e k : Nat) : (s.setOp x).filling i e k = s.filling i e k := rfl
theorem strand_setOp (s : State) (x : Op) (e k : Nat) : (s.setOp x).strand e k = s.strand e k := rfl

theorem grantSlot_grants {s : State} {i : Nat} {o : Op} (waits : (s.strand o.e o.t).st = .waiting) (room : s.slotRoom i = true)
    (none : s.filling i o.e o.t = none) (fits : sendLen o.a2 ≤ 1024) :
    ((s.grantSlot i o).strand o.e o.t).st = .ready ∧ ((s.grantSlot i o).strand o.e o.t).wait = Option.none ∧
      ((s.grantSlot i o).strand o.e o.t).pc = (s.strand o.e o.t).pc + 1 ∧ (s.grantSlot i o).findOp o.id = Option.none ∧
      (sendMore o.a2 = true → i ∈ ((s.grantSlot i o).strand o.e o.t).slots) := by
  obtain ⟨taken, m, fills, empty⟩ := takeSlot_takes room none
  obtain ⟨w, k, sl, part, strand, slots⟩ :=
    sendPart_completes ((filling_setOp (s.takeSlot i o) { o with st := .sent } i o.e o.t).trans fills) (by omega)
  rw [strand_setOp, taken] at strand slots
  have ends := (completeOp_ends k (s := w) (o := o) (by rw [strand]; simp [waits])).endWait
  have grant : s.grantSlot i o = (w.completeOp o k).endWait o.e o.t := by rw [State.grantSlot, part]
  rw [← grant] at ends
  obtain ⟨b, x, eq⟩ := ends.strand
  have shape : ∃ g v, (if (w.eng o.e).fenced then { w.strand o.e o.t with busy := b, st := x } else
      Strand.wreg { w.strand o.e o.t with busy := b, st := x } o.dst k) =
      { s.strand o.e o.t with slots := sl, busy := b, st := x, g := g, v := v } := by
    rw [strand]
    split
    · exact ⟨_, _, rfl⟩
    · exact Strand.wreg_shape _ _ _
  obtain ⟨g, v, shape⟩ := shape
  simp only [shape] at eq
  refine ⟨by rw [eq]; rfl, by rw [eq]; rfl, by rw [eq]; rfl, ends.findOp, fun more => ?_⟩
  rw [eq]
  have kept : sl = (s.strand o.e o.t).slots ++ [i] := slots more
  change i ∈ sl
  rw [kept]
  exact List.mem_append_right _ (List.mem_singleton_self _)

/-! ## O14 -/

/-- Settles O14: each grant is the completion of the request, after which its strand goes on. -/
theorem waitsGranted : Obligations.WaitsGranted := by
  unfold Obligations.WaitsGranted
  refine ⟨fun x s o l unlocked queue good fenced valid waits => ?_, fun home s o found waits none fits => ?_⟩
  · have index := lockQueue_index queue
    have grants := grantLock_grants fenced waits
    rw [index] at grants
    obtain ⟨v, hv, entry, others, locks, ready, pc, returns⟩ := grants
    exact ⟨_, v, congrArg Host.Outcome.next (entityLockGrant_eq unlocked queue good valid), hv, entry, others, locks, ready, pc, returns⟩
  · have room : s.slotRoom (o.addr / 2 ^ 14) = true :=
      List.find?_some (p := fun o : Op => s.slotRoom (o.addr / 2 ^ 14)) found
    have grant : s.slotGrant home.val = s.grantSlot (o.addr / 2 ^ 14) o := by rw [State.slotGrant, found]
    exact ⟨_, congrArg Host.Outcome.next grant, grantSlot_grants waits room none fits⟩

end Sys2Proof.Machine
end

section
/-!
PROOFS. What the directory does to an entry on ENT.PUB, ENT.MOVE, and a supervisor's ENT.FREE and ENT.NEW (O60).
-/

namespace Sys2Proof.Machine

set_option Elab.async false

/-! ## Memory where the Loupe does not drain to it -/

/-- From `s` to `t` memory stands, and the Loupe does not drain to it. -/
structure Undrained (s t : State) : Prop where
  dram : t.dram = s.dram
  off : t.fld F.PM_LOUPE_CTRL_drain 0 0 = 0

namespace Undrained

variable {s t u : State}

theorem ite {c : Prop} [Decidable c] (h : Undrained s t) (g : Undrained s u) : Undrained s (if c then t else u) := by
  split
  · exact h
  · exact g

theorem setPm (h : Undrained s t) {x : Pm} : Undrained s { t with pm := x } := ⟨h.dram, h.off⟩

theorem setFld (h : Undrained s t) {f : Fld} {v : Nat} (apart : fldKey F.PM_LOUPE_CTRL_drain 0 0 ≠ fldKey f 0 0 := by decide) :
    Undrained s (t.setFld f 0 0 v) := ⟨h.dram, (State.fld_setFld_ne _ _ _ _ _ _ _ _ apart).trans h.off⟩

theorem enterRecord (h : Undrained s t) {x : Sample} {c : Nat} : Undrained s (t.enterRecord x c) := by
  have drain : t.fldB F.PM_LOUPE_CTRL_drain 0 0 = false := by simp [State.fldB, h.off]
  have lost : Undrained s t.loseRecord := setFld (setPm h)
  unfold State.enterRecord
  simp only [drain, Bool.false_eq_true, if_false]
  exact ite (ite h.setPm lost) (ite h (ite lost (ite (ite (setFld (setFld (setPm h))) (setFld (setPm h))) (ite h.setPm h))))

theorem finishSamples (h : Undrained s t) {p : Sample → Bool} {c : Nat} : Undrained s (t.finishSamples p c) := by
  have fold (l : List Sample) (u : State) (h : Undrained s u) : Undrained s (l.foldl (fun s x => s.enterRecord x c) u) := by
    induction l generalizing u with
    | nil => exact h
    | cons x l ih => exact ih _ h.enterRecord
  exact fold _ _ h.setPm

end Undrained

theorem ackOp_undrained {s : State} {o : Op} (up : (s.strand o.e o.t).st ≠ .disabled) (off : s.fld F.PM_LOUPE_CTRL_drain 0 0 = 0) :
    (s.ackOp o).dram = s.dram := by
  obtain ⟨⟨z, g, p, n, eq⟩, _⟩ := endOp_shape up
  have ended : Undrained s (s.endOp o) := by
    rw [eq]
    exact ⟨rfl, off⟩
  rw [State.ackOp, State.finishSample]
  exact ended.finishSamples.dram

/-! ## The directory is asked -/

/-- A request that stands at a directory with power, on an entry whose check bits fit, is performed. -/
theorem directoryResponse_entity {s : State} {id : Nat} {o : Op} (found : s.findOp id = some o) (sent : o.st = .sent)
    (ent : o.kind.isEnt = true) (on : s.edOn (if o.kind = .entNew then 0 else hIndex o.addr) = true) (clean : o.sram ≠ .double)
    (good : ∀ i, s.edReads o = some i → i ∉ s.ed.upset) : s.directoryResponse id = s.edRespond o := by
  simp only [State.directoryResponse, found, sent, ent, on, ne_eq, not_true_eq_false, if_false, Bool.and_self, if_true]
  unfold State.edAnswer
  split
  · next i reads => rw [if_neg (by simp [clean, good i reads])]
  · rfl

theorem edReads_index {s : State} {o : Op} {i : Nat} (h : s.edReads o = some i) (old : o.kind ≠ .entNew) : i = hIndex o.addr := by
  unfold State.edReads at h
  rw [if_neg old] at h
  split at h
  · cases h
  · exact (Option.some.inj h).symm

/-- The directory counts the request, and performs it on the state that is left. -/
theorem edRespond_counted (s : State) (o : Op) :
    Watched s (s.occ { ev := 0x40, inst := 0, title := (s.strand o.e o.t).title, master := o.e }) := (Watched.refl s).occ

theorem Accesses.setEd {s t : State} (h : Accesses s t) (d : Ed) : Accesses { s with ed := d } { t with ed := d } :=
  ⟨congrArg (fun c : State => { c with ed := d }) h.core⟩

/-- An operation that is acknowledged when the directory is `d`. -/
theorem acked {s w : State} {o : Op} {d : Ed} (h : Accesses { s with ed := d } w) (up : (s.strand o.e o.t).st ≠ .disabled) :
    (w.ackOp o).findOp o.id = none ∧ (w.ackOp o).ed = d := by
  have ends : Ends w (w.ackOp o) o id := ackOp_ends (by rw [h.strand]; exact up)
  exact ⟨ends.findOp, ends.ed.trans h.ed⟩

/-- What the directory does on each kind of request whose handle is good; the request itself has been counted in `u`. -/
theorem edRespond_good {s : State} {o : Op} (check : s.edCheck o.addr o.kind = none) : ∃ u, Watched s u ∧
    (o.kind = .entPub → s.edRespond o = (u.edPublish o).ackOp o) ∧
    (o.kind = .entFree → o.a2 = 1 → s.edRespond o = (u.freeNow (hIndex o.addr)).ackOp o) ∧
    (o.kind = .entMove → s.edRespond o =
      (if o.a2 = 1 then (u.unlink (hIndex o.addr)).linkHead (hIndex o.addr) (o.a1 % 2 ^ 20)
       else u.tkWrite (u.linkAddr (hIndex o.addr) + 8) 8 (o.a1 % 2 ^ 20 + 2 ^ 20)).ackOp o) := by
  obtain ⟨p, n, eq⟩ := edRespond_counted s o
  have check' : ({ s with pm := p, free := n } : State).edCheck o.addr o.kind = none := check
  refine ⟨_, ⟨p, n, rfl⟩, fun kind => ?_, fun kind a2 => ?_, fun kind => ?_⟩
  all_goals
    rw [kind] at check'
    unfold State.edRespond
    rw [eq]
    simp only [kind, reduceCtorEq, if_false, check']
  · rw [if_pos a2]
  · split <;> rfl

theorem edRespond_new {s : State} {o : Op} (kind : o.kind = .entNew) : ∃ u, Watched s u ∧
    ∀ h w, u.edNew o = (some h, w) → s.edRespond o = w.completeOp o h := by
  obtain ⟨p, n, eq⟩ := edRespond_counted s o
  refine ⟨_, ⟨p, n, rfl⟩, fun h w new => ?_⟩
  unfold State.edRespond
  rw [eq]
  simp only [kind, if_true, new]

/-! ## What it leaves of the entries -/

/-- The directory with entry `i` written. -/
def Ed.put (d : Ed) (i : Nat) (v : Word64) : Ed :=
  { d with ent := smapPut entry0 d.ent i v, upset := d.upset.filter (· != i) }

@[simp] theorem Ed.put_free (d : Ed) (i : Nat) (v : Word64) : (d.put i v).free = d.free := rfl
@[simp] theorem Ed.put_births (d : Ed) (i : Nat) (v : Word64) : (d.put i v).births = d.births := rfl
@[simp] theorem Ed.put_frees (d : Ed) (i : Nat) (v : Word64) : (d.put i v).frees = d.frees := rfl

theorem State.setEntry_eq (s : State) (i : Nat) (v : Word64) : s.setEntry i v = { s with ed := s.ed.put i v } := rfl

theorem entry_of_put {s t : State} {i : Nat} {v : Word64} (h : t.ed.ent = (s.ed.put i v).ent) :
    t.entry i = v ∧ ∀ j, j ≠ i → t.entry j = s.entry j := by
  have same (j : Nat) : t.entry j = (s.setEntry i v).entry j := by rw [State.entry, h, State.entry]; rfl
  exact ⟨by rw [same, State.entry_setEntry_same], fun j other => by rw [same, State.entry_setEntry_ne _ _ _ _ other]⟩

theorem accesses_setEntry {s u : State} (h : Accesses s u) (i : Nat) (v : Word64) :
    Accesses { s with ed := s.ed.put i v } (u.setEntry i v) := by
  rw [State.setEntry_eq, h.ed]
  exact h.setEd _

theorem accesses_setEntry_free {s u : State} (h : Accesses s u) (i : Nat) (v : Word64) (l : List (Nat × Nat)) :
    Accesses { s with ed := { s.ed.put i v with free := l } } (State.setEntry { u with ed := { u.ed with free := l } } i v) := by
  rw [State.setEntry_eq, h.ed]
  exact h.setEd _

/-- An entry that engine `e` publishes: the engine is the owner where the entry is unlocked and names none (R83, R103). -/
def publishedBy (v : Word64) (e : Nat) : Word64 :=
  if !entLock v && entOwner v == 0x3F then withOwner (withPublished v true) e else withPublished v true

theorem State.edPublish_eq (u : State) {o : Op} (title : o.a2 ≠ 1) : ∃ wa n, u.edPublish o =
    ((u.setEntry (hIndex o.addr) (publishedBy (u.entry (hIndex o.addr)) o.e)).tkRead (u.maskAddr (hIndex o.addr)) 8 57).2.tkWrite wa 8 n :=
  ⟨_, _, if_neg title⟩

/-- ENT.PUB of a title strand: the entry is written, and the masks are memory's. -/
theorem edPublish_title {s u : State} {o : Op} (h : Accesses s u) (title : o.a2 ≠ 1) :
    Accesses { s with ed := s.ed.put (hIndex o.addr) (publishedBy (s.entry (hIndex o.addr)) o.e) } (u.edPublish o) := by
  obtain ⟨wa, n, eq⟩ := u.edPublish_eq title
  rw [eq, h.entry]
  exact (accesses_setEntry h _ _).tkRead.tkWrite

theorem accesses_free_setEntry {s w : State} (h : Accesses s w) (i : Nat) (v : Word64) :
    Accesses { s with ed := { s.ed.put i v with free := freePush s.ed.free i } }
      { w.setEntry i v with ed := { (w.setEntry i v).ed with free := freePush (w.setEntry i v).ed.free i } } := by
  rw [State.setEntry_eq, h.ed]
  exact h.setEd _

/-- An entity is freed: its entry keeps the generation, its index goes to the tail of the list, and the rest is memory's. -/
theorem freeNow_frees {s u : State} (h : Accesses s u) (i : Nat) :
    Accesses { s with ed := { s.ed.put i (entPut entry0 54 10 (entGen (s.entry i))) with free := freePush s.ed.free i } }
      (u.freeNow i) := by
  have cleared : Accesses s (((u.unlink i).tkPut (u.ladderAddr i) 40 0 0xFF).tkPut (u.maskAddr i) 8 0 0xFF) := h.unlink.tkPut.tkPut
  unfold State.freeNow
  rw [h.entry]
  exact accesses_free_setEntry cleared i _

/-- An entry is written and no more: memory stands where the Loupe does not drain to it. -/
theorem setEntry_undrained {s u : State} {o : Op} (watched : Watched s u) (up : (s.strand o.e o.t).st ≠ .disabled) (i : Nat) (v : Word64)
    (off : s.fld F.PM_LOUPE_CTRL_drain 0 0 = 0) : ((u.setEntry i v).ackOp o).dram = s.dram := by
  obtain ⟨p, n, rfl⟩ := watched
  exact ackOp_undrained (s := State.setEntry _ i v) up off

/-- An entry that is free keeps its generation alone. -/
theorem freeEntry_fields (v : Word64) :
    entValid (entPut entry0 54 10 (entGen v)) = false ∧ entGen (entPut entry0 54 10 (entGen v)) = entGen v := by
  have small : entGen v < 2 ^ 10 := Nat.mod_lt _ (by decide)
  generalize entGen v = g at small ⊢
  have word : (entPut entry0 54 10 g).toNat = 0x3F000000000 + g * 2 ^ 54 := by
    have empty : entry0.toNat = 0x3F000000000 := by decide
    simp only [entPut, putBits, empty, BitVec.toNat_ofNat]
    omega
  simp only [entValid, entGen, entGet, bitsOf, word]
  refine ⟨?_, by omega⟩
  simp only [beq_eq_false_iff_ne]
  omega

/-- ENT.NEW of a supervisor strand: the head of the free list, with the next generation, and no birth counted. -/
theorem edNew_supervisor {s u : State} {o : Op} {x g : Nat} {l : List (Nat × Nat)} (h : Accesses s u) (supervisor : o.a2 = 1)
    (head : freeTake s.ed.quar (s.ed.quar.length + 1) s.ed.free = some (x, l))
    (hg : g = if (entGen (s.entry x) + 1) % 1024 = 0 then 1 else (entGen (s.entry x) + 1) % 1024) :
    ∃ v w, u.edNew o = (some (mkHandle x g), w) ∧ Accesses { s with ed := { s.ed.put x v with free := l } } w := by
  have head' : freeTake u.ed.quar (u.ed.quar.length + 1) u.ed.free = some (x, l) := by rw [h.ed, head]
  unfold State.edNew
  simp only [supervisor, Nat.one_ne_zero, false_and, if_false, head', if_true, h.entry, ← hg]
  exact ⟨_, _, rfl, (accesses_setEntry_free h x _ l).tkPut⟩

/-! ## O60 -/

/-- Settles O60: what the directory does to the entry is one write of it, and the rest of the request is memory's. -/
theorem entityChanges : Obligations.EntityChanges := by
  unfold Obligations.EntityChanges
  refine ⟨fun id i s o found hi clean good sent up fenced on check => ?_,
    fun id x g l s o found kind a2 clean sent up fenced on head good hg => ?_⟩
  · subst hi
    have number : o.id = id := by simpa using List.find?_some found
    obtain ⟨u, watched, pub, free, move⟩ := edRespond_good check
    have base : Accesses s u := .of_watched watched
    have answers (ent : o.kind.isEnt = true) (old : o.kind ≠ .entNew) : exec (.directoryResponse id) s = .next (s.edRespond o) :=
      congrArg Host.Outcome.next (directoryResponse_entity found sent ent (by rwa [if_neg old]) clean
        fun j reads => by rwa [edReads_index reads old])
    refine ⟨fun kind title => ?_, fun kind supervisor => ?_, fun kind supervisor => ?_, fun kind => ?_⟩
    · obtain ⟨gone, ed⟩ := acked (edPublish_title base title) up
      rw [number] at gone
      obtain ⟨entry, others⟩ := entry_of_put (congrArg Ed.ent ed)
      rw [← pub kind] at gone ed entry others
      exact ⟨_, _, answers (by rw [kind]; rfl) (by rw [kind]; decide), gone, rfl, by rw [ed, Ed.put_births],
        by rw [ed, Ed.put_frees], by rw [ed, Ed.put_free], entry, others⟩
    · have publish : u.edPublish o = u.setEntry (hIndex o.addr) (withLive (u.entry (hIndex o.addr)) (1 - entLive (u.entry (hIndex o.addr)))) := by
        rw [State.edPublish, if_pos supervisor]
      rw [publish, base.entry] at pub
      obtain ⟨gone, ed⟩ := acked (accesses_setEntry base (hIndex o.addr) _) up
      rw [number] at gone
      obtain ⟨entry, others⟩ := entry_of_put (congrArg Ed.ent ed)
      rw [← pub kind] at gone ed entry others
      refine ⟨_, answers (by rw [kind]; rfl) (by rw [kind]; decide), gone, entry, by rw [ed, Ed.put_free], fun off => ?_, others⟩
      rw [pub kind]
      exact setEntry_undrained watched up _ _ off
    · obtain ⟨gone, ed⟩ := acked (freeNow_frees base (hIndex o.addr)) up
      rw [number] at gone
      obtain ⟨entry, others⟩ := entry_of_put (s := s) (i := hIndex o.addr) (by rw [ed])
      rw [← free kind supervisor] at gone ed entry others
      obtain ⟨invalid, gen⟩ := freeEntry_fields (s.entry (hIndex o.addr))
      exact ⟨_, answers (by rw [kind]; rfl) (by rw [kind]; decide), gone, by rw [entry, invalid], by rw [entry, gen], by rw [ed],
        by rw [ed, Ed.put_frees], others⟩
    · have moved : Accesses { s with ed := s.ed } (if o.a2 = 1 then (u.unlink (hIndex o.addr)).linkHead (hIndex o.addr) (o.a1 % 2 ^ 20)
          else u.tkWrite (u.linkAddr (hIndex o.addr) + 8) 8 (o.a1 % 2 ^ 20 + 2 ^ 20)) := .ite base.unlink.linkHead base.tkWrite
      obtain ⟨gone, ed⟩ := acked moved up
      rw [number, ← move kind] at gone
      rw [← move kind] at ed
      exact ⟨_, answers (by rw [kind]; rfl) (by rw [kind]; decide), gone, ed⟩
  · obtain ⟨u, watched, new⟩ := edRespond_new kind
    obtain ⟨v, w, took, memory⟩ := edNew_supervisor (.of_watched watched) a2 head hg
    have reads : s.edReads o = some x := by
      simp [State.edReads, kind, a2, head]
    have answers : exec (.directoryResponse id) s = .next (s.edRespond o) :=
      congrArg Host.Outcome.next (directoryResponse_entity found sent (by rw [kind]; rfl) (by rwa [if_pos kind]) clean
        fun j hj => by rw [reads] at hj; rwa [← Option.some.inj hj])
    have ends := completeOp_ends (mkHandle x g) (s := w) (o := o) (by rw [memory.strand]; exact up)
    have in_use : (w.eng o.e).fenced = false := by rw [memory.eng]; exact fenced
    rw [in_use, ← new _ _ took] at ends
    have ed := ends.ed.trans memory.ed
    obtain ⟨_, others⟩ := entry_of_put (s := s) (i := x) (by rw [ed])
    exact ⟨_, answers, ends.returns fun _ pos small => Strand.rg_wreg pos small, by rw [ed],
      by rw [ed, Ed.put_births], by rw [ed, Ed.put_frees], others⟩

end Sys2Proof.Machine
end

section
/-!
PROOFS. TICK.WAIT and TICK.DONE (O16).
-/

namespace Sys2Proof.Machine

set_option Elab.async false

/-! ## What the tick unit knows of a strand -/

theorem issued_tk (s : State) (i : Iss) (d : Info) : (issued s i d).tk = s.tk := (congrArg State.tk (issued_frame s i d) :)
theorem issued_dram (s : State) (i : Iss) (d : Info) : (issued s i d).dram = s.dram := (congrArg State.dram (issued_frame s i d) :)

theorem Accesses.simWaits {s t : State} (h : Accesses s t) (k : Nat) : t.simWaits k = s.simWaits k := by
  rw [State.simWaits, h.tk, State.simWaits]

theorem simWaits_issued (s : State) (i : Iss) (d : Info) (k : Nat) : (issued s i d).simWaits k = s.simWaits k := by
  rw [State.simWaits, issued_tk, State.simWaits]

/-- A strand that holds nothing has rank 0. -/
theorem Strand.rank_zero {x : Strand} (locks : x.locks = []) (slots : x.slots = []) (dma : x.dma = 0) : x.rank = 0 := by
  simp [Strand.rank, locks, slots, dma]

theorem tickOcc_watched (s : State) (e t : Nat) : Watched s (s.tickOcc e t) := (Watched.refl s).occ.sample

theorem tickOcc_accesses (s : State) (e t : Nat) : Accesses s (s.tickOcc e t) := .of_watched (tickOcc_watched s e t)

theorem LOUPE_drain_not_issueKey (e : Fin 35) : fldKey F.PM_LOUPE_CTRL_drain 0 0 ∉ issueKeys e.val := by
  revert e
  decide

/-- The strand returns from TICK.WAIT with tick `n` and its deadline `dl`, in its window. -/
def Strand.windowed (x : Strand) (rd d n dl : Nat) : Strand :=
  { (x.wg rd (BitVec.ofNat 64 (n % 2 ^ 32))).wdl d (BitVec.ofNat 64 dl) with
    st := .ready, wait := none, inWin := true, tick := n, pc := x.pc + 1 }

theorem Strand.pc_wg (x : Strand) (k : Nat) (v : Word64) : (x.wg k v).pc = x.pc := by
  unfold Strand.wg
  split <;> rfl

theorem strand_openWindow {s : State} {n : Nat} (sim : s.tk.sim = some n) (e t rd dl : Nat) :
    (s.openWindow e t rd dl).strand e t = (s.strand e t).windowed rd dl n (s.tk.simStart + s.tk.simDl) := by
  rw [State.openWindow, State.strand_setStrand_same, sim, Strand.windowed, ← Strand.pc_wg (s.strand e t) rd]
  rfl

/-! ## The two instructions -/

theorem tickWait_issues {i : Iss} {f : FmtE} {s : State} (rs1 : f.rs1 = 0) (rs2 : f.rs2 = 0) (channel : i.e.val < 34)
    (out : (s.me i).inWin = false) (rank : (s.me i).rank = 0)
    (h : IssuesE s i { writes := gN f.rd ++ [regDl f.dl.toNat], mem := true }) :
    exec (.tickWait i f) s = .next (
      let u := (issued s i { writes := gN f.rd ++ [regDl f.dl.toNat], mem := true }).tickOcc i.e.val i.t.val
      if s.simWaits (skey i.e.val i.t.val) then u.openWindow i.e.val i.t.val f.rd.toNat f.dl.toNat
      else u.enterWait i.e.val i.t.val (.tick f.rd.toNat f.dl.toNat)) := by
  obtain ⟨issues, free⟩ := h
  have engine : (i.e.val == 34) = false := by simp; omega
  refine exec_go (c := .tickWait i f) rfl (illIf_false (by simp [rs1, rs2])) issues ?_
  simp only [issued_me, firstTrap, engine, out, rank, Bool.or_self, bne_self_eq_false, Bool.false_eq_true, if_false, free,
    (tickOcc_accesses _ _ _).simWaits, simWaits_issued]
  split <;> rfl

theorem tickDone_issues {i : Iss} {f : FmtE} {s : State} (rs1 : f.rs1 = 0) (rs2 : f.rs2 = 0) (rd : f.rd = 0) (dl : f.dl = 0)
    (channel : i.e.val < 34) (inside : (s.me i).inWin = true) (rank : (s.me i).rank = 0) (h : IssuesE s i { mem := true }) :
    exec (.tickDone i f) s = .next (((((issued s i { mem := true }).tickOcc i.e.val i.t.val).finishSample
      (tickOp i.e.val i.t.val) 0).retire i fun y => { y with inWin := false, everDone := true }).noteDone (skey i.e.val i.t.val)) := by
  obtain ⟨issues, free⟩ := h
  have engine : (i.e.val == 34) = false := by simp; omega
  refine exec_go (c := .tickDone i f) rfl (illIf_false (by simp [rs1, rs2, rd, dl])) issues ?_
  simp only [issued_me, firstTrap, engine, inside, rank, Bool.or_self, Bool.not_true, bne_self_eq_false, Bool.false_eq_true,
    if_false, free]

/-- That a strand is done is all that the tick unit notes. -/
theorem noteDone_shape (s : State) (k : Nat) : ∃ x, s.noteDone k = { s with tk := x } := by
  unfold State.noteDone
  split <;> exact ⟨_, rfl⟩

theorem doneAt_noteDone {s : State} {k : Nat} (waits : s.simWaits k = true) :
    smapFind (s.noteDone k).tk.doneAt k = some (s.tb - s.tk.simAt + 1) := by
  rw [State.noteDone, if_pos waits]
  exact smapFind_insert_same _ _ _

/-- Settles O16: the instruction's own part touches its strand and what the tick unit knows of it. -/
theorem tickResult : Obligations.TickResult := by
  unfold Obligations.TickResult
  refine ⟨fun i f s d hd rs1 rs2 channel out locks slots dma h => ?_,
    fun i f s rs1 rs2 rd dl channel inside locks slots dma h => ?_⟩
  · subst hd
    have eq := tickWait_issues rs1 rs2 channel out (Strand.rank_zero locks slots dma) h
    set v := issued s i { writes := gN f.rd ++ [regDl f.dl.toNat], mem := true }
    have seen : Accesses v (v.tickOcc i.e.val i.t.val) := tickOcc_accesses _ _ _
    have me : v.strand i.e.val i.t.val = s.me i := issued_me ..
    have tk : (v.tickOcc i.e.val i.t.val).tk = s.tk := seen.tk.trans (issued_tk ..)
    refine ⟨fun n sim counted => ⟨_, eq, ?_⟩, fun stays => ⟨_, eq, ?_⟩⟩
    · rw [if_pos counted, State.me, strand_openWindow (n := n) (by rw [tk, sim]), seen.strand, me, tk]
      rfl
    · rw [if_neg (by simp [stays]), State.me, strand_enterWait, seen.strand, me]
      exact ⟨rfl, rfl, rfl, out⟩
  · refine ⟨_, tickDone_issues rs1 rs2 rd dl channel inside (Strand.rank_zero locks slots dma) h, ?_⟩
    set v := issued s i { mem := true }
    set u := (v.tickOcc i.e.val i.t.val).finishSample (tickOp i.e.val i.t.val) 0
    have seen : Accesses v u := (tickOcc_accesses _ _ _).finishSample
    have tk : u.tk = s.tk := seen.tk.trans (issued_tk ..)
    have tb : u.tb = s.tb := seen.tb.trans (issued_tb ..)
    set w := u.retire i fun y => { y with inWin := false, everDone := true }
    obtain ⟨x, noted⟩ := noteDone_shape w (skey i.e.val i.t.val)
    refine ⟨?_, fun counted => ?_, fun off => ?_, ?_⟩
    · rw [noted]
      change w.me i = _
      rw [retire_me, State.me, seen.strand, ← State.me, issued_me]
      rfl
    · have waits : w.simWaits (skey i.e.val i.t.val) = true := by
        rwa [← simWaits_issued s i { mem := true }, ← seen.simWaits] at counted
      rw [doneAt_noteDone waits, ← tb, ← tk]
      rfl
    · have still : Undrained v u := by
        obtain ⟨p, n, shape⟩ := tickOcc_watched v i.e.val i.t.val
        refine Undrained.finishSamples (t := v.tickOcc i.e.val i.t.val) ⟨by rw [shape], ?_⟩
        rw [shape]
        exact (issued_fld s i _ _ 0 0 (LOUPE_drain_not_issueKey i.e)).trans off
      rw [noted]
      exact still.dram.trans (issued_dram ..)
    · rw [noted]
      exact seen.ed.trans (issued_ed ..)

end Sys2Proof.Machine
end

section
/-!
PROOFS. What a register that holds more than its field does to the opening of SIMULATE (O21).
-/

namespace Sys2Proof.Machine

set_option Elab.async false

/-- The class of the counter of granules read that stands at the address of TK_STATUS, seen from channel 3. -/
def strayClass : Nat := (F.TK_STATUS_phase.base - F.RG_CNT_RD_granules.base - 3 * 0x80) / 0x10

theorem strayClass_key : fldKey F.RG_CNT_RD_granules 3 strayClass = fldKey F.TK_STATUS_phase 0 0 := by decide

/-- PLAY with SIMULATE about to open: strand 0 of engine 0 waits in TICK.WAIT, sampled, and the Loupe drains its records to the ring on
channel 3. The range that holds the ring has the class of `strayClass`, in a field of 3 bits, and the record that waits for
its pair is of no bytes. -/
def strayRange : State :=
  { State.reset with
    regs := [
      (fldKey F.GLOBAL_MODE_mode 0 0, 3),
      (fldKey F.PM_LOUPE_CTRL_drain 0 0, 1),
      (fldKey F.PWR_DOM_powered 0 0, 1),
      (fldKey F.PWR_DOM_powered 37 0, 1),
      (fldKey F.RG_RANGE_LIMIT_limit 0 0, 2 ^ 24 - 1),
      (fldKey F.RG_RANGE_ATTR_class 0 0, strayClass),
      (fldKey F.RG_RANGE_ATTR_valid 0 0, 1),
      (fldKey F.TK_STATUS_phase 0 0, 1),
      (fldKey F.CH_ID_state 3 0, 2),
      (fldKey F.CE_CTRL_run 0 0, 1),
      (fldKey F.CE_STRAND_EN_en 0 0, 1)]
    strands := [(skey 0 0, { st := .waiting, wait := some (.tick 1 1) })]
    tk := { cur := some 0 }
    pm := { samples := [{ op := tickOp 0 0, tb := 0, ev := 0x07, pc := 0, e := 0, t := 0, title := true }], lone := some [] } }

theorem strayRange_runs : exec .simulateOpen strayRange = .next strayRange.simulateOpen := rfl

/-- The record is merged into its granule, which is read for that: the counter of granules read goes from 2 to 3. -/
theorem strayRange_phase : strayRange.simulateOpen.fld F.TK_STATUS_phase 0 0 = 3 := by decide +kernel

/-- Refutes O21: SIMULATE opens, and the record of the TICK.WAIT that returns counts on the tick unit's phase. The statement is of every
state, and so of one no run reaches: `State.setFld` keeps a field's width, and a class of 3 bits leads to no counter at that
address. -/
theorem not_tickOpens : ¬ Obligations.TickOpens := by
  unfold Obligations.TickOpens
  intro ⟨_, opens, _⟩
  obtain ⟨t, eq, phase, _⟩ := opens strayRange 0 rfl (by decide) rfl (by decide) (by decide) (fun b none => by cases none)
  rw [strayRange_runs] at eq
  rw [← Host.Outcome.next.inj eq] at phase
  exact absurd (strayRange_phase.symm.trans phase) (by decide)

end Sys2Proof.Machine
end

section
/-!
PROOFS. The commit of the schedule (O58).
-/

namespace Sys2Proof.Machine

set_option Elab.async false

/-- A commit applies a pending value that fits its field as it is. -/
theorem Applied.fld_shd {s t : State} {f : Fld} {i j : Nat} (h : Applied s t f i j) (fits : s.shd f i j < 2 ^ f.w) :
    t.fld f i j = s.shd f i j := by
  obtain ⟨pending, idle⟩ := h
  unfold State.shd at fits ⊢
  cases found : smapFind s.shadow (fldKey f i j) with
  | none => exact idle found
  | some v =>
    rw [found] at fits
    exact (pending v found).trans (Nat.mod_eq_of_lt fits)

/-- The fields of the schedule (R107). -/
def schedPlaces : List (Fld × Nat) := [(F.TK_PERIOD_ns, 0), (F.TK_INGEST_CLOSE_ns, 0), (F.TK_COMMIT_DL_ns, 0)]

/-- The bounds of a schedule (R107): its period, the close of ingest and the commit deadline. -/
def SchedOk (p i d : Nat) : Prop := 1000000 ≤ p ∧ p ≤ 1000000000 ∧ 10000 ≤ i ∧ i < d ∧ d ≤ p

theorem State.schedCommit_valid {s : State}
    (ok : SchedOk (s.shd F.TK_PERIOD_ns 0 0) (s.shd F.TK_INGEST_CLOSE_ns 0 0) (s.shd F.TK_COMMIT_DL_ns 0 0)) :
    s.schedCommit = s.commitList 0 schedPlaces := if_pos ok

theorem State.schedCommit_invalid {s : State}
    (bad : ¬ SchedOk (s.shd F.TK_PERIOD_ns 0 0) (s.shd F.TK_INGEST_CLOSE_ns 0 0) (s.shd F.TK_COMMIT_DL_ns 0 0)) :
    s.schedCommit = s.setFld F.TK_STATUS_sched_err 0 0 1 := if_neg bad

/-- A tick that starts takes the active schedule. -/
theorem State.tickStart_schedule {t : State} (serves : t.mode = 3 ∨ t.mode = 4) (run : t.fld F.TK_CTRL_run 0 0 ≠ 0)
    (due : t.fld F.TK_START_time 0 0 ≤ t.tb) (met : t.missDue = false) :
    t.tickStart.tk.per = t.fld F.TK_PERIOD_ns 0 0 ∧ t.tickStart.tk.ing = t.fld F.TK_INGEST_CLOSE_ns 0 0 ∧
      t.tickStart.tk.dl = t.fld F.TK_COMMIT_DL_ns 0 0 := by
  have starts : (!((t.mode == 3 || t.mode == 4) && t.fldB F.TK_CTRL_run 0 0 && decide (t.fld F.TK_START_time 0 0 ≤ t.tb) &&
      !t.missDue)) = false := by
    obtain serve | drain := serves
    · simp [serve, State.fldB, run, due, met]
    · simp [drain, State.fldB, run, due, met]
  unfold State.tickStart
  simp only [starts]
  exact ⟨rfl, rfl, rfl⟩

/-- Settles O58: a valid set is committed field by field, and an invalid one sets its flag. -/
theorem scheduleCommit : Obligations.ScheduleCommit := by
  unfold Obligations.ScheduleCommit
  rintro s _ _ _ rfl rfl rfl
  refine ⟨fun ok => ?_, fun bad => ?_⟩
  · have apart : ∀ p ∈ schedPlaces, ∀ q ∈ schedPlaces, fldKey p.1 0 p.2 = fldKey q.1 0 q.2 → p = q := by decide
    have active {f : Fld} (own : (f, 0) ∈ schedPlaces) (fits : s.shd f 0 0 < 2 ^ f.w) :
        (s.commitList 0 schedPlaces).fld f 0 0 = s.shd f 0 0 := (committed_commitList s 0 schedPlaces apart own).1.fld_shd fits
    obtain ⟨period, periodMax, close, beforeDl, dl⟩ := id ok
    have per : (s.commitList 0 schedPlaces).fld F.TK_PERIOD_ns 0 0 = s.shd F.TK_PERIOD_ns 0 0 :=
      active (by decide) (show s.shd F.TK_PERIOD_ns 0 0 < 2 ^ 30 by omega)
    have ing : (s.commitList 0 schedPlaces).fld F.TK_INGEST_CLOSE_ns 0 0 = s.shd F.TK_INGEST_CLOSE_ns 0 0 :=
      active (by decide) (show s.shd F.TK_INGEST_CLOSE_ns 0 0 < 2 ^ 30 by omega)
    have ddl : (s.commitList 0 schedPlaces).fld F.TK_COMMIT_DL_ns 0 0 = s.shd F.TK_COMMIT_DL_ns 0 0 :=
      active (by decide) (show s.shd F.TK_COMMIT_DL_ns 0 0 < 2 ^ 30 by omega)
    have start := (s.commitList_other 0 schedPlaces (g := F.TK_START_time) (a := 0) (b := 0) (by decide)).1
    refine ⟨_, congrArg Host.Outcome.next (State.schedCommit_valid ok), per, ing, ddl, start, s.commitList_frame 0 schedPlaces, ?_⟩
    intro serves run due met
    refine ⟨_, rfl, ?_⟩
    rw [← per, ← ing, ← ddl]
    exact State.tickStart_schedule serves run due met
  · exact ⟨_, congrArg Host.Outcome.next (State.schedCommit_invalid bad), State.fld_setFld_same _ _ _ _ _, onlyRegs_setFld _ _ _ _ _⟩

end Sys2Proof.Machine
end

section
/-!
PROOFS. What a register that holds more than its field does to the close of a commit (O22).
-/

namespace Sys2Proof.Machine

set_option Elab.async false

/-- The class of the counter of granules written that stands at the address of TK_COMMITTED, seen from channel 0. -/
def committedClass : Nat := (F.TK_COMMITTED_tick.base - F.RG_CNT_WR_granules.base) / 0x10

theorem committedClass_key : fldKey F.RG_CNT_WR_granules 0 committedClass = fldKey F.TK_COMMITTED_tick 0 0 := by decide

/-- A commit of tick 0 that is open, on a stack whose channel 0 carries traffic. The one range has the class of `committedClass`, in a
field of 3 bits. -/
def strayCommit : State :=
  { State.reset with
    regs := [
      (fldKey F.PWR_DOM_powered 34 0, 1),
      (fldKey F.RG_RANGE_LIMIT_limit 0 0, 2 ^ 24 - 1),
      (fldKey F.RG_RANGE_ATTR_class 0 0, committedClass),
      (fldKey F.RG_RANGE_ATTR_valid 0 0, 1),
      (fldKey F.TK_STATUS_commit_open 0 0, 1),
      (fldKey F.CH_ID_state 0 0, 2)]
    tk := { sim := some 0 } }

theorem strayCommit_runs : exec .commitClose strayCommit = .next strayCommit.commitClose :=
  congrArg Host.Outcome.next (if_neg (by decide))

/-- The birth list is ended after the tick is entered as committed, and that write is counted: TK_COMMITTED goes from 0 to 1. -/
theorem strayCommit_committed : strayCommit.commitClose.fld F.TK_COMMITTED_tick 0 0 = 1 := by decide +kernel

/-- Refutes O22: a commit closes, and the granule written to end the birth list counts on TK_COMMITTED. The statement is of every state,
and so of one no run reaches: `State.setFld` keeps a field's width, and a class of 3 bits leads to no counter at that address. -/
theorem not_commitSteps : ¬ Obligations.CommitSteps := by
  unfold Obligations.CommitSteps
  intro steps
  obtain ⟨_, _, _, closes⟩ := steps strayCommit 0 rfl
  obtain ⟨t, eq, committed, _⟩ := closes (by decide) (by decide) rfl
  rw [strayCommit_runs] at eq
  rw [← Host.Outcome.next.inj eq] at committed
  exact absurd (strayCommit_committed.symm.trans committed) (by decide)

end Sys2Proof.Machine
end

section
/-!
PROOFS. Bit fields of a directory entry, and what the reads of the tick unit's regions leave alone (O23).
-/

namespace Sys2Proof.Machine

set_option Elab.async false

/-! ## Bit fields -/

theorem testBit_bitsOf (v lo w k : Nat) : (bitsOf v lo w).testBit k = (decide (k < w) && v.testBit (lo + k)) := by
  rw [bitsOf, Nat.testBit_mod_two_pow, Nat.testBit_div_two_pow, Nat.add_comm]

theorem testBit_putBits (v lo w x k : Nat) :
    (putBits v lo w x).testBit k = if k < lo then v.testBit k else if k < lo + w then x.testBit (k - lo) else v.testBit k := by
  have parts : putBits v lo w x = 2 ^ lo * (2 ^ w * (v / 2 ^ (lo + w)) + x % 2 ^ w) + v % 2 ^ lo := by
    unfold putBits
    rw [pow_add]
    ring
  rw [parts, Nat.testBit_two_pow_mul_add _ (Nat.mod_lt _ (Nat.two_pow_pos lo)),
    Nat.testBit_two_pow_mul_add _ (Nat.mod_lt _ (Nat.two_pow_pos w)), Nat.testBit_mod_two_pow, Nat.testBit_mod_two_pow,
    Nat.testBit_div_two_pow]
  split
  · next below => simp [below]
  · next above =>
    by_cases inside : k < lo + w
    · have : k - lo < w := by omega
      simp [inside, this]
    · have : ¬ k - lo < w := by omega
      have : k - lo - w + (lo + w) = k := by omega
      simp [*]

theorem entGet_entPut_same (v : Word64) (lo w x : Nat) (fits : lo + w ≤ 64) : entGet (entPut v lo w x) lo w = x % 2 ^ w := by
  refine Nat.eq_of_testBit_eq fun k => ?_
  simp only [entGet, entPut, BitVec.toNat_ofNat, testBit_bitsOf, Nat.testBit_mod_two_pow, testBit_putBits]
  by_cases inside : k < w
  · have : lo + k < 64 := by omega
    simp [inside, this]
  · simp [inside]

theorem entGet_entPut_ne (v : Word64) {lo w lo' w' : Nat} (x : Nat) (apart : (lo' + w' ≤ lo ∨ lo + w ≤ lo') ∧ lo' + w' ≤ 64) :
    entGet (entPut v lo w x) lo' w' = entGet v lo' w' := by
  refine Nat.eq_of_testBit_eq fun k => ?_
  simp only [entGet, entPut, BitVec.toNat_ofNat, testBit_bitsOf, Nat.testBit_mod_two_pow, testBit_putBits]
  by_cases inside : k < w'
  · have : lo' + k < 64 := by omega
    obtain ⟨below | above, _⟩ := apart
    · have : lo' + k < lo := by omega
      simp [*]
    · have : ¬ lo' + k < lo := by omega
      have : ¬ lo' + k < lo + w := by omega
      simp [*]
  · simp [inside]

/-! ## Entries that are kept, marked and restarted -/

/-- A torn entry that is kept (R123): torn and the lock are cleared. -/
def keptEntry (v : Word64) : Word64 :=
  if entLock (withTorn v false) then unlocked (withTorn v false) (entOwner (withTorn v false)) else withTorn v false

/-- A valid entry at a warm restart (R125). -/
def warmed (v : Word64) : Word64 := withOwner (withLock (withPublished v false) false) 0x3F

theorem keptEntry_fields (v : Word64) :
    entTorn (keptEntry v) = false ∧ entLock (keptEntry v) = false ∧ entLive (keptEntry v) = entLive v := by
  unfold keptEntry
  split
  · simp (disch := decide) [unlocked, entTorn, entLock, entLive, withTorn, withLock, withOwner, entGet_entPut_same, entGet_entPut_ne, b2n]
  · next idle =>
    refine ⟨?_, by simpa using idle, ?_⟩
    all_goals simp (disch := decide) [entTorn, entLive, withTorn, entGet_entPut_same, entGet_entPut_ne, b2n]

theorem marked_fields (v : Word64) :
    entTorn (marked (withTorn v false)) = false ∧ entFreeing (marked (withTorn v false)) = true := by
  simp (disch := decide) [marked, entTorn, entFreeing, entLock, entOwner, withTorn, withLock, withOwner, entGet_entPut_same,
    entGet_entPut_ne, b2n]

theorem warmed_fields (v : Word64) :
    entPublished (warmed v) = false ∧ entLock (warmed v) = false ∧ entOwner (warmed v) = 0x3F := by
  simp (disch := decide) [warmed, entPublished, entLock, entOwner, withPublished, withLock, withOwner, entGet_entPut_same,
    entGet_entPut_ne, b2n]

/-! ## Reads of lists and records in the device area -/

namespace Accesses

variable {s t : State}

theorem handlesFrom (h : Accesses s t) {m n wa : Nat} {l : List Nat} : Accesses s (handlesFrom m n t wa l).2 := by
  induction n generalizing t wa l with
  | zero => exact h
  | succ n ih =>
    unfold Machine.handlesFrom
    dsimp only
    split
    · split
      · exact h.tkRead
      · exact ih h.tkRead
    · exact h.tkRead

theorem handles (h : Accesses s t) {m wa : Nat} : Accesses s (t.handles m wa).2 := h.handlesFrom

theorem ringSlot (h : Accesses s t) {k : Nat} : Accesses s (t.ringRecord? k).2.2 := by
  unfold State.ringRecord?
  dsimp only
  split <;> exact h.tkRead

theorem newestRecord (h : Accesses s t) : Accesses s t.newestRecord.2 := by
  unfold State.newestRecord
  generalize none = newest
  induction List.range 64 generalizing t newest with
  | nil => exact h
  | cons k l ih => exact ih h.ringSlot _

end Accesses

end Sys2Proof.Machine
end

section
/-!
PROOFS. The tick unit's controls, the warm restart, torn entities and the grid (O23).
-/

namespace Sys2Proof.Machine

set_option Elab.async false

/-! ## The warm restart (R125) -/

/-- A warm restart ends with result `r`. -/
def State.warmEnd (s : State) (r : Nat) : State := (s.setFld F.TK_WARM_result 0 0 r).setFld F.TK_WARM_busy 0 0 0

theorem warmEnd_ends (s : State) {r : Nat} (small : r < 8) :
    (s.warmEnd r).fld F.TK_WARM_busy 0 0 = 0 ∧ (s.warmEnd r).fld F.TK_WARM_result 0 0 = r := by
  refine ⟨State.fld_setFld_same _ _ _ _ _, ?_⟩
  rw [State.warmEnd, State.fld_setFld_ne _ _ _ _ _ _ _ _ (by decide), State.fld_setFld_same]
  exact Nat.mod_eq_of_lt small

/-- The births of the open tick are undone (R125). -/
def State.undoBirths (s : State) (valid : Nat → Bool) : State :=
  ((s.edScan 57 valid).handles 57 (devAddr 0 0x850000)).1.foldl (fun s h => s.unbirth h)
    ((s.edScan 57 valid).handles 57 (devAddr 0 0x850000)).2

/-- No births and no frees are counted, and the birth list is empty. -/
def State.clearBirths (s : State) : State := ({ s with ed := { s.ed with births := 0, frees := 0 } }).tkWrite (devAddr 0 0x850000) 4 0

/-- Every entry ever used is gone through. -/
def State.warmEntries (s : State) : State := (s.ed.ent.map (·.1)).foldl (fun s i => s.warmEntry i) s

/-- No tick is open, and the next is that after tick `n`. -/
def State.warmTick (s : State) (n : Nat) : State :=
  ((({ s with tk := { s.tk with cur := none, sim := none, cond := none, counted := [], warm := true } }).setFld
    F.TK_COMMITTED_tick 0 0 n).setFld F.TK_NEXT_tick 0 0 (n + 1)).setFld F.TK_STATUS_phase 0 0 0

section
variable {s : State} (busy : s.fldB F.TK_WARM_busy 0 0 = true)
include busy

theorem warmRestart_none (none : s.newestRecord.1 = none) : s.warmRestart = s.newestRecord.2.warmEnd 2 := by
  unfold State.warmRestart
  simp only [busy, none, Bool.not_true, Bool.false_eq_true, if_false]
  rfl

variable {n : Nat} (newest : s.newestRecord.1 = some n)
include newest

theorem warmRestart_blank (blank : (s.newestRecord.2.ringRecord? (n + 1)).2.1 = 0) :
    s.warmRestart = (s.newestRecord.2.ringRecord? (n + 1)).2.2.warmEnd 3 := by
  unfold State.warmRestart
  simp only [busy, newest, blank, Bool.not_true, Bool.false_eq_true, if_false, if_true]
  rfl

variable (whole : (s.newestRecord.2.ringRecord? (n + 1)).2.1 ≠ 0)
include whole

theorem warmRestart_lost (lost : s.ed.lost = true) :
    s.warmRestart = (s.newestRecord.2.ringRecord? (n + 1)).2.2.warmEnd 4 := by
  unfold State.warmRestart
  simp only [busy, newest, whole, lost, Bool.not_true, Bool.false_eq_true, if_false, if_true]
  rfl

theorem warmRestart_good (kept : s.ed.lost = false) : s.warmRestart =
    ((((s.newestRecord.2.ringRecord? (n + 1)).2.2.undoBirths fun i => entValid (s.entry i)).clearBirths.warmEntries).warmTick n).warmEnd
      1 := by
  unfold State.warmRestart
  simp only [busy, newest, whole, kept, Bool.not_true, Bool.false_eq_true, if_false, State.undoBirths, State.clearBirths,
    State.warmEntries, State.warmTick, State.warmEnd]

end

/-! ### The directory across a warm restart -/

theorem edLost_quar (s : State) (m : Nat) {i k : Nat} (other : k ≠ i) :
    (s.edLost m i).ed.quar.contains k = s.ed.quar.contains k := by
  unfold State.edLost
  obtain ⟨x, eq⟩ := raise_shape ({ s with ed := _ } : State) _
  rw [eq]
  dsimp only
  split
  · rfl
  · simp [other]

/-- Reading another entry that has a double-bit error quarantines no index but its own (R105). -/
theorem edScan_quar {s : State} {m k : Nat} (p : Nat → Bool) (good : k ∉ s.ed.upset) :
    (s.edScan m p).ed.quar.contains k = s.ed.quar.contains k := by
  have fold (l : List Nat) (other : ∀ i ∈ l, k ≠ i) (u : State) :
      (l.foldl (fun s i => s.edLost m i) u).ed.quar.contains k = u.ed.quar.contains k := by
    induction l generalizing u with
    | nil => rfl
    | cons i l ih =>
      obtain ⟨first, rest⟩ := List.forall_mem_cons.1 other
      exact (ih rest _).trans (edLost_quar u m first)
  exact fold _ (fun i mem same => good (List.mem_of_mem_filter (same ▸ mem))) s

theorem setEntry_quar (s : State) (i : Nat) (v : Word64) : (s.setEntry i v).ed.quar = s.ed.quar := rfl
theorem setEntry_births (s : State) (i : Nat) (v : Word64) : (s.setEntry i v).ed.births = s.ed.births := rfl
theorem setEntry_frees (s : State) (i : Nat) (v : Word64) : (s.setEntry i v).ed.frees = s.ed.frees := rfl

theorem unbirth_quar (s : State) (h : Nat) : (s.unbirth h).ed.quar = s.ed.quar := by
  unfold State.unbirth
  dsimp only
  split
  · rw [setEntry_quar]
  · rfl

theorem foldl_unbirth_quar (l : List Nat) (s : State) : (l.foldl (fun s h => s.unbirth h) s).ed.quar = s.ed.quar := by
  induction l generalizing s with
  | nil => rfl
  | cons h l ih => exact (ih _).trans (unbirth_quar s h)

theorem undoBirths_quar {s : State} {k : Nat} (valid : Nat → Bool) (good : k ∉ s.ed.upset) :
    (s.undoBirths valid).ed.quar.contains k = s.ed.quar.contains k := by
  have listed := (Accesses.refl (s.edScan 57 valid)).handles (m := 57) (wa := devAddr 0 0x850000)
  rw [State.undoBirths, foldl_unbirth_quar, listed.ed, edScan_quar valid good]

theorem clearBirths_ed (s : State) : s.clearBirths.ed = { s.ed with births := 0, frees := 0 } :=
  (Accesses.refl _).tkWrite.ed

/-- One entry of a warm restart: a good valid one is written, and the rest is memory's. -/
theorem warmEntry_accesses (s : State) (i : Nat) :
    Accesses (if entValid (s.entry i) && !s.ed.quar.contains i then s.setEntry i (warmed (s.entry i)) else s) (s.warmEntry i) := by
  unfold State.warmEntry warmed
  exact (Accesses.refl _).tkPut.tkPut

/-- Entry `k` is as a warm restart leaves it. -/
def Warmed (s : State) (k : Nat) : Prop :=
  entValid (s.entry k) = true → entPublished (s.entry k) = false ∧ entLock (s.entry k) = false ∧ entOwner (s.entry k) = 0x3F

theorem warmEntry_counts (s : State) (i : Nat) : (s.warmEntry i).ed.quar = s.ed.quar ∧
    (s.warmEntry i).ed.births = s.ed.births ∧ (s.warmEntry i).ed.frees = s.ed.frees := by
  rw [(warmEntry_accesses s i).ed]
  split
  · exact ⟨setEntry_quar _ _ _, setEntry_births _ _ _, setEntry_frees _ _ _⟩
  · exact ⟨rfl, rfl, rfl⟩

theorem warmEntry_same {s : State} {k : Nat} (good : s.ed.quar.contains k = false) : Warmed (s.warmEntry k) k := by
  rw [Warmed, (warmEntry_accesses s k).entry]
  split
  · rw [State.entry_setEntry_same]
    exact fun _ => warmed_fields _
  · next idle =>
    intro valid
    exact absurd (by rw [valid, good]; rfl) idle

theorem warmEntry_keeps {s : State} {i k : Nat} (good : s.ed.quar.contains k = false) (h : Warmed s k) : Warmed (s.warmEntry i) k := by
  by_cases same : i = k
  · exact same ▸ warmEntry_same (same ▸ good)
  · have other : (s.warmEntry i).entry k = s.entry k := by
      rw [(warmEntry_accesses s i).entry]
      split
      · exact State.entry_setEntry_ne _ _ _ _ (Ne.symm same)
      · rfl
    rwa [Warmed, other]

theorem foldl_warmEntry (l : List Nat) (s : State) : (l.foldl (fun s i => s.warmEntry i) s).ed.births = s.ed.births ∧
    (l.foldl (fun s i => s.warmEntry i) s).ed.frees = s.ed.frees ∧
    ∀ k, s.ed.quar.contains k = false → k ∈ l ∨ Warmed s k → Warmed (l.foldl (fun s i => s.warmEntry i) s) k := by
  induction l generalizing s with
  | nil => exact ⟨rfl, rfl, fun k _ h => h.resolve_left List.not_mem_nil⟩
  | cons i l ih =>
    obtain ⟨quar, births, frees⟩ := warmEntry_counts s i
    obtain ⟨births', frees', entries⟩ := ih (s.warmEntry i)
    refine ⟨births'.trans births, frees'.trans frees, fun k good h => entries k (quar ▸ good) ?_⟩
    by_cases here : k = i
    · exact .inr (here ▸ warmEntry_same (here ▸ good))
    · obtain listed | warm := h
      · exact .inl ((List.mem_cons.1 listed).resolve_left here)
      · exact .inr (warmEntry_keeps good warm)

/-- An index that is not listed has never been used. -/
theorem entry_unlisted {s : State} {k : Nat} (h : k ∉ s.ed.ent.map (·.1)) : s.entry k = entry0 := by
  have absent : smapFind s.ed.ent k = none := by
    revert h
    induction s.ed.ent with
    | nil => exact fun _ => rfl
    | cons e m ih =>
      intro h
      rw [List.map_cons, List.mem_cons, not_or] at h
      obtain ⟨apart, rest⟩ := h
      exact (if_neg apart).trans (ih rest)
  simp [State.entry, smapGet, absent]

theorem warmEntries_ed (s : State) : s.warmEntries.ed.births = s.ed.births ∧ s.warmEntries.ed.frees = s.ed.frees ∧
    ∀ k, s.ed.quar.contains k = false → Warmed s.warmEntries k := by
  obtain ⟨births, frees, entries⟩ := foldl_warmEntry (s.ed.ent.map (·.1)) s
  refine ⟨births, frees, fun k good => entries k good ?_⟩
  by_cases listed : k ∈ s.ed.ent.map (·.1)
  · exact .inl listed
  · refine .inr fun valid => ?_
    rw [entry_unlisted listed] at valid
    exact absurd valid (by decide)

/-- Tick `n` is committed, the next is the one after it, and none is open. -/
def NextAfter (s : State) (n : Nat) : Prop := s.fld F.TK_COMMITTED_tick 0 0 = n % 2 ^ 64 ∧
  s.fld F.TK_NEXT_tick 0 0 = (n + 1) % 2 ^ 64 ∧ s.fld F.TK_STATUS_phase 0 0 = 0

/-- The registers of the tick unit once tick `n` is taken as the last. -/
theorem nextAfter_set (s : State) (n : Nat) : NextAfter (((s.setFld F.TK_COMMITTED_tick 0 0 n).setFld F.TK_NEXT_tick 0 0 (n + 1)).setFld
    F.TK_STATUS_phase 0 0 0) n := by
  refine ⟨?_, ?_, State.fld_setFld_same _ _ _ _ _⟩
  · rw [State.fld_setFld_ne _ _ _ _ _ _ _ _ (by decide), State.fld_setFld_ne _ _ _ _ _ _ _ _ (by decide), State.fld_setFld_same]
    rfl
  · rw [State.fld_setFld_ne _ _ _ _ _ _ _ _ (by decide), State.fld_setFld_same]
    rfl

theorem warmTick_next (s : State) (n : Nat) : NextAfter (s.warmTick n) n := nextAfter_set _ n

theorem fld_warmEnd_ne (s : State) (r : Nat) {f : Fld} {i j : Nat} (result : fldKey f i j ≠ fldKey F.TK_WARM_result 0 0)
    (busy : fldKey f i j ≠ fldKey F.TK_WARM_busy 0 0) : (s.warmEnd r).fld f i j = s.fld f i j := by
  rw [State.warmEnd, State.fld_setFld_ne _ _ _ _ _ _ _ _ busy, State.fld_setFld_ne _ _ _ _ _ _ _ _ result]

/-- The directory after a good warm restart (R125): no births or frees, and every good entry in its form. -/
theorem warmRestart_entries {q : State} {valid : Nat → Bool} :
    (q.undoBirths valid).clearBirths.warmEntries.ed.births = 0 ∧ (q.undoBirths valid).clearBirths.warmEntries.ed.frees = 0 ∧
      ∀ k, q.ed.quar.contains k = false → k ∉ q.ed.upset → Warmed (q.undoBirths valid).clearBirths.warmEntries k := by
  obtain ⟨births, frees, entries⟩ := warmEntries_ed (q.undoBirths valid).clearBirths
  rw [clearBirths_ed] at births frees entries
  exact ⟨births, frees, fun k good clean => entries k ((undoBirths_quar valid clean).trans good)⟩

/-! ## Torn entities (R123, R124) -/

/-- The handle and the result of a resolution are shown. -/
def State.resolveShown (s : State) (h : Nat) : State :=
  (s.setFld F.ED_RESOLVE_HANDLE_handle 0 0 h).setFld F.ED_RESOLVE_CMD_result 0 0 (s.resolveCheck h)

theorem fld_resolveShown (s : State) (h : Nat) : (s.resolveShown h).fld F.ED_RESOLVE_CMD_result 0 0 = s.resolveCheck h := by
  have small : s.resolveCheck h < 4 := by
    unfold State.resolveCheck
    dsimp only
    split
    · decide
    · split <;> decide
  rw [State.resolveShown, State.fld_setFld_same]
  exact Nat.mod_eq_of_lt small

section
variable {s : State} {h : Nat} (clean : hIndex h ∉ s.ed.upset)
include clean

theorem resolveKeep_bad (bad : s.resolveCheck h ≠ 0) : s.resolveKeep h = s.resolveShown h := by
  rw [State.resolveKeep, edScan_none clean]
  exact if_pos bad

theorem resolveFree_bad (bad : s.resolveCheck h ≠ 0) : s.resolveFree h = s.resolveShown h := by
  rw [State.resolveFree, edScan_none clean]
  exact if_pos bad

theorem resolveKeep_good (good : s.resolveCheck h = 0) :
    s.resolveKeep h = (s.resolveShown h).setEntry (hIndex h) (keptEntry (s.entry (hIndex h))) := by
  rw [State.resolveKeep, edScan_none clean]
  exact if_neg (not_not_intro good)

theorem resolveFree_serve (good : s.resolveCheck h = 0) (serve : s.mode = 3) :
    s.resolveFree h = (s.resolveShown h).setEntry (hIndex h) (marked (withTorn (s.entry (hIndex h)) false)) := by
  rw [State.resolveFree, edScan_none clean]
  exact (if_neg (not_not_intro good)).trans (if_pos serve)

theorem resolveFree_else (good : s.resolveCheck h = 0) (other : s.mode ≠ 3) :
    s.resolveFree h = (s.resolveShown h).freeNow (hIndex h) := by
  rw [State.resolveFree, edScan_none clean]
  exact (if_neg (not_not_intro good)).trans (if_neg other)

end

theorem fld_setEntry (s : State) (i : Nat) (v : Word64) (f : Fld) (a b : Nat) : (s.setEntry i v).fld f a b = s.fld f a b := rfl

/-- An entity freed at once is invalid and keeps its generation; no other entry has changed. -/
theorem entry_freeNow (s : State) (i : Nat) : entValid ((s.freeNow i).entry i) = false ∧
    entGen ((s.freeNow i).entry i) = entGen (s.entry i) ∧ ∀ k, k ≠ i → (s.freeNow i).entry k = s.entry k := by
  have freed := (freeNow_frees (Accesses.refl s) i).ed
  obtain ⟨same, others⟩ := entry_of_put (s := s) (t := s.freeNow i) (i := i) (by rw [freed])
  obtain ⟨invalid, gen⟩ := freeEntry_fields (s.entry i)
  rw [same]
  exact ⟨invalid, gen, others⟩

/-! ## The grid (R122) -/

theorem bitsOf_lt (v lo w : Nat) : bitsOf v lo w < 2 ^ w := Nat.mod_lt _ (Nat.two_pow_pos w)

theorem gridWrite_ready {s : State} {v : Nat} (ready : s.mode = 2) (fits : bitsOf v 0 4 + bitsOf v 4 4 ≤ 20) :
    (s.gridWrite v).fld F.ED_GRID_xbits 0 0 = bitsOf v 0 4 ∧ (s.gridWrite v).fld F.ED_GRID_ybits 0 0 = bitsOf v 4 4 ∧
      OnlyRegs s (s.gridWrite v) [fldKey F.ED_GRID_xbits 0 0, fldKey F.ED_GRID_ybits 0 0] := by
  rw [State.gridWrite, if_pos ⟨ready, fits⟩]
  refine ⟨?_, ?_, rfl, fun f i j other => ?_⟩
  · rw [State.fld_setFld_ne _ _ _ _ _ _ _ _ (by decide), State.fld_setFld_same]
    exact Nat.mod_eq_of_lt (bitsOf_lt v 0 4)
  · rw [State.fld_setFld_same]
    exact Nat.mod_eq_of_lt (bitsOf_lt v 4 4)
  · rw [List.mem_pair, not_or] at other
    rw [State.fld_setFld_ne _ _ _ _ _ _ _ _ other.2, State.fld_setFld_ne _ _ _ _ _ _ _ _ other.1]

/-! ## O23 -/

/-- A warm restart that runs ends as its records say. -/
theorem warmRestart_runs {s : State} (running : s.fld F.TK_WARM_busy 0 0 ≠ 0) :
    (s.newestRecord.1 = none → Runs .warmRestartComplete s fun t =>
      t.fld F.TK_WARM_busy 0 0 = 0 ∧ t.fld F.TK_WARM_result 0 0 = 2 ∧ t.ed = s.ed) ∧
    (∀ n, s.newestRecord.1 = some n →
      ((s.newestRecord.2.ringRecord? (n + 1)).2.1 = 0 → Runs .warmRestartComplete s fun t =>
        t.fld F.TK_WARM_busy 0 0 = 0 ∧ t.fld F.TK_WARM_result 0 0 = 3 ∧ t.ed = s.ed) ∧
      ((s.newestRecord.2.ringRecord? (n + 1)).2.1 ≠ 0 →
        (s.ed.lost = true → Runs .warmRestartComplete s fun t =>
          t.fld F.TK_WARM_busy 0 0 = 0 ∧ t.fld F.TK_WARM_result 0 0 = 4 ∧ t.ed = s.ed) ∧
        (s.ed.lost = false → Runs .warmRestartComplete s fun t =>
          t.fld F.TK_WARM_busy 0 0 = 0 ∧ t.fld F.TK_WARM_result 0 0 = 1 ∧
          t.fld F.TK_COMMITTED_tick 0 0 = n % 2 ^ 64 ∧ t.fld F.TK_NEXT_tick 0 0 = (n + 1) % 2 ^ 64 ∧
          t.fld F.TK_STATUS_phase 0 0 = 0 ∧ t.ed.births = 0 ∧ t.ed.frees = 0 ∧
          ∀ k, s.ed.quar.contains k = false → k ∉ s.ed.upset → entValid (t.entry k) = true → entPublished (t.entry k) = false ∧
            entLock (t.entry k) = false ∧ entOwner (t.entry k) = 0x3F))) := by
  have busy : s.fldB F.TK_WARM_busy 0 0 = true := bne_iff_ne.2 running
  have read := (Accesses.refl s).newestRecord
  have ends {u : State} {r : Nat} (small : r < 8) (same : u.ed = s.ed) (eq : s.warmRestart = u.warmEnd r) :
      Runs .warmRestartComplete s fun t => t.fld F.TK_WARM_busy 0 0 = 0 ∧ t.fld F.TK_WARM_result 0 0 = r ∧ t.ed = s.ed := by
    obtain ⟨idle, result⟩ := warmEnd_ends u small
    exact ⟨_, congrArg Host.Outcome.next eq, idle, result, same⟩
  refine ⟨fun none => ends (by decide) read.ed (warmRestart_none busy none), fun n newest => ?_⟩
  have slot := read.ringSlot (k := n + 1)
  refine ⟨fun blank => ends (by decide) slot.ed (warmRestart_blank busy newest blank), fun whole =>
    ⟨fun lost => ends (by decide) slot.ed (warmRestart_lost busy newest whole lost), fun kept => ?_⟩⟩
  obtain ⟨births, frees, entries⟩ := warmRestart_entries (q := (s.newestRecord.2.ringRecord? (n + 1)).2.2)
    (valid := fun i => entValid (s.entry i))
  rw [slot.ed] at entries
  generalize warmth : ((s.newestRecord.2.ringRecord? (n + 1)).2.2.undoBirths fun i => entValid (s.entry i)).clearBirths.warmEntries = w
    at births frees entries
  obtain ⟨idle, result⟩ := warmEnd_ends (w.warmTick n) (r := 1) (by decide)
  obtain ⟨committed, next, phase⟩ := warmTick_next w n
  refine ⟨_, congrArg Host.Outcome.next (warmth ▸ warmRestart_good busy newest whole kept), idle, result, ?_, ?_, ?_, births, frees,
    entries⟩
  · exact (fld_warmEnd_ne _ _ (by decide) (by decide)).trans committed
  · exact (fld_warmEnd_ne _ _ (by decide) (by decide)).trans next
  · exact (fld_warmEnd_ne _ _ (by decide) (by decide)).trans phase

/-- A resolution of a torn entity, by what the check of its handle finds. -/
theorem edResolve_runs {s : State} {h : Word32} (clean : hIndex h.toNat ∉ s.ed.upset) :
    (s.resolveCheck h.toNat ≠ 0 →
      Runs (.edResolveKeep h) s (fun t => t.fld F.ED_RESOLVE_CMD_result 0 0 = s.resolveCheck h.toNat ∧ t.ed = s.ed) ∧
      Runs (.edResolveFree h) s (fun t => t.fld F.ED_RESOLVE_CMD_result 0 0 = s.resolveCheck h.toNat ∧ t.ed = s.ed)) ∧
    (s.resolveCheck h.toNat = 0 →
      Runs (.edResolveKeep h) s (fun t => t.fld F.ED_RESOLVE_CMD_result 0 0 = 0 ∧
        entTorn (t.entry (hIndex h.toNat)) = false ∧ entLock (t.entry (hIndex h.toNat)) = false ∧
        entLive (t.entry (hIndex h.toNat)) = entLive (s.entry (hIndex h.toNat)) ∧
        ∀ k, k ≠ hIndex h.toNat → t.entry k = s.entry k) ∧
      (s.mode = 3 → Runs (.edResolveFree h) s fun t => t.fld F.ED_RESOLVE_CMD_result 0 0 = 0 ∧
        entTorn (t.entry (hIndex h.toNat)) = false ∧ entFreeing (t.entry (hIndex h.toNat)) = true ∧
        ∀ k, k ≠ hIndex h.toNat → t.entry k = s.entry k) ∧
      (s.mode ≠ 3 → Runs (.edResolveFree h) s fun t => entValid (t.entry (hIndex h.toNat)) = false ∧
        entGen (t.entry (hIndex h.toNat)) = entGen (s.entry (hIndex h.toNat)) ∧
        ∀ k, k ≠ hIndex h.toNat → t.entry k = s.entry k)) := by
  have shown := fld_resolveShown s h.toNat
  refine ⟨fun bad => ⟨?_, ?_⟩, fun good => ⟨?_, fun serve => ?_, fun other => ?_⟩⟩
  · exact ⟨_, congrArg Host.Outcome.next (resolveKeep_bad clean bad), shown, rfl⟩
  · exact ⟨_, congrArg Host.Outcome.next (resolveFree_bad clean bad), shown, rfl⟩
  · obtain ⟨torn, lock, live⟩ := keptEntry_fields (s.entry (hIndex h.toNat))
    refine ⟨_, congrArg Host.Outcome.next (resolveKeep_good clean good), ?_⟩
    beta_reduce
    rw [fld_setEntry, State.entry_setEntry_same]
    exact ⟨shown.trans good, torn, lock, live, fun k other => State.entry_setEntry_ne _ _ _ _ other⟩
  · obtain ⟨torn, freeing⟩ := marked_fields (s.entry (hIndex h.toNat))
    refine ⟨_, congrArg Host.Outcome.next (resolveFree_serve clean good serve), ?_⟩
    beta_reduce
    rw [fld_setEntry, State.entry_setEntry_same]
    exact ⟨shown.trans good, torn, freeing, fun k other => State.entry_setEntry_ne _ _ _ _ other⟩
  · exact ⟨_, congrArg Host.Outcome.next (resolveFree_else clean good other), entry_freeNow _ _⟩

/-- Settles O23: a control sets its field; the warm restart ends by what its records say, and a resolution by the check of its handle. -/
theorem tickAndDirectoryControls : Obligations.TickAndDirectoryControls := by
  unfold Obligations.TickAndDirectoryControls
  refine ⟨fun s => ⟨?_, ?_, fun notServe idle => ?_, warmRestart_runs⟩, fun s h v => ⟨?_, ?_, ?_, ?_, ?_⟩⟩
  · exact ⟨_, rfl, State.fld_setFld_same _ _ _ _ _, onlyRegs_setFld _ _ _ _ _⟩
  · exact ⟨_, rfl, State.fld_setFld_same _ _ _ _ _, onlyRegs_setFld _ _ _ _ _⟩
  · have starts : ¬ (s.mode = 3 ∨ s.fldB F.TK_WARM_busy 0 0 = true) := by simp [notServe, State.fldB, idle]
    exact ⟨_, congrArg Host.Outcome.next (if_neg starts), State.fld_setFld_same _ _ _ _ _, onlyRegs_setFld _ _ _ _ _⟩
  · exact fun clean => (edResolve_runs clean).1
  · exact fun clean => (edResolve_runs clean).2
  · exact ⟨_, rfl, State.fld_setFld_same _ _ _ _ _, onlyRegs_setFld _ _ _ _ _⟩
  · exact fun ready fits => ⟨_, rfl, gridWrite_ready ready fits⟩
  · exact fun refused => ⟨_, rfl, if_neg refused⟩

end Sys2Proof.Machine
end

section
/-!
PROOFS. The register fields that accesses to memory write, and what every access keeps (O24).
-/

namespace Sys2Proof.Machine

set_option Elab.async false

/-! ## The fields -/

/-- The register fields that an access to memory can write: the granule counters, and of a channel what its reads, writes, errors and
refreshes count and show. -/
def accessFlds : List Fld :=
  [F.RG_CNT_RD_granules, F.RG_CNT_WR_granules, F.CH_OVERDUE_count, F.CH_STATUS_drain, F.CH_ID_state, F.CH_SR_in_sr, F.CH_SR_TIME_ms,
   F.CH_REF_STAT_worst_bank, F.CH_REF_STAT_worst_d, F.CH_REF_STAT_paydown, F.CH_RP_CLEARS_by_window, F.CH_RP_CLEARS_by_count,
   F.CH_RP_COUNT_count, F.CH_RP_HOLD_count, F.CH_ECC_CE_pc0, F.CH_ECC_CE_pc1, F.CH_ECC_UE_poisoned, F.CH_ECC_UE_uncorrectable,
   F.CH_ECC_WORST_pc0_line, F.CH_ECC_WORST_pc0_count, F.CH_ECC_WORST_pc1_line, F.CH_ECC_WORST_pc1_count, F.CH_UE_STAT_total,
   F.CH_UE_STAT_overflow, F.CH_UE_STAT_count]

/-- A property of the registers and of the machine's core that no access to memory ends. -/
structure Stable (P : State → Prop) : Prop where
  write : ∀ {t : State} {f : Fld} {i j v : Nat}, f ∈ accessFlds → P t → P (t.setFld f i j v)
  same : ∀ {t u : State}, P t → u.regs = t.regs → u.core = t.core → P u

namespace Stable

variable {P : State → Prop} (stable : Stable P) {t : State}

theorem ite {c : Prop} [Decidable c] {u : State} (h : P t) (g : P u) : P (if c then t else u) := by
  split
  · exact h
  · exact g

theorem foldl {α : Type} {f : State → α → State} (step : ∀ u a, P u → P (f u a)) (l : List α) (h : P t) : P (l.foldl f t) := by
  induction l generalizing t with
  | nil => exact h
  | cons a l ih => exact ih (step t a h)

include stable

/-! ### Plain updates -/

theorem setFld {f : Fld} {i j v : Nat} (h : P t) (own : f ∈ accessFlds := by decide) : P (t.setFld f i j v) := stable.write own h
theorem addFld {f : Fld} {i j v : Nat} (h : P t) (own : f ∈ accessFlds := by decide) : P (t.addFld f i j v) := stable.write own h
theorem setChan {c : Nat} {x : Chan} (h : P t) : P (t.setChan c x) := stable.same h rfl rfl
theorem setGran {c g : Nat} {x : Gran} (h : P t) : P (t.setGran c g x) := stable.same h rfl rfl
theorem storeWhole {c g : Nat} {x : SMap Byte} (h : P t) : P (t.storeWhole c g x) := stable.same h rfl rfl
theorem storePoison {c g : Nat} {x : List Byte} (h : P t) : P (t.storePoison c g x) := stable.same h rfl rfl
theorem command {c : Nat} (h : P t) : P (t.command c) := stable.same h rfl rfl
theorem deny {m wa : Nat} {w : Bool} (h : P t) : P (t.deny m wa w) := stable.same h rfl rfl

theorem occ {o : Occ} (h : P t) : P (t.occ o) := by
  obtain ⟨p, eq⟩ := occ_shape t o
  exact stable.same h (by rw [eq]) (by rw [eq]; rfl)

theorem raise {v : FaultEv} (h : P t) : P (t.raise v) := by
  obtain ⟨x, eq⟩ := raise_shape t v
  exact stable.same h (by rw [eq]) (by rw [eq]; rfl)

/-! ### A channel -/

theorem exitSr {c : Nat} (h : P t) : P (t.exitSr c) :=
  have left := stable.addFld (stable.setFld (stable.setFld (stable.setChan h)))
  stable.setFld (stable.setFld (stable.setFld left))

theorem rouse {c : Nat} (h : P t) : P (t.rouse c) := ite (ite h (stable.exitSr h)) (ite h (stable.setChan h))

theorem clearRows {c j : Nat} {w : Bool} (h : P t) : P (t.clearRows c j w) := by
  cases w with
  | false => exact stable.addFld (stable.setChan h)
  | true => exact stable.addFld (stable.setChan h)

theorem countAct {c j r : Nat} (h : P t) : P (t.countAct c j r) :=
  ite h (ite (stable.clearRows (stable.setChan h)) (stable.setChan h))

theorem activate {c j r : Nat} (h : P t) : P (t.activate c j r) := stable.countAct (stable.setChan h)

theorem neighbourStep {c j : Nat} (h : P t) : P (t.neighbourStep c j) := by
  unfold State.neighbourStep
  dsimp only
  split
  · exact h
  · next q rest _ =>
    have moved : ∀ x, P (match q with | r :: _ => (t.setChan c x).countAct c j r | [] => t.setChan c x) := fun x => by
      cases q with
      | nil => exact stable.setChan h
      | cons r q => exact stable.countAct (stable.setChan h)
    cases q with
    | nil => exact ite (stable.occ (stable.addFld (moved _))) (moved _)
    | cons r q => exact ite (stable.occ (stable.addFld (moved _))) (moved _)

theorem drainNeigh {c j n : Nat} (h : P t) : P (t.drainNeigh c j n) := by
  induction n generalizing t with
  | zero => exact h
  | succ n ih => exact ite h (ih (stable.neighbourStep h))

theorem openFor {c g : Nat} {o : Occ} (h : P t) : P (t.openFor c g o) := by
  have room : P (if ((t.chan c).neighOf (bankOf g)).length < 2 then t else (t.addFld F.CH_RP_HOLD_count c 0 1).drainNeigh c (bankOf g) 8) :=
    ite h (stable.drainNeigh (stable.addFld h))
  exact ite (stable.occ (stable.command h)) (stable.occ (stable.command (stable.activate room)))

/-! ### A granule -/

theorem decode {c g : Nat} {l : List SymErr} (h : P t) : P (t.decode c g l).2 := by
  unfold State.decode
  dsimp only
  split <;> exact stable.setGran h

theorem countLine {c pc line : Nat} (h : P t) : P (t.countLine c pc line) := by
  have counted {x : Chan} : P (t.setChan c x) := stable.setChan h
  exact ite (ite (stable.setFld (stable.setFld counted)) counted) (ite (stable.setFld (stable.setFld counted)) counted)

theorem demand {c g wa m a : Nat} {d : Dec} (h : P t) : P (t.demand c g wa m a d) := by
  unfold State.demand
  split
  · exact h
  · exact foldl (fun _ _ hu => stable.countLine hu) _ (ite (stable.addFld h) (stable.addFld h))
  · exact stable.raise (stable.addFld h)
  · exact stable.raise (stable.addFld h)

theorem queueGran {c g q : Nat} (h : P t) : P (t.queueGran c g q).2 := by
  unfold State.queueGran
  dsimp only
  split
  · exact h
  · split
    · exact h
    · exact stable.decode h

theorem readOcc {o : Occ} {out : GOut} (h : P t) : P (t.readOcc o out) := by
  cases out with
  | clean => exact stable.occ h
  | corrected => exact stable.occ (stable.occ h)
  | poisoned => exact h
  | uncorrectable => exact h

theorem readGran {c g m k wa : Nat} (h : P t) : P (t.readGran c g m k wa).2 := by
  have counted : P (t.countRd c k) := stable.addFld h
  unfold State.readGran
  dsimp only
  split
  · exact stable.readOcc (stable.demand (stable.queueGran counted))
  · exact stable.readOcc (stable.demand (stable.decode (stable.openFor counted)))

theorem updDrain {c : Nat} (h : P t) : P (t.updDrain c) := ite (stable.occ (stable.setFld h)) (ite (stable.setFld h) h)

theorem queueWrite {c g k : Nat} {x : SMap Byte} {w : Writer} (h : P t) : P (t.queueWrite c g k x w) := by
  unfold State.queueWrite
  dsimp only
  split
  · exact stable.setChan h
  · exact ite (stable.same h rfl rfl) (stable.updDrain (stable.setChan (t := { t with nextReq := t.nextReq + 1 }) (stable.same h rfl rfl)))

theorem wholeGran {c g m k wa : Nat} {x : SMap Byte} (h : P t) : P (t.wholeGran c g m k wa x) :=
  ite (stable.queueWrite h) (stable.occ (stable.storeWhole (stable.openFor (stable.addFld h))))

theorem ueEnter {c g wa k m : Nat} {n : Option Nat} (h : P t) : P (t.ueEnter c g wa k m n) := by
  have counted : P (t.addFld F.CH_UE_STAT_total c 0 1) := stable.addFld h
  unfold State.ueEnter
  dsimp only
  split
  · exact stable.setFld counted
  · split
    · exact counted
    · refine ite counted (stable.setFld (foldl (fun _ _ hu => stable.wholeGran (stable.rouse hu)) _ ?_))
      exact stable.same counted rfl rfl

theorem writeGran {c g m k wa : Nat} {x : SMap Byte} (h : P t) : P (t.writeGran c g m k wa x) := by
  have read : P (((t.countWr c k).countRd c k).openFor c g { ev := 0x21, inst := c, master := m, addr := wa, cls := k }) :=
    stable.openFor (stable.addFld (stable.addFld h))
  have met {d : Dec} {o p : Occ} := stable.occ (o := p) (stable.occ (o := o)
    (stable.demand (c := c) (g := g) (wa := wa) (m := m) (a := 1) (d := d) (stable.decode (c := c) (g := g) (l := []) read)))
  exact ite (stable.queueWrite h) (ite (stable.wholeGran h)
    (ite (ite (stable.ueEnter (stable.storePoison met)) (stable.storePoison met)) (stable.storeWhole met)))

theorem directLate {c m wa k : Nat} (h : P t) : P (t.directLate c m wa k) := by
  unfold State.directLate
  split
  · exact ite (stable.occ (stable.addFld h)) h
  · exact h

theorem meshDirect {c m e n : Nat} (h : P t) : P (t.meshDirect c m e n) := ite (stable.occ (stable.occ h)) h

/-! ### World memory -/

theorem worldRead {wa m : Nat} {k : Option Nat} (h : P t) : P (t.worldRead wa m k).2 := by
  unfold State.worldRead
  split
  · exact stable.deny h
  · split
    · exact stable.deny h
    · split
      · exact stable.readGran (stable.meshDirect (stable.directLate (stable.rouse h)))
      · exact h

theorem worldWrite {wa m : Nat} {k : Option Nat} {x : SMap Byte} (h : P t) : P (t.worldWrite wa m k x).2 := by
  unfold State.worldWrite
  split
  · exact stable.deny h
  · split
    · exact stable.deny h
    · split
      · exact foldl (fun _ _ hu => stable.writeGran (stable.meshDirect (stable.directLate (stable.rouse hu)))) _ h
      · exact h

theorem tkWrite {wa n v : Nat} (h : P t) : P (t.tkWrite wa n v) := foldl (fun _ _ hu => stable.worldWrite hu) _ h

theorem readPieces {f wa n m : Nat} {k : Option Nat} {l : List Byte} {o : Option GOut} (h : P t) :
    P (readPieces f t wa n m k l o).2.2 := by
  induction f generalizing t wa n l o with
  | zero => exact h
  | succ f ih =>
    have read : P (t.worldRead wa m k).2 := stable.worldRead h
    unfold Machine.readPieces
    split
    · exact h
    · dsimp only
      split
      · next eq => rwa [eq] at read
      · next eq => exact ih (by rwa [eq] at read)

theorem worldGet {wa n m : Nat} {k : Option Nat} (h : P t) : P (t.worldGet wa n m k).2.2 := stable.readPieces h

end Stable

/-! ## Keys that stand -/

/-- Keys at which no access to memory writes a field, whatever class it counts in: below the registers of the channels, and off the
words of the granule counters. -/
def calmKey (k : Nat) : Bool := k < 0x10000000 && (k < 0x510000 || k % 128 != 0)

theorem calmKey_counter {f : Fld} (i j : Nat) (low : f.lo = 0) (base : 0x51000 ≤ f.base) (words : f.base % 8 = 0) (s1 : f.s1 % 8 = 0)
    (s2 : f.s2 % 8 = 0) : calmKey (fldKey f i j) = false := by
  obtain ⟨a, ha⟩ := Nat.dvd_of_mod_eq_zero s1
  obtain ⟨b, hb⟩ := Nat.dvd_of_mod_eq_zero s2
  have rows : i * f.s1 = 8 * (i * a) := by rw [ha]; ring
  have columns : j * f.s2 = 8 * (j * b) := by rw [hb]; ring
  simp [calmKey, fldKey, fldAddr, low, rows, columns]
  omega

theorem calmKey_channel {f : Fld} (i j : Nat) (base : 0x1000000 ≤ f.base) : calmKey (fldKey f i j) = false := by
  have high : 0x10000000 ≤ fldKey f i j := by unfold fldKey fldAddr; omega
  simp [calmKey, high]

theorem calmKey_access {f : Fld} (own : f ∈ accessFlds) (i j : Nat) : calmKey (fldKey f i j) = false := by
  have places : ∀ f ∈ accessFlds, 0x1000000 ≤ f.base ∨
      f.lo = 0 ∧ 0x51000 ≤ f.base ∧ f.base % 8 = 0 ∧ f.s1 % 8 = 0 ∧ f.s2 % 8 = 0 := by decide
  obtain channel | ⟨low, base, words, s1, s2⟩ := places f own
  · exact calmKey_channel i j channel
  · exact calmKey_counter i j low base words s1 s2

end Sys2Proof.Machine
end

section
/-!
PROOFS. A round of a snapshot (O24): what gathering and queueing its records leaves alone, and the state it ends in.
-/

namespace Sys2Proof.Machine

set_option Elab.async false

/-! ## What a round leaves alone -/

/-- From `s` to `t` a snapshot has read memory and queued datagrams, at most: the registers at keys that no access writes stand, and the
final tick is the same. -/
structure Gathers (s t : State) : Prop where
  regs : ∀ k, calmKey k = true → smapFind t.regs k = smapFind s.regs k
  final : t.snap.final = s.snap.final

namespace Gathers

variable {s t u : State}

theorem refl (s : State) : Gathers s s := ⟨fun _ _ => rfl, rfl⟩
/-- Nothing of the registers and of the final tick has been written. -/
theorem of_eq (h : Gathers s t) (regs : u.regs = t.regs) (final : u.snap.final = t.snap.final) : Gathers s u :=
  ⟨fun k calm => (congrArg (smapFind · k) regs).trans (h.regs k calm), final.trans h.final⟩

theorem fld (h : Gathers s t) (f : Fld) {i j : Nat} (calm : calmKey (fldKey f i j) = true := by decide) : t.fld f i j = s.fld f i j := by
  simp only [State.fld, smapGet, h.regs _ calm]

theorem stable (s : State) : Stable (Gathers s) where
  write {t f i j v} own h := ⟨fun k calm => by
    have other : k ≠ fldKey f i j := by rintro rfl; rw [calmKey_access own i j] at calm; cases calm
    exact (smapFind_put_ne _ t.regs _ other).trans (h.regs k calm), h.final⟩
  same h regs core := h.of_eq regs (congrArg (fun c : State => c.snap.final) core :)

theorem edScan (h : Gathers s t) {m : Nat} {p : Nat → Bool} : Gathers s (t.edScan m p) := by
  refine Stable.foldl (fun u i hu => ?_) _ h
  exact (stable s).raise (hu.of_eq rfl rfl)

theorem snapWipe (h : Gathers s t) {k : Nat} {l : List Nat} : Gathers s (t.snapWipe k l) :=
  Stable.foldl (fun _ _ hu => (stable s).tkWrite hu) l h

/-! ### Reading the records -/

theorem snapRead (h : Gathers s t) {wa n : Nat} : Gathers s (t.snapRead wa n).2 := (stable s).worldGet h

theorem snapLinks (h : Gathers s t) {l : List Nat} : Gathers s (t.snapLinks l).2 := by
  unfold State.snapLinks
  generalize some [] = read
  induction l generalizing t read with
  | nil => exact h
  | cons i l ih =>
    rw [List.foldl_cons]
    cases read with
    | none => exact ih h none
    | some bytes =>
      have link := h.snapRead (wa := t.linkAddr i) (n := 16)
      dsimp only
      split
      · next eq => exact ih (by rwa [eq] at link) _
      · next eq => exact ih (by rwa [eq] at link) _

theorem add {a : SnapOut} (h : Gathers s a.2) {rd : State → Option (List Byte) × State} {mk : List Byte → List Byte}
    (read : ∀ u, Gathers s u → Gathers s (rd u).2) : Gathers s (a.add rd mk).2 := by
  have next := read a.2 h
  unfold SnapOut.add
  split
  · exact h
  · split
    · next eq => rwa [eq] at next
    · next eq => rwa [eq] at next

theorem foldl_out {α : Type} {f : SnapOut → α → SnapOut} (step : ∀ a x, Gathers s a.2 → Gathers s (f a x).2) (l : List α)
    {a : SnapOut} (h : Gathers s a.2) : Gathers s (l.foldl f a).2 := by
  induction l generalizing a with
  | nil => exact h
  | cons x l ih => exact ih (step a x h)

theorem snapGather (h : Gathers s t) {l : List Nat} {segs : Bool} : Gathers s (t.snapGather l segs).2 := by
  unfold State.snapGather
  refine foldl_out (fun a _ ha => add ha fun u hu => hu.snapRead) _ (foldl_out (fun a _ ha => add ha fun u hu => hu.snapRead) _ ?_)
  exact foldl_out (fun a _ ha => add ha fun u hu => hu.snapLinks) _ h.edScan

/-! ### Queueing the datagrams -/

theorem snapSeal (h : Gathers s t) {flags : Nat} {recs : List Byte} : Gathers s (t.snapSeal flags recs) := h.of_eq rfl rfl

theorem snapFillFrom (h : Gathers s t) {l : List (Nat × List Byte)} : Gathers s (snapFillFrom l t) := by
  induction l generalizing t with
  | nil => exact h.of_eq rfl rfl
  | cons d l ih => exact Stable.ite (h.of_eq rfl rfl) (ih h.snapSeal)

theorem snapFill (h : Gathers s t) : Gathers s t.snapFill := h.snapFillFrom

end Gathers

/-! ## The hold and the abort (R127) -/

theorem snapRelease_final (s : State) : s.snapRelease.snap.final = none := by
  unfold State.snapRelease
  split
  · next none => exact none
  · rfl

theorem fld_snapRelease_ne (s : State) {f : Fld} {i j : Nat} (other : fldKey f i j ≠ fldKey F.TK_STATUS_snap_hold 0 0) :
    s.snapRelease.fld f i j = s.fld f i j := by
  unfold State.snapRelease
  split
  · rfl
  · rw [State.fld_setFld_ne _ _ _ _ _ _ _ _ other]
    rfl

theorem snapRelease_hold {s : State} (held : s.snap.final ≠ none) : s.snapRelease.fld F.TK_STATUS_snap_hold 0 0 = 0 := by
  unfold State.snapRelease
  split
  · next none => exact absurd none held
  · exact State.fld_setFld_same _ _ _ _ _

theorem snapRuns_iff (s : State) : s.snapRuns = true ↔ 1 ≤ s.fld F.SNAP_STATUS_state 0 0 ∧ s.fld F.SNAP_STATUS_state 0 0 ≤ 3 := by
  simp [State.snapRuns]

theorem snapAbort_runs {s : State} (runs : s.snapRuns = true) : s.snapAbort = s.snapRelease.snapDrop.setSnapState 5 := if_pos runs

theorem snapAbort_state {s : State} (runs : s.snapRuns = true) : s.snapAbort.fld F.SNAP_STATUS_state 0 0 = 5 := by
  rw [snapAbort_runs runs]
  exact State.fld_setFld_same _ _ _ _ _

theorem fld_setSnapState_ne (s : State) (n : Nat) {f : Fld} {i j : Nat} (other : fldKey f i j ≠ fldKey F.SNAP_STATUS_state 0 0) :
    (s.setSnapState n).fld f i j = s.fld f i j := State.fld_setFld_ne _ _ _ _ _ _ _ _ other

theorem fld_snapAbort_ne {s : State} (runs : s.snapRuns = true) {f : Fld} {i j : Nat}
    (hold : fldKey f i j ≠ fldKey F.TK_STATUS_snap_hold 0 0) (state : fldKey f i j ≠ fldKey F.SNAP_STATUS_state 0 0) :
    s.snapAbort.fld f i j = s.fld f i j := by
  rw [snapAbort_runs runs, fld_setSnapState_ne _ _ state]
  exact fld_snapRelease_ne s hold

theorem snapAbort_final {s : State} (runs : s.snapRuns = true) : s.snapAbort.snap.final = none := by
  rw [snapAbort_runs runs]
  exact snapRelease_final s

/-! ## A round -/

/-- From `s`, where a snapshot stands in its state, to `t` a round's records have been read and queued, or the snapshot has ended
ABORTED. -/
structure Rounds (s t : State) : Prop where
  state : ExportAt t (s.fld F.SNAP_STATUS_state 0 0)
  round : t.fld F.SNAP_STATUS_round 0 0 = s.fld F.SNAP_STATUS_round 0 0
  error : t.fld F.SNAP_STATUS_error 0 0 = s.fld F.SNAP_STATUS_error 0 0
  free : s.snap.final = none → t.snap.final = none
  held : t.fld F.SNAP_STATUS_state 0 0 ≠ 5 → t.snap.final = s.snap.final ∧
    t.fld F.TK_STATUS_snap_hold 0 0 = s.fld F.TK_STATUS_snap_hold 0 0

theorem Gathers.rounds {s t : State} (h : Gathers s t) : Rounds s t where
  state := .inl (h.fld F.SNAP_STATUS_state)
  round := h.fld F.SNAP_STATUS_round
  error := h.fld F.SNAP_STATUS_error
  free none := h.final.trans none
  held _ := ⟨h.final, h.fld F.TK_STATUS_snap_hold⟩

theorem Gathers.abort {s t : State} (h : Gathers s t) (runs : s.snapRuns = true) : Rounds s t.snapAbort := by
  have still : t.snapRuns = true := by rwa [snapRuns_iff, h.fld F.SNAP_STATUS_state, ← snapRuns_iff]
  exact {
    state := .inr (snapAbort_state still)
    round := (fld_snapAbort_ne still (by decide) (by decide)).trans (h.fld F.SNAP_STATUS_round)
    error := (fld_snapAbort_ne still (by decide) (by decide)).trans (h.fld F.SNAP_STATUS_error)
    free := fun _ => snapAbort_final still
    held := fun live => absurd (snapAbort_state still) live }

/-- Datagrams are queued, as many as there is room for. -/
def State.queueRound (s : State) (l : List (Nat × List Byte)) : State := ({ s with snap := { s.snap with todo := l } }).snapFill

theorem Gathers.queueRound {s t : State} (h : Gathers s t) {l : List (Nat × List Byte)} : Gathers s (t.queueRound l) :=
  snapFill (h.of_eq rfl rfl)

section
variable {s u : State} {l : List Nat} {segs : Bool} {last : List (Nat × List Byte)}

theorem snapRound_unread (h : s.snapGather l segs = (none, u)) : s.snapRound l segs last = u.snapAbort := by
  unfold State.snapRound
  rw [h]

theorem snapRound_read {recs : List (List Byte)} (h : s.snapGather l segs = (some recs, u)) :
    ∃ ds, s.snapRound l segs last = u.queueRound ds := by
  unfold State.snapRound
  rw [h]
  exact ⟨_, rfl⟩

theorem snapRound_rounds (runs : s.snapRuns = true) : Rounds s (s.snapRound l segs last) := by
  have read := (Gathers.refl s).snapGather (l := l) (segs := segs)
  rcases gathered : s.snapGather l segs with ⟨out, u⟩
  rw [gathered] at read
  cases out with
  | none => exact snapRound_unread gathered ▸ read.abort runs
  | some recs =>
    obtain ⟨ds, eq⟩ := snapRound_read (last := last) gathered
    exact eq ▸ read.queueRound.rounds

end

/-! ### The further round and the final one -/

/-- The snapshot enters state `n` with the next round number; `l` is what it sends again. -/
def State.enterRound (s : State) (n : Nat) (l : List Nat) : State :=
  let s1 := (s.setFld F.SNAP_STATUS_round 0 0 (s.fld F.SNAP_STATUS_round 0 0 + 1)).setSnapState n
  { s1 with snap := { s1.snap with closed := l } }

theorem enterRound_fields (s : State) {n : Nat} (l : List Nat) (small : n < 8) :
    (s.enterRound n l).fld F.SNAP_STATUS_state 0 0 = n ∧
      (s.enterRound n l).fld F.SNAP_STATUS_round 0 0 = (s.fld F.SNAP_STATUS_round 0 0 + 1) % 2 ^ F.SNAP_STATUS_round.w ∧
      (s.enterRound n l).snap.final = s.snap.final := by
  refine ⟨(State.fld_setFld_same _ _ _ _ _).trans (Nat.mod_eq_of_lt small), ?_, rfl⟩
  exact (fld_setSnapState_ne _ n (by decide)).trans (State.fld_setFld_same _ _ _ _ _)

theorem nextRound_rounds (s : State) (l : List Nat) : Rounds (s.enterRound 2 l) (s.nextRound l) := by
  have runs : (s.enterRound 2 l).snapRuns = true := by
    rw [snapRuns_iff, (enterRound_fields s l (by decide)).1]
    decide
  exact snapRound_rounds runs

/-- The final round holds the commit of the tick after `tf`. -/
def State.holdRound (s : State) (l : List Nat) (tf : Nat) : State :=
  let s1 := ((s.setFld F.SNAP_STATUS_round 0 0 (s.fld F.SNAP_STATUS_round 0 0 + 1)).setSnapState 3).setFld F.TK_STATUS_snap_hold 0 0 1
  { s1 with snap := { s1.snap with closed := l, final := some tf, holdAt := s.tb, validN := s.validCount } }

theorem fld_holdRound (s : State) (l : List Nat) (tf : Nat) (f : Fld) (i j : Nat) : (s.holdRound l tf).fld f i j =
    (((s.setFld F.SNAP_STATUS_round 0 0 (s.fld F.SNAP_STATUS_round 0 0 + 1)).setSnapState 3).setFld
      F.TK_STATUS_snap_hold 0 0 1).fld f i j := rfl

theorem holdRound_fields (s : State) (l : List Nat) (tf : Nat) :
    (s.holdRound l tf).fld F.SNAP_STATUS_state 0 0 = 3 ∧
      (s.holdRound l tf).fld F.SNAP_STATUS_round 0 0 = (s.fld F.SNAP_STATUS_round 0 0 + 1) % 2 ^ F.SNAP_STATUS_round.w ∧
      (s.holdRound l tf).fld F.TK_STATUS_snap_hold 0 0 = 1 ∧ (s.holdRound l tf).snap.final = some tf := by
  simp only [fld_holdRound]
  refine ⟨?_, ?_, State.fld_setFld_same _ _ _ _ _, rfl⟩
  · rw [State.fld_setFld_ne _ _ _ _ _ _ _ _ (by decide)]
    exact State.fld_setFld_same _ _ _ _ _
  · rw [State.fld_setFld_ne _ _ _ _ _ _ _ _ (by decide), fld_setSnapState_ne _ _ (by decide), State.fld_setFld_same]

section
variable {s u : State} {l : List Nat} {tf : Nat}

theorem finalRound_unread (h : (s.holdRound l tf).snapGather l false = (none, u)) : s.finalRound l tf = u.snapAbort := by
  unfold State.holdRound at h
  unfold State.finalRound
  dsimp only at h ⊢
  rw [h]

theorem finalRound_read {recs : List (List Byte)} (h : (s.holdRound l tf).snapGather l false = (some recs, u)) :
    ∃ ds, s.finalRound l tf = u.queueRound ds := by
  unfold State.holdRound at h
  unfold State.finalRound
  dsimp only at h ⊢
  rw [h]
  exact ⟨_, rfl⟩

theorem finalRound_rounds : Rounds (s.holdRound l tf) (s.finalRound l tf) := by
  have read := (Gathers.refl (s.holdRound l tf)).snapGather (l := l) (segs := false)
  have runs : (s.holdRound l tf).snapRuns = true := by
    rw [snapRuns_iff, (holdRound_fields s l tf).1]
    decide
  rcases gathered : (s.holdRound l tf).snapGather l false with ⟨out, u⟩
  rw [gathered] at read
  cases out with
  | none => exact finalRound_unread gathered ▸ read.abort runs
  | some recs =>
    obtain ⟨ds, eq⟩ := finalRound_read gathered
    exact eq ▸ read.queueRound.rounds

end

end Sys2Proof.Machine
end

section
/-!
PROOFS. The commands of a snapshot (O24).
-/

namespace Sys2Proof.Machine

set_option Elab.async false

/-! ## The start -/

/-- A start is refused with its error. -/
def State.snapRefused (s : State) (n : Nat) : State := (s.setFld F.SNAP_STATUS_error 0 0 n).setSnapState 6

theorem snapRefused_fields (s : State) {n : Nat} (small : n < 16) :
    (s.snapRefused n).fld F.SNAP_STATUS_state 0 0 = 6 ∧ (s.snapRefused n).fld F.SNAP_STATUS_error 0 0 = n := by
  refine ⟨State.fld_setFld_same _ _ _ _ _, ?_⟩
  rw [State.snapRefused, fld_setSnapState_ne _ _ (by decide), State.fld_setFld_same]
  exact Nat.mod_eq_of_lt small

/-- A start that is not refused: the bitmaps are cleared, and round 0 is entered. -/
def State.snapBegun (s : State) : State :=
  let s1 := (s.snapWipe s.snap.active s.snap.dirty).snapWipe (1 - s.snap.active) s.snap.closed
  let s2 := ((s1.setFld F.SNAP_STATUS_error 0 0 0).setFld F.SNAP_STATUS_round 0 0 0).setFld F.SNAP_SENT_count 0 0 0
  ({ s2 with snap := { nextAt := s.tb } }).setSnapState 1

theorem snapBegun_fields (s : State) : s.snapBegun.fld F.SNAP_STATUS_state 0 0 = 1 ∧ s.snapBegun.fld F.SNAP_STATUS_error 0 0 = 0 ∧
    s.snapBegun.fld F.SNAP_STATUS_round 0 0 = 0 := by
  generalize wiped : (s.snapWipe s.snap.active s.snap.dirty).snapWipe (1 - s.snap.active) s.snap.closed = w
  have begun (f : Fld) (i j : Nat) : s.snapBegun.fld f i j = ((((w.setFld F.SNAP_STATUS_error 0 0 0).setFld
      F.SNAP_STATUS_round 0 0 0).setFld F.SNAP_SENT_count 0 0 0).setSnapState 1).fld f i j := by rw [← wiped]; rfl
  simp only [begun]
  refine ⟨State.fld_setFld_same _ _ _ _ _, ?_, ?_⟩
  · rw [fld_setSnapState_ne _ _ (by decide), State.fld_setFld_ne _ _ _ _ _ _ _ _ (by decide),
      State.fld_setFld_ne _ _ _ _ _ _ _ _ (by decide), State.fld_setFld_same]
    rfl
  · rw [fld_setSnapState_ne _ _ (by decide), State.fld_setFld_ne _ _ _ _ _ _ _ _ (by decide), State.fld_setFld_same]
    rfl

section
variable {s : State} (idle : s.snapRuns = false)
include idle

theorem snapStart_small (small : s.snapMtu < 9000) : s.snapStart = s.snapRefused 1 := by
  unfold State.snapStart
  rw [if_neg (by simp [idle])]
  exact if_pos small

variable (mtu : 9000 ≤ s.snapMtu)
include mtu

theorem snapStart_down (down : s.fld F.PT_PORT_STATUS_up (s.fld F.SNAP_CTRL_port 0 0) 0 = 0) : s.snapStart = s.snapRefused 2 := by
  unfold State.snapStart
  rw [if_neg (by simp [idle])]
  exact (if_neg (Nat.not_lt.2 mtu)).trans (if_pos (by simp [State.fldB, down]))

theorem snapStart_begins (up : s.fld F.PT_PORT_STATUS_up (s.fld F.SNAP_CTRL_port 0 0) 0 ≠ 0) :
    ∃ l, s.snapStart = s.snapBegun.snapRound l true [] := by
  unfold State.snapStart
  rw [if_neg (by simp [idle])]
  exact ⟨_, (if_neg (Nat.not_lt.2 mtu)).trans (if_neg (by simp [State.fldB, up]))⟩

end

theorem snapshotStart_runs {s : State} (idle : s.snapRuns = false) :
    (9000 ≤ s.snapMtu → s.fld F.PT_PORT_STATUS_up (s.fld F.SNAP_CTRL_port 0 0) 0 ≠ 0 →
      Runs .snapshotStart s fun t => ExportAt t 1 ∧ t.fld F.SNAP_STATUS_error 0 0 = 0 ∧ t.fld F.SNAP_STATUS_round 0 0 = 0) ∧
    (s.snapMtu < 9000 → Runs .snapshotStart s fun t => t.fld F.SNAP_STATUS_state 0 0 = 6 ∧ t.fld F.SNAP_STATUS_error 0 0 = 1) ∧
    (9000 ≤ s.snapMtu → s.fld F.PT_PORT_STATUS_up (s.fld F.SNAP_CTRL_port 0 0) 0 = 0 →
      Runs .snapshotStart s fun t => t.fld F.SNAP_STATUS_state 0 0 = 6 ∧ t.fld F.SNAP_STATUS_error 0 0 = 2) := by
  refine ⟨fun mtu up => ?_, fun small => ?_, fun mtu down => ?_⟩
  · obtain ⟨state, error, round⟩ := snapBegun_fields s
    have runs : s.snapBegun.snapRuns = true := by rw [snapRuns_iff, state]; decide
    obtain ⟨l, eq⟩ := snapStart_begins idle mtu up
    have left : Rounds s.snapBegun (s.snapBegun.snapRound l true []) := snapRound_rounds runs
    exact ⟨_, congrArg Host.Outcome.next eq, state ▸ left.state, left.error.trans error, left.round.trans round⟩
  · exact ⟨_, congrArg Host.Outcome.next (snapStart_small idle small), snapRefused_fields s (by decide)⟩
  · exact ⟨_, congrArg Host.Outcome.next (snapStart_down idle mtu down), snapRefused_fields s (by decide)⟩

/-! ## The abort -/

theorem snapRelease_rest (s : State) : s.snapRelease.pt = s.pt ∧ s.snapRelease.dram = s.dram ∧ s.snapRelease.ed = s.ed := by
  unfold State.snapRelease
  split <;> exact ⟨rfl, rfl, rfl⟩

theorem snapshotAbort_runs {s : State} (runs : s.snapRuns = true) : Runs .snapshotAbort s fun t =>
    t.fld F.SNAP_STATUS_state 0 0 = 5 ∧ t.snap.todo = [] ∧ t.snap.final = none ∧ (∀ p ∈ t.pt.egress, p.q ≠ 3) ∧ t.dram = s.dram ∧
      t.ed = s.ed := by
  obtain ⟨_, dram, ed⟩ := snapRelease_rest s
  refine ⟨_, congrArg Host.Outcome.next (snapAbort_runs runs), State.fld_setFld_same _ _ _ _ _, rfl, snapRelease_final s, ?_, dram, ed⟩
  intro p mem
  simpa using (List.mem_filter.1 mem).2

/-! ## The end of a round -/

/-- The bitmaps swap at the end of a round: what has been marked is closed, and marks start anew. -/
def State.swapMaps (s : State) : State :=
  let old := s.snapWipe (1 - s.snap.active) s.snap.closed
  { old with snap := { old.snap with dirty := [], closed := s.snap.dirty.mergeSort, active := 1 - s.snap.active } }

theorem gathers_swapMaps (s : State) : Gathers s s.swapMaps := (Gathers.refl s).snapWipe.of_eq rfl rfl

section
variable {s : State} (live : s.fld F.SNAP_STATUS_state 0 0 = 1 ∨ s.fld F.SNAP_STATUS_state 0 0 = 2) (sent : s.snapSent = true)
  (unmet : s.tk.cond = none) (closed : s.fld F.TK_STATUS_commit_open 0 0 = 0)
include live sent unmet closed

theorem roundEnd_ends : (!((s.fld F.SNAP_STATUS_state 0 0 == 1 || s.fld F.SNAP_STATUS_state 0 0 == 2) && s.snapSent && s.tk.cond.isNone &&
    !s.fldB F.TK_STATUS_commit_open 0 0)) = false := by
  obtain one | two := live
  · simp [one, sent, unmet, State.fldB, closed]
  · simp [two, sent, unmet, State.fldB, closed]

theorem snapRoundEnd_final (last : (!s.noneCommitted && (decide (s.snap.dirty.mergeSort.length ≤ s.fld F.SNAP_FINAL_indices 0 0) ||
    s.drainFinal)) = true) : s.snapRoundEnd = s.swapMaps.finalRound s.snap.dirty.mergeSort (s.fld F.TK_COMMITTED_tick 0 0) := by
  unfold State.snapRoundEnd
  dsimp only
  rw [if_neg (by rw [roundEnd_ends live sent unmet closed]; decide), if_pos last]
  rfl

theorem snapRoundEnd_next (more : (!s.noneCommitted && (decide (s.snap.dirty.mergeSort.length ≤ s.fld F.SNAP_FINAL_indices 0 0) ||
    s.drainFinal)) = false) : s.snapRoundEnd = s.swapMaps.nextRound s.snap.dirty.mergeSort := by
  unfold State.snapRoundEnd
  dsimp only
  rw [if_neg (by rw [roundEnd_ends live sent unmet closed]; decide), if_neg (by rw [more]; decide)]
  rfl

theorem snapshotRoundEnd_runs : Runs .snapshotRoundEnd s fun t =>
    t.fld F.SNAP_STATUS_round 0 0 = (s.fld F.SNAP_STATUS_round 0 0 + 1) % 2 ^ F.SNAP_STATUS_round.w ∧
    (s.snap.dirty.length ≤ s.fld F.SNAP_FINAL_indices 0 0 → s.noneCommitted = false → ExportAt t 3 ∧
      (t.fld F.SNAP_STATUS_state 0 0 = 3 → t.snap.final = some (s.fld F.TK_COMMITTED_tick 0 0) ∧ t.fld F.TK_STATUS_snap_hold 0 0 = 1)) ∧
    (s.fld F.SNAP_FINAL_indices 0 0 < s.snap.dirty.length → s.drainFinal = false → ExportAt t 2) := by
  have length : s.snap.dirty.mergeSort.length = s.snap.dirty.length := List.length_mergeSort _
  have before : s.swapMaps.fld F.SNAP_STATUS_round 0 0 = s.fld F.SNAP_STATUS_round 0 0 := (gathers_swapMaps s).fld F.SNAP_STATUS_round
  cases last : (!s.noneCommitted && (decide (s.snap.dirty.mergeSort.length ≤ s.fld F.SNAP_FINAL_indices 0 0) || s.drainFinal)) with
  | true =>
    obtain ⟨state, round, hold, final⟩ := holdRound_fields s.swapMaps s.snap.dirty.mergeSort (s.fld F.TK_COMMITTED_tick 0 0)
    have left := finalRound_rounds (s := s.swapMaps) (l := s.snap.dirty.mergeSort) (tf := s.fld F.TK_COMMITTED_tick 0 0)
    refine ⟨_, congrArg Host.Outcome.next (snapRoundEnd_final live sent unmet closed last), ?_, fun _ _ => ⟨state ▸ left.state, ?_⟩, ?_⟩
    · rw [left.round, round, before]
    · intro stays
      obtain ⟨final', hold'⟩ := left.held (by rw [stays]; decide)
      exact ⟨final'.trans final, hold'.trans hold⟩
    · intro many notDrain
      simp [length, notDrain, Nat.not_le.2 many] at last
  | false =>
    obtain ⟨state, round, _⟩ := enterRound_fields s.swapMaps s.snap.dirty.mergeSort (n := 2) (by decide)
    have left := nextRound_rounds s.swapMaps s.snap.dirty.mergeSort
    refine ⟨_, congrArg Host.Outcome.next (snapRoundEnd_next live sent unmet closed last), ?_, ?_, fun _ _ => state ▸ left.state⟩
    · rw [left.round, round, before]
    · intro few committed
      simp [length, few, committed] at last

end

/-! ## The end of the hold -/

section
variable {s : State} (final : s.fld F.SNAP_STATUS_state 0 0 = 3)
include final

theorem snapHoldExpire_next (unsent : s.snapSent = false) (late : s.snap.holdAt + s.fld F.SNAP_HOLD_MAX_us 0 0 * 1000 < s.tb) :
    ∃ (u : State) (l : List Nat), u.snap.final = none ∧ s.snapHoldExpire = u.nextRound l := by
  have stands : ¬ (s.fld F.SNAP_STATUS_state 0 0 ≠ 3 ∨ s.snapSent = true ∨
      s.tb ≤ s.snap.holdAt + s.fld F.SNAP_HOLD_MAX_us 0 0 * 1000) := by
    simp [final, unsent, late]
  unfold State.snapHoldExpire
  rw [if_neg stands]
  refine ⟨_, _, ?_, rfl⟩
  exact (Gathers.refl s.snapRelease.snapDrop).snapWipe.final.trans (snapRelease_final s)

theorem snapshotHoldExpire_runs (unsent : s.snapSent = false) (late : s.snap.holdAt + s.fld F.SNAP_HOLD_MAX_us 0 0 * 1000 < s.tb) :
    Runs .snapshotHoldExpire s fun t => ExportAt t 2 ∧ t.snap.final = none := by
  obtain ⟨u, l, none, eq⟩ := snapHoldExpire_next final unsent late
  obtain ⟨state, _, same⟩ := enterRound_fields u l (n := 2) (by decide)
  have left := nextRound_rounds u l
  exact ⟨_, congrArg Host.Outcome.next eq, state ▸ left.state, left.free (same.trans none)⟩

theorem snapshotComplete_runs (sent : s.snapSent = true) : Runs .snapshotComplete s fun t => t.fld F.SNAP_STATUS_state 0 0 = 4 ∧
    t.snap.final = none ∧ (s.snap.final ≠ none → t.fld F.TK_STATUS_snap_hold 0 0 = 0) := by
  refine ⟨_, congrArg Host.Outcome.next (if_pos ⟨final, sent⟩), State.fld_setFld_same _ _ _ _ _, snapRelease_final s, fun held => ?_⟩
  exact (fld_setSnapState_ne _ _ (by decide)).trans (snapRelease_hold held)

end

end Sys2Proof.Machine
end

section
/-!
PROOFS. The restore of a snapshot (O24).
-/

namespace Sys2Proof.Machine

set_option Elab.async false

/-! ## The results a bad record ends a restore with -/

/-- A restore that has stopped has met a bad record: 4, 5 or 6 (R239). -/
def StopsBad (a : Restoring) : Prop := ∀ k, a.1 = some k → k = 4 ∨ k = 5 ∨ k = 6

theorem stopsBad_none (s : State) : StopsBad (none, s) := fun _ h => by cases h

theorem stopsBad_some {k : Nat} (s : State) (code : k = 4 ∨ k = 5 ∨ k = 6) : StopsBad (some k, s) := fun _ h => by
  cases h; exact code

theorem StopsBad.andThen {a : Restoring} (h : StopsBad a) {f : State → Restoring} (next : ∀ s, StopsBad (f s)) :
    StopsBad (a.andThen f) := by
  unfold Restoring.andThen
  split
  · exact h
  · exact next _

theorem StopsBad.foldl {α : Type} {f : Restoring → α → Restoring} (step : ∀ a x, StopsBad a → StopsBad (f a x)) (l : List α)
    {a : Restoring} (h : StopsBad a) : StopsBad (l.foldl f a) := by
  induction l generalizing a with
  | nil => exact h
  | cons x l ih => exact ih (step a x h)

theorem stopsBad_restoreEntry (s : State) (i : Nat) (v : Word64) : StopsBad (s.restoreEntry i v) := by
  unfold State.restoreEntry
  dsimp only
  split
  · exact stopsBad_some s (by decide)
  · split
    · exact stopsBad_some s (by decide)
    · exact stopsBad_none _

theorem stopsBad_restoreLink (s : State) (i w : Nat) : StopsBad (s.restoreLink i w) := by
  unfold State.restoreLink
  split
  · exact stopsBad_some s (by decide)
  · exact stopsBad_none _

theorem stopsBad_restoreRec (s : State) (r : Nat × Nat × List Byte) : StopsBad (s.restoreRec r) := by
  have body (c d : Prop) [Decidable c] [Decidable d] (t : State) :
      StopsBad (if c then (some 5, s) else if d then (some 4, s) else (none, t)) := by
    split
    · exact stopsBad_some s (by decide)
    · split
      · exact stopsBad_some s (by decide)
      · exact stopsBad_none t
  unfold State.restoreRec
  split
  · exact StopsBad.foldl (fun a e h => h.andThen fun u => stopsBad_restoreEntry u _ _) _ (stopsBad_none s)
  · exact StopsBad.foldl (fun a e h => h.andThen fun u => stopsBad_restoreLink u _ _) _ (stopsBad_none s)
  · exact body _ _ _
  · exact body _ _ _
  · exact stopsBad_none s

theorem stopsBad_restoreRecs (l : List (Nat × Nat × List Byte)) (s : State) (sp : List (Nat × Nat)) : StopsBad (restoreRecs l s sp).1 := by
  induction l generalizing s sp with
  | nil => exact stopsBad_none s
  | cons q l ih =>
    unfold restoreRecs
    dsimp only
    split
    · exact stopsBad_restoreRec s q
    · exact ih _ _

/-! ## The end of a restore -/

theorem restoreDone_fields (s : State) {n : Nat} (small : n < 8) : (s.restoreDone n).fld F.GLOBAL_RESTORE_CTRL_busy 0 0 = 0 ∧
    (s.restoreDone n).fld F.GLOBAL_RESTORE_CTRL_result 0 0 = n := by
  refine ⟨State.fld_setFld_same _ _ _ _ _, ?_⟩
  rw [State.restoreDone, State.fld_setFld_ne _ _ _ _ _ _ _ _ (by decide), State.fld_setFld_same]
  exact Nat.mod_eq_of_lt small

theorem fld_restoreDone_ne (s : State) (n : Nat) {f : Fld} {i j : Nat} (result : fldKey f i j ≠ fldKey F.GLOBAL_RESTORE_CTRL_result 0 0)
    (busy : fldKey f i j ≠ fldKey F.GLOBAL_RESTORE_CTRL_busy 0 0) : (s.restoreDone n).fld f i j = s.fld f i j := by
  rw [State.restoreDone, State.fld_setFld_ne _ _ _ _ _ _ _ _ busy, State.fld_setFld_ne _ _ _ _ _ _ _ _ result]

theorem restoreFinish_next (s : State) (tf : Nat) (b : List Byte) : NextAfter (s.restoreFinish tf b) tf := by
  unfold State.restoreFinish
  exact nextAfter_set _ tf

/-- A restore that runs ends with a result; with result 1 it has finished. -/
theorem restoreComplete_ends {s : State} (busy : s.fldB F.GLOBAL_RESTORE_CTRL_busy 0 0 = true) :
    ∃ u n, s.restoreComplete = u.restoreDone n ∧ n < 8 ∧ (n = 1 → ∃ tf, NextAfter u tf) := by
  have bad {u : State} {n : Nat} (code : 1 < n ∧ n < 8) :
      ∃ v k, u.restoreDone n = v.restoreDone k ∧ k < 8 ∧ (k = 1 → ∃ tf, NextAfter v tf) :=
    ⟨u, n, rfl, code.2, fun one => absurd one (by omega)⟩
  unfold State.restoreComplete
  rw [if_neg (by rw [busy]; decide)]
  dsimp only
  split
  · exact bad (by decide)
  · split
    · exact bad (by decide)
    · split
      · exact bad (by decide)
      · split
        · exact bad (by decide)
        · split
          · next k stopped =>
            have code := stopsBad_restoreRecs _ _ _ k stopped
            exact bad (by omega)
          · exact ⟨_, 1, rfl, by decide, fun _ => ⟨_, restoreFinish_next _ _ _⟩⟩

theorem restoreComplete_unread {s : State} (busy : s.fldB F.GLOBAL_RESTORE_CTRL_busy 0 0 = true)
    (unread : (s.worldGet (s.fld F.GLOBAL_RESTORE_BASE_base 0 0 * 64) (s.fld F.GLOBAL_RESTORE_LEN_bytes 0 0) 57 none).2.1 ≠ some .clean) :
    s.restoreComplete = (s.worldGet (s.fld F.GLOBAL_RESTORE_BASE_base 0 0 * 64) (s.fld F.GLOBAL_RESTORE_LEN_bytes 0 0) 57
      none).2.2.restoreDone 2 := by
  unfold State.restoreComplete
  rw [if_neg (by rw [busy]; decide)]
  exact if_pos unread

/-! ## O24 -/

theorem snapshotRestoreStart_runs {s : State} (idle : s.fld F.GLOBAL_RESTORE_CTRL_busy 0 0 = 0) :
    (s.mode = 2 → s.allStopped = true → Runs .snapshotRestoreStart s fun t =>
      t.fld F.GLOBAL_RESTORE_CTRL_busy 0 0 = 1 ∧ t.fld F.GLOBAL_RESTORE_CTRL_result 0 0 = 0 ∧
      OnlyRegs s t [fldKey F.GLOBAL_RESTORE_CTRL_busy 0 0, fldKey F.GLOBAL_RESTORE_CTRL_result 0 0]) ∧
    (s.mode ≠ 2 ∨ s.allStopped = false → Runs .snapshotRestoreStart s fun t =>
      t.fld F.GLOBAL_RESTORE_CTRL_result 0 0 = 7 ∧ OnlyRegs s t [fldKey F.GLOBAL_RESTORE_CTRL_result 0 0]) := by
  have waits : ¬ s.fldB F.GLOBAL_RESTORE_CTRL_busy 0 0 = true := by simp [State.fldB, idle]
  refine ⟨fun ready stopped => ?_, fun refused => ?_⟩
  · have starts : ¬ (s.mode ≠ 2 ∨ (!s.allStopped) = true) := by simp [ready, stopped]
    refine ⟨_, congrArg Host.Outcome.next ((if_neg waits).trans (if_neg starts)), State.fld_setFld_same _ _ _ _ _, ?_, rfl,
      fun f i j other => ?_⟩
    · rw [State.fld_setFld_ne _ _ _ _ _ _ _ _ (by decide), State.fld_setFld_same]
      rfl
    · rw [List.mem_pair, not_or] at other
      rw [State.fld_setFld_ne _ _ _ _ _ _ _ _ other.1, State.fld_setFld_ne _ _ _ _ _ _ _ _ other.2]
  · have refuses : s.mode ≠ 2 ∨ (!s.allStopped) = true := by simpa using refused
    exact ⟨_, congrArg Host.Outcome.next ((if_neg waits).trans (if_pos refuses)), State.fld_setFld_same _ _ _ _ _,
      onlyRegs_setFld _ _ _ _ _⟩

theorem snapshotRestoreComplete_runs {s : State} (busy : s.fldB F.GLOBAL_RESTORE_CTRL_busy 0 0 = true) :
    Runs .snapshotRestoreComplete s (fun t => t.fld F.GLOBAL_RESTORE_CTRL_busy 0 0 = 0 ∧
      (t.fld F.GLOBAL_RESTORE_CTRL_result 0 0 = 1 →
        t.fld F.TK_NEXT_tick 0 0 = (t.fld F.TK_COMMITTED_tick 0 0 + 1) % 2 ^ 64 ∧ t.fld F.TK_STATUS_phase 0 0 = 0)) := by
  obtain ⟨u, n, eq, small, finished⟩ := restoreComplete_ends busy
  obtain ⟨idle, result⟩ := restoreDone_fields u small
  refine ⟨_, congrArg Host.Outcome.next eq, idle, fun one => ?_⟩
  obtain ⟨tf, committed, next, phase⟩ := finished (result.symm.trans one)
  rw [fld_restoreDone_ne _ _ (by decide) (by decide), fld_restoreDone_ne _ _ (by decide) (by decide),
    fld_restoreDone_ne _ _ (by decide) (by decide), committed, next, Nat.mod_add_mod]
  exact ⟨rfl, phase⟩

/-- Settles O24: a command of a snapshot enters its round, and reading the round leaves it in that state or ABORTED; a restore ends with
the result of the check that fails first, and 1 where none does. -/
theorem snapshotSteps : Obligations.SnapshotSteps := by
  unfold Obligations.SnapshotSteps
  refine ⟨fun s => ⟨snapshotStart_runs, snapshotAbort_runs, fun live sent unmet closed => snapshotRoundEnd_runs live sent unmet closed,
    fun final => ⟨snapshotHoldExpire_runs final, snapshotComplete_runs final⟩⟩, ?_⟩
  rintro s _ _ rfl rfl
  refine ⟨snapshotRestoreStart_runs, fun running => ?_⟩
  have busy : s.fldB F.GLOBAL_RESTORE_CTRL_busy 0 0 = true := bne_iff_ne.2 running
  refine ⟨snapshotRestoreComplete_runs busy, fun unread => ?_⟩
  obtain ⟨_, result⟩ := restoreDone_fields (s.worldGet (s.fld F.GLOBAL_RESTORE_BASE_base 0 0 * 64)
    (s.fld F.GLOBAL_RESTORE_LEN_bytes 0 0) 57 none).2.2 (n := 2) (by decide)
  exact ⟨_, congrArg Host.Outcome.next (restoreComplete_unread busy unread), result, (Accesses.refl s).worldGet.ed⟩

end Sys2Proof.Machine
end

section
/-!
PROOFS. What a register that holds more than its field does to the context commands (O25).
-/

namespace Sys2Proof.Machine

set_option Elab.async false

/-- The class of the counter of granules written that stands at the address of word 2 of ST_KEY, seen from channel 0. -/
def keyWordClass : Nat := (F.ST_KEY_key.base + 2 * F.ST_KEY_key.s1 - F.RG_CNT_WR_granules.base) / 0x10

theorem keyWordClass_key : fldKey F.RG_CNT_WR_granules 0 keyWordClass = fldKey F.ST_KEY_key 2 0 := by decide

/-- Session 0 is FREE and the title's event ring is enabled, at address 0 of channel 0, which carries traffic. The one range, of the
ring's first 4 KiB, has the class of `keyWordClass`, in a field of 3 bits. -/
def strayEvent : State :=
  { State.reset with
    regs := [
      (fldKey F.PWR_DOM_powered 34 0, 1),
      (fldKey F.RG_RANGE_ATTR_class 0 0, keyWordClass),
      (fldKey F.RG_RANGE_ATTR_valid 0 0, 1),
      (fldKey F.ST_EVT_SIZE_enable 0 0, 1),
      (fldKey F.CH_ID_state 0 0, 2)] }

theorem strayEvent_runs : exec .stCtxCreate strayEvent = .next strayEvent.ctxCreate := rfl

/-- The event that tells of the new session is written after the key registers are cleared, and that write is counted: word 2 of the key
goes from 0 to 1. -/
theorem strayEvent_key : strayEvent.ctxCreate.fld F.ST_KEY_key 2 0 = 1 := by decide +kernel

/-- Refutes O25: a session is created, and the granule written for its event counts on a cleared key register. The statement is of every
state, and so of one no run reaches: `State.setFld` keeps a field's width, and a class of 3 bits leads to no counter at that address. -/
theorem not_contextCommands : ¬ Obligations.ContextCommands := by
  unfold Obligations.ContextCommands
  intro commands
  obtain ⟨_, _, creates, _⟩ := commands strayEvent 0 _ (by decide) rfl
  obtain ⟨t, eq, _, _, cleared, _⟩ := creates (by decide) (by decide) (by decide) (by decide) (by decide)
  rw [strayEvent_runs] at eq
  rw [← Host.Outcome.next.inj eq] at cleared
  exact absurd (strayEvent_key.symm.trans (cleared 2 (by decide))) (by decide)

end Sys2Proof.Machine
end

section
/-!
PROOFS. Counts that saturate, and the entries of a sparse map (O26, O28, O29).
-/

namespace Sys2Proof.Machine

set_option Elab.async false

/-- A saturated count fits its field. -/
theorem satAdd_mod (w a b : Nat) : satAdd w a b % 2 ^ w = satAdd w a b := by
  have pos := Nat.two_pow_pos w
  refine Nat.mod_eq_of_lt ?_
  unfold satAdd
  omega

theorem fld_addFld_same (s : State) (f : Fld) (i j n : Nat) : (s.addFld f i j n).fld f i j = satAdd f.w (s.fld f i j) n :=
  (State.fld_setFld_same _ _ _ _ _).trans (satAdd_mod _ _ _)

theorem mem_smapInsert {α : Type} {m : SMap α} {k : Nat} {x : α} {e : Nat × α} (h : e ∈ smapInsert m k x) : e ∈ m ∨ e = (k, x) := by
  induction m with
  | nil => exact .inr (List.mem_singleton.1 h)
  | cons q m ih =>
    obtain ⟨j, w⟩ := q
    unfold smapInsert at h
    split at h
    · exact (List.mem_cons.1 h).elim .inr fun old => .inl (List.mem_cons_of_mem _ old)
    · split at h
      · exact (List.mem_cons.1 h).elim .inr .inl
      · obtain rfl | later := List.mem_cons.1 h
        · exact .inl List.mem_cons_self
        · exact (ih later).imp_left (List.mem_cons_of_mem _)

theorem mem_smapErase {α : Type} {m : SMap α} {k : Nat} {e : Nat × α} (h : e ∈ smapErase m k) : e ∈ m := by
  induction m with
  | nil => exact h
  | cons q m ih =>
    obtain ⟨j, w⟩ := q
    unfold smapErase at h
    split at h
    · exact List.mem_cons_of_mem _ (ih h)
    · obtain rfl | later := List.mem_cons.1 h
      · exact List.mem_cons_self
      · exact List.mem_cons_of_mem _ (ih later)

theorem mem_of_smapFind {α : Type} {m : SMap α} {k : Nat} {x : α} (h : smapFind m k = some x) : (k, x) ∈ m := by
  induction m with
  | nil => cases h
  | cons q m ih =>
    obtain ⟨j, w⟩ := q
    unfold smapFind at h
    split at h
    · next same =>
      obtain rfl := Option.some.inj h
      exact same ▸ List.mem_cons_self
    · exact List.mem_cons_of_mem _ (ih h)

theorem smapFind_none_of_keys {α : Type} {m : SMap α} {k : Nat} (other : k ∉ m.map (·.1)) : smapFind m k = none := by
  induction m with
  | nil => rfl
  | cons e m ih =>
    obtain ⟨j, w⟩ := e
    rw [List.map_cons, List.mem_cons, not_or] at other
    exact (if_neg other.1).trans (ih other.2)

end Sys2Proof.Machine
end

section
/-!
PROOFS. What stands of the sessions and of the session table through accesses to memory, the reads of a round, session events and the end
of other sessions (O26, O28, O29).
-/

namespace Sys2Proof.Machine

set_option Elab.async false

/-! ## What stands -/

/-- The session table but for its message buffers, the counts of its event ring, its key cache and the CLOSE datagrams that wait. -/
def St.still (x : St) : St := { x with msgs := [], evSeq := 0, evMiss := 0, keyCache := [], closeWait := [] }

/-- The limits of a session's age (R133). -/
def ageFlds : List Fld := [F.ST_AGE_close, F.ST_AGE_quiet]

/-- From `s` to `t` what the view `v` shows of each session stands, with the session table's lasting parts and the limits of age. -/
structure Stands (v : Nat → Ses → Ses) (s t : State) : Prop where
  sess : ∀ j, v j (t.sess j) = v j (s.sess j)
  st : t.st.still = s.st.still
  limits : ∀ f ∈ ageFlds, t.fld f 0 0 = s.fld f 0 0

/-- A view that shows every session whole, and one that shows nothing. -/
def wholeView (_ : Nat) (x : Ses) : Ses := x
def noView (_ : Nat) (_ : Ses) : Ses := ses0

/-- A session without its counts of buffers used and of packets sent, which the end of another's work can move. -/
def Ses.settled (x : Ses) : Ses := { x with ctx := { x.ctx with used := 0, ctr := 0 } }

/-- A view that shows session `i` alone, settled. -/
def oneView (i j : Nat) (x : Ses) : Ses := if j = i then x.settled else ses0

/-- A view that does not show the two counts. -/
def Uncounted (v : Nat → Ses → Ses) : Prop :=
  ∀ j (x : Ses) (n k : Nat), v j { x with ctx := { x.ctx with used := n, ctr := k } } = v j x

/-- A view that does not show session `i`. -/
def Blind (v : Nat → Ses → Ses) (i : Nat) : Prop := ∀ x y, v i x = v i y

theorem noView_uncounted : Uncounted noView := fun _ _ _ _ => rfl
theorem noView_blind (i : Nat) : Blind noView i := fun _ _ => rfl

theorem oneView_uncounted (i : Nat) : Uncounted (oneView i) := fun j x n k => by
  unfold oneView
  split <;> rfl

theorem oneView_blind {i j : Nat} (other : j ≠ i) : Blind (oneView i) j := fun x y => by
  rw [oneView, oneView, if_neg other, if_neg other]

namespace Stands

variable {v : Nat → Ses → Ses} {s t u : State}

theorem refl (v : Nat → Ses → Ses) (s : State) : Stands v s s := ⟨fun _ => rfl, rfl, fun _ _ => rfl⟩

theorem builds (h : Stands v s t) : t.st.builds = s.st.builds := (congrArg St.builds h.st :)
theorem upset (h : Stands v s t) : t.st.upset = s.st.upset := (congrArg St.upset h.st :)
theorem fwEv (h : Stands v s t) : t.st.fwEv = s.st.fwEv := (congrArg St.fwEv h.st :)
theorem lastSweep (h : Stands v s t) : t.st.lastSweep = s.st.lastSweep := (congrArg St.lastSweep h.st :)

theorem whole (h : Stands wholeView s t) (j : Nat) : t.sess j = s.sess j := h.sess j

theorem one {i : Nat} (h : Stands (oneView i) s t) : (t.sess i).settled = (s.sess i).settled := by
  have shown := h.sess i
  rwa [oneView, oneView, if_pos rfl, if_pos rfl] at shown

/-- Nothing that is shown has been written. -/
theorem of_eq (h : Stands v s t) (regs : u.regs = t.regs := by rfl) (ses : u.ses = t.ses := by rfl)
    (st : u.st.still = t.st.still := by rfl) : Stands v s u where
  sess j := by rw [State.sess, ses]; exact h.sess j
  st := st.trans h.st
  limits f own := by rw [State.fld, regs]; exact h.limits f own

theorem ite {c : Prop} [Decidable c] (h : Stands v s t) (g : Stands v s u) : Stands v s (if c then t else u) := by
  split
  · exact h
  · exact g

theorem foldl {α : Type} {f : State → α → State} (step : ∀ u a, Stands v s u → Stands v s (f u a)) (l : List α) (h : Stands v s t) :
    Stands v s (l.foldl f t) := by
  induction l generalizing t with
  | nil => exact h
  | cons a l ih => exact ih (step t a h)

/-- A fold that gathers something beside the state. -/
theorem foldlSnd {α β : Type} {f : β × State → α → β × State} (step : ∀ a x, Stands v s a.2 → Stands v s (f a x).2) (l : List α)
    {a : β × State} (h : Stands v s a.2) : Stands v s (l.foldl f a).2 := by
  induction l generalizing a with
  | nil => exact h
  | cons x l ih => exact ih (step a x h)

/-! ## Plain updates -/

theorem setFld (h : Stands v s t) {f : Fld} {i j x : Nat} (other : ∀ g ∈ ageFlds, fldKey g 0 0 ≠ fldKey f i j := by decide) :
    Stands v s (t.setFld f i j x) where
  sess := h.sess
  st := h.st
  limits g own := (State.fld_setFld_ne t f g i j x 0 0 (other g own)).trans (h.limits g own)

theorem stable (v : Nat → Ses → Ses) (s : State) : Stable (Stands v s) where
  write own h := h.setFld fun g limit same => by
    have calm : ∀ g ∈ ageFlds, calmKey (fldKey g 0 0) = true := by decide
    have stands := calm g limit
    rw [same, calmKey_access own] at stands
    cases stands
  same h regs core := h.of_eq regs (congrArg State.ses core :) (congrArg (fun c : State => c.st.still) core :)

theorem setSess (h : Stands v s t) {i : Nat} {x : Ses} (seen : v i x = v i (t.sess i)) : Stands v s (t.setSess i x) where
  sess j := by
    by_cases same : j = i
    · subst same
      rw [State.sess_setSess_same, seen]
      exact h.sess j
    · rw [State.sess_setSess_ne _ _ _ _ same]
      exact h.sess j
  st := h.st
  limits := h.limits

theorem setMsgs (h : Stands v s t) {l : List Msg} : Stands v s { t with st := { t.st with msgs := l } } := h.of_eq
theorem setPt (h : Stands v s t) {x : Pt} : Stands v s { t with pt := x } := h.of_eq
theorem occ (h : Stands v s t) {o : Occ} : Stands v s (t.occ o) := (stable v s).occ h
theorem raise (h : Stands v s t) {e : FaultEv} : Stands v s (t.raise e) := (stable v s).raise h
theorem worldGet (h : Stands v s t) {wa n m : Nat} {k : Option Nat} : Stands v s (t.worldGet wa n m k).2.2 := (stable v s).worldGet h
theorem worldWrite (h : Stands v s t) {wa m : Nat} {k : Option Nat} {x : SMap Byte} : Stands v s (t.worldWrite wa m k x).2 :=
  (stable v s).worldWrite h

theorem lateSpan (h : Stands v s t) {wa n due : Nat} : Stands v s (t.lateSpan wa n due) := by
  refine ite h (foldl (fun u k hu => ?_) _ h)
  split
  · exact hu
  · split
    · exact ite ((stable v s).addFld hu) hu
    · exact hu

/-! ## The reads of a round (R145 to R153) -/

theorem tkRead (h : Stands v s t) {wa n m : Nat} : Stands v s (t.tkRead wa n m).2 := h.worldGet

theorem gridRead (h : Stands v s t) {wa n m : Nat} : Stands v s (t.gridRead wa n m).2 := by
  unfold State.gridRead
  dsimp only
  split
  · exact h.tkRead
  · exact h.tkRead.raise

theorem membersFrom (h : Stands v s t) {f i m : Nat} {l : List Nat} : Stands v s (membersFrom f t i m l).2 := by
  induction f generalizing t i l with
  | zero => exact h
  | succ f ih =>
    unfold Machine.membersFrom
    dsimp only
    split
    · exact h.gridRead
    · split
      · exact h.gridRead
      · exact ih h.gridRead

theorem members (h : Stands v s t) {cell m : Nat} : Stands v s (t.members cell m).2 := by
  unfold State.members
  dsimp only
  split
  · exact h.gridRead
  · split
    · exact h.gridRead.membersFrom
    · exact h.gridRead

theorem edScan (h : Stands v s t) {m : Nat} {p : Nat → Bool} : Stands v s (t.edScan m p) :=
  foldl (fun _ _ hu => raise hu.of_eq) _ h

theorem rungs (h : Stands v s t) {i m : Nat} : Stands v s (t.rungs i m).2 := by
  unfold State.rungs
  dsimp only
  split <;> exact h.tkRead

theorem handlesFrom (h : Stands v s t) {m n wa : Nat} {l : List Nat} : Stands v s (handlesFrom m n t wa l).2 := by
  induction n generalizing t wa l with
  | zero => exact h
  | succ n ih =>
    unfold Machine.handlesFrom
    dsimp only
    split
    · split
      · exact h.tkRead
      · exact ih h.tkRead
    · exact h.tkRead

theorem ringGet (h : Stands v s t) {c : Ctx} {off n m : Nat} {k : Option Nat} {due : Nat} : Stands v s (t.ringGet c off n m k due).2.2 := by
  unfold State.ringGet
  dsimp only
  split
  · exact h.lateSpan.worldGet
  · exact h.lateSpan.worldGet.lateSpan.worldGet

theorem newestSeq (h : Stands v s t) {c : Ctx} {due : Nat} : Stands v s (t.newestSeq c due).2 := by
  unfold State.newestSeq
  split
  · exact h
  · exact h.ringGet

theorem visitCell (h : Stands v s t) {du f b cell : Nat} {a : Visit} : Stands v s (t.visitCell du f b cell a).2 := by
  unfold State.visitCell
  split
  · exact h
  · exact h.members.edScan

theorem interest (h : Stands v s t) {du : Nat} {c : Ctx} : Stands v s (t.interest du c).2 :=
  foldlSnd (fun _ _ ha => ha.visitCell) _ h

theorem entityFor (h : Stands v s t) {du cap i cell : Nat} {d : Option Nat} : Stands v s (t.entityFor du cap d i cell).2 := by
  unfold State.entityFor
  extract_lets e k en s0 q r m fs w at_
  have told : Stands v s s0 := ite h.setFld h
  have read : Stands v s r.2.2 := by
    dsimp only [r]
    split
    · exact told
    · split
      · exact told
      · exact told.rungs
  have slot : Stands v s w.2.2 := by
    dsimp only [w]
    split
    · exact read
    · exact read.worldGet
  split
  · exact read
  · split <;> exact slot

theorem gather (h : Stands v s t) {du cap : Nat} {d : Option Nat} {l : List (Nat × Nat)} : Stands v s (t.gather du cap d l).2 :=
  foldlSnd (fun _ _ ha => ite ha.occ.entityFor ha.occ.entityFor.occ) l h

theorem titleRecs (h : Stands v s t) {l : List Msg} {due : Nat} : Stands v s (t.titleRecs l due).2 := by
  unfold State.titleRecs
  refine foldlSnd (fun a x ha => ?_) l h
  exact ha.lateSpan.worldGet

theorem removedRecs (h : Stands v s t) {du m d : Nat} : Stands v s (t.removedRecs du m d).2 := by
  unfold State.removedRecs
  refine foldlSnd (fun a l ha => ?_) (departLists m d) h
  exact ha.handlesFrom

theorem roundRecs (h : Stands v s t) {b : Build} {c : Ctx} {cap : Nat} : Stands v s (t.roundRecs b c cap).2.2 :=
  h.interest.gather.titleRecs.removedRecs.newestSeq

/-! ## Records and operations that end -/

theorem ringRecord (h : Stands v s t) {w : Bool} {x : List Byte} : Stands v s (t.ringRecord w x) := by
  unfold State.ringRecord
  split
  · exact h.of_eq
  · next q _ =>
    have written : Stands v s (({ t with pm := { t.pm with lone := none } }).ringWrite q x) := setFld (worldWrite h.of_eq)
    exact ite written.setFld written

theorem loseRecord (h : Stands v s t) : Stands v s t.loseRecord := setFld h.of_eq

theorem enterRecord (h : Stands v s t) {x : Sample} {c : Nat} : Stands v s (t.enterRecord x c) := by
  unfold State.enterRecord
  dsimp only
  split
  · exact ite h.of_eq h.loseRecord
  · split
    · exact h
    · refine ite h.loseRecord (ite (ringRecord h.of_eq) (ite ?_ (ite h.of_eq h)))
      exact ite (setFld (setFld h.of_eq)) (setFld h.of_eq)

theorem finishSample (h : Stands v s t) {id c : Nat} : Stands v s (t.finishSample id c) :=
  foldl (fun _ _ hu => hu.enterRecord) _ h.of_eq

theorem setStrand (h : Stands v s t) {e k : Nat} {x : Strand} : Stands v s (t.setStrand e k x) := h.of_eq

theorem setEntry (h : Stands v s t) {i : Nat} {x : Word64} : Stands v s (t.setEntry i x) := h.of_eq
theorem tearLock (h : Stands v s t) {i : Nat} : Stands v s (t.tearLock i) := h.setEntry

theorem wakeAll (h : Stands v s t) {e : Nat} : Stands v s (t.wakeAll e) := by
  obtain ⟨x, eq⟩ := wakeAll_shape t e
  rw [eq]
  exact h.of_eq

theorem countAcked (h : Stands v s t) {o : Op} : Stands v s (t.countAcked o) := by
  unfold State.countAcked
  split
  · exact h
  · exact h.of_eq

section
variable (uncounted : Uncounted v)
include uncounted

theorem releaseSlot (h : Stands v s t) {i e k : Nat} : Stands v s (t.releaseSlot i e k) :=
  setStrand (h.setSess (uncounted i (t.sess i) _ _))

theorem loseSlot (h : Stands v s t) {e k i : Nat} : Stands v s (t.loseSlot e k i) := by
  unfold State.loseSlot
  split
  · exact releaseSlot uncounted h.of_eq
  · exact releaseSlot uncounted h

theorem reclaim (h : Stands v s t) {e k : Nat} : Stands v s (t.reclaim e k) := by
  have torn : Stands v s ((t.strand e k).locks.foldl (fun s i => s.tearLock i) t) := foldl (fun _ _ hu => hu.tearLock) _ h
  have lost : Stands v s ((t.strand e k).slots.foldl (fun s i => s.loseSlot e k i) _) := foldl (fun _ _ hu => loseSlot uncounted hu) _ torn
  exact lost.of_eq

theorem drainedOff (h : Stands v s t) {e k : Nat} : Stands v s (t.drainedOff e k) := by
  have reclaimed : Stands v s (t.reclaim e k) := reclaim uncounted h
  have noted : Stands v s ((t.reclaim e k).noteDone (skey e k)) := ite reclaimed.of_eq reclaimed
  exact ite (ite noted.setStrand noted) h

theorem completeOp (h : Stands v s t) {o : Op} {x : Nat} : Stands v s (t.completeOp o x) := by
  have told : Stands v s (t.meshOcc true o) := foldl (fun _ _ hu => hu.occ) _ h
  have dropped : Stands v s ((t.meshOcc true o).dropOp o.id) := told.of_eq
  have ended : Stands v s (t.endOp o) := drainedOff uncounted dropped.countAcked.setStrand.wakeAll
  exact ite ended ended.setStrand.finishSample

theorem endSends (h : Stands v s t) {i n : Nat} : Stands v s (t.endSends i n) :=
  foldl (fun _ _ hu => (completeOp uncounted hu).setStrand) _ h

end

/-! ## Events and datagrams -/

theorem sesKey (h : Stands v s t) {i l k : Nat} {due : Option Nat} : Stands v s (t.sesKey i l k due).2 := by
  unfold State.sesKey
  extract_lets cut s1 r
  split
  · exact h
  · have late : Stands v s s1 := by
      cases due with
      | none => exact h
      | some d => exact h.lateSpan
    have read : Stands v s r.2.2 := late.worldGet
    split
    · split
      · exact read.of_eq
      · exact read.raise
    · exact read.raise

theorem stEvent (h : Stands v s t) {k r i : Nat} : Stands v s (t.stEvent k r i) := by
  have counted : Stands v s { t with st := { t.st with evSeq := (t.st.evSeq + 1) % 2 ^ 32 } } := h.of_eq
  exact ite counted.worldWrite.of_eq counted.of_eq

section
variable (uncounted : Uncounted v)
include uncounted

theorem sendClose (h : Stands v s t) {d : CloseDue} : Stands v s (t.sendClose d) := by
  have same : (t.sesKey d.ses (t.laneOfSes d.ses) 0 none).2.sess d.ses = t.sess d.ses := (refl wholeView t).sesKey.whole d.ses
  have counted : Stands v s ((t.sesKey d.ses (t.laneOfSes d.ses) 0 none).2.setCtx d.ses
      { t.ctx d.ses with ctr := min (2 ^ 31 - 1) ((t.ctx d.ses).ctr + 1) }) :=
    h.sesKey.setSess (by rw [same]; exact uncounted d.ses (t.sess d.ses) _ _)
  unfold State.sendClose
  dsimp only
  split
  · exact counted.occ
  · exact counted.occ.of_eq

theorem queueClose (h : Stands v s t) {i : Nat} : Stands v s (t.queueClose i) := ite (sendClose uncounted h) h.of_eq

theorem closeSession (h : Stands v s t) {i r : Nat} (blind : Blind v i) : Stands v s (t.closeSession i r) :=
  ite h (queueClose uncounted (stEvent (endSends uncounted (h.setSess (blind _ _)).setMsgs.setPt)))

theorem sealNext (h : Stands v s t) {i f a k : Nat} {due : Option Nat} {x : List Byte} (blind : Blind v i) :
    Stands v s (t.sealNext i f a k due x).2 := by
  have taken {c : Ctx} : Stands v s ((((t.sesKey i (t.laneOfSes i) 0 due).2.setCtx i c).occ { ev := 0x53, inst := t.laneOfSes i }).occ
      { ev := 0x62, inst := t.duOf i, inc := x.length }) := (h.sesKey.setSess (blind _ _)).occ.occ
  unfold State.sealNext
  dsimp only
  split
  · exact closeSession uncounted h blind
  · exact ite (closeSession uncounted taken blind) taken

end

end Stands

end Sys2Proof.Machine
end

section
/-!
PROOFS. The end and the age of sessions, and firmware's event FIFO (O26).
-/

namespace Sys2Proof.Machine

set_option Elab.async false

/-! ## The end of a session (R136) -/

/-- Session `i` FREE, as it is told to the title's event ring. -/
def State.freed (s : State) (i reason : Nat) : State :=
  ((s.setSess i { s.sess i with ctx := { s.ctx i with st := .free, unread := 0 }, join := none, sentAt := [] }).stFresh i).stEvent
    6 reason i

theorem freeSession_eq (s : State) (i reason : Nat) : s.freeSession i reason = (s.freed i reason).fwEvent 6 reason i := rfl

theorem freed_sess (s : State) (i reason j : Nat) : (s.freed i reason).sess j =
    (s.setSess i { s.sess i with ctx := { s.ctx i with st := .free, unread := 0 }, join := none, sentAt := [] }).sess j :=
  ((Stands.refl wholeView _).stEvent).whole j

theorem freed_fwEv (s : State) (i reason : Nat) : (s.freed i reason).st.fwEv = s.st.fwEv :=
  ((Stands.refl wholeView _).stEvent).fwEv

theorem sess_fwEvent (s : State) (kind reason i j : Nat) : (s.fwEvent kind reason i).sess j = s.sess j := by
  unfold State.fwEvent
  split <;> rfl

theorem fwEvent_room {s : State} (kind reason i : Nat) (room : s.st.fwEv.length < 1024) :
    (s.fwEvent kind reason i).st.fwEv = s.st.fwEv ++ [(s.sesHandle i, reason, kind)] := by
  rw [State.fwEvent, if_pos room]

theorem sessionFreed_runs {s : State} (n : BitVec 18) (closing : (s.ctx n.toNat).st = .closing) (idle : s.sesBusy n.toNat = false) :
    Runs (.sessionFreed n) s fun t => (t.ctx n.toNat).st = .free ∧ (t.sess n.toNat).join = none ∧
      (s.st.fwEv.length < 1024 → t.st.fwEv = s.st.fwEv ++ [(s.sesHandle n.toNat, (s.sess n.toNat).reason, 6)]) ∧
      ∀ j, j ≠ n.toNat → t.sess j = s.sess j := by
  have ends : (decide ((s.ctx n.toNat).st = .closing) && !s.sesBusy n.toNat) = true := by simp [closing, idle]
  refine ⟨_, congrArg Host.Outcome.next (if_pos ends), ?_⟩
  rw [freeSession_eq]
  refine ⟨?_, ?_, fun room => ?_, fun j other => ?_⟩
  · rw [State.ctx, sess_fwEvent, freed_sess, State.sess_setSess_same]
  · rw [sess_fwEvent, freed_sess, State.sess_setSess_same]
  · rw [fwEvent_room _ _ _ (by rwa [freed_fwEv]), freed_fwEv, State.sesHandle, State.ctx, freed_sess, State.sess_setSess_same]
    rfl
  · rw [sess_fwEvent, freed_sess, State.sess_setSess_ne _ _ _ _ other]

/-! ## Firmware's FIFO (R136) -/

theorem fwPop_oldest {s : State} {h r k : Nat} {l : List (Nat × Nat × Nat)} (oldest : s.st.fwEv = (h, r, k) :: l) :
    s.fwPop = (h, 2 ^ 31 + b2n s.st.fwLost * 2 ^ 30 + r * 2 ^ 16 + k, { s with st := { s.st with fwEv := l, fwLost := false } }) := by
  unfold State.fwPop
  rw [oldest]
  rfl

theorem fwPop_empty {s : State} (empty : s.st.fwEv = []) :
    s.fwPop = (0, b2n s.st.fwLost * 2 ^ 30, { s with st := { s.st with fwEv := [], fwLost := false } }) := by
  unfold State.fwPop
  rw [empty]
  rfl

theorem stFwEventPop_oldest {s : State} (p : Path) {h r k : Nat} {l : List (Nat × Nat × Nat)} (oldest : s.st.fwEv = (h, r, k) :: l) :
    Runs (.stFwEventPop p) s fun t => t.lastRead = h ∧ t.st.fwEv = l ∧ t.st.fwLost = false ∧ t.ses = s.ses ∧
      smapFind t.holdRd (pathKey p) = some (0x3100A0, 2 ^ 31 + b2n s.st.fwLost * 2 ^ 30 + r * 2 ^ 16 + k) := by
  refine ⟨_, rfl, ?_⟩
  rw [fwPop_oldest oldest]
  exact ⟨rfl, rfl, rfl, rfl, smapFind_insert_same _ _ _⟩

theorem stFwEventPop_empty {s : State} (p : Path) (empty : s.st.fwEv = []) :
    Runs (.stFwEventPop p) s fun t => t.lastRead = 0 ∧ t.st.fwEv = [] ∧ t.ses = s.ses := by
  refine ⟨_, rfl, ?_⟩
  rw [fwPop_empty empty]
  exact ⟨rfl, rfl, rfl⟩

/-! ## The sweep (R133) -/

/-- A session that is not shown ages, becomes QUIET or closes. -/
theorem Stands.ageOne {v : Nat → Ses → Ses} {s t : State} {j : Nat} (uncounted : Uncounted v) (h : Stands v s t) (blind : Blind v j) :
    Stands v s (t.ageOne j) := by
  have aged {c : Ctx} : Stands v s (t.setCtx j c) := h.setSess (blind _ _)
  refine ite h.raise (ite h (ite aged (ite (closeSession uncounted aged blind) (ite ?_ aged))))
  exact stEvent (endSends uncounted (aged.setSess (blind _ _)))

theorem Stands.ageOnes {v : Nat → Ses → Ses} {s : State} {l : List Nat} (uncounted : Uncounted v) (blind : ∀ j ∈ l, Blind v j) {t : State}
    (h : Stands v s t) : Stands v s (l.foldl (fun s j => s.ageOne j) t) := by
  induction l generalizing t with
  | nil => exact h
  | cons j l ih =>
    obtain ⟨first, rest⟩ := List.forall_mem_cons.1 blind
    exact ih rest (h.ageOne uncounted first)

/-- The session that `oneView` shows is as it was, but for its two counts. -/
theorem Stands.one_ctx {i : Nat} {s t : State} (h : Stands (oneView i) s t) :
    ∃ n k, t.ctx i = { s.ctx i with used := n, ctr := k } := by
  refine ⟨(t.ctx i).used, (t.ctx i).ctr, ?_⟩
  calc t.ctx i = { (t.sess i).settled.ctx with used := (t.ctx i).used, ctr := (t.ctx i).ctr } := rfl
    _ = { (s.sess i).settled.ctx with used := (t.ctx i).used, ctr := (t.ctx i).ctr } := by rw [h.one]

section
variable {s : State} {i : Nat} (whole : i ∉ s.st.upset) (used : (s.ctx i).st ≠ .free)
include whole used

theorem ageOne_heard (heard : (s.ctx i).heard = true) : s.ageOne i = s.setCtx i { s.ctx i with heard := false, age := 0 } := by
  simp [State.ageOne, whole, used, heard]

theorem ageOne_unheard (unheard : (s.ctx i).heard = false) (close : min 63 ((s.ctx i).age + 1) < s.fld F.ST_AGE_close 0 0)
    (quiet : min 63 ((s.ctx i).age + 1) < s.fld F.ST_AGE_quiet 0 0) :
    s.ageOne i = s.setCtx i { s.ctx i with age := min 63 ((s.ctx i).age + 1) } := by
  have lives : ¬ s.fld F.ST_AGE_close 0 0 ≤ min 63 ((s.ctx i).age + 1) := not_le.2 close
  have loud : ¬ s.fld F.ST_AGE_quiet 0 0 ≤ min 63 ((s.ctx i).age + 1) := not_le.2 quiet
  unfold State.ageOne
  simp only [List.contains_iff_mem, whole, used, unheard, lives, loud, and_false, if_false, Bool.false_eq_true]

end

/-- A session in use is listed. -/
theorem listed_of_used {s : State} {i : Nat} (used : (s.ctx i).st ≠ .free) : i ∈ s.ses.map (·.1) := by
  by_contra unlisted
  refine used ?_
  rw [State.ctx, State.sess, smapGet, smapFind_none_of_keys unlisted]
  rfl

/-- A sweep of all sessions, each once, ages a session between the others' turns. -/
theorem ageOnes_one {s : State} {i : Nat} {l : List Nat} (once : l.Nodup) (own : i ∈ l) :
    ∃ u, Stands (oneView i) s u ∧ Stands (oneView i) (u.ageOne i) (l.foldl (fun s j => s.ageOne j) s) := by
  obtain ⟨before, after, rfl⟩ := List.append_of_mem own
  obtain ⟨_, tail, apart⟩ := List.nodup_append.1 once
  have others {l' : List Nat} (free : i ∉ l') : ∀ j ∈ l', Blind (oneView i) j := fun j mem =>
    oneView_blind fun same => free (same ▸ mem)
  refine ⟨before.foldl (fun s j => s.ageOne j) s, ?_, ?_⟩
  · exact (Stands.refl _ s).ageOnes (oneView_uncounted i) (others fun mem => apart i mem i List.mem_cons_self rfl)
  · rw [List.foldl_append, List.foldl_cons]
    exact (Stands.refl _ _).ageOnes (oneView_uncounted i) (others (List.nodup_cons.1 tail).1)

theorem ageSweep_due {s : State} (serves : s.mode ≠ 7) (due : s.st.lastSweep + s.fld F.ST_AGE_period_ms 0 0 * 1000000 ≤ s.tb) :
    s.ageSweep = (s.ses.map (·.1)).foldl (fun s i => s.ageOne i) { s with st := { s.st with lastSweep := s.tb } } := by
  unfold State.ageSweep
  rw [if_neg]
  rw [not_or]
  exact ⟨serves, not_lt.2 due⟩

theorem ageSweep_runs {s : State} (serves : s.mode ≠ 7) (due : s.st.lastSweep + s.fld F.ST_AGE_period_ms 0 0 * 1000000 ≤ s.tb)
    (once : (s.ses.map (·.1)).Nodup) :
    Runs .ageSweep s fun t => t.st.lastSweep = s.tb ∧ ∀ i, i ∉ s.st.upset → (s.ctx i).st ≠ .free →
      ((s.ctx i).heard = true → (t.ctx i).heard = false ∧ (t.ctx i).age = 0 ∧ (t.ctx i).st = (s.ctx i).st) ∧
      ((s.ctx i).heard = false → min 63 ((s.ctx i).age + 1) < s.fld F.ST_AGE_close 0 0 →
        min 63 ((s.ctx i).age + 1) < s.fld F.ST_AGE_quiet 0 0 →
        (t.ctx i).age = min 63 ((s.ctx i).age + 1) ∧ (t.ctx i).st = (s.ctx i).st) := by
  refine ⟨_, congrArg Host.Outcome.next (ageSweep_due serves due), ?_, fun i whole used => ?_⟩
  · exact ((Stands.refl noView _).ageOnes noView_uncounted fun j _ => noView_blind j).lastSweep
  · obtain ⟨u, before, after⟩ := ageOnes_one (s := { s with st := { s.st with lastSweep := s.tb } }) once (listed_of_used used)
    obtain ⟨n, k, ctx⟩ := before.one_ctx
    obtain ⟨n', k', last⟩ := after.one_ctx
    have whole' : i ∉ u.st.upset := before.upset ▸ whole
    have used' : (u.ctx i).st ≠ .free := by rw [ctx]; exact used
    have close : u.fld F.ST_AGE_close 0 0 = s.fld F.ST_AGE_close 0 0 := before.limits _ (by decide)
    have quiet : u.fld F.ST_AGE_quiet 0 0 = s.fld F.ST_AGE_quiet 0 0 := before.limits _ (by decide)
    refine ⟨fun heard => ?_, fun unheard young loud => ?_⟩
    · rw [ageOne_heard whole' used' (by rw [ctx]; exact heard), State.ctx_setCtx_same, ctx] at last
      rw [last]
      exact ⟨rfl, rfl, rfl⟩
    · rw [ageOne_unheard whole' used' (by rw [ctx]; exact unheard) (by rw [ctx, close]; exact young) (by rw [ctx, quiet]; exact loud),
        State.ctx_setCtx_same, ctx] at last
      rw [last]
      exact ⟨rfl, rfl⟩

/-- Settles O26: what the end of a session and a sweep do to one session stands through the events and the ends of others. -/
theorem sessionLifetime : Obligations.SessionLifetime := by
  unfold Obligations.SessionLifetime
  exact fun s => ⟨sessionFreed_runs, fun p _ _ _ _ oldest => stFwEventPop_oldest p oldest, stFwEventPop_empty, ageSweep_runs⟩

end Sys2Proof.Machine
end

section
/-!
PROOFS. A round is built, sent, and dropped at the end of its window (O28).
-/

namespace Sys2Proof.Machine

set_option Elab.async false

/-! ## A build opens (R145) -/

/-- The build that begins for slot `l` is open, and its records are yet to be read. -/
def State.building (s : State) (i : Nat) (l : SendSlot) : State :=
  { s with st := { s.st with builds := s.st.builds ++ [s.newBuild i l] } }

/-- Its records, whether an entity's slot could not be read, and what the reads left. -/
def State.roundRead (s : State) (i : Nat) (l : SendSlot) : Build × Bool × State :=
  (s.building i l).roundRecs (s.newBuild i l) (s.sess i).ctx (s.payloadMax (s.sess i).ctx - 32)

/-- The build with its datagrams' flags. -/
def State.flagged (s : State) (i : Nat) (l : SendSlot) : Build :=
  { (s.roundRead i l).1 with dgrams := (s.roundRead i l).1.dgrams.map fun e =>
      (4 * b2n ((s.newBuild i l).delta == 0xFFFF) + 16 * b2n (decide ((s.newBuild i l).tick < l.tick)) + e.1, e.2) }

/-- Session `i`, served in slot `l`. -/
def State.served (s : State) (i : Nat) (l : SendSlot) : Ses :=
  { s.sess i with
    lastSlot := l.seq
    ctx := { (s.sess i).ctx with keyPend :=
      (if (s.newBuild i l).delta == 0xFFFF then false else (s.sess i).ctx.keyPend) || (s.roundRead i l).2.1 } }

/-- The records are read: session `i` is now `x`, and its build for slot `k` is `b`. -/
def State.built (s : State) (i k : Nat) (x : Ses) (b : Build) : State :=
  let s1 := s.setSess i x
  { s1 with st := { s1.st with builds := s1.st.builds.map fun (y : Build) => if y.ses = i ∧ y.slot = k then b else y } }

/-- The build opens with its records, and its session is served in its slot; a keyframe is counted. -/
theorem roundStart_shape {s : State} {i : Nat} {l : SendSlot} (due : s.dueSlot i = some l) (can : s.canBuild i = true)
    (whole : i ∉ s.st.upset) :
    ∃ p, s.roundStart i = { (s.roundRead i l).2.2.built i l.seq (s.served i l) (s.flagged i l) with pm := p } := by
  have starts : ¬ (!s.canBuild i) = true := by simp [can]
  have reads : ¬ s.st.upset.contains i = true := by simpa using whole
  have eq : s.roundStart i = if (s.newBuild i l).delta == 0xFFFF then
      ((s.roundRead i l).2.2.built i l.seq (s.served i l) (s.flagged i l)).occ { ev := 0x63, inst := (s.newBuild i l).du }
      else (s.roundRead i l).2.2.built i l.seq (s.served i l) (s.flagged i l) := by
    unfold State.roundStart
    rw [due]
    exact (if_neg starts).trans (if_neg reads)
  rw [eq]
  split
  · exact occ_shape _ _
  · exact ⟨_, rfl⟩

theorem roundBuildStart_runs {n : BitVec 18} {s : State} {l : SendSlot} (due : s.dueSlot n.toNat = some l)
    (can : s.canBuild n.toNat = true) (whole : n.toNat ∉ s.st.upset) :
    Runs (.roundBuildStart n) s fun t => (t.sess n.toNat).lastSlot = l.seq ∧
      ∃ b ∈ t.st.builds, b.ses = n.toNat ∧ b.slot = l.seq ∧ b.tick = s.fld F.TK_COMMITTED_tick 0 0 ∧
        b.opens = winOpen (s.ctx n.toNat) l ∧ b.closes = s.winClose (s.ctx n.toNat) l ∧ b.since = s.tb := by
  obtain ⟨p, eq⟩ := roundStart_shape due can whole
  have read : Stands wholeView (s.building n.toNat l) (s.roundRead n.toNat l).2.2 := (Stands.refl _ _).roundRecs
  refine ⟨_, congrArg Host.Outcome.next eq, congrArg Ses.lastSlot (State.sess_setSess_same _ _ (s.served n.toNat l)),
    s.flagged n.toNat l, List.mem_map.2 ⟨s.newBuild n.toNat l, ?_, if_pos ⟨rfl, rfl⟩⟩, rfl, rfl, rfl, rfl, rfl, rfl⟩
  rw [State.setSess_st, read.builds]
  exact List.mem_append_right _ (List.mem_singleton_self _)

/-! ## A build ends (R153, R156) -/

theorem roundBuildComplete_runs {n : BitVec 18} {s : State} {b : Build} (found : s.st.builds.find? (fun b => b.ses == n.toNat) = some b)
    (room : s.queued (s.duOf n.toNat / 2) + (b.dgrams.map fun d => d.2.length + 32).sum ≤ 2 ^ 20) :
    Runs (.roundBuildComplete n) s fun t => t.st.builds = s.st.builds.filter (fun x => x.ses != n.toNat) ∧
      ((s.ctx n.toNat).st ≠ .live → t.pt.egress = s.pt.egress) := by
  have fits : ¬ (!s.laneRoom (s.laneOfSes n.toNat) (b.dgrams.map fun d => d.2.length + 32).sum) = true := by
    simpa [State.laneRoom, State.laneOfSes] using room
  refine ⟨_, rfl, ?_⟩
  unfold State.roundComplete
  rw [found]
  dsimp only
  rw [if_neg fits]
  split
  · exact ⟨rfl, fun _ => rfl⟩
  · next live =>
    refine ⟨Stands.builds (v := noView) (Stands.foldl (fun u e hu => ?_) _ (Stands.refl _ _)), fun ended => absurd ended live⟩
    have sealed {f a k : Nat} {due : Option Nat} {x : List Byte} : Stands noView _ (u.sealNext n.toNat f a k due x).2 :=
      Stands.sealNext noView_uncounted hu (noView_blind _)
    split
    · exact sealed
    · exact sealed.setPt

/-! ## Where nothing waits for room (R156) -/

theorem snapFill_none {s : State} (idle : s.snap.todo = []) : s.snapFill = s := by
  have fills : s.snapFill = { s with snap := { s.snap with todo := [] } } := by rw [State.snapFill, idle]; rfl
  rw [fills, ← idle]

theorem closeFill_none {s : State} (idle : s.st.closeWait = []) : s.closeFill = s := by rw [State.closeFill, idle]; rfl

theorem joinFills_none {s : State} (idle : ∀ e ∈ s.ses, ∀ j, e.2.join = some j → j.todo = []) : s.joinFills = s := by
  have none : (s.ses.filter fun e => e.2.join.any fun j => !j.todo.isEmpty) = [] := by
    refine List.filter_eq_nil_iff.2 fun e listed waits => ?_
    cases has : e.2.join with
    | none => simp [has] at waits
    | some j => simp [has, idle e listed j has] at waits
  rw [State.joinFills, none]
  rfl

theorem refill_none {s : State} (idle : s.NothingWaits) : s.refill = s := by
  obtain ⟨snap, close, join⟩ := idle
  rw [State.refill, snapFill_none snap, closeFill_none close, joinFills_none join]

/-- A session takes no datagrams of a join pass upon it. -/
theorem State.NothingWaits.setSess {s : State} (idle : s.NothingWaits) {i : Nat} {x : Ses} (same : x.join = (s.sess i).join) :
    (s.setSess i x).NothingWaits := by
  obtain ⟨snap, close, join⟩ := idle
  refine ⟨snap, close, fun e listed j has => ?_⟩
  have old : e ∈ s.ses ∨ e = (i, x) := by
    unfold State.setSess smapPut at listed
    split at listed
    · exact .inl (mem_smapErase listed)
    · exact mem_smapInsert listed
  obtain old | rfl := old
  · exact join e old j has
  · rw [same] at has
    cases found : smapFind s.ses i with
    | none => rw [State.sess, smapGet, found] at has; cases has
    | some y => rw [State.sess, smapGet, found] at has; exact join _ (mem_of_smapFind found) j has

/-! ## A packet leaves (R156) -/

/-- From `s` to `t` packet `p` has left its queue, is counted, and is the frame last sent on its lane; nothing waits for its room. -/
structure Leaves (s : State) (p : Pkt) (t : State) : Prop where
  egress : t.pt.egress = s.pt.egress.erase p
  count : t.fld F.PT_CNT_TXFRM_count p.port 0 = satAdd F.PT_CNT_TXFRM_count.w (s.fld F.PT_CNT_TXFRM_count p.port 0) 1
  frame : smapFind t.pt.lastTx p.lane = some (s.txFrame p)
  idle : t.NothingWaits

namespace Leaves

variable {s t : State} {p : Pkt}

theorem setFld (h : Leaves s p t) {f : Fld} {i j x : Nat} (other : fldKey F.PT_CNT_TXFRM_count p.port 0 ≠ fldKey f i j) :
    Leaves s p (t.setFld f i j x) :=
  ⟨h.egress, (State.fld_setFld_ne _ _ _ _ _ _ _ _ other).trans h.count, h.frame, h.idle⟩

theorem addFld (h : Leaves s p t) {f : Fld} {i j x : Nat} (other : fldKey F.PT_CNT_TXFRM_count p.port 0 ≠ fldKey f i j) :
    Leaves s p (t.addFld f i j x) := h.setFld other

theorem setNextAt (h : Leaves s p t) {x : Nat} : Leaves s p { t with snap := { t.snap with nextAt := x } } :=
  ⟨h.egress, h.count, h.frame, h.idle⟩

theorem setSess (h : Leaves s p t) {i : Nat} {x : Ses} (same : x.join = (t.sess i).join) : Leaves s p (t.setSess i x) :=
  ⟨h.egress, h.count, h.frame, h.idle.setSess same⟩

end Leaves

theorem txFrames_key {i : Nat} (port : i < 8) : ∀ f ∈ [F.DU_ROUNDS_count, F.SNAP_SENT_count, F.PT_TXTS_ID_lost],
    fldKey F.PT_CNT_TXFRM_count i 0 ≠ fldKey f 0 0 := by
  revert i
  decide

/-- Packet `p` has left its queue and is the frame last sent on its lane; the messages, the lanes' shares and the free values used are as
given. -/
def State.takePkt (s : State) (p : Pkt) (m : List Msg) (sh : SMap (Nat × Nat)) (n : Nat) : State :=
  { s with
    st := { s.st with msgs := m }
    pt := { s.pt with egress := s.pt.egress.erase p, lastTx := smapInsert s.pt.lastTx p.lane (s.txFrame p), share := sh }
    free := n }

theorem takePkt_leaves {s : State} {p : Pkt} {m : List Msg} {sh : SMap (Nat × Nat)} {n : Nat} (idle : s.NothingWaits) :
    Leaves s p ((s.takePkt p m sh n).addFld F.PT_CNT_TXFRM_count p.port 0 1) :=
  ⟨rfl, fld_addFld_same (s.takePkt p m sh n) _ _ _ _, smapFind_insert_same _ _ _, idle⟩

theorem sendPkt_leaves {s : State} {p : Pkt} (port : p.port < 8) (idle : s.NothingWaits) : Leaves s p (s.sendPkt p) := by
  have apart := txFrames_key port
  have bytes : fldKey F.PT_CNT_TXFRM_count p.port 0 ≠ fldKey F.PT_CNT_TXBYTE_count p.port 0 := fldKey_ne_column _ rfl (by decide)
  unfold State.sendPkt
  extract_lets n joins sh sh1 _ _ s1
  have left : Leaves s p s1 := (takePkt_leaves idle).addFld bytes
  split
  · dsimp only
    split
    · refine (left.setSess ?_).addFld (apart F.DU_ROUNDS_count (by decide))
      rfl
    · exact left
  · exact left.setSess rfl
  · exact left.setNextAt.addFld (apart F.SNAP_SENT_count (by decide))
  · exact left

theorem stampTx_leaves {s t : State} {p : Pkt} (port : p.port < 8) (h : Leaves s p t) : Leaves s p (t.stampTx p) := by
  unfold State.stampTx
  split
  · exact h
  · split
    · exact ⟨h.egress, h.count, h.frame, h.idle⟩
    · exact h.setFld (txFrames_key port F.PT_TXTS_ID_lost (by decide))

theorem egressTransmit_runs {s : State} {lane : Fin 8} {p : Pkt} (next : s.nextPkt lane.val = some p) (port : p.port < 8)
    (idle : s.NothingWaits) : Runs (.egressTransmit lane) s fun t => t.pt.egress = s.pt.egress.erase p ∧
      t.fld F.PT_CNT_TXFRM_count p.port 0 = satAdd F.PT_CNT_TXFRM_count.w (s.fld F.PT_CNT_TXFRM_count p.port 0) 1 ∧
      smapFind t.pt.lastTx p.lane = some (s.txFrame p) := by
  have left := stampTx_leaves port (sendPkt_leaves port idle)
  have eq : s.egress lane.val = (s.sendPkt p).stampTx p := by
    rw [State.egress, next]
    exact refill_none left.idle
  exact ⟨_, congrArg Host.Outcome.next eq, left.egress, left.count, left.frame⟩

/-! ## A window closes (R157) -/

theorem missRound_shape (s : State) (i lane : Nat) : ∃ r p, s.missRound i lane = { s with regs := r, pm := p } := by
  obtain ⟨p, eq⟩ := occ_shape (s.addFld F.DU_MISS_rounds lane 0 1) { ev := 0x64, inst := s.duOf i }
  exact ⟨_, p, eq⟩

/-- Missed rounds are counted, and nothing else changes. -/
theorem missRounds_shape (i : Nat) (l : List (Nat × Nat)) (s : State) :
    ∃ r p, l.foldl (fun s r => s.missRound i r.2) s = { s with regs := r, pm := p } := by
  induction l generalizing s with
  | nil => exact ⟨_, _, rfl⟩
  | cons q l ih =>
    obtain ⟨r, p, miss⟩ := missRound_shape s i q.2
    obtain ⟨r', p', rest⟩ := ih (s.missRound i q.2)
    exact ⟨r', p', by rw [List.foldl_cons, rest, miss]⟩

theorem windowClose_runs {n : BitVec 18} {s : State} (idle : s.NothingWaits) :
    Runs (.windowClose n) s fun t =>
      t.pt.egress = s.pt.egress.filter (fun p => !(p.q == 1 && p.ses == some n.toNat && decide (p.closes ≤ s.tb))) ∧
      t.st.builds = s.st.builds.filter (fun b => !(b.ses == n.toNat && decide (b.closes ≤ s.tb))) ∧ t.ses = s.ses := by
  obtain ⟨snap, close, join⟩ := idle
  refine ⟨_, rfl, ?_⟩
  unfold State.windowClose
  extract_lets old oldB rounds builds _ _ s1
  obtain ⟨r, p, missed⟩ := missRounds_shape n.toNat (rounds ++ builds).dedup s1
  have dropped : s1.st.closeWait = [] := by
    change s.st.closeWait.filter _ = []
    rw [close]
    rfl
  rw [missed, refill_none (s := { s1 with regs := r, pm := p }) ⟨snap, dropped, join⟩]
  exact ⟨rfl, rfl, rfl⟩

/-- Settles O28: each command by the branch its hypotheses choose; what the reads of a round and the seals of others leave alone by their
frame. -/
theorem roundSteps : Obligations.RoundSteps := by
  unfold Obligations.RoundSteps
  rintro n _ s rfl
  exact ⟨fun _ due can whole => roundBuildStart_runs due can whole, fun _ found room => roundBuildComplete_runs found room,
    fun _ _ next port idle => egressTransmit_runs next port idle, windowClose_runs⟩

end Sys2Proof.Machine
end

section
/-!
PROOFS. The delta units: panic, overrun, the encoder table, join passes (O29).
-/

namespace Sys2Proof.Machine

set_option Elab.async false

/-! ## Panic (R158, R261) -/

/-- What a channel holds once delta unit `du` panics for it. -/
def Chan.panicked (x : Chan) (du now : Nat) : Chan :=
  { x with panicDus := x.panicDus + 2 ^ du, panicSince := if x.panicDus = 0 then now else x.panicSince,
           panicTold := if x.panicDus = 0 then false else x.panicTold }

theorem panicCount_key (ch : Fin 34) : fldKey F.DU_PANIC_count 0 0 ≠ fldKey F.CH_PANIC_count ch.val 0 ∧
    fldKey F.DU_PANIC_count 0 0 ≠ fldKey F.CH_STATUS_panic ch.val 0 := by
  revert ch
  decide

theorem duPanic_raises {s : State} {du ch : Nat} (calm : bitOf (s.chan ch).panicDus du = false) (near : s.duNear du ch = true) :
    ∃ n, s.duPanic du ch true = (((((s.setChan ch ((s.chan ch).panicked du s.tb)).addFld F.DU_PANIC_count 0 0 1).addFld
      F.CH_PANIC_count ch 0 n).occ { ev := 0x65, inst := du }).setFld F.CH_STATUS_panic ch 0 1) := by
  have raises : ¬ (bitOf (s.chan ch).panicDus du = true ∨ s.duNear du ch ≠ true) := by simp [calm, near]
  exact ⟨_, (if_neg raises).trans (if_pos rfl)⟩

theorem duPanicRaise_runs {s : State} {du : Fin 16} {ch : Fin 34} (calm : bitOf (s.chan ch.val).panicDus du.val = false)
    (near : s.duNear du.val ch.val = true) : Runs (.duPanicRaise du ch) s fun t => t.fld F.CH_STATUS_panic ch.val 0 = 1 ∧
      (t.chan ch.val).panicDus = (s.chan ch.val).panicDus + 2 ^ du.val ∧
      t.fld F.DU_PANIC_count 0 0 = satAdd 16 (s.fld F.DU_PANIC_count 0 0) 1 ∧ ∀ c, c ≠ ch.val → t.chan c = s.chan c := by
  obtain ⟨n, eq⟩ := duPanic_raises calm near
  obtain ⟨counts, status⟩ := panicCount_key ch
  refine ⟨_, congrArg Host.Outcome.next eq, State.fld_setFld_same _ _ _ _ _, ?_, ?_, fun c other => ?_⟩
  · simp [Chan.panicked]
  · rw [State.fld_setFld_ne _ _ _ _ _ _ _ _ status, State.fld_occ, State.addFld, State.fld_setFld_ne _ _ _ _ _ _ _ _ counts]
    exact fld_addFld_same _ F.DU_PANIC_count 0 0 1
  · simp [State.chan_setChan_ne _ _ _ _ other]

theorem duPanic_drops {s : State} {du ch : Nat} (panics : bitOf (s.chan ch).panicDus du = true) (far : s.duNear du ch = false) :
    ∃ n, s.duPanic du ch false =
      let s1 := s.setChan ch { s.chan ch with panicDus := (s.chan ch).panicDus - 2 ^ du, panicNs := n }
      if (s.chan ch).panicDus = 2 ^ du then s1.setFld F.CH_STATUS_panic ch 0 0 else s1 := by
  have drops : ¬ (bitOf (s.chan ch).panicDus du = false ∨ s.duNear du ch ≠ false) := by simp [panics, far]
  exact ⟨_, (if_neg drops).trans (if_neg (by decide))⟩

theorem duPanicDrop_runs {s : State} {du : Fin 16} {ch : Fin 34} (panics : bitOf (s.chan ch.val).panicDus du.val = true)
    (far : s.duNear du.val ch.val = false) : Runs (.duPanicDrop du ch) s fun t =>
      (t.chan ch.val).panicDus = (s.chan ch.val).panicDus - 2 ^ du.val ∧
      ((s.chan ch.val).panicDus = 2 ^ du.val → t.fld F.CH_STATUS_panic ch.val 0 = 0) ∧ ∀ c, c ≠ ch.val → t.chan c = s.chan c := by
  obtain ⟨n, eq⟩ := duPanic_drops panics far
  refine ⟨_, congrArg Host.Outcome.next eq, ?_⟩
  dsimp only
  split
  · next last =>
    refine ⟨?_, fun _ => State.fld_setFld_same _ _ _ _ _, fun c other => ?_⟩
    · simp
    · simp [State.chan_setChan_ne _ _ _ _ other]
  · next more =>
    refine ⟨?_, fun last => absurd last more, fun c other => State.chan_setChan_ne _ _ _ _ other⟩
    simp

/-! ## A build open too long (R360) -/

theorem duBuildOverrun_runs {s : State} {n : BitVec 18} {b : Build} (found : s.st.builds.find? (fun b => b.ses == n.toNat) = some b)
    (long : b.since + b.per < s.tb) : Runs (.duBuildOverrun n) s fun t => Raised t 47 0 ∧ { t with faults := s.faults } = s := by
  have eq : s.buildOverrun n.toNat = s.raise { group := 47, src := 0, inst := b.du, master := 40 + b.du, addr := n.toNat } := by
    rw [State.buildOverrun, found]
    exact if_pos long
  exact ⟨_, congrArg Host.Outcome.next eq, State.raised_raise _ _, State.raise_frame _ _⟩

/-! ## The encoder table (R154) -/

/-- The listed fields are committed in one row after the other. -/
def State.commitRows (s : State) (l : List (Fld × Nat)) (rows : List Nat) : State := rows.foldl (fun s c => s.commitList c l) s

theorem commitRows_frame (s : State) (l : List (Fld × Nat)) (rows : List Nat) :
    { s.commitRows l rows with regs := s.regs, shadow := s.shadow } = s := by
  induction rows generalizing s with
  | nil => rfl
  | cons c rows ih =>
    calc { s.commitRows l (c :: rows) with regs := s.regs, shadow := s.shadow }
        = { { (s.commitList c l).commitRows l rows with regs := (s.commitList c l).regs, shadow := (s.commitList c l).shadow } with
            regs := s.regs, shadow := s.shadow } := rfl
      _ = { s.commitList c l with regs := s.regs, shadow := s.shadow } := by rw [ih]
      _ = s := State.commitList_frame s c l

/-- A commit of any row leaves a committed field committed. -/
theorem Committed.commitRow {s t : State} {f : Fld} {i j c : Nat} (h : Committed s t f i j) (l : List (Fld × Nat)) :
    Committed s (t.commitList c l) f i j := by
  induction l generalizing t with
  | nil => exact h
  | cons p l ih => exact ih (h.commitFld p.1 c p.2)

theorem Committed.commitRows {s t : State} {f : Fld} {i j : Nat} (h : Committed s t f i j) (l : List (Fld × Nat)) (rows : List Nat) :
    Committed s (t.commitRows l rows) f i j := by
  induction rows generalizing t with
  | nil => exact h
  | cons c rows ih => exact ih (t := t.commitList c l) (h.commitRow l)

/-- Where no two fields of the rows share a key, each is committed. -/
theorem committed_commitRows (s : State) {l : List (Fld × Nat)}
    (apart : ∀ c d, ∀ p ∈ l, ∀ q ∈ l, fldKey p.1 c p.2 = fldKey q.1 d q.2 → c = d ∧ p = q) {rows : List Nat} {c : Nat}
    (row : c ∈ rows) {p : Fld × Nat} (hp : p ∈ l) : Committed s (s.commitRows l rows) p.1 c p.2 := by
  induction rows generalizing s with
  | nil => cases row
  | cons d rows ih =>
    by_cases same : c = d
    · subst same
      exact (committed_commitList s c l (fun a ha b hb eq => (apart c c a ha b hb eq).2) hp).commitRows l rows
    · have rest := ih (s.commitList d l) ((List.mem_cons.1 row).resolve_left same)
      obtain ⟨active, pending⟩ := s.commitList_other d l (g := p.1) (a := c) (b := p.2)
        fun q hq eq => same (apart c d p hp q hq eq).1
      rwa [Committed, Applied, active, pending] at rest

/-- The encoder fields of a class, each with its number. -/
def encPlaces : List (Fld × Nat) := encFlds.flatMap fun f => (List.range 63).map fun n => (f, n)

theorem mem_encPlaces (p : Fld × Nat) : p ∈ encPlaces ↔ p.1 ∈ encFlds ∧ p.2 < 63 := by
  simp only [encPlaces, List.mem_flatMap, List.mem_map, List.mem_range]
  exact ⟨fun ⟨f, hf, j, hj, h⟩ => h ▸ ⟨hf, hj⟩, fun h => ⟨p.1, h.1, p.2, h.2, rfl⟩⟩

/-- No two fields of the encoder table share a key. -/
theorem enc_keys_apart (c d : Nat) (p : Fld × Nat) (hp : p ∈ encPlaces) (q : Fld × Nat) (hq : q ∈ encPlaces)
    (same : fldKey p.1 c p.2 = fldKey q.1 d q.2) : c = d ∧ p = q := by
  obtain ⟨hf, hm⟩ := (mem_encPlaces p).1 hp
  obtain ⟨hg, hn⟩ := (mem_encPlaces q).1 hq
  have strides : ∀ f ∈ encFlds, f.base = 0x321000 ∧ f.s1 = 0x100 ∧ f.s2 = 4 ∧ f.lo < 64 := by decide
  have first : ∀ f ∈ encFlds, ∀ g ∈ encFlds, f.lo = g.lo → f = g := by decide
  obtain ⟨base, s1, s2, lo⟩ := strides _ hf
  obtain ⟨base', s1', s2', lo'⟩ := strides _ hg
  simp only [fldKey, fldAddr, base, s1, s2, base', s1', s2'] at same
  have field : p.1 = q.1 := first _ hf _ hg (by omega)
  exact ⟨by omega, Prod.ext field (by omega)⟩

theorem encCommit_eq (s : State) : s.encCommit = s.commitRows encPlaces (List.range 16) := by
  simp only [State.encCommit, State.commitRows, State.commitFlds_eq, encPlaces]

theorem duEncCommit_runs (s : State) : Runs .duEncCommit s (fun t => ∀ f ∈ encFlds, ∀ c n, c < 16 → n < 63 →
    (∀ v, smapFind s.shadow (fldKey f c n) = some v → t.fld f c n = v % 2 ^ f.w) ∧
    (smapFind s.shadow (fldKey f c n) = none → t.fld f c n = s.fld f c n) ∧ { t with regs := s.regs, shadow := s.shadow } = s) := by
  refine ⟨_, congrArg Host.Outcome.next (encCommit_eq s), fun f hf c n hc hn => ?_⟩
  obtain ⟨⟨taken, kept⟩, _⟩ := committed_commitRows s enc_keys_apart (List.mem_range.2 hc) ((mem_encPlaces (f, n)).2 ⟨hf, hn⟩)
  exact ⟨taken, kept, commitRows_frame s _ _⟩

/-! ## The end of a join pass (R135) -/

/-- A datagram is sealed where the counter neither has run out nor is at its last: it takes one number, and changes no other session. -/
theorem sealNext_counts {s : State} {i : Nat} (flags ack tick : Nat) (due : Option Nat) (recs : List Byte)
    (more : (s.ctx i).ctr + 1 < 2 ^ 31 - 1) :
    (s.sealNext i flags ack tick due recs).2.sess i = { s.sess i with ctx := { s.ctx i with ctr := (s.ctx i).ctr + 1 } } := by
  have key : (s.sesKey i (s.laneOfSes i) 0 due).2.sess i = s.sess i := (Stands.refl wholeView s).sesKey.whole i
  have counts : ¬ 2 ^ 31 - 1 ≤ (s.ctx i).ctr := by omega
  have goes : ¬ (s.ctx i).ctr + 1 = 2 ^ 31 - 1 := by omega
  unfold State.sealNext
  dsimp only
  rw [if_neg counts, if_neg goes, State.sess_occ, State.sess_occ, State.setCtx, State.sess_setSess_same, key]

/-- The pass of session `i`'s join stream `j` ends. -/
def State.passEnded (s : State) (i : Nat) (j : JoinSt) : State :=
  s.setSess i { s.sess i with join := some { j with ended := true, last := [] } }

theorem passEnded_sess (s : State) (i : Nat) (j : JoinSt) :
    (s.passEnded i j).sess i = { s.sess i with join := some { j with ended := true, last := [] } } := State.sess_setSess_same _ _ _

/-- The last datagram is sealed, and whether it is queued changes no session. -/
theorem joinPassEnd_sess {s : State} {i k : Nat} {j : JoinSt} (join : (s.sess i).join = some j) (pass : j.k0 = some k)
    (ends : ¬ (j.ended || !j.todo.isEmpty || (s.pt.egress.any fun p => p.ses == some i && p.q == 2) ||
      !s.laneRoom (s.laneOfSes i) (j.last.length + 32)) = true) :
    (s.joinPassEnd i).sess i = ((s.passEnded i j).sealNext i 10 0xFFFF k none j.last).2.sess i := by
  obtain ⟨_, k0, _, _, _, _⟩ := j
  obtain rfl : k0 = some k := pass
  unfold State.joinPassEnd
  dsimp only
  rw [join]
  dsimp only at ends ⊢
  rw [if_neg ends]
  split <;> rfl

theorem joinPassEnd_runs {s : State} {n : BitVec 18} {j : JoinSt} {k : Nat} (join : (s.sess n.toNat).join = some j) (pass : j.k0 = some k)
    (runs : j.ended = false) (left : ∀ p ∈ s.pt.egress, ¬ (p.ses = some n.toNat ∧ p.q = 2))
    (more : (s.ctx n.toNat).ctr + 1 < 2 ^ 31 - 1) (queued : j.todo = [])
    (room : s.laneRoom (s.laneOfSes n.toNat) (j.last.length + 32) = true) :
    Runs (.joinPassEnd n) s fun t => (t.sess n.toNat).join = some { j with ended := true, last := [] } ∧
      (t.ctx n.toNat).ctr = (s.ctx n.toNat).ctr + 1 := by
  have gone : (s.pt.egress.any fun p => p.ses == some n.toNat && p.q == 2) = false := by
    simpa [List.any_eq_false] using left
  have ends : ¬ (j.ended || !j.todo.isEmpty || (s.pt.egress.any fun p => p.ses == some n.toNat && p.q == 2) ||
      !s.laneRoom (s.laneOfSes n.toNat) (j.last.length + 32)) = true := by
    simp [runs, queued, gone, room]
  have counted := sealNext_counts (s := s.passEnded n.toNat j) 10 0xFFFF k none j.last (by rw [State.ctx, passEnded_sess]; exact more)
  rw [← joinPassEnd_sess join pass ends, State.ctx, passEnded_sess] at counted
  exact ⟨_, rfl, congrArg Ses.join counted, congrArg (fun x : Ses => x.ctx.ctr) counted⟩

/-- Settles O29: each command by the branch its hypotheses choose; the encoder table by induction on its rows. -/
theorem deltaUnits : Obligations.DeltaUnits := by
  unfold Obligations.DeltaUnits
  exact fun s => ⟨fun _ _ calm near => duPanicRaise_runs calm near, fun _ _ panics far => duPanicDrop_runs panics far,
    fun _ _ found long => duBuildOverrun_runs found long, duEncCommit_runs s,
    fun _ _ _ join pass runs left more queued room => joinPassEnd_runs join pass runs left more queued room⟩

end Sys2Proof.Machine
end

section
/-!
PROOFS. What a register that holds more than its field does to a lane that is enabled (O30).
-/

namespace Sys2Proof.Machine

set_option Elab.async false

/-- The class of the counter of granules read that stands at the address of LN_CTRL of lane 0, seen from channel 0. -/
def laneWordClass : Nat := (F.LN_CTRL_enable.base - F.RG_CNT_RD_granules.base) / 0x10

theorem laneWordClass_key : fldKey F.RG_CNT_RD_granules 0 laneWordClass = fldKey F.LN_CTRL_enable 0 0 := by decide

/-- Lane 0 is powered and disabled, and its port and another of the group distribute; session 0 is LIVE at lane 0's port. The title's
event ring is enabled, at address 0 of channel 0, which carries traffic. The one range, of the ring's first 4 KiB, has the class of
`laneWordClass`, in a field of 3 bits. -/
def strayLane : State :=
  { State.reset with
    regs := [
      (fldKey F.PWR_DOM_powered 34 0, 1),
      (fldKey F.PWR_DOM_powered 68 0, 1),
      (fldKey F.RG_RANGE_ATTR_class 0 0, laneWordClass),
      (fldKey F.RG_RANGE_ATTR_valid 0 0, 1),
      (fldKey F.PT_PORT_STATUS_dist 0 0, 1),
      (fldKey F.PT_PORT_STATUS_dist 1 0, 1),
      (fldKey F.PT_PORT_GRP_group 1 0, 0),
      (fldKey F.ST_EVT_SIZE_enable 0 0, 1),
      (fldKey F.CH_ID_state 0 0, 2)]
    ses := [(0, { ctx := { st := .live } })] }

theorem strayLane_runs : exec (.laneEnable 0 true) strayLane = .next (strayLane.laneEnable 0 true) := rfl

/-- As the lane begins to train its port goes down and the session moves to the other. The event that tells so is part of a granule, whose
read is counted: LN_CTRL.enable goes from 1 to 2. -/
theorem strayLane_enable : (strayLane.laneEnable 0 true).fld F.LN_CTRL_enable 0 0 = 2 := by decide +kernel

/-- Refutes O30: a lane is enabled, and the granule read for the event of a session that moves counts on its control register. The statement
is of every state, and so of one no run reaches: `State.setFld` keeps a field's width, and a class of 3 bits leads to no counter at that
address. -/
theorem not_laneControl : ¬ Obligations.LaneControl := by
  unfold Obligations.LaneControl
  rintro ⟨control, _⟩
  obtain ⟨_, _, enabling, _⟩ := control 0 0 strayLane rfl (by decide)
  obtain ⟨enables, _⟩ := enabling (by decide)
  obtain ⟨t, eq, enabled, _⟩ := enables (by decide) (by decide)
  rw [strayLane_runs] at eq
  rw [← Host.Outcome.next.inj eq] at enabled
  exact absurd (strayLane_enable.symm.trans enabled) (by decide)

end Sys2Proof.Machine
end

section
/-!
PROOFS. Lanes and ports that go down, and what that does to sessions: nothing comes up, and no event is lost (O31, O32).
-/

namespace Sys2Proof.Machine

set_option Elab.async false

/-! ## Reads of memory lose no event -/

namespace Records

variable {s t : State}

theorem queueGran (h : Records s t) {c g q : Nat} : Records s (t.queueGran c g q).2 := by
  unfold State.queueGran
  dsimp only
  split
  · exact h
  · split
    · exact h
    · exact h.decode

theorem readOcc (h : Records s t) {o : Occ} {out : GOut} : Records s (t.readOcc o out) := by
  cases out with
  | clean => exact h.occ
  | corrected => exact h.occ.occ
  | poisoned => exact h
  | uncorrectable => exact h

theorem readGran (h : Records s t) {c g m k wa : Nat} : Records s (t.readGran c g m k wa).2 := by
  have counted : Records s (t.countRd c k) := h.addFld
  unfold State.readGran
  dsimp only
  split
  · exact counted.queueGran.demand.readOcc
  · exact counted.openFor.decode.demand.readOcc

theorem worldRead (h : Records s t) {wa m : Nat} {k : Option Nat} : Records s (t.worldRead wa m k).2 := by
  unfold State.worldRead
  split
  · exact h.deny
  · split
    · exact h.deny
    · split
      · exact h.rouse.directLate.meshDirect.readGran
      · exact h

theorem readPieces (h : Records s t) {f wa n m : Nat} {k : Option Nat} {l : List Byte} {o : Option GOut} :
    Records s (readPieces f t wa n m k l o).2.2 := by
  induction f generalizing t wa n l o with
  | zero => exact h
  | succ f ih =>
    have read : Records s (t.worldRead wa m k).2 := h.worldRead
    unfold Machine.readPieces
    split
    · exact h
    · dsimp only
      split
      · next eq => rwa [eq] at read
      · next eq => exact ih (by rwa [eq] at read)

theorem worldGet (h : Records s t) {wa n m : Nat} {k : Option Nat} : Records s (t.worldGet wa n m k).2.2 := h.readPieces

end Records

/-! ## Places that tell what is up -/

/-- Bit 4 of a register of the lanes or of the ports: there stand `LN_STATUS.up` (R167) and `PT_PORT_STATUS.dist` (R174). -/
def upKey (k : Nat) : Bool := k % 16 == 4 && k < 0x3000000

/-- Wherever the field stands, it is at no such place. -/
def Fld.aside (f : Fld) : Bool := f.lo % 16 != 4 || 0x300000 ≤ f.base

theorem Fld.aside_key {f : Fld} (h : f.aside = true) (i j : Nat) : upKey (fldKey f i j) = false := by
  simp only [Fld.aside, Bool.or_eq_true, bne_iff_ne, decide_eq_true_eq] at h
  obtain place | high := h
  · have other : fldKey f i j % 16 ≠ 4 := by unfold fldKey; omega
    simp [upKey, other]
  · have above : 0x3000000 ≤ fldKey f i j := by unfold fldKey fldAddr; omega
    simp [upKey, above]

/-- From `s` to `t` no lane has come up, no port has begun to distribute, and no clock has gone or come. -/
structure NoneUp (s t : State) : Prop where
  down : ∀ k, upKey k = true → smapGet 0 s.regs k = 0 → smapGet 0 t.regs k = 0
  clocks : t.clkLost = s.clkLost

theorem NoneUp.setFld {s t : State} (h : NoneUp s t) {f : Fld} {i j v : Nat} (aside : f.aside = true) : NoneUp s (t.setFld f i j v) where
  down k up zero := by
    have other : k ≠ fldKey f i j := by
      rintro rfl
      rw [Fld.aside_key aside] at up
      cases up
    exact (smapGet_put_ne _ 0 t.regs _ other).trans (h.down k up zero)
  clocks := h.clocks

theorem NoneUp.stable (s : State) : Stable (NoneUp s) where
  write own h := by
    have all : ∀ f ∈ accessFlds, f.aside = true := by decide
    exact h.setFld (all _ own)
  same h regs core := ⟨fun k up zero => regs ▸ h.down k up zero, (congrArg State.clkLost core :).trans h.clocks⟩

/-- The lane has counted, and neither its checker nor its link is up. -/
def State.linkGone (s : State) (l : Nat) : State :=
  ((s.laneNow l).setFld F.LN_PAT_STATUS_lock l 0 0).setFld F.LN_STATUS_up l 0 0

/-- From `s` to `t` lanes and ports have gone down, at most, with what that brings: none has come up, and each event that was on its way
to the fault collector is so still. -/
structure Falls (s t : State) : Prop extends NoneUp s t where
  told : ∀ g n, Raised s g n → Raised t g n

namespace Falls

variable {s t u : State}

theorem refl (s : State) : Falls s s := ⟨⟨fun _ _ zero => zero, rfl⟩, fun _ _ h => h⟩

theorem trans (h : Falls s t) (g : Falls t u) : Falls s u :=
  ⟨⟨fun k up zero => g.down k up (h.down k up zero), g.clocks.trans h.clocks⟩, fun n x hr => g.told n x (h.told n x hr)⟩

/-- A field that is 0, where a lane or a port that is up has 1, is 0 still. -/
theorem fld (h : Falls s t) {f : Fld} {i j : Nat} (zero : s.fld f i j = 0) (rst : rstVal f i j = 0 := by rfl)
    (up : upKey (fldKey f i j) = true := by decide) : t.fld f i j = 0 := by
  unfold State.fld at zero ⊢
  rw [rst] at zero ⊢
  exact h.down _ up zero

/-- Neither a register nor an event nor a clock has been written. -/
theorem of_eq (h : Falls s t) (regs : u.regs = t.regs := by rfl) (faults : u.faults = t.faults := by rfl)
    (clocks : u.clkLost = t.clkLost := by rfl) : Falls s u where
  down k up zero := regs ▸ h.down k up zero
  clocks := clocks.trans h.clocks
  told g n hr := by
    obtain ⟨v, hv, ids⟩ := h.told g n hr
    exact ⟨v, faults ▸ hv, ids⟩

theorem ite {c : Prop} [Decidable c] (h : Falls s t) (g : Falls s u) : Falls s (if c then t else u) := Stable.ite h g

theorem foldl {α : Type} {f : State → α → State} (step : ∀ u a, Falls s u → Falls s (f u a)) (l : List α) (h : Falls s t) :
    Falls s (l.foldl f t) := Stable.foldl step l h

/-! ### Plain updates -/

theorem setFld (h : Falls s t) {f : Fld} {i j v : Nat} (aside : f.aside = true := by decide) : Falls s (t.setFld f i j v) :=
  ⟨h.toNoneUp.setFld aside, h.told⟩

theorem addFld (h : Falls s t) {f : Fld} {i j v : Nat} (aside : f.aside = true := by decide) : Falls s (t.addFld f i j v) := h.setFld aside

/-- A field goes to 0, at whatever place. -/
theorem clear (h : Falls s t) {f : Fld} {i j : Nat} : Falls s (t.setFld f i j 0) where
  down k up zero := by
    by_cases same : k = fldKey f i j
    · subst same
      have erased := smapFind_erase_same t.regs (fldKey f i j)
      have written := smapFind_insert_same t.regs (fldKey f i j) 0
      by_cases own : 0 = rstVal f i j
      · simp [State.setFld, smapGet, smapPut, own.symm, erased]
      · simp [State.setFld, smapGet, smapPut, own, written]
    · exact (smapGet_put_ne _ 0 t.regs _ same).trans (h.down k up zero)
  clocks := h.clocks
  told := h.told

theorem raise (h : Falls s t) {v : FaultEv} : Falls s (t.raise v) :=
  ⟨(NoneUp.stable s).raise h.toNoneUp, fun g n hr => (h.told g n hr).raise v⟩

theorem occ (h : Falls s t) {o : Occ} : Falls s (t.occ o) :=
  ⟨(NoneUp.stable s).occ h.toNoneUp, fun g n hr => ((Records.refl t).occ).raised (h.told g n hr)⟩

theorem worldGet (h : Falls s t) {wa n m : Nat} {k : Option Nat} : Falls s (t.worldGet wa n m k).2.2 :=
  ⟨(NoneUp.stable s).worldGet h.toNoneUp, fun g x hr => (Records.refl t).worldGet.raised (h.told g x hr)⟩

theorem worldWrite (h : Falls s t) {wa m : Nat} {k : Option Nat} {x : SMap Byte} : Falls s (t.worldWrite wa m k x).2 :=
  ⟨(NoneUp.stable s).worldWrite h.toNoneUp, fun g n hr => (Records.refl t).worldWrite.raised (h.told g n hr)⟩

theorem lateSpan (h : Falls s t) {wa n due : Nat} : Falls s (t.lateSpan wa n due) := by
  refine ite h (foldl (fun u k hu => ?_) _ h)
  split
  · exact hu
  · split
    · exact ite hu.addFld hu
    · exact hu

/-! ### Records and operations that end -/

theorem ringRecord (h : Falls s t) {w : Bool} {x : List Byte} : Falls s (t.ringRecord w x) := by
  unfold State.ringRecord
  split
  · exact h.of_eq
  · next q _ =>
    have written : Falls s (({ t with pm := { t.pm with lone := none } }).ringWrite q x) := setFld (worldWrite h.of_eq)
    exact ite written.setFld written

theorem loseRecord (h : Falls s t) : Falls s t.loseRecord := addFld h.of_eq

theorem enterRecord (h : Falls s t) {x : Sample} {c : Nat} : Falls s (t.enterRecord x c) := by
  unfold State.enterRecord
  dsimp only
  split
  · exact ite h.of_eq h.loseRecord
  · split
    · exact h
    · refine ite h.loseRecord (ite (ringRecord h.of_eq) (ite ?_ (ite h.of_eq h)))
      exact ite (setFld (setFld h.of_eq)) (setFld h.of_eq)

theorem finishSample (h : Falls s t) {id c : Nat} : Falls s (t.finishSample id c) := foldl (fun _ _ hu => hu.enterRecord) _ h.of_eq

theorem setStrand (h : Falls s t) {e k : Nat} {x : Strand} : Falls s (t.setStrand e k x) := h.of_eq
theorem setEng (h : Falls s t) {e : Nat} {x : Eng} : Falls s (t.setEng e x) := h.of_eq
theorem setEntry (h : Falls s t) {i : Nat} {x : Word64} : Falls s (t.setEntry i x) := h.of_eq
theorem tearLock (h : Falls s t) {i : Nat} : Falls s (t.tearLock i) := h.setEntry
theorem setSess (h : Falls s t) {i : Nat} {x : Ses} : Falls s (t.setSess i x) := h.of_eq
theorem setPt (h : Falls s t) {x : Pt} : Falls s { t with pt := x } := h.of_eq
theorem setSt (h : Falls s t) {x : St} : Falls s { t with st := x } := h.of_eq

theorem loseSlot (h : Falls s t) {e k i : Nat} : Falls s (t.loseSlot e k i) := by
  unfold State.loseSlot
  split
  · exact h.of_eq
  · exact h.of_eq

theorem reclaim (h : Falls s t) {e k : Nat} : Falls s (t.reclaim e k) := by
  have torn : Falls s ((t.strand e k).locks.foldl (fun s i => s.tearLock i) t) := foldl (fun _ _ hu => hu.tearLock) _ h
  have lost : Falls s ((t.strand e k).slots.foldl (fun s i => s.loseSlot e k i) _) := foldl (fun _ _ hu => hu.loseSlot) _ torn
  exact lost.setEng.setStrand

theorem drainedOff (h : Falls s t) {e k : Nat} : Falls s (t.drainedOff e k) := by
  have noted : Falls s ((t.reclaim e k).noteDone (skey e k)) := ite h.reclaim.of_eq h.reclaim
  exact ite (ite noted.setStrand noted) h

theorem endOp (h : Falls s t) {o : Op} : Falls s (t.endOp o) := by
  have left : Falls s ((t.meshOcc true o).dropOp o.id) := of_eq (t := t.meshOcc true o) (foldl (fun _ _ hu => hu.occ) _ h)
  have counted : Falls s (((t.meshOcc true o).dropOp o.id).countAcked o) := by
    unfold State.countAcked
    split
    · exact left
    · exact left.of_eq
  exact drainedOff (foldl (fun _ _ hu => ite hu.setStrand hu) _ counted.setStrand)

theorem endSends (h : Falls s t) {i n : Nat} : Falls s (t.endSends i n) :=
  foldl (fun _ _ hu => setStrand (ite hu.endOp hu.endOp.setStrand.finishSample)) _ h

/-! ### Sessions -/

theorem sesKey (h : Falls s t) {i l k : Nat} {due : Option Nat} : Falls s (t.sesKey i l k due).2 := by
  unfold State.sesKey
  extract_lets cut s1 r
  split
  · exact h
  · have late : Falls s s1 := by
      cases due with
      | none => exact h
      | some d => exact h.lateSpan
    have read : Falls s r.2.2 := late.worldGet
    split
    · split
      · exact read.of_eq
      · exact read.raise
    · exact read.raise

theorem stEvent (h : Falls s t) {k r i : Nat} : Falls s (t.stEvent k r i) := ite h.setSt.worldWrite.setSt h.setSt.setSt

theorem sendClose (h : Falls s t) {d : CloseDue} : Falls s (t.sendClose d) := by
  have counted {c : Ctx} : Falls s ((t.sesKey d.ses (t.laneOfSes d.ses) 0 none).2.setCtx d.ses c) := h.sesKey.setSess
  unfold State.sendClose
  dsimp only
  split
  · exact counted.occ
  · exact counted.occ.setPt

theorem queueClose (h : Falls s t) {i : Nat} : Falls s (t.queueClose i) := ite h.sendClose h.setSt

theorem closeSession (h : Falls s t) {i r : Nat} : Falls s (t.closeSession i r) :=
  ite h h.setSess.setSt.setPt.endSends.stEvent.queueClose

theorem sealNext (h : Falls s t) {i f a k : Nat} {due : Option Nat} {x : List Byte} : Falls s (t.sealNext i f a k due x).2 := by
  have taken {c : Ctx} {o p : Occ} : Falls s ((((t.sesKey i (t.laneOfSes i) 0 due).2.setCtx i c).occ o).occ p) := h.sesKey.setSess.occ.occ
  unfold State.sealNext
  dsimp only
  split
  · exact h.closeSession
  · exact ite taken.closeSession taken

theorem joinFillFrom (h : Falls s t) {i k : Nat} {l : List (List Byte)} : Falls s (joinFillFrom i k l t) := by
  induction l generalizing t with
  | nil =>
    unfold Machine.joinFillFrom
    split
    · exact h.setSess
    · exact h
  | cons d l ih =>
    unfold Machine.joinFillFrom
    split
    · exact h
    · refine ite h.setSess (ih ?_)
      split
      · exact h.sealNext
      · exact h.sealNext.setPt

theorem joinFill (h : Falls s t) {i : Nat} : Falls s (t.joinFill i) := by
  unfold State.joinFill
  split
  · exact h.joinFillFrom
  · exact h

theorem snapFillFrom (h : Falls s t) {l : List (Nat × List Byte)} : Falls s (snapFillFrom l t) := by
  induction l generalizing t with
  | nil => exact h.of_eq
  | cons d l ih => exact ite h.of_eq (ih h.of_eq)

theorem refill (h : Falls s t) : Falls s t.refill := by
  have closed : Falls s t.snapFill.closeFill := foldl (fun _ _ hu => ite hu.setSt.sendClose hu) _ h.snapFillFrom
  exact foldl (fun _ _ hu => hu.joinFill) _ closed

/-! ### Ports -/

theorem rebindPort (h : Falls s t) {p : Nat} : Falls s (t.rebindPort p) := by
  have dropped : Falls s (t.dropQueued p) := refill (foldl (fun _ _ hu => hu.addFld.occ) _ h.setPt)
  exact ite dropped (foldl (fun _ _ hu => ite hu.setSess.stEvent hu) _ dropped)

theorem portLeave (h : Falls s t) {p r : Nat} : Falls s (t.portLeave p r) := ite (rebindPort (setFld h.clear.clear)) h

/-! ### Lanes -/

theorem useFree (h : Falls s t) : Falls s t.useFree := h.of_eq

theorem freeAdd (h : Falls s t) {f : Fld} {l : Nat} (aside : f.aside = true := by decide) : Falls s (t.freeAdd f l) :=
  h.useFree.addFld aside

theorem lineCounts (h : Falls s t) {l : Nat} : Falls s (t.lineCounts l) := by
  have counted : Falls s (((t.freeAdd F.LN_RM_inserted l).freeAdd F.LN_RM_deleted l).freeAdd F.LN_FEC_UNCORR_count l) :=
    h.freeAdd.freeAdd.freeAdd
  exact ite h counted.useFree.addFld.useFree.addFld

theorem patCounts (h : Falls s t) {l : Nat} : Falls s (t.patCounts l) := ite h h.useFree.addFld.addFld.setPt

/-- What follows when a lane's link has gone. -/
theorem of_linkGone {l train reason : Nat} : Falls (s.linkGone l) (s.laneIdle l train reason) := by
  have shown : Falls (s.linkGone l) (((((s.linkGone l).setFld F.LN_STATUS_am_lock l 0 0).setFld F.LN_STATUS_cdr_lock l 0 0).setFld
      F.LN_STATUS_signal l 0 0).setFld F.LN_STATUS_train l 0 train) := (refl _).clear.clear.clear.setFld
  exact ite shown.clear.clear.portLeave shown.clear

theorem laneIdle (h : Falls s t) {l train reason : Nat} : Falls s (t.laneIdle l train reason) :=
  h.lineCounts.patCounts.clear.clear.trans of_linkGone

theorem startTraining (h : Falls s t) {l reason : Nat} : Falls s (t.startTraining l reason) := h.laneIdle.setPt

theorem laneDown (h : Falls s t) {l : Nat} : Falls s (t.laneDown l) := ite h.startTraining.addFld.raise h

theorem lnmDown (h : Falls s t) : Falls s t.lnmDown := ite h.startTraining.addFld.raise h

/-- An event stays one of its group and source whatever its time. -/
theorem linkLater (h : Falls s t) : Falls s t.linkLater where
  down := h.down
  clocks := h.clocks
  told g n hr := by
    obtain ⟨v, hv, group, src⟩ := h.told g n hr
    refine ⟨_, List.mem_map_of_mem hv, ?_⟩
    split <;> exact ⟨group, src⟩

end Falls

/-! ## What is down -/

theorem upKey_lane {l : Nat} (real : l < 9) : upKey (fldKey F.LN_STATUS_up l 0) = true := by
  simp [upKey, fldKey, fldAddr, F.LN_STATUS_up]
  omega

theorem upKey_port {p : Nat} (real : p < 8) : upKey (fldKey F.PT_PORT_STATUS_dist p 0) = true := by
  simp [upKey, fldKey, fldAddr, F.PT_PORT_STATUS_dist]
  omega

theorem laneIdle_down (s : State) {l : Nat} (real : l < 9) (train reason : Nat) :
    (s.laneIdle l train reason).fld F.LN_STATUS_up l 0 = 0 :=
  Falls.of_linkGone.fld (State.fld_setFld_same _ F.LN_STATUS_up l 0 0) rfl (upKey_lane real)

theorem laneDown_down (s : State) {l : Nat} (real : l < 9) : (s.laneDown l).fld F.LN_STATUS_up l 0 = 0 := by
  unfold State.laneDown
  split
  · exact (Falls.refl _).setPt.addFld.raise.fld (laneIdle_down s real _ 1) rfl (upKey_lane real)
  · next already => simpa [State.fldB] using already

theorem lnmDown_down (s : State) : s.lnmDown.fld F.LN_STATUS_up 8 0 = 0 := by
  unfold State.lnmDown
  split
  · exact (Falls.refl _).setPt.addFld.raise.fld (laneIdle_down s (by decide) _ 1)
  · next already => simpa [State.fldB] using already

/-- Lanes that go down one after the other are down at the end. -/
theorem lanesDown_down (s : State) {ls : List Nat} (real : ∀ l ∈ ls, l < 9) :
    ∀ l ∈ ls, (ls.foldl (fun s l => s.laneDown l) s).fld F.LN_STATUS_up l 0 = 0 := by
  induction ls generalizing s with
  | nil => exact fun _ absent => absurd absent List.not_mem_nil
  | cons a ls ih =>
    obtain ⟨first, rest⟩ := List.forall_mem_cons.1 real
    refine List.forall_mem_cons.2 ⟨?_, ih _ rest⟩
    have others : Falls (s.laneDown a) (ls.foldl (fun s l => s.laneDown l) (s.laneDown a)) :=
      Falls.foldl (fun _ _ hu => hu.laneDown) ls (Falls.refl _)
    exact others.fld (laneDown_down s first) rfl (upKey_lane first)

/-- A port that leaves distribution, or was out of it, is out of it. -/
theorem portLeave_out (s : State) {p : Nat} (real : p < 8) (reason : Nat) : (s.portLeave p reason).fld F.PT_PORT_STATUS_dist p 0 = 0 := by
  unfold State.portLeave
  split
  · exact (Falls.refl _).clear.setFld.rebindPort.fld (State.fld_setFld_same s F.PT_PORT_STATUS_dist p 0 0) rfl (upKey_port real)
  · next already => simpa [State.fldB] using already

end Sys2Proof.Machine
end

section
/-!
PROOFS. The timebase: its rate, steps, slews, pulses and clocks, and its cycle (O32).
-/

namespace Sys2Proof.Machine

set_option Elab.async false

/-! ## Rate, steps, slews (R181) -/

theorem tbIncrWrite_runs (s : State) (v : Word32) : Runs (.tbIncrWrite v) s fun t =>
    t.fld F.TB_INCR_incr 0 0 = max 3432537863 (min 3439409811 v.toNat) ∧ OnlyRegs s t [fldKey F.TB_INCR_incr 0 0] := by
  refine ⟨_, rfl, ?_, onlyRegs_setFld _ _ _ _ _⟩
  rw [State.fld_setFld_same]
  have bounds := clampNat_bounds (lo := 3432537863) (hi := 3439409811) (by decide) v.toNat
  exact Nat.mod_eq_of_lt (show _ < 4294967296 by omega)

/-- A step that is refused leaves the count, and tells so. -/
theorem tbStep_negative {s : State} {v : Word64} (serve : s.mode = 3) (back : v.toInt < 0) :
    Runs (.tbStep v) s fun t => t.fld F.TB_STATUS_step_refused 0 0 = 1 ∧ Raised t 43 0 ∧ t.tb = s.tb := by
  refine ⟨_, congrArg Host.Outcome.next (if_pos ⟨serve, back⟩), ?_, State.raised_raise _ _, ?_⟩
  · rw [State.fld_raise]; exact State.fld_setFld_same _ _ _ _ _
  · exact (congrArg State.tb (State.raise_frame _ _) :)

theorem tbStep_outside {s : State} {v : Word64} (legal : s.mode ≠ 3 ∨ 0 ≤ v.toInt)
    (outside : (s.tb : Int) + v.toInt < 0 ∨ 2 ^ 64 ≤ (s.tb : Int) + v.toInt) :
    Runs (.tbStep v) s fun t => t.fld F.TB_STATUS_step_refused 0 0 = 1 ∧ t.tb = s.tb := by
  have goes : ¬ (s.mode = 3 ∧ v.toInt < 0) := by rintro ⟨serve, back⟩; omega
  exact ⟨_, congrArg Host.Outcome.next ((if_neg goes).trans (if_pos outside)), State.fld_setFld_same _ _ _ _ _, rfl⟩

theorem tbStep_inside {s : State} {v : Word64} (legal : s.mode ≠ 3 ∨ 0 ≤ v.toInt) (above : 0 ≤ (s.tb : Int) + v.toInt)
    (below : (s.tb : Int) + v.toInt < 2 ^ 64) : Runs (.tbStep v) s fun t =>
      (t.tb : Int) = s.tb + v.toInt ∧ { t with tb := s.tb, fc := { t.fc with tbBack := s.fc.tbBack } } = s := by
  have goes : ¬ (s.mode = 3 ∧ v.toInt < 0) := by rintro ⟨serve, back⟩; omega
  have inside : ¬ ((s.tb : Int) + v.toInt < 0 ∨ 2 ^ 64 ≤ (s.tb : Int) + v.toInt) := by omega
  exact ⟨_, congrArg Host.Outcome.next ((if_neg goes).trans (if_neg inside)), Int.toNat_of_nonneg above, rfl⟩

/-- A remainder that 32 bits of two's complement hold is read as it was written. -/
theorem slewLeft_setSlew (s : State) {x : Int} (above : -2 ^ 31 ≤ x) (below : x < 2 ^ 31) : (s.setSlew x).slewLeft = x := by
  have held : (s.setSlew x).fld F.TB_SLEW_LEFT_ns 0 0 = (x % 4294967296).toNat % 4294967296 := State.fld_setFld_same _ _ _ _ _
  unfold State.slewLeft toSigned
  rw [held]
  split <;> omega

theorem slewLeft_setStatus (s : State) (v : Nat) : (s.setFld F.TB_STATUS_slewing 0 0 v).slewLeft = s.slewLeft := by
  rw [State.slewLeft, State.fld_setFld_ne _ _ _ _ _ _ _ _ (by decide), State.slewLeft]

theorem tbSlew_runs (s : State) (v : Word32) : Runs (.tbSlew v) s fun t =>
    t.slewLeft = max (-1000000000) (min 1000000000 (s.slewLeft + max (-1000000000) (min 1000000000 v.toInt))) ∧
    (t.slewLeft ≠ 0 → t.fld F.TB_STATUS_slewing 0 0 = 1) ∧ t.tb = s.tb := by
  have left : (s.tbSlew v).slewLeft =
      max (-1000000000) (min 1000000000 (s.slewLeft + max (-1000000000) (min 1000000000 v.toInt))) := by
    unfold State.tbSlew
    dsimp only
    rw [slewLeft_setStatus]
    exact slewLeft_setSlew s (by omega) (by omega)
  refine ⟨_, rfl, left, fun more => ?_, rfl⟩
  rw [left] at more
  unfold State.tbSlew
  rw [State.fld_setFld_same, if_neg more]
  rfl

theorem tbSlewComplete_runs {s : State} (ended : s.slewLeft = 0) :
    Runs .tbSlewComplete s fun t => t.fld F.TB_STATUS_slewing 0 0 = 0 ∧ t.slewLeft = 0 ∧ t.tb = s.tb :=
  ⟨_, congrArg Host.Outcome.next (if_pos ended), State.fld_setFld_same _ _ _ _ _, (slewLeft_setStatus _ _).trans ended, rfl⟩

/-! ## Pulses (R185) -/

theorem ppsOut_runs {s : State} (on : s.fld F.TB_PPS_out_en 0 0 ≠ 0) (second : s.tb % 1000000000 = 0) (powered : s.pwr.tripped = false) :
    Runs .ppsOut s fun t => t.ppsHigh = s.tb + max 1 (min 900 (s.fld F.TB_PPS_width_ms 0 0)) * 1000000 ∧
      { t with ppsHigh := s.ppsHigh } = s := by
  have pulses : (s.fldB F.TB_PPS_out_en 0 0 && s.tb % 1000000000 == 0 && !s.pwr.tripped) = true := by simp [State.fldB, on, second, powered]
  exact ⟨_, congrArg Host.Outcome.next (if_pos pulses), rfl, rfl⟩

theorem ppsIn_runs {s : State} (apart : ∀ u, s.ppsLast = some u → u + 500000000 ≤ s.tb) : Runs .ppsIn s fun t =>
    t.ppsLast = some s.tb ∧ t.fld F.TB_PPS_IN_ns 0 0 = s.tb % 2 ^ 64 ∧ t.fld F.TB_STATUS_pps_in 0 0 = 1 := by
  have captures : s.ppsEdge =
      ({ s with ppsLast := some s.tb }.setFld F.TB_PPS_IN_ns 0 0 s.tb).setFld F.TB_STATUS_pps_in 0 0 1 := by
    unfold State.ppsEdge
    cases last : s.ppsLast with
    | none => rfl
    | some u => simp [apart u last]
  refine ⟨_, congrArg Host.Outcome.next captures, rfl, ?_, State.fld_setFld_same _ _ _ _ _⟩
  rw [State.fld_setFld_ne _ _ _ _ _ _ _ _ (by decide)]
  exact State.fld_setFld_same _ _ _ _ _

/-! ## Reference clocks (R183) -/

/-- What the loss of a clock brings: the backup oscillator, or the event and the lanes the clock feeds. -/
def State.clockFails (s : State) : Refclk → State
  | .tb => s.onBackup
  | .a => ((List.range 4).foldl (fun s l => s.laneDown l) (s.raise { group := 57, src := 1 })).linkLater
  | .b => ((List.range' 4 4).foldl (fun s l => s.laneDown l) (s.raise { group := 57, src := 2 })).linkLater
  | .m => ((s.raise { group := 57, src := 3 }).lnmDown).linkLater

/-- A clock that the part has, and that had not gone, is lost. -/
theorem clkLoss_first {s : State} {c : Refclk} (running : s.clkLost.contains (clkCode c) = false) (out : s.inReset = false)
    (has : c = .b → s.part ≠ .tkw3209) : s.clkLoss c = ({ s with clkLost := s.clkLost ++ [clkCode c] }).clockFails c := by
  have effective : ¬ ((c = .b ∧ s.part = .tkw3209) ∨ (c = .tb ∧ s.clkLost.contains 0 = true)) := by
    rintro (⟨rfl, part⟩ | ⟨rfl, gone⟩)
    · exact has rfl part
    · exact Bool.false_ne_true (running.symm.trans gone)
  unfold State.clkLoss
  rw [if_neg effective]
  simp only [running, out, Bool.false_eq_true, if_false]
  cases c <;> rfl

/-- After its event, the loss of a clock brings lanes down. -/
theorem clockFails_falls (s : State) {c : Refclk} (lanes : c ≠ .tb) :
    Falls (s.raise { group := 57, src := clkCode c }) (s.clockFails c) := by
  cases c with
  | tb => exact absurd rfl lanes
  | a => exact (Falls.foldl (fun _ _ hu => hu.laneDown) _ (Falls.refl _)).linkLater
  | b => exact (Falls.foldl (fun _ _ hu => hu.laneDown) _ (Falls.refl _)).linkLater
  | m => exact (Falls.refl _).lnmDown.linkLater

theorem clockFails_told (s : State) (c : Refclk) : Raised (s.clockFails c) 57 (clkCode c) ∧ (s.clockFails c).clkLost = s.clkLost := by
  by_cases timebase : c = .tb
  · subst timebase
    exact ⟨State.raised_raise _ _, (congrArg State.clkLost (State.raise_frame _ _) :)⟩
  · have falls := clockFails_falls s timebase
    exact ⟨falls.told _ _ (State.raised_raise _ _), falls.clocks.trans (congrArg State.clkLost (State.raise_frame s _) :)⟩

theorem onBackup_status (s : State) : s.onBackup.fld F.TB_STATUS_backup 0 0 = 1 := by
  unfold State.onBackup
  rw [State.fld_raise, State.fld_setFld_ne _ _ _ _ _ _ _ _ (by decide), State.fld_setFld_same]
  rfl

@[simp] theorem fld_linkLater (s : State) (f : Fld) (i j : Nat) : s.linkLater.fld f i j = s.fld f i j := rfl

theorem clockFails_lanesA (s : State) {l : Nat} (fed : l < 4) : (s.clockFails .a).fld F.LN_STATUS_up l 0 = 0 := by
  rw [State.clockFails, fld_linkLater]
  exact lanesDown_down _ (by decide) l (List.mem_range.2 fed)

theorem clockFails_lanesB (s : State) {l : Nat} (fed : 4 ≤ l) (last : l < 8) : (s.clockFails .b).fld F.LN_STATUS_up l 0 = 0 := by
  rw [State.clockFails, fld_linkLater]
  exact lanesDown_down _ (by decide) l (List.mem_range'_1.2 ⟨fed, last⟩)

theorem refclkLoss_runs {s : State} {c : Refclk} (running : s.clkLost.contains (clkCode c) = false) (out : s.inReset = false)
    (has : c = .b → s.part ≠ .tkw3209) : Runs (.refclkLoss c) s fun t => Raised t 57 (clkCode c) ∧
      clkCode c ∈ t.clkLost ∧ (c = .tb → t.fld F.TB_STATUS_backup 0 0 = 1) ∧
      (c = .a → ∀ l, l < 4 → t.fld F.LN_STATUS_up l 0 = 0) ∧
      (c = .b → ∀ l, 4 ≤ l → l < 8 → t.fld F.LN_STATUS_up l 0 = 0) ∧
      (c = .m → t.fld F.LN_STATUS_up 8 0 = 0) := by
  obtain ⟨told, clocks⟩ := clockFails_told { s with clkLost := s.clkLost ++ [clkCode c] } c
  refine ⟨_, congrArg Host.Outcome.next (clkLoss_first running out has), told, clocks ▸ List.mem_append_right _ List.mem_cons_self,
    ?_, ?_, ?_, ?_⟩
  · rintro rfl
    exact onBackup_status _
  · rintro rfl l fed
    exact clockFails_lanesA _ fed
  · rintro rfl l fed last
    exact clockFails_lanesB _ fed last
  · rintro rfl
    exact lnmDown_down _

theorem refclkLoss_absent {s : State} (part : s.part = .tkw3209) : Runs (.refclkLoss .b) s fun t => t = s :=
  ⟨s, congrArg Host.Outcome.next (if_pos (.inl ⟨rfl, part⟩)), rfl⟩

theorem refclkTbReturn_runs (s : State) :
    Runs .refclkTbReturn s fun t => t.fld F.TB_STATUS_backup 0 0 = 0 ∧ 0 ∉ t.clkLost ∧ t.tb = s.tb := by
  refine ⟨_, rfl, ?_, fun gone => ?_, rfl⟩
  · rw [State.fld_setFld_ne _ _ _ _ _ _ _ _ (by decide)]
    exact State.fld_setFld_same _ _ _ _ _
  · obtain ⟨_, other⟩ := List.mem_filter.1 gone
    exact absurd other (by decide)

/-! ## A cycle (R3, R181, R383) -/

/-- From `s` to `t` registers with their shadow and the performance monitor have changed, at most, and no record for the ring has come or
gone. -/
def Metered (s t : State) : Prop := ∃ r h p, p.staging = s.pm.staging ∧ t = { s with regs := r, shadow := h, pm := p }

namespace Metered

variable {s t u : State}

theorem refl (s : State) : Metered s s := ⟨s.regs, s.shadow, s.pm, rfl, rfl⟩

theorem ite {c : Prop} [Decidable c] (h : Metered s t) (g : Metered s u) : Metered s (if c then t else u) := Stable.ite h g

theorem foldl {α : Type} {f : State → α → State} (step : ∀ u a, Metered s u → Metered s (f u a)) (l : List α) (h : Metered s t) :
    Metered s (l.foldl f t) := Stable.foldl step l h

theorem setFld (h : Metered s t) {f : Fld} {i j v : Nat} : Metered s (t.setFld f i j v) := by
  obtain ⟨_, _, _, staging, rfl⟩ := h
  exact ⟨_, _, _, staging, rfl⟩

theorem setPm (h : Metered s t) {x : Pm} (same : x.staging = t.pm.staging := by rfl) : Metered s { t with pm := x } := by
  obtain ⟨_, _, _, staging, rfl⟩ := h
  exact ⟨_, _, _, same.trans staging, rfl⟩

theorem occ (h : Metered s t) {o : Occ} : Metered s (t.occ o) := ite h.setPm h

theorem commitFld (h : Metered s t) {f : Fld} {i j : Nat} : Metered s (t.commitFld f i j) := by
  unfold State.commitFld
  split
  · exact h
  · obtain ⟨_, _, _, staging, rfl⟩ := h
    exact ⟨_, _, _, staging, rfl⟩

theorem gauges (h : Metered s t) : Metered s t.gauges :=
  foldl (fun _ _ hu => ite (occ (foldl (fun _ _ hv => hv.occ) _ hu)) (foldl (fun _ _ hv => hv.occ) _ hu)) _ h

theorem countInterval (h : Metered s t) {n : Nat} : Metered s (t.countInterval n) := h.setPm.setFld

theorem takeCapture (h : Metered s t) : Metered s t.takeCapture := by
  unfold State.takeCapture
  split
  · exact h
  · exact h.setPm

theorem commitSel (h : Metered s t) {n : Nat} : Metered s (t.commitSel n) := by
  unfold State.commitSel
  extract_lets changed s1 zeroed monitor s2 s3
  have taken : Metered s s1 := foldl (fun _ _ hu => hu.commitFld) _ h
  have cleared : Metered s zeroed := taken.setFld
  have fresh : Metered s s2 := ite cleared.setPm taken
  clear_value s2
  have valid : Metered s s3 := ite fresh.setFld.setFld fresh
  exact ite valid.setFld.setFld valid

theorem applyPm (h : Metered s t) : Metered s t.applyPm := by
  refine ite (foldl (fun _ _ hu => hu.commitSel) _ ?_) h
  exact foldl (fun _ _ hu => foldl (fun _ _ hv => hv.commitFld) _ hu) _ h.setPm

/-- An interval ends with no record for the ring. -/
theorem interval (h : Metered s t) (quiet : s.pm.staging = []) : Metered s t.interval := by
  unfold State.interval
  extract_lets s1 s2
  have gauged : Metered s s1 := ite h.gauges h
  have counted : Metered s s2 := foldl (fun _ _ hu => hu.countInterval) _ gauged
  clear_value s2
  have applied : Metered s _ := (setPm (x := { s2.pm with acc := [], wrote := [], boundary := 16 * s2.units }) counted).takeCapture.applyPm
  generalize State.applyPm _ = v at applied
  obtain ⟨r, k, p, staging, rfl⟩ := applied
  rw [State.drainStaging]
  simp only [staging, quiet]
  exact ⟨r, k, p, staging, rfl⟩

end Metered

theorem joinsDue_none {s : State} (settled : ∀ e ∈ s.ses, ∀ j, e.2.join = some j → j.due = false) : s.joinsDue = s := by
  have none : (s.ses.filter fun e => e.2.join.any fun j => j.due) = [] := by
    refine List.filter_eq_nil_iff.2 fun e listed waits => ?_
    cases has : e.2.join with
    | none => simp [has] at waits
    | some j => simp [has, settled e listed j has] at waits
  rw [State.joinsDue, none]
  rfl

/-- With no slew left the count goes on by the increment, and holds its sum where 64 bits and the fraction do. -/
theorem tbAdvance_even {s : State} (even : s.slewLeft = 0)
    (fits : s.tb * 2 ^ 32 + s.tbFrac + s.fld F.TB_INCR_incr 0 0 < 2 ^ 96) : ∃ r a n f,
      s.tbAdvance = { s with regs := r, slewAcc := a, tb := n, tbFrac := f } ∧
      n * 2 ^ 32 + f = s.tb * 2 ^ 32 + s.tbFrac + s.fld F.TB_INCR_incr 0 0 := by
  have whole : min (s.tb + (s.tbFrac + s.fld F.TB_INCR_incr 0 0) / 2 ^ 32) (2 ^ 64 - 1) * 2 ^ 32 +
      (s.tbFrac + s.fld F.TB_INCR_incr 0 0) % 2 ^ 32 = s.tb * 2 ^ 32 + s.tbFrac + s.fld F.TB_INCR_incr 0 0 := by omega
  unfold State.tbAdvance
  simp only [even, if_true, lt_irrefl, if_false, Nat.add_zero]
  split
  · exact ⟨_, _, _, _, rfl, whole⟩
  · exact ⟨_, _, _, _, rfl, whole⟩

theorem settleReacts_shape (s : State) : ∃ c, s.settleReacts = { s with fc := c } := ⟨_, rfl⟩

/-- A cycle where nothing waits: the count goes on, and beside it only registers, the monitor and the reactions can change. -/
theorem cycle_even {s : State} (out : s.inReset = false) (even : s.slewLeft = 0) (quiet : s.pm.staging = []) (idle : s.NothingWaits)
    (settled : ∀ e ∈ s.ses, ∀ j, e.2.join = some j → j.due = false)
    (fits : s.tb * 2 ^ 32 + s.tbFrac + s.fld F.TB_INCR_incr 0 0 < 2 ^ 96) : ∃ r h p c a n f,
      s.cycle = { s with regs := r, shadow := h, pm := p, fc := c, slewAcc := a, tb := n, tbFrac := f } ∧
      n * 2 ^ 32 + f = s.tb * 2 ^ 32 + s.tbFrac + s.fld F.TB_INCR_incr 0 0 := by
  obtain ⟨r₀, a, n, f, advanced, sum⟩ := tbAdvance_even (s := s.idlePass (s.tbAdvance.tb - s.tb)) even fits
  have metered : Metered (s.idlePass (s.tbAdvance.tb - s.tb)).tbAdvance (s.idlePass (s.tbAdvance.tb - s.tb)).tbCycle :=
    Metered.ite (Metered.refl _) ((Metered.refl _).interval (by rw [advanced]; exact quiet))
  obtain ⟨r, h, p, _, eq⟩ := metered
  obtain ⟨c, reacts⟩ := settleReacts_shape (s.idlePass (s.tbAdvance.tb - s.tb)).tbCycle
  refine ⟨r, h, p, c, a, n, f, ?_, sum⟩
  unfold State.cycle
  rw [if_neg (by rw [out]; decide)]
  dsimp only
  rw [reacts, eq, advanced, joinsDue_none (by exact settled), refill_none (by exact idle), ite_self]
  rfl

theorem step_inReset {s : State} (empty : s.pending = []) (held : s.inReset = true) : step s = .next s := by
  rw [step, empty]
  exact congrArg Host.Outcome.next (if_pos held)

theorem step_even {s : State} (empty : s.pending = []) (out : s.inReset = false) (even : s.slewLeft = 0) (quiet : s.pm.staging = [])
    (idle : s.NothingWaits) (settled : ∀ e ∈ s.ses, ∀ j, e.2.join = some j → j.due = false)
    (fits : s.tb * 2 ^ 32 + s.tbFrac + s.fld F.TB_INCR_incr 0 0 < 2 ^ 96) :
    ∃ t, step s = .next t ∧ t.tb * 2 ^ 32 + t.tbFrac = s.tb * 2 ^ 32 + s.tbFrac + s.fld F.TB_INCR_incr 0 0 ∧
      t.strands = s.strands ∧ t.dram = s.dram ∧ t.scratch = s.scratch ∧ t.ops = s.ops := by
  obtain ⟨r, h, p, c, a, n, f, eq, sum⟩ := cycle_even out even quiet idle settled fits
  refine ⟨s.cycle, by rw [step, empty]; rfl, ?_⟩
  rw [eq]
  exact ⟨sum, rfl, rfl, rfl, rfl⟩

/-- Settles O32: each command by the branch its hypotheses choose; that a clock's loss keeps its own event and brings its lanes down by the
frame of what goes down; a cycle by the frame of an interval's end. -/
theorem timebaseSteps : Obligations.TimebaseSteps := by
  unfold Obligations.TimebaseSteps
  refine ⟨fun s => ⟨tbIncrWrite_runs s, fun v => ⟨tbStep_negative, fun legal => ⟨tbStep_outside legal, tbStep_inside legal⟩⟩,
    tbSlew_runs s, tbSlewComplete_runs, ppsOut_runs, ppsIn_runs, fun c => refclkLoss_runs, refclkLoss_absent, refclkTbReturn_runs s⟩,
    fun s => step_inReset, fun s => step_even⟩

end Sys2Proof.Machine
end

section
/-!
PROOFS. Ports: their configuration, distribution, the frames in and out, and their counters (O31).
-/

namespace Sys2Proof.Machine

set_option Elab.async false

/-! ## Configuration (R161) -/

/-- The error bit of PT_CFG is cleared by a one written to it, before anything else. -/
def State.ptCfgAck (s : State) (v : Nat) : State := if bitOf v 2 then s.setFld F.PT_CFG_err 0 0 0 else s

theorem ptCfgAck_onlyRegs (s : State) (v : Nat) : OnlyRegs s (s.ptCfgAck v) [fldKey F.PT_CFG_err 0 0] := by
  unfold State.ptCfgAck
  split
  · exact onlyRegs_setFld _ _ _ _ _
  · exact ⟨rfl, fun _ _ _ _ => rfl⟩

theorem ptCfgWrite_takes {s : State} {v : Word32} (off : ∀ l, l < lanes s.part → s.fld F.LN_CTRL_enable l 0 = 0)
    (legal : v.toNat % 4 ≠ 3) :
    Runs (.ptCfgWrite v) s fun t => t.fld F.PT_CFG_mode 0 0 = v.toNat % 4 := by
  have idle : ¬ ((List.range (lanes s.part)).any fun l => s.fldB F.LN_CTRL_enable l 0) = true := by
    simpa [State.fldB] using off
  exact ⟨_, congrArg Host.Outcome.next ((if_neg idle).trans (if_neg legal)),
    (State.fld_setFld_same _ _ _ _ _).trans (Nat.mod_mod _ _)⟩

theorem ptCfgWrite_refused {s : State} {v : Word32} {l : Nat} (real : l < lanes s.part) (on : s.fld F.LN_CTRL_enable l 0 ≠ 0) :
    Runs (.ptCfgWrite v) s fun t => t.fld F.PT_CFG_err 0 0 = 1 ∧ OnlyRegs s t [fldKey F.PT_CFG_err 0 0] := by
  have busy : ((List.range (lanes s.part)).any fun l => s.fldB F.LN_CTRL_enable l 0) = true :=
    List.any_eq_true.2 ⟨l, List.mem_range.2 real, by simpa [State.fldB] using on⟩
  obtain ⟨ackFrame, ackRegs⟩ := ptCfgAck_onlyRegs s v.toNat
  obtain ⟨_, errRegs⟩ := onlyRegs_setFld (s.ptCfgAck v.toNat) F.PT_CFG_err 0 0 1
  exact ⟨(s.ptCfgAck v.toNat).setFld F.PT_CFG_err 0 0 1, congrArg Host.Outcome.next (if_pos busy), State.fld_setFld_same _ _ _ _ _,
    ackFrame, fun f i j other => (errRegs f i j other).trans (ackRegs f i j other)⟩

/-! ## Distribution (R174) -/

/-- The register field and the status field of a port's distribution are two. -/
theorem dist_keys_ne (p : Nat) : fldKey F.PT_PORT_GRP_dist p 0 ≠ fldKey F.PT_PORT_STATUS_dist p 0 :=
  fldKey_ne_column p rfl (by decide)

theorem ptDistWrite_enters {s : State} {p : Fin 8} (present : s.portPresent p.val = true) (up : s.fld F.PT_PORT_STATUS_up p.val 0 ≠ 0)
    (enabled : s.fld F.PT_PORT_GRP_enable p.val 0 ≠ 0) (agree : ∀ q ∈ s.members? (s.groupOf p.val), s.sameVlan p.val q = true) :
    Runs (.ptDistWrite p true) s fun t =>
      t.fld F.PT_PORT_GRP_dist p.val 0 = 1 ∧ t.fld F.PT_PORT_STATUS_dist p.val 0 = 1 := by
  have enters : (s.fldB F.PT_PORT_STATUS_up p.val 0 && s.fldB F.PT_PORT_GRP_enable p.val 0 &&
      (s.members? (s.groupOf p.val)).all fun q => s.sameVlan p.val q) = true := by
    simp [State.fldB, up, enabled, List.all_eq_true.2 agree]
  refine ⟨_, congrArg Host.Outcome.next ((if_neg (by simp [present])).trans ((if_neg (by decide)).trans (if_pos enters))), ?_,
    State.fld_setFld_same _ _ _ _ _⟩
  rw [State.fld_setFld_ne _ _ _ _ _ _ _ _ (dist_keys_ne _)]
  exact State.fld_setFld_same _ _ _ _ _

theorem ptDistWrite_leaves {s : State} {p : Fin 8} (present : s.portPresent p.val = true) :
    Runs (.ptDistWrite p false) s fun t =>
      t.fld F.PT_PORT_GRP_dist p.val 0 = 0 ∧ t.fld F.PT_PORT_STATUS_dist p.val 0 = 0 := by
  refine ⟨_, congrArg Host.Outcome.next ((if_neg (by simp [present])).trans (if_pos rfl)), State.fld_setFld_same _ _ _ _ _, ?_⟩
  rw [State.fld_setFld_ne _ _ _ _ _ _ _ _ (dist_keys_ne _).symm]
  exact portLeave_out s p.isLt 2

/-! ## Frames received (R175 to R178) -/

/-- A count of one more: the counter saturates, and nothing else changes. -/
theorem addFld_counts (s : State) (f : Fld) (i j n : Nat) :
    (s.addFld f i j n).fld f i j = satAdd f.w (s.fld f i j) n ∧ OnlyRegs s (s.addFld f i j n) [fldKey f i j] :=
  ⟨fld_addFld_same _ _ _ _ _, onlyRegs_setFld _ _ _ _ _⟩

/-- The lane takes in no frame: it is off, its port is down, or the part is halted. -/
def State.deaf (s : State) (l : Nat) : Bool := !s.laneOn l || !s.fldB F.PT_PORT_STATUS_up (s.portOf l) 0 || s.mode == 7

theorem not_deaf {s : State} {l : Nat} (on : s.laneOn l = true) (up : s.fld F.PT_PORT_STATUS_up (s.portOf l) 0 ≠ 0) (runs : s.mode ≠ 7) :
    ¬ s.deaf l = true := by
  simp [State.deaf, State.fldB, on, up, runs]

/-- The frame is longer than any can be, or than its group's MTU allows. -/
def State.tooLong (s : State) (p n : Nat) : Prop := 9216 < n ∨ clampNat 576 9194 (s.fld F.PT_GRP_MTU_bytes (s.groupOf p) 0) + 22 < n

/-- A frame of the port and its bytes are counted as received. -/
def State.rxCounted (s : State) (p n : Nat) : State := (s.addFld F.PT_CNT_RXFRM_count p 0 1).addFld F.PT_CNT_RXBYTE_count p 0 n

/-- Where the parser's answer sends a counted frame. -/
def State.frameTo (s : State) (l p : Nat) (bs : List Byte) : Except Nat Dest → State
  | .error k => s.ptDrop p k
  | .ok .firmware => s.toFirmware l p bs
  | .ok .world => s.worldReceive p (leNat (ipSrc bs)) (beAt bs (udpOff bs) 2) ((udpBytes bs).drop 8)

section
variable {s : State} {lane : Fin 8} {raw : List Byte} (hears : ¬ s.deaf lane.val = true)
include hears

theorem frameReceive_under (short : raw.length < 64) : Runs (.frameReceive lane raw) s fun t =>
    t.fld F.PT_CNT_UNDER_count (s.portOf lane.val) 0 = satAdd 32 (s.fld F.PT_CNT_UNDER_count (s.portOf lane.val) 0) 1 ∧
      OnlyRegs s t [fldKey F.PT_CNT_UNDER_count (s.portOf lane.val) 0] :=
  ⟨_, congrArg Host.Outcome.next ((if_neg hears).trans (if_pos short)), addFld_counts _ _ _ _ _⟩

variable (full : 64 ≤ raw.length)
include full

theorem frameReceive_over (long : s.tooLong (s.portOf lane.val) raw.length) : Runs (.frameReceive lane raw) s fun t =>
    t.fld F.PT_CNT_OVER_count (s.portOf lane.val) 0 = satAdd 32 (s.fld F.PT_CNT_OVER_count (s.portOf lane.val) 0) 1 ∧
      OnlyRegs s t [fldKey F.PT_CNT_OVER_count (s.portOf lane.val) 0] :=
  ⟨_, congrArg Host.Outcome.next ((if_neg hears).trans ((if_neg (by omega)).trans (if_pos long))), addFld_counts _ _ _ _ _⟩

variable (fits : ¬ s.tooLong (s.portOf lane.val) raw.length)
include fits

theorem frameReceive_fcsErr (bad : leNat (raw.drop (raw.length - 4)) ≠ crcEth (raw.take (raw.length - 4))) :
    Runs (.frameReceive lane raw) s fun t =>
      t.fld F.PT_CNT_FCSERR_count (s.portOf lane.val) 0 = satAdd 32 (s.fld F.PT_CNT_FCSERR_count (s.portOf lane.val) 0) 1 ∧
        OnlyRegs s t [fldKey F.PT_CNT_FCSERR_count (s.portOf lane.val) 0] :=
  ⟨_, congrArg Host.Outcome.next
    ((if_neg hears).trans ((if_neg (by omega)).trans ((if_neg fits).trans (if_pos bad)))), addFld_counts _ _ _ _ _⟩

variable (sound : leNat (raw.drop (raw.length - 4)) = crcEth (raw.take (raw.length - 4)))
include sound

theorem frameReceive_pause (pause : flowControl (raw.take (raw.length - 4)) = true) : Runs (.frameReceive lane raw) s fun t =>
    t.fld F.PT_CNT_PAUSE_count (s.portOf lane.val) 0 = satAdd 32 (s.fld F.PT_CNT_PAUSE_count (s.portOf lane.val) 0) 1 ∧
      OnlyRegs s t [fldKey F.PT_CNT_PAUSE_count (s.portOf lane.val) 0] :=
  ⟨_, congrArg Host.Outcome.next
    ((if_neg hears).trans ((if_neg (by omega)).trans ((if_neg fits).trans ((if_neg (not_not_intro sound)).trans (if_pos pause))))),
    addFld_counts _ _ _ _ _⟩

/-- A sound frame that is none of flow control is counted and goes where the parser says. -/
theorem frameReceive_routed (data : flowControl (raw.take (raw.length - 4)) = false) {answer : Except Nat Dest}
    (reply : (s.rxCounted (s.portOf lane.val) raw.length).parse (s.portOf lane.val) (raw.take (raw.length - 4)) = answer) :
    exec (.frameReceive lane raw) s = .next ((s.rxCounted (s.portOf lane.val) raw.length).frameTo lane.val (s.portOf lane.val)
      (raw.take (raw.length - 4)) answer) := by
  subst reply
  exact congrArg Host.Outcome.next ((if_neg hears).trans ((if_neg (by omega)).trans ((if_neg fits).trans
    ((if_neg (not_not_intro sound)).trans (if_neg (ne_true_of_eq_false data))))))

end

/-- A frame the buffer has room for and the policer lets pass is held, with its time at the balls. -/
theorem toFirmware_held {u : State} {l p : Nat} {bs : List Byte} (room : u.fwRoom (u.firstLane p) bs.length = true)
    (tokens : u.policeLack p + 1000000 ≤ 64000000) :
    { u.toFirmware l p bs with pt := u.pt } = u ∧ smapFind (u.toFirmware l p bs).pt.fwRx (u.firstLane p) =
      some (u.fwHeld (u.firstLane p) ++ [(bs, u.ballRx l / 2 ^ 32, p)]) := by
  rw [State.toFirmware, if_pos (by simp [room, tokens])]
  exact ⟨rfl, smapFind_insert_same _ _ _⟩

theorem toFirmware_dropped {u : State} {l p : Nat} {bs : List Byte}
    (lacks : u.fwRoom (u.firstLane p) bs.length = false ∨ 64000000 < u.policeLack p + 1000000) :
    u.toFirmware l p bs = u.ptDrop p 9 :=
  if_neg (by rcases lacks with full | empty
             · simp [full]
             · simp [Nat.not_le.2 empty])

/-! ## Firmware frames (R178, R184) -/

theorem fwrxPop_runs (s : State) (lane : Fin 8) : Runs (.fwrxPop lane) s fun t =>
    t.fwHeld lane.val = (s.fwHeld lane.val).tail ∧ t.pt.fwPos = 0 ∧ t.fld F.PT_FWRX_CMD_lane 0 0 = lane.val :=
  ⟨_, rfl, smapGet_put_same _ _ _ _, rfl, (State.fld_setFld_same _ _ _ _ _).trans (Nat.mod_eq_of_lt lane.isLt)⟩

/-- The frame written goes to queue 0 of the port's first lane. -/
theorem fwtxSend_runs {s : State} {v : Word32} (send : v.getLsbD 31 = true) (present : s.portPresent (bitsOf v.toNat 14 3) = true)
    (low : 60 ≤ bitsOf v.toNat 0 14) (high : bitsOf v.toNat 0 14 ≤ 9212)
    (room : s.queued (s.firstLane (bitsOf v.toNat 14 3)) + bitsOf v.toNat 0 14 ≤ 1048576) :
    Runs (.fwtxSend v) s fun t => t.pt.fwTx = [] ∧ t.pt.egress = s.pt.egress ++
      [{ lane := s.firstLane (bitsOf v.toNat 14 3), q := 0, port := bitsOf v.toNat 14 3, bytes := s.fwFrame (bitsOf v.toNat 0 14),
         oneStep := v.getLsbD 29, twoStep := v.getLsbD 28 }] := by
  have sends : ¬ (!bitOf v.toNat 31 || !s.portPresent (bitsOf v.toNat 14 3) || decide (bitsOf v.toNat 0 14 < 60) ||
      decide (9212 < bitsOf v.toNat 0 14) ||
      decide (1048576 < s.queued (s.firstLane (bitsOf v.toNat 14 3)) + bitsOf v.toNat 0 14)) = true := by
    simp [bitOf_toNat, send, present, low, high, room]
  refine ⟨_, congrArg Host.Outcome.next (if_neg sends), rfl, ?_⟩
  rw [← bitOf_toNat, ← bitOf_toNat]
  rfl

theorem txtsPop_runs {s : State} (path : Path) {e : Nat × Nat × Nat} {l : List (Nat × Nat × Nat)} (stamps : s.pt.txTs = e :: l) :
    Runs (.txtsPop path) s fun t =>
      t.pt.txTs = l ∧ (smapFind s.holdRd (pathKey path) = none → t.lastRead = e.1 / 2 ^ 32) := by
  refine ⟨_, rfl, congrArg List.tail stamps, fun free => ?_⟩
  simp [State.txtsPop, free, stamps]

/-! ## Counters (R180) -/

/-- A counter in the bank that PT_PORT_CLR clears reads as at reset. -/
theorem portClr_cleared (s : State) (p : Nat) {f : Fld} {j : Nat}
    (bank : (0x201000 + 0x100 * p) * 16 ≤ fldKey f p j ∧ fldKey f p j < (0x201080 + 0x100 * p) * 16) :
    (s.portClr p).fld f p j = rstVal f p j := by
  have gone : smapFind (s.portClr p).regs (fldKey f p j) = none :=
    (smapFind_filter s.regs (fun k => !((0x201000 + 0x100 * p) * 16 ≤ k && k < (0x201080 + 0x100 * p) * 16)) _).trans
      (if_neg (by simpa using bank))
  rw [State.fld, smapGet, gone, Option.getD_none]

theorem ptPortClr_runs (s : State) (p : Fin 8) : Runs (.ptPortClr p) s fun t =>
    (∀ f ∈ [F.PT_CNT_RXFRM_count, F.PT_CNT_RXBYTE_count, F.PT_CNT_TXFRM_count, F.PT_CNT_TXBYTE_count,
      F.PT_CNT_FCSERR_count, F.PT_CNT_UNDER_count, F.PT_CNT_OVER_count, F.PT_CNT_PAUSE_count],
      t.fld f p.val 0 = 0) ∧ (∀ n, n < 10 → t.fld F.PT_DROP_count p.val n = 0) ∧ { t with regs := s.regs } = s := by
  refine ⟨_, rfl, ?_, fun n low => ?_, rfl⟩
  · have bank : ∀ f ∈ [F.PT_CNT_RXFRM_count, F.PT_CNT_RXBYTE_count, F.PT_CNT_TXFRM_count, F.PT_CNT_TXBYTE_count,
        F.PT_CNT_FCSERR_count, F.PT_CNT_UNDER_count, F.PT_CNT_OVER_count, F.PT_CNT_PAUSE_count],
        f.s1 = 0x100 ∧ f.rst = .val 0 ∧ 0x201000 * 16 ≤ fldKey f 0 0 ∧ fldKey f 0 0 < 0x201080 * 16 := by decide
    intro f counter
    obtain ⟨stride, zero, least, most⟩ := bank f counter
    have inside : fldKey f p.val 0 = fldKey f 0 0 + 0x1000 * p.val := by
      simp only [fldKey, fldAddr, stride]; omega
    exact (portClr_cleared s p.val (by omega)).trans (by simp [rstVal, zero])
  · refine portClr_cleared s p.val ?_
    simp only [fldKey, fldAddr, F.PT_DROP_count]
    omega

/-! ## The obligation -/

/-- Settles O31: a received frame walks down the checks of its command to the one it fails, or to its place. -/
theorem portsAndFrames : Obligations.PortsAndFrames := by
  intro s
  refine ⟨fun v => ⟨ptCfgWrite_takes, fun l => ptCfgWrite_refused⟩,
    fun p present => ⟨ptDistWrite_enters present, ptDistWrite_leaves present⟩, ?_, fwrxPop_runs s, ?_,
    fun path e l => txtsPop_runs path, ptPortClr_runs s⟩
  · rintro lane raw bs p u rfl rfl rfl on up runs
    have hears := not_deaf on up runs
    refine ⟨frameReceive_under hears, fun long full => frameReceive_over hears full long, fun full most mtu => ?_⟩
    have fits : ¬ s.tooLong (s.portOf lane.val) raw.length := by unfold State.tooLong; omega
    refine ⟨frameReceive_fcsErr hears full fits, frameReceive_pause hears full fits, fun sound data => ?_⟩
    have goes {answer : Except Nat Dest} := frameReceive_routed hears full fits sound data (answer := answer)
    exact ⟨fun k fails => ⟨_, goes fails, addFld_counts _ _ _ _ _⟩,
      fun firmware => ⟨fun room tokens => ⟨_, goes firmware, toFirmware_held room tokens⟩,
        fun lacks => ⟨_, (goes firmware).trans (congrArg Host.Outcome.next (toFirmware_dropped lacks)), addFld_counts _ _ _ _ _⟩⟩,
      fun world => ⟨_, goes world, rfl⟩⟩
  · rintro v n p rfl rfl
    exact fwtxSend_runs

end Sys2Proof.Machine
end

section
/-!
PROOFS. The management port's checks: how a frame is refused, and the walk down the checks of a command (O33).
-/

namespace Sys2Proof.Machine

set_option Elab.async false

/-! ## A refusal (R196, R198) -/

theorem noteReject_shape (s : State) (code status seq : Nat) : ∃ r, s.noteReject code status seq = { s with regs := r } := ⟨_, rfl⟩

/-- A refusal is counted, and its status, code and sequence number are kept. -/
theorem noteReject_kept (s : State) (code status seq : Nat) :
    (s.noteReject code status seq).fld F.MG_REJECT_COUNT_count 0 0 = satAdd 32 (s.fld F.MG_REJECT_COUNT_count 0 0) 1 ∧
      (s.noteReject code status seq).fld F.MG_REJECT_LAST_status 0 0 = status % 256 ∧
      (s.noteReject code status seq).fld F.MG_REJECT_LAST_code 0 0 = code % 256 ∧
      (s.noteReject code status seq).fld F.MG_REJECT_LAST_seq 0 0 = seq % 65536 := by
  simp (disch := decide) only [State.noteReject, State.fld_setFld_same, State.fld_setFld_ne, fld_addFld_same]
  exact ⟨rfl, rfl, rfl, rfl⟩

theorem fld_noteReject_ne (s : State) (code status seq : Nat) {f : Fld}
    (other : ∀ g ∈ [F.MG_REJECT_COUNT_count, F.MG_REJECT_LAST_seq, F.MG_REJECT_LAST_code, F.MG_REJECT_LAST_status],
      fldKey f 0 0 ≠ fldKey g 0 0 := by decide) :
    (s.noteReject code status seq).fld f 0 0 = s.fld f 0 0 := by
  simp only [List.forall_mem_cons] at other
  obtain ⟨count, last, was, answer, _⟩ := other
  rw [State.noteReject, State.fld_setFld_ne _ _ _ _ _ _ _ _ answer, State.fld_setFld_ne _ _ _ _ _ _ _ _ was,
    State.fld_setFld_ne _ _ _ _ _ _ _ _ last]
  exact State.fld_setFld_ne _ _ _ _ _ _ _ _ count

/-- A failure of authentication writes its counter alone among the registers. -/
theorem fld_authFail_ne (s : State) (src seq : Nat) {f : Fld} (other : fldKey f 0 0 ≠ fldKey F.MG_AUTH_FAIL_failures 0 0 := by decide) :
    (s.authFail src seq).fld f 0 0 = s.fld f 0 0 :=
  (State.fld_raise _ _ _ _ _).trans (State.fld_setFld_ne _ _ _ _ _ _ _ _ other)

theorem authFail_counted (s : State) (src seq : Nat) :
    (s.authFail src seq).fld F.MG_AUTH_FAIL_failures 0 0 = satAdd 16 (s.fld F.MG_AUTH_FAIL_failures 0 0) 1 :=
  (State.fld_raise _ _ _ _ _).trans (fld_addFld_same _ _ _ _ _)

theorem authFail_raised (s : State) (src seq : Nat) : Raised (s.authFail src seq) 55 src := State.raised_raise _ _

theorem authFail_shape (s : State) (src seq : Nat) : ∃ r x, s.authFail src seq = { s with regs := r, faults := x } := by
  obtain ⟨x, eq⟩ := raise_shape (s.addFld F.MG_AUTH_FAIL_failures 0 0 1) { group := 55, src := src, addr := seq }
  exact ⟨_, x, eq⟩

/-- The frame's failure of authentication, noted. -/
def State.unsigned (s : State) (f : Frame) (code : Nat) : State := (s.noteReject code 0x14 f.seq.toNat).authFail 0 f.seq.toNat

theorem refuse_other {s : State} {f : Frame} {code status : Nat} (other : status ≠ 0x14) :
    s.refuse f code status = (s.noteReject code status f.seq.toNat).sendResp (s.respond f code status []) := if_pos other

theorem refuse_unsigned (s : State) (f : Frame) (code : Nat) :
    s.refuse f code 0x14 = if 100 ≤ s.authSent then (s.unsigned f code).addFld F.MG_AUTH_FAIL_suppressed 0 0 1
      else ({ s.unsigned f code with
        mg := { (s.unsigned f code).mg with auth := (s.tb / 1000000000, s.authSent + 1) } }).sendResp (s.respond f code 0x14 []) := rfl

/-- What a failure of authentication notes, whatever is answered. -/
theorem refused_of_unsigned {s t : State} {f : Frame} {code : Nat}
    (regs : ∀ g ∈ [F.MG_REJECT_COUNT_count, F.MG_REJECT_LAST_seq, F.MG_REJECT_LAST_code, F.MG_REJECT_LAST_status,
      F.MG_AUTH_FAIL_failures], t.fld g 0 0 = (s.unsigned f code).fld g 0 0)
    (rest : { t with regs := (s.unsigned f code).regs, mg := (s.unsigned f code).mg } = s.unsigned f code)
    (polls : t.mg.polls = (s.unsigned f code).mg.polls) (answer : s.authSent < 100 → Answers t s f code 0x14 []) :
    Refused s t f code 0x14 := by
  obtain ⟨count, status, last, seq⟩ := noteReject_kept s code 0x14 f.seq.toNat
  simp only [List.forall_mem_cons] at regs
  obtain ⟨hcount, hseq, hcode, hstatus, hfail, _⟩ := regs
  obtain ⟨r, x, shape⟩ := authFail_shape (s.noteReject code 0x14 f.seq.toNat) 0 f.seq.toNat
  change s.unsigned f code = _ at shape
  have faults : t.faults = (s.unsigned f code).faults := (congrArg State.faults rest :)
  refine ⟨?_, ?_, ?_, ?_, fun other => absurd rfl other, fun _ => ⟨?_, ?_, answer⟩, ?_, ?_, ?_, ?_, ?_⟩
  · exact (hcount.trans (fld_authFail_ne _ _ _)).trans count
  · exact (hstatus.trans (fld_authFail_ne _ _ _)).trans status
  · exact (hcode.trans (fld_authFail_ne _ _ _)).trans last
  · exact (hseq.trans (fld_authFail_ne _ _ _)).trans seq
  · rw [hfail, State.unsigned, authFail_counted, fld_noteReject_ne]
  · rw [Raised, faults]
    exact authFail_raised _ _ _
  · exact (congrArg State.strands rest :).trans (congrArg State.strands shape :)
  · exact (congrArg State.dram rest :).trans (congrArg State.dram shape :)
  · exact (congrArg State.ses rest :).trans (congrArg State.ses shape :)
  · exact (congrArg State.nv rest :).trans (congrArg State.nv shape :)
  · exact polls.trans (congrArg (fun u : State => u.mg.polls) shape :)

theorem addFld_frame (u : State) (f : Fld) (i j n : Nat) : { u.addFld f i j n with regs := u.regs, mg := u.mg } = u := rfl

theorem sendResp_frame (u : State) (m : Mg) (x : Sent) :
    { ({ u with mg := m } : State).sendResp x with regs := u.regs, mg := u.mg } = u := rfl

theorem refused_refuse (s : State) (f : Frame) (code status : Nat) : Refused s (s.refuse f code status) f code status := by
  by_cases other : status = 0x14
  · subst other
    rw [refuse_unsigned]
    split
    · next many =>
      refine refused_of_unsigned (fun g own => State.fld_setFld_ne _ _ _ _ _ _ _ _ ?_) (addFld_frame _ _ _ _ _) rfl
        fun few => absurd many (by omega)
      revert g
      decide
    · exact refused_of_unsigned (fun _ _ => rfl) (sendResp_frame _ _ _) rfl fun _ => rfl
  · rw [refuse_other other]
    obtain ⟨count, answer, last, seq⟩ := noteReject_kept s code status f.seq.toNat
    obtain ⟨r, shape⟩ := noteReject_shape s code status f.seq.toNat
    rw [shape] at count answer last seq ⊢
    exact ⟨count, answer, last, seq, fun _ => rfl, fun same => absurd same other, rfl, rfl, rfl, rfl, rfl⟩

/-- No refusal moves MG_SEQ. -/
theorem refuse_seq (s : State) (f : Frame) (code status : Nat) :
    (s.refuse f code status).fld F.MG_SEQ_seq 0 0 = s.fld F.MG_SEQ_seq 0 0 := by
  have noted : (s.noteReject code status f.seq.toNat).fld F.MG_SEQ_seq 0 0 = s.fld F.MG_SEQ_seq 0 0 := fld_noteReject_ne _ _ _ _
  by_cases other : status = 0x14
  · subst other
    have failed : (s.unsigned f code).fld F.MG_SEQ_seq 0 0 = s.fld F.MG_SEQ_seq 0 0 := (fld_authFail_ne _ _ _).trans noted
    rw [refuse_unsigned]
    split
    · exact (State.fld_setFld_ne _ _ _ _ _ _ _ _ (by decide)).trans failed
    · exact failed
  · rw [refuse_other other]
    exact noted

/-- A frame that passes authentication sets MG_SEQ, unless it need not be signed. -/
theorem consume_seq (s : State) (f : Frame) :
    (s.consume f).fld F.MG_SEQ_seq 0 0 = if unauth f then s.fld F.MG_SEQ_seq 0 0 else f.seq.toNat := by
  unfold State.consume
  split
  · rfl
  · rw [State.fld_setFld_same]
    exact Nat.mod_eq_of_lt f.seq.isLt

/-! ## The walk down the checks (R197) -/

section
variable {s : State} {c : Cmd} {f : Frame} {late : State → Option Nat} {run : State → Done}

theorem frame_absent (gone : s.arrives f (c.code == 1) = false) : s.frame c f late run = s.lnmDrop := if_pos (by rw [gone]; rfl)

variable (comes : s.arrives f (c.code == 1) = true)
include comes

theorem frame_behind (waits : s.behindSlot = true) : s.frame c f late run = s.holdFrame c.code f :=
  (if_neg (by rw [comes]; decide)).trans (if_pos waits)

variable (free : s.behindSlot = false)
include free

theorem frame_comes : s.frame c f late run =
    match frameBad c.code f with
    | some st => s.refuse f c.code st
    | none =>
      if !s.authentic c.code f then s.refuse f c.code 0x14
      else match (s.consume f).cmdBad c f with
        | some st => (s.consume f).refuse f c.code st
        | none => match late (s.consume f) with
          | some st => (s.consume f).refuse f c.code st
          | none => (s.consume f).carryOut c f run :=
  (if_neg (by rw [comes]; decide)).trans (if_neg (by rw [free]; decide))

theorem frame_malformed {st : Nat} (bad : frameBad c.code f = some st) : s.frame c f late run = s.refuse f c.code st := by
  rw [frame_comes comes free, bad]

variable (good : frameBad c.code f = none)
include good

theorem frame_unsigned (forged : s.authentic c.code f = false) : s.frame c f late run = s.refuse f c.code 0x14 := by
  rw [frame_comes comes free, good, forged]
  exact if_pos rfl

variable (signed : s.authentic c.code f = true)
include signed

theorem frame_illegal {st : Nat} (bad : (s.consume f).cmdBad c f = some st) :
    s.frame c f late run = (s.consume f).refuse f c.code st := by
  rw [frame_comes comes free, good, signed, bad]
  rfl

end

theorem frame_accepted {s : State} {c : Cmd} {f : Frame} {late : State → Option Nat} {run : State → Done} (h : Accepts s c f late) :
    s.frame c f late run = (s.consume f).carryOut c f run := by
  obtain ⟨comes, free, good, signed, legal, fine⟩ := h
  rw [frame_comes comes free, good, signed, legal, fine]
  rfl

theorem lnmDrop_frame (s : State) : { s.lnmDrop with mg := s.mg } = s ∧ s.lnmDrop.mg.resp = s.mg.resp := by
  unfold State.lnmDrop
  split <;> exact ⟨rfl, rfl⟩

theorem holdFrame_held {s : State} (code : Nat) (f : Frame) (room : s.framesHeld < 8) :
    s.holdFrame code f = { s with mg := { s.mg with waitFrames := s.mg.waitFrames ++ [(code, f)] } } := if_neg (by omega)

theorem holdFrame_busy {s : State} {code : Nat} (f : Frame) (full : 8 ≤ s.framesHeld) (own : code ≠ badCode) :
    s.holdFrame code f = s.refuse f code 0x21 := by
  rw [State.holdFrame, if_pos full, if_neg own]

/-- Each management command takes its frame down the same checks, with its own late check and its own effect. -/
theorem mgCommand_frame {k : Frame → Instr} {c : Cmd} (h : MgCommand k c) (f : Frame) :
    c.code ≠ badCode ∧ ∃ late run, ∀ s, exec (k f) s = .next (s.frame c f late run) := by
  simp only [MgCommand, List.mem_cons, List.not_mem_nil, or_false, Prod.mk.injEq] at h
  rcases h with h | h | h | h | h | h | h | h | h | h | h | h | h | h | h | h | h | h | h | h | h | h | h | h | h | h <;>
    obtain ⟨rfl, rfl⟩ := h <;> exact ⟨by decide, _, _, fun _ => rfl⟩

/-! ## A frame that no command takes -/

theorem badFrame_asked {s : State} {f : Frame} (asked : s.arpAsked f = true) : s.badFrame f = s.arpReply f := if_pos asked

/-- An ARP request is no command frame. -/
theorem arpAsked_of_arrives {s : State} {f : Frame} {b : Bool} (comes : s.arrives f b = true) : s.arpAsked f = false := by
  unfold State.arrives State.addressed at comes
  by_cases arp : (f.etherType == 0x0806) = true
  · rw [eq_of_beq arp] at comes
    cases transport : f.transport <;> simp [transport] at comes
  · simp only [State.arpAsked, arp, Bool.and_false, Bool.false_and]

theorem badFrame_comes {s : State} {f : Frame} (comes : s.arrives f false = true) (free : s.behindSlot = false) :
    s.badFrame f = match frameBad f.code.toNat f with
      | some st => s.refuse f f.code.toNat st
      | none =>
        if !s.authentic f.code.toNat f then s.refuse f f.code.toNat 0x14
        else if codeDefined f.code.toNat then s
        else (s.consume f).refuse f f.code.toNat 0x10 :=
  (if_neg (by rw [arpAsked_of_arrives comes]; decide)).trans
    ((if_neg (by rw [comes]; decide)).trans (if_neg (by rw [free]; decide)))

section
variable {s : State} {f : Frame} (comes : s.arrives f false = true) (free : s.behindSlot = false)
include comes free

theorem badFrame_malformed {st : Nat} (bad : frameBad f.code.toNat f = some st) : s.badFrame f = s.refuse f f.code.toNat st := by
  rw [badFrame_comes comes free, bad]

variable (good : frameBad f.code.toNat f = none)
include good

theorem badFrame_unsigned (forged : s.authentic f.code.toNat f = false) : s.badFrame f = s.refuse f f.code.toNat 0x14 := by
  rw [badFrame_comes comes free, good, forged]
  exact if_pos rfl

theorem badFrame_undefined (signed : s.authentic f.code.toNat f = true) (absent : codeDefined f.code.toNat = false) :
    s.badFrame f = (s.consume f).refuse f f.code.toNat 0x10 := by
  rw [badFrame_comes comes free, good, signed, absent]
  rfl

end

/-! ## The obligation -/

/-- Settles O33: a frame walks down the checks of its command to the first it fails. -/
theorem managementRefusals : Obligations.ManagementRefusals := by
  unfold Obligations.ManagementRefusals
  refine ⟨fun k c command f s => ?_, fun f s comes => ?_, fun f s asked => ⟨_, rfl, badFrame_asked asked⟩,
    fun f s comes free => ⟨fun st bad => ?_, fun good forged => ?_, fun good signed absent => ?_⟩⟩
  · obtain ⟨own, late, run, eq⟩ := mgCommand_frame command f
    refine ⟨fun gone => ⟨_, (eq s).trans (congrArg Host.Outcome.next (frame_absent gone)), lnmDrop_frame s⟩,
      fun comes waits => ⟨fun room =>
          ⟨_, (eq s).trans (congrArg Host.Outcome.next (frame_behind comes waits)), holdFrame_held _ _ room⟩,
        fun full => ⟨_, (eq s).trans (congrArg Host.Outcome.next ((frame_behind comes waits).trans (holdFrame_busy f full own))),
          refused_refuse _ _ _ _⟩⟩,
      fun comes free => ⟨fun st bad => ?_, fun good forged => ?_, fun good signed st bad => ?_⟩⟩
    · exact ⟨_, (eq s).trans (congrArg Host.Outcome.next (frame_malformed comes free bad)), refused_refuse _ _ _ _, refuse_seq _ _ _ _⟩
    · exact ⟨_, (eq s).trans (congrArg Host.Outcome.next (frame_unsigned comes free good forged)), refused_refuse _ _ _ _,
        refuse_seq _ _ _ _⟩
    · exact ⟨_, (eq s).trans (congrArg Host.Outcome.next (frame_illegal comes free good signed bad)), refused_refuse _ _ _ _,
        (refuse_seq _ _ _ _).trans (consume_seq s f)⟩
  · exact ⟨_, congrArg Host.Outcome.next (if_pos comes), refused_refuse _ _ _ _⟩
  · exact ⟨_, congrArg Host.Outcome.next (badFrame_malformed comes free bad), refused_refuse _ _ _ _⟩
  · exact ⟨_, congrArg Host.Outcome.next (badFrame_unsigned comes free good forged), refused_refuse _ _ _ _⟩
  · exact ⟨_, congrArg Host.Outcome.next (badFrame_undefined comes free good signed absent), refused_refuse _ _ _ _⟩

end Sys2Proof.Machine
end

section
/-!
PROOFS. Management commands accepted: what they answer, long commands that start and end, reads of memory, bytes and words (O34, O35).
-/

namespace Sys2Proof.Machine

set_option Elab.async false

/-! ## A frame that is accepted -/

theorem consume_frame (s : State) (f : Frame) : { s.consume f with regs := s.regs } = s := by
  unfold State.consume
  split <;> rfl

theorem consume_tb (s : State) (f : Frame) : (s.consume f).tb = s.tb := (congrArg State.tb (consume_frame s f) :)

theorem consume_mode (s : State) (f : Frame) : (s.consume f).mode = s.mode := by
  unfold State.consume
  split
  · rfl
  · exact State.fld_setFld_ne _ _ _ _ _ _ _ _ (by decide)

/-- A command passes its own checks just where each of them does. -/
theorem cmdBad_none {s : State} {c : Cmd} {f : Frame} (h : s.cmdBad c f = none) :
    c.lenOk s f = true ∧ c.legal s f = true ∧ c.bad s f = false ∧
      (c.long && s.mg.long.isSome && !haltSet c f && !s.rateHeld c) = false := by
  unfold State.cmdBad at h
  split at h
  · cases h
  · next len =>
    split at h
    · cases h
    · next legal =>
      split at h
      · cases h
      · next bad =>
        split at h
        · cases h
        · split at h
          · cases h
          · next busy =>
            simp only [Bool.or_eq_true, Bool.not_eq_true', not_or, Bool.not_eq_false] at legal
            obtain ⟨_, legal⟩ := legal
            exact ⟨by simpa using len, legal, by simpa using bad, by simpa using busy⟩

theorem Accepts.cmd {s : State} {c : Cmd} {f : Frame} {late : State → Option Nat} (h : Accepts s c f late) :
    (s.consume f).cmdBad c f = none := by
  obtain ⟨_, _, _, _, cmd, _⟩ := h
  exact cmd

/-- No long command runs where one is accepted, but for a MODE_SET to HALT and a CH_RATE. -/
theorem Accepts.idle {s : State} {c : Cmd} {f : Frame} {late : State → Option Nat} (h : Accepts s c f late) (long : c.long = true)
    (halt : c.code ≠ 0x10) (rate : c.code ≠ 0x48) : (s.consume f).mg.long = none := by
  obtain ⟨_, _, _, busy⟩ := cmdBad_none h.cmd
  simpa [long, haltSet, State.rateHeld, halt, rate] using busy

/-! ## Short commands (R190, R199) -/

/-- The state `t`, in which a short command of `u` has ended and is answered. -/
def State.answered (t u : State) (f : Frame) (code status : Nat) (data : List Byte) : State :=
  (t.notePoll f.seq.toNat code status).sendResp (u.respond f code status data)

section
variable (t u : State) (f : Frame) (code status : Nat) (data : List Byte)

theorem answered_answers : Answers (t.answered u f code status data) u f code status data := rfl

theorem notePoll_frame (seq : Nat) : { t.notePoll seq code status with mg := t.mg } = t := by
  unfold State.notePoll
  rfl

theorem sendResp_rest (x : Sent) : { t.sendResp x with mg := t.mg } = t := rfl

theorem answered_frame : { t.answered u f code status data with mg := t.mg } = t := by
  have noted := notePoll_frame t code status f.seq.toNat
  rw [← sendResp_rest (t.notePoll f.seq.toNat code status) (u.respond f code status data)] at noted
  exact noted

@[simp] theorem answered_regs : (t.answered u f code status data).regs = t.regs :=
  (congrArg State.regs (answered_frame t u f code status data) :)
@[simp] theorem answered_shadow : (t.answered u f code status data).shadow = t.shadow :=
  (congrArg State.shadow (answered_frame t u f code status data) :)
@[simp] theorem answered_dram : (t.answered u f code status data).dram = t.dram :=
  (congrArg State.dram (answered_frame t u f code status data) :)
@[simp] theorem answered_strands : (t.answered u f code status data).strands = t.strands :=
  (congrArg State.strands (answered_frame t u f code status data) :)
@[simp] theorem answered_ses : (t.answered u f code status data).ses = t.ses :=
  (congrArg State.ses (answered_frame t u f code status data) :)
theorem answered_image : (t.answered u f code status data).mg.image = t.mg.image := by
  unfold State.answered State.notePoll State.sendResp
  rfl

@[simp] theorem answered_fld (g : Fld) (i j : Nat) : (t.answered u f code status data).fld g i j = t.fld g i j := by
  rw [State.fld, answered_regs, State.fld]
@[simp] theorem answered_sess (i : Nat) : (t.answered u f code status data).sess i = t.sess i := by
  rw [State.sess, answered_ses, State.sess]

theorem notePoll_last : ((t.notePoll f.seq.toNat code status).mg.polls).getLast? =
    some { seq := f.seq.toNat, code := code, status := status } := by
  simp only [State.notePoll, List.getLast?_drop, List.length_append, List.length_singleton, List.getLast?_append]
  rw [if_neg (by omega)]
  rfl

variable {t u}

theorem answered_noted (kept : t.fld F.MG_SEQ_seq 0 0 = u.fld F.MG_SEQ_seq 0 0) :
    Noted (t.answered u f code status data) u f code status :=
  ⟨(answered_fld _ _ _ _ _ _ _ _ _).trans kept, notePoll_last t f code status⟩

end

section
variable {cmd : Instr} {s : State} {c : Cmd} {f : Frame} {late : State → Option Nat} {run : State → Done} {P : State → Prop}

/-- A short command runs to what its end makes of it. -/
theorem Accepts.short (h : Accepts s c f late) (row : exec cmd s = .next (s.frame c f late run)) (short : c.long = false)
    (ends : P ((s.consume f).shortEnd f c.code (run (s.consume f)))) : Runs cmd s P := by
  refine ⟨_, row.trans (congrArg Host.Outcome.next (frame_accepted h)), ?_⟩
  rw [State.carryOut, if_neg (by rw [short]; decide)]
  exact ends

/-- A short command that waits for nothing and refuses nothing is answered. -/
theorem Accepts.ends {t : State} {status : Nat} {data : List Byte} (h : Accepts s c f late)
    (row : exec cmd s = .next (s.frame c f late run)) (short : c.long = false)
    (done : run (s.consume f) = { status := status, data := data, state := t }) (kept : status < 0x10 ∨ 0x30 ≤ status)
    (ends : P (t.answered (s.consume f) f c.code status data)) : Runs cmd s P := by
  have answers : (s.consume f).shortEnd f c.code { status := status, data := data, state := t } =
      t.answered (s.consume f) f c.code status data := if_neg (show ¬ (0x10 ≤ status ∧ status < 0x30) by omega)
  refine h.short row short ?_
  rw [done, answers]
  exact ends

end

/-! ## Long commands (R199) -/

/-- The long command of sequence number `seq` and code `code` has started in `s`. -/
def State.begun (s : State) (seq code : Nat) : State :=
  ({ s.notePoll seq code 1 with mg := { (s.notePoll seq code 1).mg with long := some (seq, code), held := false } }).setFld
    F.MG_QUEUE_long_code 0 0 code

theorem longStart_begun (s : State) (seq code : Nat) :
    s.longStart seq code = (if s.mg.long.isSome then (s.longEnd 0x30).cutLong else s).begun seq code := rfl

theorem longStart_idle {s : State} (seq code : Nat) (idle : s.mg.long = none) : s.longStart seq code = s.begun seq code := by
  rw [longStart_begun, if_neg (by rw [idle]; decide)]

theorem fld_begun_ne (s : State) (seq code : Nat) {g : Fld} {i j : Nat} (other : fldKey g i j ≠ fldKey F.MG_QUEUE_long_code 0 0) :
    (s.begun seq code).fld g i j = s.fld g i j := State.fld_setFld_ne _ _ _ _ _ _ _ _ other

theorem begun_rates (s : State) (seq code : Nat) : (s.begun seq code).mg.rates = s.mg.rates := by
  unfold State.begun State.notePoll
  rfl

theorem begun_long (s : State) (seq code : Nat) : (s.begun seq code).mg.long = some (seq, code) := rfl

/-- Every long command that starts leaves the rates recorded, the mode and the other fields alone, and is the one that runs. -/
structure Started (u t : State) : Prop where
  flds : ∀ g i j, fldKey g i j ≠ fldKey F.MG_QUEUE_long_code 0 0 → t.fld g i j = u.fld g i j
  rates : t.mg.rates = u.mg.rates
  runs : t.mg.long.isSome = true

/-- A long command that ends leaves the registers alone, but for the code of the one that runs, and of the port what no long command
moves. -/
structure Ended (s t : State) : Prop where
  frame : { t with regs := s.regs, mg := s.mg } = s
  flds : ∀ g i j, fldKey g i j ≠ fldKey F.MG_QUEUE_long_code 0 0 → t.fld g i j = s.fld g i j
  long : t.mg.long = none
  rest : { t.mg with long := s.mg.long, held := s.mg.held, polls := s.mg.polls } = s.mg

theorem ended_longEnd (s : State) (status : Nat) : Ended s (s.longEnd status) := by
  unfold State.longEnd
  split
  · next none => exact ⟨rfl, fun _ _ _ _ => rfl, none, rfl⟩
  · refine ⟨?_, fun g i j other => State.fld_setFld_ne _ _ _ _ _ _ _ _ other, rfl, rfl⟩
    unfold State.setFld
    rfl

theorem Ended.nv {s t : State} (h : Ended s t) : t.nv = s.nv := (congrArg State.nv h.frame :)
theorem Ended.strands {s t : State} (h : Ended s t) : t.strands = s.strands := (congrArg State.strands h.frame :)
theorem Ended.faults {s t : State} (h : Ended s t) : t.faults = s.faults := (congrArg State.faults h.frame :)
theorem Ended.rates {s t : State} (h : Ended s t) : t.mg.rates = s.mg.rates := (congrArg Mg.rates h.rest :)
theorem Ended.verify {s t : State} (h : Ended s t) : t.mg.verify = s.mg.verify := (congrArg Mg.verify h.rest :)

theorem started_longStart (s : State) (seq code : Nat) : Started s (s.longStart seq code) := by
  have ended := ended_longEnd s 0x30
  rw [longStart_begun]
  split
  · exact ⟨fun g i j other => (fld_begun_ne _ _ _ other).trans (ended.flds g i j other), (begun_rates _ _ _).trans ended.rates,
      by rw [begun_long]; rfl⟩
  · exact ⟨fun g i j other => fld_begun_ne _ _ _ other, begun_rates _ _ _, by rw [begun_long]; rfl⟩

section
variable {cmd : Instr} {s : State} {c : Cmd} {f : Frame} {late : State → Option Nat} {run : State → Done} {P : State → Prop}

/-- A long command runs to its answer, ACCEPTED or QUEUED. -/
theorem Accepts.long (h : Accepts s c f late) (row : exec cmd s = .next (s.frame c f late run)) (long : c.long = true)
    (starts : ∀ t, t = (run ((s.consume f).longStart f.seq.toNat c.code)).state →
      P (t.sendResp ((s.consume f).respond f c.code (if t.mg.held then 2 else 1) []))) : Runs cmd s P := by
  refine ⟨_, row.trans (congrArg Host.Outcome.next (frame_accepted h)), ?_⟩
  rw [State.carryOut, if_pos long]
  exact starts _ rfl

/-- A long command that no other gives way to is ACCEPTED. -/
theorem Accepts.starts (h : Accepts s c f late) (row : exec cmd s = .next (s.frame c f late run)) (long : c.long = true)
    (halt : c.code ≠ 0x10) (rate : c.code ≠ 0x48) {t : State} (done : (run ((s.consume f).begun f.seq.toNat c.code)).state = t)
    (now : t.mg.held = false) (starts : P (t.sendResp ((s.consume f).respond f c.code 1 []))) : Runs cmd s P := by
  refine h.long row long fun x eq => ?_
  rw [longStart_idle f.seq.toNat c.code (h.idle long halt rate), done] at eq
  rw [eq, now]
  exact starts

end

/-! ## Bytes and words -/

theorem leNat_lt (bs : List Byte) : leNat bs < 256 ^ bs.length := by
  induction bs with
  | nil => decide
  | cons b bs ih =>
    have eq : leNat (b :: bs) = b.toNat + 256 * leNat bs := rfl
    have byte : b.toNat < 256 := b.isLt
    rw [eq, List.length_cons, Nat.pow_succ]
    omega

theorem leAt_lt (bs : List Byte) (o n : Nat) : leAt bs o n < 256 ^ n := by
  have len : ((bs.drop o).take n).length ≤ n := List.length_take_le _ _
  exact (leNat_lt _).trans_le (Nat.pow_le_pow_right (by decide) len)

theorem argU_lt (f : Frame) (o n : Nat) : argU f o n < 256 ^ n := leAt_lt _ _ _

/-- A row of instances of a field, written one after the other, leaves a field at another key alone. -/
theorem fld_writes_ne {α : Type} (f : Fld) (at_ v : α → Nat) (l : List α) (s : State) {g : Fld} {i j : Nat}
    (other : ∀ x ∈ l, fldKey g i j ≠ fldKey f (at_ x) 0) :
    (l.foldl (fun s x => s.setFld f (at_ x) 0 (v x)) s).fld g i j = s.fld g i j := by
  induction l generalizing s with
  | nil => rfl
  | cons x l ih =>
    obtain ⟨first, rest⟩ := List.forall_mem_cons.1 other
    exact (ih _ rest).trans (State.fld_setFld_ne _ _ _ _ _ _ _ _ first)

/-- Each instance then holds its value. -/
theorem fld_writes_same {α : Type} (f : Fld) (stride : 0 < f.s1) (at_ v : α → Nat) (l : List α) (s : State) {x : α} (own : x ∈ l)
    (apart : ∀ y ∈ l, at_ y = at_ x → v y = v x) :
    (l.foldl (fun s x => s.setFld f (at_ x) 0 (v x)) s).fld f (at_ x) 0 = v x % 2 ^ f.w := by
  induction l using List.reverseRecOn generalizing x with
  | nil => cases own
  | append_singleton l y ih =>
    rw [List.foldl_append, List.foldl_cons, List.foldl_nil]
    by_cases same : at_ y = at_ x
    · rw [← same, State.fld_setFld_same, apart y (by simp) same]
    · have before : x ∈ l := by
        rcases List.mem_append.1 own with left | last
        · exact left
        · exact absurd (congrArg at_ (List.mem_singleton.1 last).symm) same
      rw [State.fld_setFld_ne _ _ _ _ _ _ _ _ (fldKey_ne_index stride (Ne.symm same))]
      exact ih before fun z own => apart z (List.mem_append_left _ own)

/-- Eight words of a key, written to eight instances of a field of 32 bits. -/
theorem fld_keyWords (f : Fld) (stride : 0 < f.s1) (word : f.w = 32) (key : List Byte) (s : State) {k : Nat} (hk : k < 8) :
    ((List.range 8).foldl (fun s k => s.setFld f k 0 (leAt key (4 * k) 4)) s).fld f k 0 = leAt key (4 * k) 4 := by
  rw [fld_writes_same f stride (fun k => k) (fun k => leAt key (4 * k) 4) (List.range 8) s (List.mem_range.2 hk) (by
    rintro y _ rfl; rfl), word]
  exact Nat.mod_eq_of_lt (leAt_lt _ _ _)

/-! ## Memory (R203) -/

theorem memRead_ok {s : State} {wa n : Nat} {bs : List Byte} (reads : (memBytes (n / 64 + 2) s wa 0 n []).1 = .ok bs) :
    s.memRead wa n = { data := bs, state := (memBytes (n / 64 + 2) s wa 0 n []).2 } := by
  unfold State.memRead
  dsimp only
  rw [reads]

theorem memRead_error {s : State} {wa n off : Nat} (fails : (memBytes (n / 64 + 2) s wa 0 n []).1 = .error off) :
    s.memRead wa n = { status := 0x30, data := leBytes 4 off, state := (memBytes (n / 64 + 2) s wa 0 n []).2 } := by
  unfold State.memRead
  dsimp only
  rw [fails]

end Sys2Proof.Machine
end

section
/-!
PROOFS. Management: identity, keys, events, the Negative, images, resets and rates, accepted (O35).
-/

namespace Sys2Proof.Machine

set_option Elab.async false

/-! ## Identity and POLL (R191, R199) -/

section
variable {s : State} {f : Frame}

theorem identify_runs (h : Accepts s identifyCmd f noLate) : Runs (.identify f) s fun t =>
    Noted t (s.consume f) f 0x01 0 ∧ Answers t (s.consume f) f 0x01 0 (s.consume f).identity :=
  h.ends rfl rfl rfl (.inl (by decide)) ⟨answered_noted _ _ _ _ rfl, answered_answers _ _ _ _ _ _⟩

theorem poll_runs {p : Polled} (found : (s.consume f).mg.polls.find? (fun p => p.seq == argU f 0 8) = some p)
    (h : Accepts s pollCmd f noLate) : Runs (.poll f) s fun t =>
      ∃ w, Answers t (s.consume f) f 0x50 0 (leBytes 1 p.status ++ leBytes 1 p.code ++ leBytes 2 0 ++ leBytes 4 w) := by
  refine h.ends (t := (s.consume f).useFree) (status := 0) rfl rfl ?_ (.inl (by decide))
    ⟨(s.consume f).freeVal, answered_answers _ _ _ _ _ _⟩
  rw [found]

/-! ## Keys (R192 to R194) -/

theorem provisionKey_runs (h : Accepts s provisionCmd f noLate) : Runs (.provisionKey f) s fun t =>
    Answers t (s.consume f) f 0x02 1 [] ∧ t.nv.keyWrite = some (0, f.arg) ∧ t.mg.long = some (f.seq.toNat, 0x02) ∧
      t.nv.keys = (s.consume f).nv.keys :=
  h.starts rfl rfl (by decide) (by decide) rfl rfl ⟨rfl, rfl, rfl, rfl⟩

/-- A long command that has started unwraps a key as it did before. -/
theorem begun_unwrap (s : State) (seq code : Nat) (g : Frame) (o : Nat) : (s.begun seq code).unwrap g o = s.unwrap g o := by
  have nonce : (s.begun seq code).fld F.MG_NONCE_nonce 0 0 = s.fld F.MG_NONCE_nonce 0 0 := fld_begun_ne _ _ _ (by decide)
  have key : (s.begun seq code).mgKey = s.mgKey := rfl
  rw [State.unwrap, State.kek, nonce, key, State.unwrap, State.kek]

theorem rotateKey_runs {k : Nat} {key : List Byte} (slot : (s.consume f).nextKeySlot = some k)
    (opens : (s.consume f).unwrap f 0 = some key) (h : Accepts s rotateCmd f (fun s => s.wrapBad f 0)) :
    Runs (.rotateKey f) s fun t => Answers t (s.consume f) f 0x03 1 [] ∧ t.nv.keyWrite = some (k, key) ∧
      t.mg.long = some (f.seq.toNat, 0x03) := by
  refine h.starts rfl rfl (by decide) (by decide) rfl rfl ⟨rfl, ?_, rfl⟩
  have next : ((s.consume f).begun f.seq.toNat 0x03).nextKeySlot = some k := slot
  have bytes : ((s.consume f).begun f.seq.toNat 0x03).unwrap f 0 = some key := (begun_unwrap _ _ _ _ _).trans opens
  change some (((s.consume f).begun f.seq.toNat 0x03).nextKeySlot.getD 0,
    (((s.consume f).begun f.seq.toNat 0x03).unwrap f 0).getD []) = _
  rw [next, bytes]
  rfl

/-- The key stands in its slot, and its commit bit is written. -/
def State.slotCommitted (s : State) (k : Nat) (key : List Byte) : State :=
  { s with nv := { s.nv with keys := smapInsert s.nv.keys k key, keyWrite := none } }

theorem keyCommit_write {k : Nat} {key : List Byte} (write : s.nv.keyWrite = some (k, key)) :
    s.keyCommit = (s.slotCommitted k key).longEnd 0 := by
  rw [State.keyCommit, write]
  rfl

theorem keySlotCommit_runs {k : Nat} {key : List Byte} (write : s.nv.keyWrite = some (k, key)) :
    Runs .keySlotCommit s fun t => smapFind t.nv.keys k = some key ∧ t.nv.keyWrite = none ∧ t.mg.long = none := by
  have ended := ended_longEnd (s.slotCommitted k key) 0
  refine ⟨_, congrArg Host.Outcome.next (keyCommit_write write), ?_, ?_, ended.long⟩
  · rw [ended.nv]
    exact smapFind_insert_same _ _ _
  · rw [ended.nv]
    rfl

theorem snapKey_runs {key : List Byte} (opens : (s.consume f).unwrap f 0 = some key)
    (h : Accepts s snapKeyCmd f (fun s => s.wrapBad f 0)) : Runs (.snapKey f) s fun t =>
      Answers t (s.consume f) f 0x30 0 [] ∧ ∀ k, k < 8 → t.fld F.SNAP_KEY_key k 0 = leAt key (4 * k) 4 := by
  refine h.ends (status := 0) (data := []) (t := (s.consume f).setSnapKey key) rfl rfl (by rw [opens]; rfl) (.inl (by decide))
    ⟨answered_answers _ _ _ _ _ _, fun k small => ?_⟩
  exact (answered_fld _ _ _ _ _ _ _ _ _).trans (fld_keyWords F.SNAP_KEY_key (by decide) rfl key (s.consume f) small)

theorem titleKeySet_runs (h : Accepts s titleKeyCmd f noLate) : Runs (.titleKeySet f) s fun t =>
    Answers t (s.consume f) f 0x1B 0 [] ∧ t.mg.opKey = some f.arg :=
  h.ends rfl rfl rfl (.inl (by decide)) ⟨rfl, rfl⟩

/-! ## The Negative (R210) and events (R211) -/

theorem dumpInfo_runs (h : Accepts s dumpInfoCmd f noLate) : Runs (.dumpInfo f) s fun t => Answers t (s.consume f) f 0x38 0
    (leBytes 1 (b2n (s.consume f).negWhole.1) ++ leBytes 3 0 ++ leBytes 4 (s.consume f).negWhole.2.1) :=
  h.ends rfl rfl rfl (.inl (by decide)) (answered_answers _ _ _ _ _ _)

theorem dumpRead_runs {bs : List Byte}
    (reads : (memBytes (argU f 4 2 / 64 + 2) (s.consume f) (negAddr (argU f 0 4)) 0 (argU f 4 2) []).1 = .ok bs)
    (h : Accepts s dumpReadCmd f noLate) : Runs (.dumpRead f) s fun t => Answers t (s.consume f) f 0x39 0 bs :=
  h.ends rfl rfl (memRead_ok reads) (.inl (by decide)) (answered_answers _ _ _ _ _ _)

theorem dumpClear_runs (h : Accepts s dumpClearCmd f noLate) : Runs (.dumpClear f) s fun t =>
    Answers t (s.consume f) f 0x3A 0 [] ∧ t.dram = ((s.consume f).negPut 0x3C (leBytes 4 0xFFFFFFFF)).dram :=
  h.ends rfl rfl rfl (.inl (by decide)) ⟨answered_answers _ _ _ _ _ _, answered_dram _ _ _ _ _ _⟩

theorem eventRead_runs {n : Nat} (count : n = argU f 0 1) (h : Accepts s eventReadCmd f noLate) : Runs (.eventRead f) s fun t =>
    Answers t (s.consume f) f 0x40 0 (leBytes 1 ((s.consume f).mg.events.take n).length ++
      leBytes 1 (min 255 (s.consume f).mg.lost) ++ leBytes 2 0 ++ ((s.consume f).mg.events.take n).flatten) ∧
      t.mg.events = (s.consume f).mg.events.drop n ∧
      t.fld F.MG_EVENTS_queued 0 0 = ((s.consume f).mg.events.length - n) % 512 := by
  subst count
  refine h.ends rfl rfl rfl (.inl (by decide)) ⟨answered_answers _ _ _ _ _ _, rfl, ?_⟩
  rw [answered_fld, ← List.length_drop]
  exact State.fld_setFld_same _ _ _ _ _

/-! ## Images (R207, R209, R221) -/

theorem imageBegin_runs (h : Accepts s imageBeginCmd f noLate) : Runs (.imageBegin f) s fun t =>
    Answers t (s.consume f) f 0x18 0 [] ∧
      t.mg.image = some { kind := argU f 0 1, total := argU f 4 4, got := 0, last := s.tb } ∧ t.dram = (s.consume f).dram := by
  rw [← consume_tb s f]
  exact h.ends rfl rfl rfl (.inl (by decide)) ⟨answered_answers _ _ _ _ _ _, rfl, answered_dram _ _ _ _ _ _⟩

theorem imageData_open {x : Image} (transfer : s.mg.image = some x) :
    (s.imageData f).mg.image = some { x with got := x.got + (f.arg.drop 4).length, last := s.tb } := by
  unfold State.imageData
  rw [transfer]

theorem imageData_runs {x : Image} (transfer : (s.consume f).mg.image = some x) (h : Accepts s imageDataCmd f noLate) :
    Runs (.imageData f) s fun t => Answers t (s.consume f) f 0x19 0 [] ∧
      t.mg.image = some { x with got := x.got + (f.arg.drop 4).length, last := s.tb } := by
  rw [← consume_tb s f]
  exact h.ends rfl rfl rfl (.inl (by decide))
    ⟨answered_answers _ _ _ _ _ _, (answered_image _ _ _ _ _ _).trans (imageData_open transfer)⟩

theorem imageEnd_runs {x : Image} (transfer : (s.consume f).mg.image = some x) (h : Accepts s imageEndCmd f State.imageShort) :
    Runs (.imageEnd f) s fun t => Answers t (s.consume f) f 0x1A 1 [] ∧ t.mg.image = none ∧
      t.mg.verify = some (x.kind, x.total) ∧ t.mg.long = some (f.seq.toNat, 0x1A) :=
  h.starts rfl rfl (by decide) (by decide) rfl rfl ⟨rfl, rfl, congrArg (Option.map fun x : Image => (x.kind, x.total)) transfer, rfl⟩

theorem imageTransferTimeout_runs {x : Image} (transfer : s.mg.image = some x) (late : x.last + 10000000000 ≤ s.tb) :
    Runs .imageTransferTimeout s fun t => t.mg.image = none ∧ { t with mg := s.mg } = s := by
  have drops : s.imageTimeout = { s with mg := { s.mg with image := none } } := by
    rw [State.imageTimeout, transfer, Option.any_some, if_pos (decide_eq_true late)]
  exact ⟨_, congrArg Host.Outcome.next drops, rfl, rfl⟩

/-- The verification of an image begins to answer. -/
def State.verifying (s : State) : State := { s with mg := { s.mg with verify := none } }

theorem verifying_rdScratch (s : State) (a n : Nat) : s.verifying.rdScratch 34 a n = s.rdScratch 34 a n := by
  rw [State.rdScratch, if_pos rfl, State.rdScratch, if_pos rfl]
  rfl

theorem verifying_result (s : State) (bs : List Byte) : s.verifying.firmwareResult bs = s.firmwareResult bs := by
  have part : s.verifying.part = s.part := rfl
  have nv : s.verifying.nv = s.nv := rfl
  have version : s.verifying.fld F.GLOBAL_BOOT_min_version 0 0 = s.fld F.GLOBAL_BOOT_min_version 0 0 := rfl
  rw [State.firmwareResult, part, nv, version, State.firmwareResult]

/-- A firmware image is verified in SAFELIGHT, where one may be loaded. -/
theorem verifyImage_firmware {n : Nat} (due : s.mg.verify = some (1, n)) (dark : s.mode = 0) :
    s.verifyImage = s.verifying.verifyFirmware n := by
  have may : ¬ (!s.verifying.kindMode 1) = true := by
    have mode : s.verifying.mode = 0 := dark
    simp [State.kindMode, mode]
  unfold State.verifyImage
  rw [due]
  exact (if_neg may).trans (if_pos rfl)

/-- A firmware image that fails its verification: its result shown, an event, and the end of the long command. -/
theorem verifyFirmware_fails {n r : Nat} (result : r = s.firmwareResult (s.rdScratch 34 stageAt n)) (bad : r ≠ 1) :
    s.verifyFirmware n = (s.setFld F.GLOBAL_BOOT_result 0 0 r).imageFails := by
  unfold State.verifyFirmware
  dsimp only
  rw [← result]
  exact if_pos bad

theorem verifyFirmware_passes {n : Nat} (good : s.firmwareResult (s.rdScratch 34 stageAt n) = 1)
    (sel : (((s.setFld F.GLOBAL_BOOT_result 0 0 1).loadFirmware (s.rdScratch 34 stageAt n)).longEnd 0).fld
      F.GLOBAL_BOOT_boot_sel 0 0 ≠ 0) :
    s.verifyFirmware n = ((s.setFld F.GLOBAL_BOOT_result 0 0 1).loadFirmware (s.rdScratch 34 stageAt n)).longEnd 0 := by
  unfold State.verifyFirmware
  dsimp only
  rw [good]
  exact (if_neg (by decide)).trans (if_neg sel)

/-- The result fits its three bits. -/
theorem firmwareResult_lt (s : State) (bs : List Byte) : s.firmwareResult bs < 8 := by
  unfold State.firmwareResult
  split
  · decide
  · split
    · decide
    · split
      · decide
      · split <;> decide

/-- The sections are loaded into the SV's memory. -/
theorem loadSections_svram (l : List Section) (s : State) :
    ∃ m, l.foldl (fun s x => s.wrScratch 34 (x.target % 1048576) x.body) s = { s with svram := m } := by
  induction l generalizing s with
  | nil => exact ⟨_, rfl⟩
  | cons x l ih =>
    obtain ⟨m, eq⟩ := ih (s.wrScratch 34 (x.target % 1048576) x.body)
    exact ⟨m, eq⟩

/-- The SV's memory is `m`, its boot region is locked, and its strand 0 is `x`. -/
def State.booted (s : State) (m : SMap Byte) (x : Strand) : State := { s with svram := m, romLocked := true }.setStrand 34 0 x

/-- Beside the SV's memory, a load of firmware writes strand 0, which is READY and privileged, and `fw_running`. -/
theorem loadFirmware_shape (s : State) (bs : List Byte) : ∃ m x, x.st = .ready ∧ x.title = false ∧
    s.loadFirmware bs = (s.booted m x).setFld F.GLOBAL_BOOT_fw_running 0 0 1 := by
  obtain ⟨m, eq⟩ := loadSections_svram ((imageSections bs).filter fun x => x.kind == 4) s
  unfold State.loadFirmware
  dsimp only
  rw [eq]
  exact ⟨m, _, rfl, rfl, rfl⟩

theorem fld_booted (s : State) (m : SMap Byte) (x : Strand) (f : Fld) (i j : Nat) : (s.booted m x).fld f i j = s.fld f i j := rfl

/-- A refused image is one failure of authentication, with an event, and the end of the long command. -/
theorem imageFails_ended (s : State) : ∃ seq, Ended (s.authFail 1 seq) s.imageFails := ⟨_, ended_longEnd _ _⟩

theorem imageVerify_fails {n r : Nat} (due : s.mg.verify = some (1, n)) (dark : s.mode = 0)
    (result : r = s.firmwareResult (s.rdScratch 34 stageAt n)) (bad : r ≠ 1) :
    Runs .imageVerifyComplete s fun t => t.fld F.GLOBAL_BOOT_result 0 0 = r ∧ t.mg.verify = none ∧ t.mg.long = none ∧
      Raised t 55 1 ∧ t.strands = s.strands := by
  have small : r % 2 ^ F.GLOBAL_BOOT_result.w = r := Nat.mod_eq_of_lt (result ▸ firmwareResult_lt _ _)
  have eq := (verifyImage_firmware due dark).trans (verifyFirmware_fails (by rwa [verifying_rdScratch, verifying_result]) bad)
  obtain ⟨seq, ended⟩ := imageFails_ended (s.verifying.setFld F.GLOBAL_BOOT_result 0 0 r)
  obtain ⟨x, y, shape⟩ := authFail_shape (s.verifying.setFld F.GLOBAL_BOOT_result 0 0 r) 1 seq
  refine ⟨_, congrArg Host.Outcome.next eq, ?_, ?_, ended.long, ?_, ?_⟩
  · rw [ended.flds _ _ _ (by decide), fld_authFail_ne, State.fld_setFld_same, small]
  · rw [ended.verify, shape]
    rfl
  · rw [Raised, ended.faults]
    exact authFail_raised _ _ _
  · rw [ended.strands, shape]
    rfl

theorem imageVerify_passes {n : Nat} (due : s.mg.verify = some (1, n)) (dark : s.mode = 0)
    (good : s.firmwareResult (s.rdScratch 34 stageAt n) = 1) (select : s.fld F.GLOBAL_BOOT_boot_sel 0 0 ≠ 0) :
    Runs .imageVerifyComplete s fun t => t.fld F.GLOBAL_BOOT_result 0 0 = 1 ∧ t.fld F.GLOBAL_BOOT_fw_running 0 0 = 1 ∧
      t.mg.verify = none ∧ t.mg.long = none ∧ (t.strand 34 0).st = .ready ∧ (t.strand 34 0).title = false := by
  have passes := verifyFirmware_passes (s := s.verifying) (n := n) (by rwa [verifying_rdScratch, verifying_result])
  obtain ⟨m, x, ready, privileged, shape⟩ :=
    loadFirmware_shape (s.verifying.setFld F.GLOBAL_BOOT_result 0 0 1) (s.verifying.rdScratch 34 stageAt n)
  rw [shape] at passes
  have ended := ended_longEnd (((s.verifying.setFld F.GLOBAL_BOOT_result 0 0 1).booted m x).setFld F.GLOBAL_BOOT_fw_running 0 0 1) 0
  have eq := (verifyImage_firmware due dark).trans (passes (by
    rw [ended.flds _ _ _ (by decide), State.fld_setFld_ne _ _ _ _ _ _ _ _ (by decide), fld_booted,
      State.fld_setFld_ne _ _ _ _ _ _ _ _ (by decide)]
    exact select))
  have strand : (((((s.verifying.setFld F.GLOBAL_BOOT_result 0 0 1).booted m x).setFld F.GLOBAL_BOOT_fw_running 0 0 1).longEnd 0).strand
      34 0) = x := by
    rw [State.strand, ended.strands]
    exact State.strand_setStrand_same _ _ _ _
  refine ⟨_, congrArg Host.Outcome.next eq, ?_, ?_, ?_, ended.long, ?_, ?_⟩
  · rw [ended.flds _ _ _ (by decide), State.fld_setFld_ne _ _ _ _ _ _ _ _ (by decide), fld_booted, State.fld_setFld_same]
    rfl
  · rw [ended.flds _ _ _ (by decide), State.fld_setFld_same]
    rfl
  · rw [ended.verify]
    rfl
  · rw [strand, ready]
  · rw [strand, privileged]

/-! ## Resets and rates (R205, R206) -/

theorem reset_runs (h : Accepts s resetCmd f noLate) : Runs (.reset f) s fun t =>
    Answers t (s.consume f) f 0x11 0 [] ∧ t.mg.reset = some (argU f 0 1, s.tb + 100000) := by
  rw [← consume_tb s f]
  exact h.ends rfl rfl rfl (.inl (by decide)) ⟨answered_answers _ _ _ _ _ _, rfl⟩

/-- One rate for each of a list of channels. -/
theorem smapGet_rates (r : Nat) (l : List Nat) (m : SMap Nat) (k : Nat) :
    smapGet 0 (l.foldl (fun m k => smapPut 0 m k r) m) k = if k ∈ l then r else smapGet 0 m k := by
  induction l generalizing m with
  | nil => rfl
  | cons a l ih =>
    rw [List.foldl_cons, ih]
    by_cases later : k ∈ l
    · simp [later]
    · by_cases first : k = a
      · simp [first]
      · simp [later, first, smapGet_put_ne]

/-- The rates of a list of channels are recorded. -/
def State.rated (s : State) (l : List Nat) (r : Nat) : State :=
  { s with mg := { s.mg with rates := l.foldl (fun m k => smapPut 0 m k r) s.mg.rates } }

theorem chRate_dark {l : List Nat} {r : Nat} (dark : s.mode = 0) : s.chRate l r = (s.rated l r).longEnd 0 := if_pos dark

theorem fld_sendResp (s : State) (x : Sent) (f : Fld) (i j : Nat) : (s.sendResp x).fld f i j = s.fld f i j := rfl

theorem chRate_runs (h : Accepts s chRateCmd f noLate) (dark : s.mode = 0) : Runs (.chRate f) s fun t => t.mg.long = none ∧
    (∀ g i j, fldKey g i j ≠ fldKey F.MG_QUEUE_long_code 0 0 → t.fld g i j = (s.consume f).fld g i j) ∧
    ∀ l, smapGet 0 t.mg.rates l = if l ∈ rateList (argU f 0 4) then argU f 4 1 else smapGet 0 (s.consume f).mg.rates l := by
  have started := started_longStart (s.consume f) f.seq.toNat chRateCmd.code
  have off : ((s.consume f).longStart f.seq.toNat chRateCmd.code).mode = 0 :=
    (started.flds F.GLOBAL_MODE_mode 0 0 (by decide)).trans ((consume_mode s f).trans dark)
  refine h.long rfl rfl fun t eq => ?_
  have done : t = (((s.consume f).longStart f.seq.toNat chRateCmd.code).rated (rateList (argU f 0 4)) (argU f 4 1)).longEnd 0 :=
    eq.trans (chRate_dark off)
  have ended := ended_longEnd (((s.consume f).longStart f.seq.toNat chRateCmd.code).rated (rateList (argU f 0 4)) (argU f 4 1)) 0
  rw [← done] at ended
  refine ⟨ended.long, fun g i j other => ?_, fun l => ?_⟩
  · exact (fld_sendResp _ _ _ _ _).trans ((ended.flds g i j other).trans (started.flds g i j other))
  · have rates : t.mg.rates = (rateList (argU f 0 4)).foldl (fun m k => smapPut 0 m k (argU f 4 1)) (s.consume f).mg.rates := by
      rw [ended.rates, ← started.rates]
      rfl
    rw [← smapGet_rates, ← rates]
    rfl

end

/-! ## The obligation -/

/-- Settles O35: each command by its row, its checks passed. -/
theorem keyEventAndImageCommands : Obligations.KeyEventAndImageCommands := by
  unfold Obligations.KeyEventAndImageCommands
  constructor
  · rintro f s _ rfl
    exact ⟨identify_runs, fun _ => poll_runs, provisionKey_runs, fun _ _ => rotateKey_runs, fun _ _ => keySlotCommit_runs,
      fun _ => snapKey_runs, titleKeySet_runs, dumpInfo_runs, fun _ _ eq reads => dumpRead_runs (eq ▸ reads), dumpClear_runs,
      fun _ => eventRead_runs⟩
  · rintro f s _ rfl
    refine ⟨imageBegin_runs, fun _ => imageData_runs, fun _ => imageEnd_runs, ?_, fun _ => imageTransferTimeout_runs, reset_runs,
      chRate_runs⟩
    rintro n r _ due dark rfl result
    by_cases good : r = 1
    · obtain rfl := good
      by_cases select : s.fld F.GLOBAL_BOOT_boot_sel 0 0 = 0
      · exact ⟨_, rfl, fun bad => absurd rfl bad, fun _ other => absurd select other⟩
      · obtain ⟨t, runs, holds⟩ := imageVerify_passes due dark result.symm select
        exact ⟨t, runs, fun bad => absurd rfl bad, fun _ _ => holds⟩
    · obtain ⟨t, runs, holds⟩ := imageVerify_fails due dark result good
      exact ⟨t, runs, fun _ => holds, fun good' => absurd good' good⟩

end Sys2Proof.Machine
end

section
/-!
PROOFS. Management commands on registers and memory, accepted (O34).
-/

namespace Sys2Proof.Machine

set_option Elab.async false

/-! ## The sequence number of the frames accepted -/

/-- From `s` to `t` the sequence number of the frames accepted stands (R195). -/
def SeqKept (s t : State) : Prop := t.fld F.MG_SEQ_seq 0 0 = s.fld F.MG_SEQ_seq 0 0

namespace SeqKept

variable {s t u : State}

theorem refl (s : State) : SeqKept s s := rfl
theorem trans (h : SeqKept s t) (g : SeqKept t u) : SeqKept s u := Eq.trans g h
theorem of_regs (h : SeqKept s t) (regs : u.regs = t.regs) : SeqKept s u := by
  rw [SeqKept, State.fld, regs]
  exact h

/-- It stands below the registers of every block but the first ones. -/
theorem setFld (h : SeqKept s t) {f : Fld} {i j v : Nat}
    (below : (F.MG_SEQ_seq.s1 == 0 && F.MG_SEQ_seq.s2 == 0 && fldKey F.MG_SEQ_seq 0 0 < f.base * 16) = true := by decide) :
    SeqKept s (t.setFld f i j v) :=
  (State.fld_setFld_ne _ _ _ _ _ _ _ _ (fldKey_ne_above 0 0 i j below)).trans h

theorem addFld (h : SeqKept s t) {f : Fld} {i j v : Nat}
    (below : (F.MG_SEQ_seq.s1 == 0 && F.MG_SEQ_seq.s2 == 0 && fldKey F.MG_SEQ_seq 0 0 < f.base * 16) = true := by decide) :
    SeqKept s (t.addFld f i j v) := h.setFld below

theorem useFree (h : SeqKept s t) : SeqKept s t.useFree := h

theorem stable (s : State) : Stable (SeqKept s) where
  write own h := (State.fld_setFld_ne _ _ _ _ _ _ _ _ fun same => by
    have calm : calmKey (fldKey F.MG_SEQ_seq 0 0) = true := by decide
    rw [same, calmKey_access own] at calm
    cases calm).trans h
  same h regs _ := h.of_regs regs

end SeqKept

/-! ## Reads of registers (R202) -/

theorem seqKept_trainShown (s : State) (l : Nat) : SeqKept s (s.trainShown l) := by
  unfold State.trainShown
  extract_lets t top
  split
  · exact (SeqKept.refl s).useFree.setFld
  · exact SeqKept.refl s

theorem seqKept_patCounts (s : State) (l : Nat) : SeqKept s (s.patCounts l) := by
  unfold State.patCounts
  split
  · exact SeqKept.refl s
  · extract_lets n s1
    have counted : SeqKept s s1 := (SeqKept.refl s).useFree.addFld.addFld
    exact counted.of_regs rfl

theorem seqKept_lineCounts (s : State) (l : Nat) : SeqKept s (s.lineCounts l) := by
  unfold State.lineCounts State.freeAdd
  split
  · exact SeqKept.refl s
  · exact (SeqKept.refl s).useFree.addFld.useFree.addFld.useFree.addFld.useFree.addFld.useFree.addFld

theorem seqKept_laneTouch (s : State) (b l : Nat) : SeqKept s (s.laneTouch b l) := by
  unfold State.laneTouch
  split
  · exact seqKept_trainShown s l
  · exact seqKept_patCounts s l
  · exact seqKept_patCounts s l
  · exact seqKept_lineCounts s l
  · exact seqKept_lineCounts s l
  · exact seqKept_lineCounts s l
  · exact seqKept_lineCounts s l
  · exact SeqKept.refl s

theorem seqKept_imemRead (s : State) (e : Nat) : SeqKept s (s.imemRead e).2 := by
  unfold State.imemRead
  split
  · exact (SeqKept.refl s).setFld
  · exact SeqKept.refl s

theorem seqKept_fwPop (s : State) : SeqKept s s.fwPop.2.2 := by
  unfold State.fwPop
  dsimp only
  split <;> exact SeqKept.refl s

theorem seqKept_loupeData (s : State) : SeqKept s s.loupeData.2 := by
  unfold State.loupeData
  split
  · exact SeqKept.refl s
  · dsimp only
    split
    · exact SeqKept.setFld ((SeqKept.refl s).of_regs rfl)
    · exact SeqKept.refl s

theorem seqKept_holdFrac (s : State) (p : Path) (a : Nat) : SeqKept s (s.holdFrac p a) :=
  (SeqKept.refl s).of_regs (congrArg State.regs (State.holdFrac_frame s p a) :)

theorem seqKept_readWord (s : State) (p : Path) (r : RegD) (i j : Nat) : SeqKept s (s.readWord p r i j).2 := by
  unfold State.readWord
  split
  · exact seqKept_imemRead s i
  · exact (seqKept_fwPop s).of_regs rfl
  · split <;> exact SeqKept.refl s
  · exact SeqKept.refl s
  · exact seqKept_loupeData s
  · exact SeqKept.refl s
  · exact SeqKept.refl s

theorem seqKept_readPair (s : State) (p : Path) (r : RegD) (i j h : Nat) : SeqKept s (s.readPair p r i j h).2 := by
  unfold State.readPair
  extract_lets v a
  split
  · exact (seqKept_holdFrac s p a).of_regs rfl
  · split
    · exact SeqKept.refl s
    · split
      · split <;> exact SeqKept.refl s
      · exact SeqKept.refl s

/-- What a read of a register changes is not that number. -/
theorem seqKept_regRead (s : State) (p : Path) (a : Nat) : SeqKept s (s.regRead p a).2 := by
  unfold State.regRead
  split
  · exact SeqKept.refl s
  · split
    · exact SeqKept.refl s
    · next r i j h _ =>
      have touched : SeqKept s (if h = 0 then s.laneTouch r.base i else s) := by
        split
        · exact seqKept_laneTouch s r.base i
        · exact SeqKept.refl s
      dsimp only
      split
      · exact touched.trans (seqKept_readPair _ p r i j h)
      · exact touched.trans (seqKept_readWord _ p r i j)

theorem seqKept_regWords (n a : Nat) (s : State) (acc : List Byte) : SeqKept s (regWords n a s acc).2 := by
  induction n generalizing a s acc with
  | zero => exact SeqKept.refl s
  | succ n ih => exact (seqKept_regRead s .mgmt a).trans (ih _ _ _)

theorem regRead_accepted {f : Frame} {s : State} (h : Accepts s regReadCmd f noLate) :
    Runs (.regRead f) s fun t => Noted t (s.consume f) f 0x08 0 ∧
      Answers t (s.consume f) f 0x08 0 (regWords (argU f 4 2) (argU f 0 4) (s.consume f) []).1 :=
  h.ends rfl rfl rfl (.inl (by decide)) ⟨answered_noted f 0x08 0 _ (seqKept_regWords _ _ _ _), answered_answers _ _ _ _ _ _⟩

/-! ## Writes of registers (R202, R260) -/

/-- A short command that meets a refusal is refused where it stands. -/
theorem shortEnd_refused (u t : State) (f : Frame) (code : Nat) {status : Nat} (refuses : 0x10 ≤ status ∧ status < 0x30) :
    u.shortEnd f code { status := status, state := t } = t.refuse f code status := by
  unfold State.shortEnd
  exact if_pos refuses

section
variable (f : Frame) (code : Nat) (data : List Byte) {x : PutEnd × State}

theorem putDone_done (h : x.1 = .done) : putDone f code data x = { data := data, state := x.2 } := by
  unfold putDone
  rw [h]

theorem putDone_refused (h : x.1 = .refused) : putDone f code data x = { status := 0x20, state := x.2 } := by
  unfold putDone
  rw [h]

theorem putDone_waits {c n : Nat} {ws : List Nat} (h : x.1 = .waits c n ws) :
    putDone f code data x = { wait := some ⟨f, code, c, n, ws, data⟩, state := x.2 } := by
  unfold putDone
  rw [h]

end

section
variable {cmd : Instr} {s : State} {c : Cmd} {f : Frame} {late : State → Option Nat} {run : State → Done} {data : List Byte}
  {x : PutEnd × State}

/-- A command whose writes are all taken is answered in the state they leave. -/
theorem Accepts.putsDone (h : Accepts s c f late) (row : exec cmd s = .next (s.frame c f late run)) (short : c.long = false)
    (run_puts : run (s.consume f) = putDone f c.code data x) (done : x.1 = .done) :
    Runs cmd s fun t => Answers t (s.consume f) f c.code 0 data ∧ t.regs = x.2.regs ∧ t.shadow = x.2.shadow :=
  h.ends row short (run_puts.trans (putDone_done f c.code data done)) (.inl (by decide))
    ⟨answered_answers _ _ _ _ _ _, answered_regs _ _ _ _ _ _, answered_shadow _ _ _ _ _ _⟩

/-- One whose last write is refused is refused where its writes stand. -/
theorem Accepts.putsRefused (h : Accepts s c f late) (row : exec cmd s = .next (s.frame c f late run)) (short : c.long = false)
    (run_puts : run (s.consume f) = putDone f c.code data x) (refused : x.1 = .refused) :
    Runs cmd s fun t => Refused x.2 t f c.code 0x20 := by
  refine h.short row short ?_
  rw [run_puts, putDone_refused f c.code data refused, shortEnd_refused _ _ _ _ (by decide)]
  exact refused_refuse _ _ _ _

/-- One whose last write asks for a slot commit waits, with the words still to come. -/
theorem Accepts.putsWait (h : Accepts s c f late) (row : exec cmd s = .next (s.frame c f late run)) (short : c.long = false)
    (run_puts : run (s.consume f) = putDone f c.code data x) {ch n : Nat} {ws : List Nat} (waits : x.1 = .waits ch n ws) :
    Runs cmd s fun t => t.mg.slotWaits = x.2.mg.slotWaits ++ [⟨f, c.code, ch, n, ws, data⟩] ∧ t.regs = x.2.regs ∧
      t.shadow = x.2.shadow := by
  refine h.short row short ?_
  rw [run_puts, putDone_waits f c.code data waits]
  exact ⟨rfl, rfl, rfl⟩

end

/-! ## Memory (R203) -/

/-- No access to memory ends a stable property, so no run of reads does. -/
theorem Stable.memBytes {P : State → Prop} (stable : Stable P) (k : Nat) {s : State} {wa off n : Nat} {acc : List Byte} (h : P s) :
    P (memBytes k s wa off n acc).2 := by
  induction k generalizing s wa off n acc with
  | zero => exact h
  | succ k ih =>
    unfold Machine.memBytes
    split
    · exact h
    · dsimp only
      split
      · exact ih (stable.worldGet h)
      · exact stable.worldGet h

/-- Nor does a run of writes. -/
theorem Stable.memPuts {P : State → Prop} (stable : Stable P) (l : List (Nat × SMap Byte)) {off : Nat} {s : State} {o : Option Nat}
    (h : P s) : P (memPuts l off s o).2 := by
  induction l generalizing off s o with
  | nil => exact h
  | cons e l ih => exact ih (stable.worldWrite h)

/-- The strands are no part of the memory. -/
theorem stable_strands (s : State) : Stable fun t => t.strands = s.strands where
  write _ h := h
  same h _ core := (congrArg State.strands core :).trans h

theorem memWrite_none {s : State} {wa : Nat} {bs : List Byte}
    (clean : (memPuts (granPieces (bs.length / 64 + 2) wa bs) 0 s none).1 = none) :
    s.memWrite wa bs = { state := (memPuts (granPieces (bs.length / 64 + 2) wa bs) 0 s none).2 } := by
  unfold State.memWrite
  dsimp only
  rw [clean]

theorem memWrite_some {s : State} {wa off : Nat} {bs : List Byte}
    (bad : (memPuts (granPieces (bs.length / 64 + 2) wa bs) 0 s none).1 = some off) :
    s.memWrite wa bs =
      { status := 0x30, data := leBytes 4 off, state := (memPuts (granPieces (bs.length / 64 + 2) wa bs) 0 s none).2 } := by
  unfold State.memWrite
  dsimp only
  rw [bad]

section
variable {f : Frame} {s : State}

/-- A MEM_READ that ends with a status and data leaves what its reads do. -/
theorem memRead_ends (h : Accepts s memReadCmd f noLate) {status : Nat} {data : List Byte} {x : Except Nat (List Byte) × State}
    (hx : x = memBytes (argU f 8 2 / 64 + 2) (s.consume f) (argU f 0 8) 0 (argU f 8 2) [])
    (reads : (s.consume f).memRead (argU f 0 8) (argU f 8 2) = { status := status, data := data, state := x.2 })
    (ends : status < 0x10 ∨ 0x30 ≤ status) :
    Runs (.memRead f) s fun t => Noted t (s.consume f) f 0x20 status ∧ Answers t (s.consume f) f 0x20 status data ∧
      { t with mg := x.2.mg } = x.2 := by
  have kept : SeqKept (s.consume f) x.2 := hx ▸ (SeqKept.stable _).memBytes _ (SeqKept.refl _)
  exact h.ends rfl rfl reads ends ⟨answered_noted f 0x20 status data kept, answered_answers _ _ _ _ _ _, answered_frame _ _ _ _ _ _⟩

theorem memWrite_clean (h : Accepts s memWriteCmd f noLate) {x : Option Nat × State}
    (hx : x = memPuts (granPieces ((f.arg.drop 16).length / 64 + 2) (argU f 0 8) (f.arg.drop 16)) 0 (s.consume f) none)
    (clean : x.1 = none) :
    Runs (.memWrite f) s fun t => Noted t (s.consume f) f 0x21 0 ∧ Answers t (s.consume f) f 0x21 0 [] ∧ t.dram = x.2.dram ∧
      t.strands = (s.consume f).strands := by
  have kept : SeqKept (s.consume f) x.2 := hx ▸ (SeqKept.stable _).memPuts _ (SeqKept.refl _)
  have strands : x.2.strands = (s.consume f).strands := hx ▸ (stable_strands (s.consume f)).memPuts _ rfl
  subst hx
  exact h.ends rfl rfl (memWrite_none clean) (.inl (by decide)) ⟨answered_noted f 0x21 0 [] kept, answered_answers _ _ _ _ _ _,
    answered_dram _ _ _ _ _ _, (answered_strands _ _ _ _ _ _).trans strands⟩

theorem memWrite_bad (h : Accepts s memWriteCmd f noLate) {x : Option Nat × State}
    (hx : x = memPuts (granPieces ((f.arg.drop 16).length / 64 + 2) (argU f 0 8) (f.arg.drop 16)) 0 (s.consume f) none)
    {off : Nat} (bad : x.1 = some off) :
    Runs (.memWrite f) s fun t => Answers t (s.consume f) f 0x21 0x30 (leBytes 4 off) ∧ t.dram = x.2.dram := by
  subst hx
  exact h.ends rfl rfl (memWrite_some bad) (.inr (by decide)) ⟨answered_answers _ _ _ _ _ _, answered_dram _ _ _ _ _ _⟩

end

end Sys2Proof.Machine
end

section
/-!
PROOFS. Management commands on sessions, accepted (O34).
-/

namespace Sys2Proof.Machine

set_option Elab.async false

/-! ## The registers of the session table -/

/-- A row of writes of one field moves the registers alone. -/
theorem writes_shape {α : Type} (f : Fld) (at_ v : α → Nat) (l : List α) (s : State) :
    ∃ r, l.foldl (fun s x => s.setFld f (at_ x) 0 (v x)) s = { s with regs := r } := by
  induction l generalizing s with
  | nil => exact ⟨s.regs, rfl⟩
  | cons x l ih =>
    obtain ⟨r, eq⟩ := ih (s.setFld f (at_ x) 0 (v x))
    exact ⟨r, eq⟩

theorem ctxIndex_setIndex (s : State) {i : Nat} (small : i < 262144) : (s.setFld F.ST_CTX_INDEX_index 0 0 i).ctxIndex = i :=
  (State.fld_setFld_same _ _ _ _ _).trans (Nat.mod_eq_of_lt small)

theorem result_ctxResult (s : State) {r : Nat} (small : r < 16) : (s.ctxResult r).fld F.ST_CTX_CMD_result 0 0 = r :=
  (State.fld_setFld_same _ _ _ _ _).trans (Nat.mod_eq_of_lt small)

theorem ses_ctxResult (s : State) (r : Nat) : (s.ctxResult r).ses = s.ses := rfl
theorem sess_ctxResult (s : State) (r i : Nat) : (s.ctxResult r).sess i = s.sess i := rfl

theorem ports_setIndex (s : State) (i : Nat) : (s.setFld F.ST_CTX_INDEX_index 0 0 i).ports = s.ports := by
  rw [State.ports, State.portLanes, State.fld_setFld_ne _ _ _ _ _ _ _ _ (by decide)]
  rfl

theorem ses_ctxRead (s : State) : s.ctxRead.ses = s.ses := by
  unfold State.ctxRead
  split
  · obtain ⟨x, eq⟩ := raise_shape s { group := 46, src := 0, inst := 0, master := 34, access := 4, addr := s.ctxIndex }
    exact (ses_ctxResult _ _).trans (congrArg State.ses eq :)
  · obtain ⟨r, eq⟩ := writes_shape F.ST_CTX_DATA_word Prod.snd Prod.fst (s.ctx s.ctxIndex).words.zipIdx s
    exact (ses_ctxResult _ _).trans (congrArg State.ses eq :)

/-! ## The context commands (R134, R136, R148, R159) -/

section
variable {s : State} {i : Nat}

theorem ctxKeyframe_open (index : s.ctxIndex = i) (used : (s.ctx i).st ≠ .free) (open_ : (s.ctx i).st ≠ .closing) :
    s.ctxKeyframe = (s.setCtx i { s.ctx i with keyPend := true }).ctxResult 0 := by
  subst index
  unfold State.ctxKeyframe
  dsimp only
  split
  · next free => exact absurd free used
  · next closing => exact absurd closing open_
  · rfl

theorem ctxClose_open (reason : Nat) (index : s.ctxIndex = i) (used : (s.ctx i).st ≠ .free) (open_ : (s.ctx i).st ≠ .closing) :
    s.ctxClose reason = (s.closeSession i reason).ctxResult 0 := by
  subst index
  unfold State.ctxClose
  dsimp only
  split
  · next free => exact absurd free used
  · next closing => exact absurd closing open_
  · rfl

theorem ctxMove_used {port : Nat} (index : s.ctxIndex = i) (used : (s.ctx i).st ≠ .free) (present : port < s.ports) :
    s.ctxMove port = ((s.setCtx i { s.ctx i with port := port }).stEvent 7 0 i).ctxResult 0 := by
  subst index
  unfold State.ctxMove
  dsimp only
  rw [if_neg used, if_neg (Nat.not_le.2 present)]

/-- A session as it enters CLOSING. -/
def Ses.shut (x : Ses) (reason : Nat) : Ses :=
  { x with ctx := { x.ctx with st := .closing, rd := x.ctx.wr, unread := 0, gap := false }, reason := reason, join := none }

theorem Ses.st_of_settled {x y : Ses} (h : x.settled = y.settled) : x.ctx.st = y.ctx.st :=
  (congrArg (fun x : Ses => x.ctx.st) h :)
theorem Ses.reason_of_settled {x y : Ses} (h : x.settled = y.settled) : x.reason = y.reason := (congrArg Ses.reason h :)

/-- The state in which session `i` enters CLOSING. -/
def State.sesShut (s : State) (i reason : Nat) : State :=
  let s1 := s.setSess i ((s.sess i).shut reason)
  let s2 := { s1 with st := { s1.st with msgs := s1.st.msgs.filter fun (m : Msg) => !(m.ses == i && m.filler.isNone) } }
  (((s2.dropPkts i).endSends i 1).stEvent 5 reason i).queueClose i

theorem closeSession_open (reason : Nat) (used : (s.ctx i).st ≠ .free) (open_ : (s.ctx i).st ≠ .closing) :
    s.closeSession i reason = s.sesShut i reason := by
  unfold State.closeSession
  exact if_neg (not_or.2 ⟨used, open_⟩)

/-- What follows leaves it CLOSING, for the reason given. -/
theorem sess_sesShut (s : State) (i reason : Nat) :
    ((s.sesShut i reason).ctx i).st = .closing ∧ ((s.sesShut i reason).sess i).reason = reason := by
  have settled : ((s.sesShut i reason).sess i).settled = ((s.sess i).shut reason).settled := by
    unfold State.sesShut
    extract_lets s1 st s2
    have dropped : Stands (oneView i) s1 (s2.dropPkts i) := (Stands.refl (oneView i) s1).setMsgs.setPt
    have ended := ((dropped.endSends (oneView_uncounted i) (i := i) (n := 1)).stEvent (k := 5) (r := reason) (i := i)).queueClose
      (oneView_uncounted i) (i := i)
    rw [ended.one, State.sess_setSess_same]
  exact ⟨Ses.st_of_settled settled, Ses.reason_of_settled settled⟩

/-- What a session event leaves of a session whose context has been written. -/
theorem sess_setCtx_stEvent (c : Ctx) (kind reason : Nat) :
    (((s.setCtx i c).stEvent kind reason i).ctx i = c) ∧
      ∀ j, j ≠ i → ((s.setCtx i c).stEvent kind reason i).sess j = s.sess j := by
  have whole := (Stands.stEvent (Stands.refl wholeView (s.setCtx i c)) (k := kind) (r := reason) (i := i)).whole
  refine ⟨?_, fun j other => (whole j).trans (State.sess_setSess_ne _ _ _ _ other)⟩
  rw [State.ctx, whole i]
  exact State.ctx_setCtx_same s i c

/-- The state a create of context `c` for session `i` ends in, but for its result. -/
def State.ctxMade (s : State) (i : Nat) (c : Ctx) : State :=
  let key := (List.range 8).flatMap fun k => toNats (leBytes 4 (s.fld F.ST_KEY_key k 0))
  let body := ofNats (keyWrap (toNats s.st.kek) key) ++ leBytes 4 1 ++ List.replicate 20 0
  let s1 := ((s.keysForget (· == i)).stFresh i).setSess i { ctx := createdCtx c (s.ctx i).gen, lastSlot := s.st.slotSeq }
  let s2 := s1.worldPut (s.keyRec i) 56 body
  let s3 := (List.range 8).foldl (fun s k => s.setFld F.ST_KEY_key k 0 0) s2
  s3.stEvent 1 0 i

theorem ctxCreate_free {c : Ctx} (index : s.ctxIndex = i) (free : (s.ctx i).st = .free)
    (data : ctxOf ((List.range 16).map fun k => s.fld F.ST_CTX_DATA_word k 0) = c)
    (fits : ¬ (4 < c.ringZ ∨ 16384 < c.ringBase + 2 ^ c.ringZ ∨ logicals s.part ≤ c.home ∨ s.ports ≤ c.port)) :
    s.ctxCreate = (s.ctxMade i c).ctxResult 0 := by
  subst index data
  unfold State.ctxCreate
  dsimp only
  rw [if_neg (not_not.2 free), if_neg fits]
  rfl

/-- A create writes the context of its session, and no other. -/
theorem sess_ctxMade (c : Ctx) :
    (s.ctxMade i c).ctx i = createdCtx c (s.ctx i).gen ∧ ∀ j, j ≠ i → (s.ctxMade i c).sess j = s.sess j := by
  have limits : ∀ g ∈ ageFlds, (g.s1 == 0 && g.s2 == 0 && fldKey g 0 0 < F.ST_KEY_key.base * 16) = true := by decide
  unfold State.ctxMade
  extract_lets key body s1 s2 s3
  have put : Stands wholeView s1 s2 := Stands.foldl (fun _ _ hu => hu.worldWrite) _ (Stands.refl _ _)
  have cleared : Stands wholeView s1 s3 :=
    Stands.foldl (fun _ k hu => hu.setFld fun g own => fldKey_ne_above 0 0 k 0 (limits g own)) _ put
  have whole := (cleared.stEvent (k := 1) (r := 0) (i := i)).whole
  refine ⟨?_, fun j other => (whole j).trans (State.sess_setSess_ne _ _ _ _ other)⟩
  rw [State.ctx, whole i, State.sess_setSess_same]

end

end Sys2Proof.Machine
end

section
/-!
PROOFS. A session created by command, and the commands on registers, memory and sessions as a whole (O34).
-/

namespace Sys2Proof.Machine

set_option Elab.async false

/-! ## A context in the data registers (R132, R134) -/

/-- The context registers hold the index and the words of a context. -/
def State.ctxLoaded (s : State) (i : Nat) (w : List Nat) : State :=
  w.zipIdx.foldl (fun (s : State) (e : Nat × Nat) => s.setFld F.ST_CTX_DATA_word e.2 0 e.1) (s.setFld F.ST_CTX_INDEX_index 0 0 i)

/-- The key registers hold a key. -/
def State.keyLoaded (s : State) (key : List Byte) : State :=
  (List.range 8).foldl (fun (s : State) k => s.setFld F.ST_KEY_key k 0 (leAt key (4 * k) 4)) s

section
variable (s : State) (i : Nat) (w : List Nat) (key : List Byte)

/-- Both move the registers alone. -/
theorem loaded_shape : ∃ r, (s.ctxLoaded i w).keyLoaded key = { s with regs := r } := by
  obtain ⟨r, ctx⟩ := writes_shape F.ST_CTX_DATA_word Prod.snd Prod.fst w.zipIdx (s.setFld F.ST_CTX_INDEX_index 0 0 i)
  obtain ⟨r', eq⟩ := writes_shape F.ST_KEY_key (fun k => k) (fun k => leAt key (4 * k) 4) (List.range 8) (s.ctxLoaded i w)
  exact ⟨r', eq.trans (congrArg (fun t : State => { t with regs := r' }) ctx :)⟩

theorem ses_loaded : ((s.ctxLoaded i w).keyLoaded key).ses = s.ses := by
  obtain ⟨r, eq⟩ := loaded_shape s i w key
  rw [eq]

theorem part_loaded : ((s.ctxLoaded i w).keyLoaded key).part = s.part := by
  obtain ⟨r, eq⟩ := loaded_shape s i w key
  rw [eq]

theorem ctx_loaded (j : Nat) : ((s.ctxLoaded i w).keyLoaded key).ctx j = s.ctx j := by
  rw [State.ctx, State.sess, ses_loaded, State.ctx, State.sess]

variable {s i w key}

/-- A field that stands once, below these registers, stands. -/
theorem fld_loaded_below {f : Fld} (index : fldKey f 0 0 ≠ fldKey F.ST_CTX_INDEX_index 0 0)
    (below : (f.s1 == 0 && f.s2 == 0 && fldKey f 0 0 < F.ST_CTX_DATA_word.base * 16) = true) :
    ((s.ctxLoaded i w).keyLoaded key).fld f 0 0 = s.fld f 0 0 := by
  have below_key : (f.s1 == 0 && f.s2 == 0 && fldKey f 0 0 < F.ST_KEY_key.base * 16) = true := by
    simp only [Bool.and_eq_true, decide_eq_true_eq] at below ⊢
    exact ⟨below.1, below.2.trans (by decide)⟩
  calc ((s.ctxLoaded i w).keyLoaded key).fld f 0 0 = (s.ctxLoaded i w).fld f 0 0 :=
        fld_writes_ne F.ST_KEY_key (fun k => k) _ _ _ fun k _ => fldKey_ne_above 0 0 k 0 below_key
    _ = (s.setFld F.ST_CTX_INDEX_index 0 0 i).fld f 0 0 :=
        fld_writes_ne F.ST_CTX_DATA_word Prod.snd Prod.fst _ _ fun e _ => fldKey_ne_above 0 0 e.2 0 below
    _ = s.fld f 0 0 := State.fld_setFld_ne _ _ _ _ _ _ _ _ index

theorem ports_loaded : ((s.ctxLoaded i w).keyLoaded key).ports = s.ports := by
  rw [State.ports, State.portLanes, part_loaded, fld_loaded_below (by decide) (by decide), State.ports, State.portLanes]

theorem ctxIndex_loaded (small : i < 262144) : ((s.ctxLoaded i w).keyLoaded key).ctxIndex = i := by
  have below : (F.ST_CTX_INDEX_index.s1 == 0 && F.ST_CTX_INDEX_index.s2 == 0 &&
    fldKey F.ST_CTX_INDEX_index 0 0 < F.ST_KEY_key.base * 16) = true := by decide
  calc ((s.ctxLoaded i w).keyLoaded key).ctxIndex = (s.ctxLoaded i w).ctxIndex :=
        fld_writes_ne F.ST_KEY_key (fun k => k) _ _ _ fun k _ => fldKey_ne_above 0 0 k 0 below
    _ = (s.setFld F.ST_CTX_INDEX_index 0 0 i).ctxIndex :=
        fld_writes_ne F.ST_CTX_DATA_word Prod.snd Prod.fst _ _ fun e _ => fldKey_ne_above 0 0 e.2 0 (by decide)
    _ = i := ctxIndex_setIndex s small

theorem fld_data_loaded {k : Nat} (hk : k < w.length) (few : w.length ≤ 16) :
    ((s.ctxLoaded i w).keyLoaded key).fld F.ST_CTX_DATA_word k 0 = w[k] % 2 ^ 32 := by
  have apart : ∀ n ∈ List.range 8, fldKey F.ST_CTX_DATA_word k 0 ≠ fldKey F.ST_KEY_key n 0 := fun n _ => by
    simp only [fldKey, fldAddr, F.ST_CTX_DATA_word, F.ST_KEY_key]
    omega
  have own : (w[k], k) ∈ w.zipIdx := List.mem_zipIdx_iff_getElem?.2 (List.getElem?_eq_getElem hk)
  have one : ∀ e ∈ w.zipIdx, e.2 = k → e.1 = w[k] := fun e listed same => by
    have found := List.mem_zipIdx_iff_getElem?.1 listed
    rw [same, List.getElem?_eq_getElem hk] at found
    exact (Option.some.inj found).symm
  have written := fld_writes_same F.ST_CTX_DATA_word (by decide) Prod.snd Prod.fst w.zipIdx
    (s.setFld F.ST_CTX_INDEX_index 0 0 i) own one
  exact (fld_writes_ne F.ST_KEY_key (fun k => k) _ _ _ apart).trans written

theorem data_loaded (whole : w.length = 16) :
    ((List.range 16).map fun k => ((s.ctxLoaded i w).keyLoaded key).fld F.ST_CTX_DATA_word k 0) = w.map (· % 2 ^ 32) := by
  refine List.ext_getElem (by simp [whole]) fun k hk _ => ?_
  have inside : k < w.length := by simpa [whole] using hk
  rw [List.getElem_map, List.getElem_map, List.getElem_range, fld_data_loaded inside whole.le]

end

/-! ## A context read back from its words -/

section
variable {c : Ctx}

theorem port_ctxOf_words (port : c.port < 8) : (ctxOf (c.words.map (· % 2 ^ 32))).port = c.port := by
  have st : c.st.code < 8 := by cases c.st <;> decide
  have flag (b : Bool) : b2n b ≤ 1 := by cases b <;> decide
  have := flag c.aes256
  have := flag c.v6
  simp only [ctxOf, Ctx.words, List.map_cons, List.getD_cons_zero, bitsOf]
  omega

theorem home_ctxOf_words (filter : c.filter < 65536) (home : c.home < 64) : (ctxOf (c.words.map (· % 2 ^ 32))).home = c.home := by
  simp only [ctxOf, Ctx.words, List.map_cons, List.getD_cons_zero, List.getD_cons_succ, bitsOf]
  omega

theorem ring_ctxOf_words (base : c.ringBase < 16384) (z : c.ringZ < 8) :
    (ctxOf (c.words.map (· % 2 ^ 32))).ringBase = c.ringBase ∧ (ctxOf (c.words.map (· % 2 ^ 32))).ringZ = c.ringZ := by
  simp only [ctxOf, Ctx.words, List.map_cons, List.getD_cons_zero, List.getD_cons_succ, bitsOf]
  omega

end

theorem ringAlloc_fits {s : State} {home z b : Nat} (h : s.ringAlloc home z = some b) : b + 2 ^ z ≤ 16384 := by
  unfold State.ringAlloc at h
  extract_lets l b' at h
  split at h
  · next fits =>
    obtain rfl := Option.some.inj h
    exact fits
  · cases h

/-! ## SES_CREATE (R134, R204) -/

/-- A context with a ring that holds nothing. -/
def Ctx.ringed (c : Ctx) (b : Nat) : Ctx := { c with ringBase := b, newest := 0, wr := 0, rd := 0 }

section
variable {s : State} {i b : Nat} {ctx key : List Byte} {c : Ctx}

theorem sesMake_created (made : c = ctxOf ((List.range 16).map fun k => leAt ctx (4 * k) 4))
    (alloc : s.ringAlloc c.home c.ringZ = some b) {t : State}
    (creates : ((s.ctxLoaded i (c.ringed b).words).keyLoaded key).ctxCreate = t.ctxResult 0) :
    s.sesMake i ctx key = { data := leBytes 4 ((t.ctxResult 0).sesHandle i), state := (t.ctxResult 0).ctxRead } := by
  rw [← creates]
  unfold State.sesMake
  extract_lets d
  have same : d = c := made.symm
  clear_value d
  subst same
  rw [alloc]
  exact if_pos ((congrArg (fun u : State => u.fld F.ST_CTX_CMD_result 0 0) creates).trans (result_ctxResult t (by decide)))

/-- The create of a context that fits goes through, and writes the session named alone. -/
theorem ctxCreate_loaded (small : i < 262144) {w : List Nat} (made : c = ctxOf w)
    (free : (s.ctx i).st = .free) (z : c.ringZ ≤ 4) (home : c.home < logicals s.part) (port : c.port < s.ports)
    (fits : b + 2 ^ c.ringZ ≤ 16384) :
    ∃ (t : State) (d : Ctx) (gen : Nat), ((s.ctxLoaded i (c.ringed b).words).keyLoaded key).ctxCreate = t.ctxResult 0 ∧
      d.ringBase = b ∧ d.home = c.home ∧
      t.ctx i = createdCtx d gen ∧ ∀ j, j ≠ i → t.sess j = s.sess j := by
  have unit : 1 ≤ 2 ^ c.ringZ := Nat.one_le_two_pow
  have filter_lt : c.filter < 65536 := made ▸ bitsOf_lt _ _ _
  have home_lt : c.home < 64 := made ▸ bitsOf_lt _ _ _
  have port_lt : c.port < 8 := made ▸ bitsOf_lt _ _ _
  obtain ⟨d, read⟩ : ∃ d, d = ctxOf ((c.ringed b).words.map (· % 2 ^ 32)) := ⟨_, rfl⟩
  have d_port : d.port = c.port := read ▸ port_ctxOf_words (c := c.ringed b) port_lt
  have d_home : d.home = c.home := read ▸ home_ctxOf_words (c := c.ringed b) filter_lt home_lt
  have ring := ring_ctxOf_words (c := c.ringed b) (show b < 16384 by omega) (show c.ringZ < 8 by omega)
  rw [← read] at ring
  obtain ⟨d_base, d_z⟩ : d.ringBase = b ∧ d.ringZ = c.ringZ := ring
  obtain ⟨own, others⟩ := sess_ctxMade (s := (s.ctxLoaded i (c.ringed b).words).keyLoaded key) (i := i) d
  refine ⟨_, d, _, ctxCreate_free (ctxIndex_loaded small) ?_ ((congrArg ctxOf (data_loaded rfl)).trans read.symm) ?_, d_base, d_home,
    own, fun j other => ?_⟩
  · rw [ctx_loaded, free]
  · rw [d_base, d_z, d_home, d_port, part_loaded, ports_loaded]
    omega
  · rw [others j other, State.sess, ses_loaded, State.sess]

theorem sess_read (t : State) (j : Nat) : (t.ctxResult 0).ctxRead.sess j = t.sess j := by
  rw [State.sess, ses_ctxRead, ses_ctxResult, State.sess]

theorem ctx_read (t : State) (j : Nat) : (t.ctxResult 0).ctxRead.ctx j = t.ctx j := congrArg Ses.ctx (sess_read t j)

theorem sesHandle_read (t : State) (j : Nat) : (t.ctxResult 0).ctxRead.sesHandle j = (t.ctxResult 0).sesHandle j := by
  rw [State.sesHandle, ctx_read, State.sesHandle, State.ctx, State.ctx, sess_ctxResult]

theorem sesMake_makes (small : i < 262144) (made : c = ctxOf ((List.range 16).map fun k => leAt ctx (4 * k) 4))
    (free : (s.ctx i).st = .free) (z : c.ringZ ≤ 4) (home : c.home < logicals s.part) (port : c.port < s.ports)
    (alloc : s.ringAlloc c.home c.ringZ = some b) :
    ∃ t, s.sesMake i ctx key = { data := leBytes 4 (t.sesHandle i), state := t } ∧ (t.ctx i).st = .joining ∧
      (t.ctx i).ringBase = b ∧ (t.ctx i).home = c.home ∧ ∀ j, j ≠ i → t.sess j = s.sess j := by
  obtain ⟨t, d, gen, creates, base, at_home, own, others⟩ :=
    ctxCreate_loaded (key := key) small made free z home port (ringAlloc_fits alloc)
  refine ⟨(t.ctxResult 0).ctxRead, ?_, ?_⟩
  · rw [sesHandle_read]
    exact sesMake_created made alloc creates
  · rw [ctx_read, own]
    exact ⟨rfl, base, at_home, fun j other => (sess_read t j).trans (others j other)⟩

end

section
variable {f : Frame} {s : State} {i b : Nat} {c : Ctx}

theorem answered_ctx (t u : State) (code status : Nat) (data : List Byte) (j : Nat) :
    (t.answered u f code status data).ctx j = t.ctx j := congrArg Ses.ctx (answered_sess t u f code status data j)

theorem answered_sesHandle (t u : State) (code status : Nat) (data : List Byte) (j : Nat) :
    (t.answered u f code status data).sesHandle j = t.sesHandle j := by
  rw [State.sesHandle, answered_ctx, State.sesHandle]

theorem sesCreate_accepted (index : i = argU f 0 4) (h : Accepts s sesCreateCmd f (fun s => s.wrapBad f 72))
    (made : c = ctxOf ((List.range 16).map fun k => leAt ((f.arg.drop 8).take 64) (4 * k) 4))
    (free : ((s.consume f).ctx i).st = .free) (z : c.ringZ ≤ 4) (home : c.home < logicals (s.consume f).part)
    (port : c.port < (s.consume f).ports) (alloc : (s.consume f).ringAlloc c.home c.ringZ = some b) :
    Runs (.sesCreate f) s fun t => (t.ctx i).st = .joining ∧ (t.ctx i).ringBase = b ∧ (t.ctx i).home = c.home ∧
      Answers t (s.consume f) f 0x28 0 (leBytes 4 (t.sesHandle i)) ∧ ∀ j, j ≠ i → t.sess j = (s.consume f).sess j := by
  subst index
  obtain ⟨_, _, good, _⟩ := cmdBad_none h.cmd
  have small : argU f 0 4 < 262144 := by
    simp only [sesCreateCmd, Bool.or_eq_false_iff, decide_eq_false_iff_not] at good
    omega
  obtain ⟨t, done, st, base, at_home, others⟩ :=
    sesMake_makes (key := ((s.consume f).unwrap f 72).getD []) small made free z home port alloc
  refine h.ends rfl rfl done (.inl (by decide)) ?_
  rw [answered_ctx, answered_sesHandle]
  exact ⟨st, base, at_home, answered_answers _ _ _ _ _ _, fun j other => (answered_sess _ _ _ _ _ _ j).trans (others j other)⟩

/-! ## The commands on a session's handle (R204) -/

/-- The state in which the index register names the session of the frame's handle. -/
def State.sesNamed (s : State) (f : Frame) : State := s.setFld F.ST_CTX_INDEX_index 0 0 (argU f 0 4 / 2 ^ 14)

theorem ctxIndex_sesNamed (s : State) (f : Frame) : (s.sesNamed f).ctxIndex = argU f 0 4 / 2 ^ 14 := by
  have word : argU f 0 4 < 256 ^ 4 := argU_lt f 0 4
  exact ctxIndex_setIndex s (Nat.div_lt_of_lt_mul word)

/-- The result of a context command and the answer leave the sessions alone. -/
theorem sess_resultAnswered (t u : State) (r code status : Nat) (data : List Byte) (j : Nat) :
    ((t.ctxResult r).answered u f code status data).sess j = t.sess j := by
  rw [answered_sess, sess_ctxResult]

theorem ctx_resultAnswered (t u : State) (r code status : Nat) (data : List Byte) (j : Nat) :
    ((t.ctxResult r).answered u f code status data).ctx j = t.ctx j := congrArg Ses.ctx (sess_resultAnswered t u r code status data j)

theorem sesDo_done {s t : State} {g : State → State} (acts : g (s.sesNamed f) = t.ctxResult 0) :
    s.sesDo (argU f 0 4) g = { state := t.ctxResult 0 } := by
  unfold State.sesDo
  rw [← State.sesNamed, acts]
  exact if_pos (result_ctxResult t (by decide))

/-- A command on a session is answered once the context command has done its work. -/
theorem Accepts.sesDone {cmd : Instr} {c : Cmd} {late : State → Option Nat} {g : State → State} {t : State} {P : State → Prop}
    (h : Accepts s c f late) (row : exec cmd s = .next (s.frame c f late fun s => s.sesDo (argU f 0 4) g)) (short : c.long = false)
    (acts : g ((s.consume f).sesNamed f) = t.ctxResult 0)
    (ends : P ((t.ctxResult 0).answered (s.consume f) f c.code 0 [])) : Runs cmd s P :=
  h.ends row short (sesDo_done acts) (.inl (by decide)) ends

section
variable (index : i = argU f 0 4 / 2 ^ 14) (used : ((s.consume f).ctx i).st ≠ .free)
include index used

theorem sesMove_accepted (h : Accepts s sesMoveCmd f noLate) :
    Runs (.sesMove f) s fun t => Answers t (s.consume f) f 0x2A 0 [] ∧
      t.ctx i = { (s.consume f).ctx i with port := argU f 4 1 } ∧ ∀ j, j ≠ i → t.sess j = (s.consume f).sess j := by
  subst index
  obtain ⟨_, _, good, _⟩ := cmdBad_none h.cmd
  have present : argU f 4 1 < (s.consume f).ports := by
    simp only [sesMoveCmd, State.portPresent, Bool.or_eq_false_iff, Bool.not_eq_false', decide_eq_true_eq] at good
    exact good.1.2
  obtain ⟨own, others⟩ := sess_setCtx_stEvent (s := (s.consume f).sesNamed f) (i := argU f 0 4 / 2 ^ 14)
    { (s.consume f).ctx (argU f 0 4 / 2 ^ 14) with port := argU f 4 1 } 7 0
  refine h.sesDone rfl rfl (ctxMove_used (ctxIndex_sesNamed _ f) used ((ports_setIndex _ _).symm ▸ present)) ?_
  exact ⟨answered_answers _ _ _ _ _ _, (ctx_resultAnswered _ _ _ _ _ _ _).trans own,
    fun j other => (sess_resultAnswered _ _ _ _ _ _ j).trans (others j other)⟩

variable (open_ : ((s.consume f).ctx i).st ≠ .closing)
include open_

theorem sesClose_accepted (h : Accepts s sesCloseCmd f noLate) :
    Runs (.sesClose f) s fun t => Answers t (s.consume f) f 0x29 0 [] ∧ (t.ctx i).st = .closing ∧ (t.sess i).reason = argU f 4 1 := by
  subst index
  obtain ⟨closing, reason⟩ := sess_sesShut ((s.consume f).sesNamed f) (argU f 0 4 / 2 ^ 14) (argU f 4 1)
  have closes := ctxClose_open (argU f 4 1) (ctxIndex_sesNamed (s.consume f) f) used open_
  rw [closeSession_open (s := (s.consume f).sesNamed f) _ used open_] at closes
  refine h.sesDone rfl rfl closes ⟨answered_answers _ _ _ _ _ _, ?_, ?_⟩
  · rw [ctx_resultAnswered, closing]
  · rw [sess_resultAnswered, reason]

theorem sesKeyframe_accepted (h : Accepts s sesKeyframeCmd f noLate) :
    Runs (.sesKeyframe f) s fun t => Answers t (s.consume f) f 0x2B 0 [] ∧
      t.ctx i = { (s.consume f).ctx i with keyPend := true } ∧ ∀ j, j ≠ i → t.sess j = (s.consume f).sess j := by
  subst index
  refine h.sesDone rfl rfl (ctxKeyframe_open (ctxIndex_sesNamed (s.consume f) f) used open_)
    ⟨answered_answers _ _ _ _ _ _, ?_, fun j other => ?_⟩
  · rw [ctx_resultAnswered]
    exact State.ctx_setCtx_same ((s.consume f).sesNamed f) (argU f 0 4 / 2 ^ 14) _
  · rw [sess_resultAnswered]
    exact State.sess_setSess_ne ((s.consume f).sesNamed f) (argU f 0 4 / 2 ^ 14) j _ other

end

theorem sesRead_accepted (h : Accepts s sesReadCmd f noLate) :
    Runs (.sesRead f) s fun t => Noted t (s.consume f) f 0x2C 0 ∧
      Answers t (s.consume f) f 0x2C 0 (((s.consume f).ctx (argU f 0 4)).words.flatMap fun w => leBytes 4 w) ∧
      t.ses = (s.consume f).ses :=
  h.ends rfl rfl rfl (.inl (by decide)) ⟨answered_noted f 0x2C 0 _ rfl, answered_answers _ _ _ _ _ _, answered_ses _ _ _ _ _ _⟩

end

/-! ## The obligation -/

/-- Settles O34: each command accepted runs to its answer; what its run leaves is that of the register, memory or context operation. -/
theorem registerMemorySessionCommands : Obligations.RegisterMemorySessionCommands := by
  unfold Obligations.RegisterMemorySessionCommands
  refine ⟨?_, ?_⟩
  · rintro f s _ rfl
    refine ⟨regRead_accepted, fun x hx h => ?_, fun x y hx hy h => ?_, fun x hx h => ?_, fun x hx h => ?_⟩
    · have puts := congrArg (putDone f 0x09 []) hx.symm
      exact ⟨h.putsDone rfl rfl puts, h.putsRefused rfl rfl puts, fun _ _ _ => h.putsWait rfl rfl puts⟩
    · subst hx
      have puts := congrArg (putDone f 0x0A (leBytes 4 ((s.consume f).regRead .mgmt (argU f 0 4)).1)) hy.symm
      refine ⟨h.putsDone rfl rfl puts, h.putsRefused rfl rfl puts, fun c n ws waits => ?_⟩
      obtain ⟨t, runs, waiting, regs, _⟩ := h.putsWait (cmd := .regModify f) rfl rfl puts waits
      exact ⟨t, runs, waiting, regs⟩
    · exact ⟨fun bs reads => memRead_ends h hx (hx ▸ memRead_ok (hx ▸ reads)) (.inl (by decide)),
        fun off fails => memRead_ends h hx (hx ▸ memRead_error (hx ▸ fails)) (.inr (by decide))⟩
    · exact ⟨memWrite_clean h hx, fun off => memWrite_bad h hx⟩
  · rintro f s _ i rfl
    refine ⟨fun _ c b index h _ made free z home port alloc => sesCreate_accepted index h made free z home port alloc, ?_,
      sesRead_accepted⟩
    exact fun index used open_ =>
      ⟨sesClose_accepted index used open_, sesMove_accepted index used, sesKeyframe_accepted index used open_⟩

end Sys2Proof.Machine
end
